-- ==== Sys2Proof/Word.lean ====
section
/-! DEFINITION. The words of the TW24-A: bytes, the register widths the manual names, and the
finite ranges of unit numbers (R8, R163, R164). Nothing here computes a rule of the manual. -/

namespace Sys2Proof

/-- One byte; all multi-byte quantities are little-endian (R5). -/
abbrev Byte := BitVec 8
/-- A 16-bit field. -/
abbrev W16 := BitVec 16
/-- A binary32 bit pattern or a 32-bit word. -/
abbrev W32 := BitVec 32
/-- A binary64 bit pattern or a 64-bit word. -/
abbrev W64 := BitVec 64

/-- A bolt B00 to B47 (R8). -/
abbrev BoltNo := Fin 48
/-- An HBM4 stack and its Dudin die, 0 to 23 (R8). -/
abbrev StackNo := Fin 24
/-- A weft die, 0 to 7 (R8). -/
abbrev WeftNo := Fin 8
/-- A link port, 0 to 7 (R8). -/
abbrev PortNo := Fin 8
/-- An edge port, 0 to 351 (R163). -/
abbrev EdgeNo := Fin 352
/-- A slow-tier device, 0 to 31 (R8). -/
abbrev SlowNo := Fin 32
/-- A dictionary master: 0 is the PCIe host, 1 to 4 the management masters (R423, R431). -/
abbrev MasterNo := Fin 5

/-- A logical spindle (x, y) of the 128 by 72 grid (R9). -/
structure Site where
  x : Fin 128
  y : Fin 72
deriving DecidableEq, Repr

/-- Row 128*y + x of the spindle tables (R104). -/
def Site.row (p : Site) : Nat := 128 * p.y.val + p.x.val

end Sys2Proof
end

