-- ==== Sys2Proof/Syntax.lean ====
section
/-! DEFINITION. The commands of the block: one constructor of `Instr` per row of
spec/opcode_table.json, in the table's order, with the operands the manual gives the row. A physical
outcome that the manual leaves to the outside (which site fails a test, which line reads
uncorrectable, which neighbour a frame came from) is an operand. -/

namespace Sys2Proof

/-- What the SECDED check of the store found while an instruction read it (R75): how many words were
corrected, and which of the lines read, counted from the first line of the extent, hold an
uncorrectable error. -/
structure EccResult where
  corrected : Nat
  bad : List Nat
deriving DecidableEq, Repr

/-- No error found. -/
def EccResult.clean : EccResult := ⟨0, []⟩

/-- A unit as a fault record names it: level (R354) and UNIT (R356). -/
structure UnitId where
  level : BitVec 4
  unit : W32
deriving DecidableEq, Repr

/-- The header fields of a link frame (R307) other than TYPE, TAG and LEN, which the row fixes. -/
structure FrameHdr where
  poison : Bool
  nak : Bool
  txseq : W16
  ackseq : W16
  ccred : BitVec 4
  bcred : BitVec 6
  srcPos : BitVec 6
  srcChain : BitVec 5
  srcPort : BitVec 3
  step : BitVec 48
  mepoch : W16
deriving DecidableEq, Repr

/-- A TOP request (R423, R424). `frameOk` says that the frame has a good FCS, EtherType 0x88B5 and no
VLAN tag; `reservedZero` that every reserved header field is 0. `master` is the four-bit field. -/
structure TopReq where
  frameOk : Bool
  reservedZero : Bool
  version : Byte
  master : BitVec 4
  seq : W16
  session : W16
  index : W16
  subindex : Byte
  flags : Byte
  row : W32
  offset : W32
  length : W16
  arg : W32
  data : List Byte
deriving DecidableEq, Repr

/-- The values of configuration space that R380 gives. -/
inductive ConfigField where
  | vendorId | deviceId | classCode | revisionId | subsystemVendorId | subsystemId | deviceSerialNumber
  | interruptPin | busMasterEnable
deriving DecidableEq, Repr

/-- A read by TOP (R426), by a BAR0 access of `size` bytes (R431), or of configuration space (R380). -/
inductive ReadReq where
  | top (r : TopReq)
  | bar0 (offset : BitVec 27) (size : Nat)
  | config (field : ConfigField)
deriving DecidableEq, Repr

/-- A lock operation: by TOP (R425) or by a write of DICT_LOCK with this lease (R434). -/
inductive LockReq where
  | top (r : TopReq)
  | mirror (lease : W16)
deriving DecidableEq, Repr

/-- Which part of a value a write carries (R415). -/
inductive Half where
  | whole | low | high
deriving DecidableEq, Repr

/-- A neighbour of a module (R300): ports 0 to 2, ports 3 to 5, port 6, port 7. -/
inductive Neighbour where
  | next | prev | columnLow | columnHigh
deriving DecidableEq, Repr

/-- Where a shard's update is interrupted, if it is, at the end of a 2 KiB burst (R271, R272): within the copy of step 1, after
its slot record, after STATE went to JOURNALED (TORN with JRNL 0), within step 3, after MOMENTS_WRITTEN, after this many
blocks of step 5, or so many bursts into the next block. -/
inductive UpdateStop where
  | copying (bursts : Nat) | inJournal | journaled | inMoments (bursts : Nat) | moments | blocks (n : Nat)
  | inBlock (n bursts : Nat)
deriving DecidableEq, Repr

/-- What the units answered in one start-up (R463 to R468). -/
structure StartupOutcome where
  /-- Bolts lost in step 4, each with its BOLT_STATE cause (R464). -/
  lostBolts : List (BoltNo × BitVec 4)
  /-- Sites failed in step 5: bolt, bolt column, physical row (R465). -/
  failedSites : List (BoltNo × Fin 16 × Fin 13)
  /-- A shared wafer structure failed (R465). -/
  waferFail : Bool
  /-- A Dudin die, weft die or stack failed outright (R467). -/
  dieFail : Bool
  /-- Failed pseudo-channels or devices by SELFTEST_MEMORY row (R467, R487). -/
  memory : List (Fin 32 × W64)
  /-- Lanes that failed the loopback test of step 8. -/
  lanes : List (PortNo × Fin 4)
  /-- Restarts of the service controller during SELFTEST (R468). -/
  serviceRestarts : Nat
deriving DecidableEq, Repr

/-- A host access to BAR4 (R397). -/
inductive WindowAccess where
  | rd (offset : BitVec 30) (bytes : Nat)
  | wr (offset : BitVec 30) (data : List Byte)
deriving DecidableEq, Repr

/-- What resets the host port (R382). -/
inductive HostReset where
  | hotReset | linkDown | perst | d3hot
deriving DecidableEq, Repr

/-- A unit with a firmware watchdog (R347). -/
inductive FwUnit where
  | dudin (s : StackNo) | weft (w : WeftNo) | bolt (b : BoltNo) | service
deriving DecidableEq, Repr

/-- Why a link frame is discarded (R309). -/
inductive DiscardReason where
  | crc | reservedType | sequence
deriving DecidableEq, Repr

/-- The commands. -/
inductive Instr where
  -- spindle: control (R77, R84)
  | nop (p : Site)
  | halt (p : Site)
  | codeRegionEnd (p : Site)
  | loop (p : Site) (count : BitVec 20) (body : BitVec 16)
  | jump (p : Site) (offset : BitVec 20)
  | branchG (p : Site) (seq : W16) (bit : BitVec 5) (offset : BitVec 20)
  | drain (p : Site)
  -- spindle: matrix (R80)
  | mma (p : Site) (acc : Bool) (ro : BitVec 2) (fa fb : BitVec 4) (accd : BitVec 3)
      (opa opb : BitVec 5) (rod : BitVec 4)
  | mmaPacked (p : Site) (acc : Bool) (ro : BitVec 2) (fa fb : BitVec 4) (accd : BitVec 3)
      (opa : BitVec 5) (rod nh : BitVec 4) (kbase : W16) (sref : BitVec 36) (slen : BitVec 12)
      (ecc : EccResult)
  | accOut (p : Site) (ro : BitVec 2) (accd : BitVec 3) (rod : BitVec 4)
  | accZero (p : Site) (accd : BitVec 3)
  | accAddpair (p : Site) (accd : BitVec 3) (opa : BitVec 5)
  -- spindle: vector (R85, R110)
  | vchain (p : Site) (src src2 dst : BitVec 5) (nst : BitVec 3) (sref : BitVec 36)
      (ctx : BitVec 2) (grad rm : Bool)
  | vredRow (p : Site) (src src2 dst : BitVec 5) (nst : BitVec 3) (sref : BitVec 36)
      (ctx : BitVec 2) (grad rm : Bool)
  | vredCol (p : Site) (src src2 dst : BitVec 5) (nst : BitVec 3) (sref : BitVec 36)
      (ctx : BitVec 2) (grad rm : Bool)
  | vwide (p : Site) (src src2 dst : BitVec 5) (nst : BitVec 3) (sref : BitVec 36)
      (ctx : BitVec 2) (grad rm : Bool)
  -- spindle: move (R81)
  | load (p : Site) (fmt : BitVec 4) (hd : BitVec 5) (sref ssc : BitVec 36) (ecc : EccResult)
  | store (p : Site) (fmt : BitVec 4) (hd : BitVec 5) (sref ssc : BitVec 36)
  | loadT (p : Site) (fmt : BitVec 4) (hd : BitVec 5) (sref : BitVec 36) (ecc : EccResult)
  | copy (p : Site) (fmt : BitVec 4) (hd hsrc : BitVec 5)
  -- spindle: convert and random (R82, R83)
  | cvt (p : Site) (fin fout : BitVec 4) (src dst : BitVec 5) (rm grad : Bool) (ctx : BitVec 2)
      (purpose : Byte)
  | rctx (p : Site) (slot : BitVec 2) (tr : Bool) (tid : W32) (ebase : BitVec 48) (estride : W32)
  | rdraw (p : Site) (slot : BitVec 2) (dst : BitVec 5) (purpose : Byte) (mode : Bool)
  | rmask (p : Site) (slot : BitVec 2) (dst : BitVec 5) (purpose : Byte) (thresh : W16)
  -- spindle: stream, send and receive, reduce, shuttle, doff (R85)
  | sopen (p : Site) (stream : W16) (queue : BitVec 3) (bufFirst bufCount : Byte)
  | sclose (p : Site) (stream : W16)
  | send (p : Site) (vc : BitVec 2) (shape : BitVec 12) (sref : BitVec 36) (length : BitVec 18)
      (queue : BitVec 3) (ecc : EccResult)
  | recv (p : Site) (vc : BitVec 2) (shape : BitVec 12) (sref : BitVec 36) (length : BitVec 18)
      (queue : BitVec 3)
  | recvComplete (p : Site)
  | sendh (p : Site) (vc : BitVec 2) (shape : BitVec 12) (hank : BitVec 5) (length : BitVec 18)
  | recvh (p : Site) (vc : BitVec 2) (shape : BitVec 12) (hank : BitVec 5) (length : BitVec 18)
  | rdecl (p : Site) (rid : W16) (inputs : BitVec 5) (out : BitVec 3) (twin : Bool)
      (length : BitVec 18)
  | rsend (p : Site) (rid : W16) (sref : BitVec 36) (length : BitVec 18) (ecc : EccResult)
  | rrecv (p : Site) (rid : W16) (sref : BitVec 36) (length : BitVec 18)
  | qput (p : Site) (queue slot : BitVec 3)
  | qget (p : Site) (queue slot : BitVec 3)
  | qrel (p : Site) (slot : BitVec 3)
  | qmake (p : Site) (slot : BitVec 3) (buf : Byte) (length : BitVec 18)
  | doff (p : Site) (dseq : W16)
  | doffArrive (p : Site)
  | doffComplete
  | doffWatchdogExpiry (unanswered : List Site)
  | summary (p : Site) (src : BitVec 5) (count : BitVec 3) (first : BitVec 12)
  -- bolt controllers (R133 to R139)
  | summaryResultsArrive
  | suWait (b : BoltNo) (dseq : W16)
  | f64Add (b : BoltNo) (x y : W64)
  | f64Sub (b : BoltNo) (x y : W64)
  | f64Mul (b : BoltNo) (x y : W64)
  | f64Div (b : BoltNo) (x y : W64)
  | f64Sqrt (b : BoltNo) (x : W64)
  | f64Min (b : BoltNo) (x y : W64)
  | f64Max (b : BoltNo) (x y : W64)
  | f64Cmplt (b : BoltNo) (x y : W64)
  | f64Cmpeq (b : BoltNo) (x y : W64)
  | f64Isfin (b : BoltNo) (x : W64)
  | f64Toi64 (b : BoltNo) (x : W64)
  | f64Fromi64 (b : BoltNo) (x : W64)
  | decPost (b : BoltNo) (seq : W16) (word : W32)
  | spStart (b : BoltNo) (value : W64)
  | boltProgramTrap (b : BoltNo) (cause : Byte) (address : W32)
  -- fabric and gradient adder
  | flitLate (vc : BitVec 2)
  | reductionCombine (p : Site) (rid : W16)
  | gradientAdd (port : EdgeNo)
  | maskReport (port : EdgeNo)
  | arbiterDecision (kind : Fin 6) (inst : Nat) (requests : List (Fin 6 × Nat))
  | grantWatchdog (kind : Fin 6) (inst : Nat)
  -- weight streaming and the hold
  | streamStart (stream : W16)
  | descriptorRead (stream : W16)
  | leaFetch (stream : W16) (retries : Nat) (bad : List Nat)
  | leaInject (stream : W16)
  | leaLate (stream : W16) (blocker : Option Site)
  | creditReturn (stream : W16)
  | leaArrive (p : Site) (stream : W16)
  | decisionRelay
  | holdArrive (p : Site) (count : Fin 513)
  | holdRelease (p : Site)
  | divisorChange
  | weftInjectLate (w : WeftNo)
  | replayBoundExpiry (port : PortNo)
  | inputDeliveryLate (w : WeftNo)
  | evalResultLate (w : WeftNo)
  -- bobbins and the microbatch
  | bobbinScan
  | bobbinWindowWrite (offset : W32) (data : List Byte)
  | microbatchStart
  | microbatchEnd
  | evalResultWrite (slot : BitVec 12)
  -- exchange, vote, update, digest
  | layerExchangeStart (layer : W16)
  | exchangeEnd
  | voteReportSend
  | voteFrame (port : PortNo) (hdr : FrameHdr) (payload : BitVec 512)
  | commitFrame (port : PortNo) (hdr : FrameHdr) (payload : BitVec 512)
  | shardUpdate (entry : BitVec 18) (stop : Option UpdateStop)
  | bandRepack (tensor : W32) (stack : StackNo) (column : Bool) (band : Nat)
  | updateComplete
  | journalRedo (die : Fin 32)
  | digestReport (port : PortNo) (hdr : FrameHdr) (entries : List (BitVec 128))
  | digestVerdict (port : PortNo) (hdr : FrameHdr) (majority : Option W64) (map : W32)
      (median : BitVec 56)
  | stepBoundary
  | gradFrame (port : PortNo) (hdr : FrameHdr) (layer : W16) (block : W32) (phase : BitVec 2)
      (data : List W32)
  | reweaveFrame (port : PortNo) (hdr : FrameHdr) (entry : BitVec 18) (array : BitVec 4)
      (offset : BitVec 42) (data : List Byte)
  -- time, links, membership
  | timeFrame (port : PortNo) (crcOk : Bool) (tx echoTx echoRx : W64) (frac : BitVec 4)
  | timeFrameSend (port : PortNo)
  | idle (port : PortNo) (hdr : FrameHdr)
  | hello (port : PortNo) (hdr : FrameHdr) (chain : BitVec 5) (position : BitVec 6)
      (peerPort : BitVec 3) (positions chains : BitVec 6)
  | memberLost (port : PortNo) (hdr : FrameHdr) (chain : BitVec 5) (position : BitVec 6)
  | leave (port : PortNo) (hdr : FrameHdr) (chain : BitVec 5) (position : BitVec 6)
  | membership (port : PortNo) (hdr : FrameHdr) (live : W32) (epoch : W16)
  | decisionQuery (port : PortNo) (hdr : FrameHdr)
  | decisionAnswer (port : PortNo) (hdr : FrameHdr) (held : Option (BitVec 512))
  | join (port : PortNo) (hdr : FrameHdr) (chain : BitVec 5) (position : BitVec 6) (imageId : W64)
  | laneRetire (port : PortNo) (lane : Fin 4)
  | laneFecWindow (port : PortNo) (lane : Fin 4) (corrected uncorrectable : Nat)
  | laneLossOfLock (port : PortNo) (lane : Fin 4)
  | laneRetrainDone (port : PortNo)
  | portTrained (port : PortNo)
  | linkAckTimeout (port : PortNo)
  | peerLost (n : Neighbour)
  | linkCableConnect (port : PortNo)
  | linkCableRemove (port : PortNo)
  | markIn
  | markOutPulse
  | assign (req : TopReq) (chainIn : Bool) (outcome : StartupOutcome)
  | chainAddress (m : MasterNo) (value : Byte)
  | chainIndex (m : MasterNo) (value : Byte)
  | chainPositions (m : MasterNo) (value : Byte)
  | gridChains (m : MasterNo) (value : Byte)
  | chainLeave (m : MasterNo) (value : Byte)
  | reweaveStart (m : MasterNo)
  | reweaveAbort (m : MasterNo)
  -- faults and recovery
  | livenessMiss (reporter unit : UnitId)
  | reportGroupClose
  | hardIndicator (unit : UnitId) (detail : W32)
  | fence (b : BoltNo) (column : Fin 16) (row : Fin 13) (testPassed : Bool)
  | microbatchReplay
  | refill (crcs : List (BitVec 18 × W64))
  | firmwareWatchdog (unit : FwUnit)
  -- host port and program loading
  | hostPortReset (kind : HostReset)
  | loadWindowAccess (a : WindowAccess)
  | imageLoad (m : MasterNo)
  | restart (m : MasterNo)
  | unload (m : MasterNo)
  -- dictionary
  | read (req : ReadReq)
  | write (req : TopReq)
  | describe (req : TopReq)
  | echo (req : TopReq)
  | lock (req : LockReq)
  | commit (req : LockReq)
  | unlock (req : LockReq)
  | lockExpiry
  | readShadowExpiry (m : MasterNo)
  | writeShadowExpiry (m : MasterNo)
  | objectWrite (m : MasterNo) (index : W16) (subindex : Byte) (row : W32) (half : Half)
      (data : List Byte)
  | windowNext
  | windowFetch
  | windowStore
  | spindleFlagsClear (m : MasterNo) (p : Site) (value : W32)
  | zeroStreakClear (m : MasterNo) (row : Fin 64) (value : W64)
  | boltProgTrapClear (m : MasterNo) (b : BoltNo)
  | run (m : MasterNo)
  | stopAtBoundary (m : MasterNo)
  -- power, clocks, heat
  | powerApplied (millivolts : Nat)
  | powerRemoved
  | inputWindow (volt current : W16) (power : W32)
  | railNotRemoved (b : BoltNo)
  | boltOvercurrent (b : BoltNo)
  | boltUndervoltage (b : BoltNo)
  | railBoost (rail : Fin 96)
  | railShunt (rail : Fin 96)
  | currentSample (samples : List (Fin 154 × W16)) (sense : List (BoltNo × W64))
  | throttleEvaluation
  | vsetSettled
  | sensorRead (bolts : List (Fin 768 × BitVec 32)) (dies : List (Fin 57 × BitVec 32))
  | clockParentLoss (b : BoltNo)
  | refInLost
  | refInRestored (offset : BitVec 32)
  -- start-up and security
  | retry (m : MasterNo) (outcome : StartupOutcome)
  | install (m : MasterNo)
  | switch (m : MasterNo)
  | generate (m : MasterNo)
  | debug (m : MasterNo) (token : BitVec 2048)
  | ownerRelease (m : MasterNo) (token : BitVec 2048)
  | fieldClear (m : MasterNo) (token : BitVec 2048)
  | ownerKeyHash (m : MasterNo) (value : BitVec 384)
  | imageSignRequired (m : MasterNo) (value : Byte)
  | fwMinSvn (m : MasterNo) (value : W32)
  | clearOnUnload (m : MasterNo) (value : Byte)
  | railDisengage (rail : Fin 96)
  | frameDiscarded (port : PortNo) (reason : DiscardReason)
  | chainTimeRefresh
  | scanAndHaltAccess (tms tdi haltPin : Bool)
deriving DecidableEq, Repr

end Sys2Proof
end

