-- ==== Sys2Proof/Decode.lean ====
section
/-! DEFINITION. The words of a spindle's program (R76 to R85), and the host's decoding question for a block. -/

namespace Sys2Proof

/-! ## Instruction words -/

/-- Bits [lo + n - 1 : lo] of an instruction word. -/
def wordField (w lo n : Nat) : BitVec n := BitVec.ofNat n (w >>> lo)

/-- A one-bit field. -/
def wordBit (w i : Nat) : Bool := w.testBit i

/-- Control class (R84). -/
def controlOf (p : Site) (w : Nat) : Nat → Option Instr
  | 0x0 => some (.nop p)
  | 0x1 => some (.halt p)
  | 0x2 => some (.loop p (wordField w 100 20) (wordField w 84 16))
  | 0x3 => some (.jump p (wordField w 100 20))
  | 0x4 => some (.branchG p (wordField w 104 16) (wordField w 99 5) (wordField w 79 20))
  | 0x6 => some (.drain p)
  | _ => none

/-- Matrix class (R80). -/
def matrixOf (p : Site) (w : Nat) : Nat → Option Instr
  | 0x0 => some (.mma p (wordBit w 119) (wordField w 117 2) (wordField w 112 4) (wordField w 108 4) (wordField w 105 3)
      (wordField w 100 5) (wordField w 95 5) (wordField w 91 4))
  | 0x1 => some (.mmaPacked p (wordBit w 119) (wordField w 117 2) (wordField w 112 4) (wordField w 108 4) (wordField w 105 3)
      (wordField w 100 5) (wordField w 91 4) (wordField w 87 4) (wordField w 64 16) (wordField w 28 36) (wordField w 16 12)
      .clean)
  | 0x2 => some (.accOut p (wordField w 117 2) (wordField w 105 3) (wordField w 91 4))
  | 0x3 => some (.accZero p (wordField w 105 3))
  | 0x4 => some (.accAddpair p (wordField w 105 3) (wordField w 100 5))
  | _ => none

/-- Vector class (R85). -/
def vectorOf (p : Site) (w : Nat) (op : Nat) : Option Instr :=
  let src := wordField w 115 5
  let src2 := wordField w 110 5
  let dst := wordField w 105 5
  let nst := wordField w 102 3
  let ref := wordField w 66 36
  let ctx := wordField w 64 2
  let grad := wordBit w 63
  let rm := wordBit w 62
  match op with
  | 0x0 => some (.vchain p src src2 dst nst ref ctx grad rm)
  | 0x1 => some (.vredRow p src src2 dst nst ref ctx grad rm)
  | 0x2 => some (.vredCol p src src2 dst nst ref ctx grad rm)
  | 0x3 => some (.vwide p src src2 dst nst ref ctx grad rm)
  | _ => none

/-- Move class (R81). -/
def moveOf (p : Site) (w : Nat) : Nat → Option Instr
  | 0x0 => some (.load p (wordField w 116 4) (wordField w 111 5) (wordField w 70 36) (wordField w 34 36) .clean)
  | 0x1 => some (.store p (wordField w 116 4) (wordField w 111 5) (wordField w 70 36) (wordField w 34 36))
  | 0x2 => some (.loadT p (wordField w 116 4) (wordField w 111 5) (wordField w 70 36) .clean)
  | 0x3 => some (.copy p (wordField w 116 4) (wordField w 111 5) (wordField w 106 5))
  | _ => none

/-- Convert class (R82). -/
def convertOf (p : Site) (w : Nat) : Nat → Option Instr
  | 0x0 => some (.cvt p (wordField w 116 4) (wordField w 112 4) (wordField w 107 5) (wordField w 102 5) (wordBit w 101)
      (wordBit w 100) (wordField w 98 2) (wordField w 90 8))
  | _ => none

/-- Random class (R83). -/
def randomOf (p : Site) (w : Nat) : Nat → Option Instr
  | 0x0 => some (.rctx p (wordField w 118 2) (wordBit w 117) (wordField w 81 32) (wordField w 33 48) (wordField w 1 32))
  | 0x1 => some (.rdraw p (wordField w 118 2) (wordField w 113 5) (wordField w 105 8) (wordBit w 104))
  | 0x2 => some (.rmask p (wordField w 118 2) (wordField w 113 5) (wordField w 105 8) (wordField w 88 16))
  | _ => none

/-- Stream class (R85). -/
def streamOf (p : Site) (w : Nat) : Nat → Option Instr
  | 0x0 => some (.sopen p (wordField w 104 16) (wordField w 101 3) (wordField w 93 8) (wordField w 85 8))
  | 0x1 => some (.sclose p (wordField w 104 16))
  | _ => none

/-- Send/receive class (R85). -/
def sendOf (p : Site) (w : Nat) (op : Nat) : Option Instr :=
  let vc := wordField w 118 2
  let shape := wordField w 106 12
  let ref := wordField w 70 36
  let hank := wordField w 101 5
  let length := wordField w 52 18
  let queue := wordField w 49 3
  match op with
  | 0x0 => some (.send p vc shape ref length queue .clean)
  | 0x1 => some (.recv p vc shape ref length queue)
  | 0x2 => some (.sendh p vc shape hank length)
  | 0x3 => some (.recvh p vc shape hank length)
  | _ => none

/-- Reduce class (R85). -/
def reduceOf (p : Site) (w : Nat) (op : Nat) : Option Instr :=
  let rid := wordField w 104 16
  let ref := wordField w 59 36
  let length := wordField w 41 18
  match op with
  | 0x0 => some (.rdecl p rid (wordField w 99 5) (wordField w 96 3) (wordBit w 95) length)
  | 0x1 => some (.rsend p rid ref length .clean)
  | 0x2 => some (.rrecv p rid ref length)
  | _ => none

/-- Shuttle class (R85). -/
def shuttleOf (p : Site) (w : Nat) (op : Nat) : Option Instr :=
  let queue := wordField w 117 3
  let slot := wordField w 114 3
  match op with
  | 0x0 => some (.qput p queue slot)
  | 0x1 => some (.qget p queue slot)
  | 0x2 => some (.qrel p slot)
  | 0x3 => some (.qmake p slot (wordField w 106 8) (wordField w 88 18))
  | _ => none

/-- The command that a 128-bit instruction word of a program spells at a spindle; none for a reserved opcode (R76, R77). Bits
[127:124] give the class. -/
def Instr.ofWord (p : Site) (w : Nat) : Option Instr :=
  let op := (wordField w 120 4).toNat
  match (wordField w 124 4).toNat with
  | 0x0 => controlOf p w op
  | 0x1 => matrixOf p w op
  | 0x2 => vectorOf p w op
  | 0x3 => moveOf p w op
  | 0x4 => convertOf p w op
  | 0x5 => randomOf p w op
  | 0x6 => streamOf p w op
  | 0x7 => sendOf p w op
  | 0x8 => reduceOf p w op
  | 0x9 => shuttleOf p w op
  | 0xA => if op = 0 then some (.doff p (wordField w 104 16)) else none
  | 0xB => if op = 0 then some (.summary p (wordField w 115 5) (wordField w 112 3) (wordField w 100 12)) else none
  | _ => none

/-! ## The table's words -/

/-- The command a word spells by the bits of spec/opcode_table.json: the table gives no row any bits, so no word spells a
command (log entry 14). -/
def decodeTableWord (_nbits _w : Nat) : Option Instr := none

end Sys2Proof
end

