-- ==== Sys2Proof/Machine/Float.lean ====
section
/-! DEFINITION. Numbers: the layouts of R34, canonical NaNs (R35), rounding to nearest even and
stochastic rounding (R54 to R56), and the binary32 and binary64 operations built on them. No operation
flushes subnormals (R36): a value is exact until the one rounding. -/

namespace Sys2Proof.Machine

/-- An exact value: (-1)^neg * m * 2^e, an infinity, or NaN. -/
inductive Val where
  | nan
  | inf (neg : Bool)
  | fin (neg : Bool) (m : Nat) (e : Int)
deriving DecidableEq, Repr

/-- A format's layout (R34): width in bits, mantissa bits, exponent of the smallest normal, code of the
largest finite magnitude, codes of infinity and of the NaN produced (R35). -/
structure Fmt where
  width : Nat
  mb : Nat
  emin : Int
  maxCode : Nat
  infCode : Option Nat
  nanCode : Option Nat
deriving DecidableEq, Repr

/-- binary64. -/
def fp64 : Fmt := ⟨64, 52, -1022, 0x7FEFFFFFFFFFFFFF, some 0x7FF0000000000000, some 0x7FF8000000000000⟩
/-- binary32. -/
def fp32 : Fmt := ⟨32, 23, -126, 0x7F7FFFFF, some 0x7F800000, some 0x7FC00000⟩
/-- binary16. -/
def fp16 : Fmt := ⟨16, 10, -14, 0x7BFF, some 0x7C00, some 0x7E00⟩
/-- bfloat16. -/
def bf16 : Fmt := ⟨16, 7, -126, 0x7F7F, some 0x7F80, some 0x7FC0⟩
/-- E5M2. -/
def e5m2 : Fmt := ⟨8, 2, -14, 0x7B, some 0x7C, some 0x7E⟩
/-- E4M3. -/
def e4m3 : Fmt := ⟨8, 3, -6, 0x7E, none, some 0x7F⟩
/-- E3M2. -/
def e3m2 : Fmt := ⟨6, 2, -2, 31, none, none⟩
/-- E2M3. -/
def e2m3 : Fmt := ⟨6, 3, 0, 31, none, none⟩
/-- E2M1. -/
def e2m1 : Fmt := ⟨4, 1, 0, 7, none, none⟩
/-- The magnitude of INT8: steps of 2^-6 up to 127 steps (R34, R42). -/
def int8 : Fmt := ⟨8, 6, 0, 127, none, none⟩

/-- The value of a code of a sign-magnitude format (R34). -/
def Fmt.decode (f : Fmt) (w : Nat) : Val :=
  let neg := bitAt w (f.width - 1)
  let c := bits w 0 (f.width - 1)
  if f.maxCode < c then
    if f.infCode = some c then .inf neg else .nan
  else
    let ex := c >>> f.mb
    let man := bits c 0 f.mb
    if ex = 0 then .fin neg man (f.emin - f.mb)
    else .fin neg (man + 2 ^ f.mb) (f.emin - f.mb + (ex - 1 : Nat))

/-- The value of an INT8 element (R34): 0x80 stands for -2.0. -/
def int8Decode (w : Nat) : Val :=
  let n := signed 8 w
  .fin (decide (n < 0)) n.natAbs (-6)

/-- How a result is rounded (R54, R55): to nearest even, or stochastically with 16 random bits. -/
inductive Rnd where
  | rne
  | sr (r : Nat)
deriving DecidableEq, Repr

/-- The code of m * 2^e rounded to the precision of f, ignoring range: truncated code plus the rounding
increment, which may carry into the exponent (R55). -/
def Fmt.roundMag (f : Fmt) (rnd : Rnd) (m : Nat) (e : Int) : Nat :=
  if m = 0 then 0
  else
    let top : Int := (Nat.log2 m : Nat) + e
    let ex := if top < f.emin then f.emin else top
    let q := ex - f.mb
    let base := (ex - f.emin).toNat * 2 ^ f.mb
    if q ≤ e then base + m <<< (e - q).toNat
    else
      let sh := (q - e).toNat
      let k := m >>> sh
      let d := m % 2 ^ sh
      let up : Bool := match rnd with
        | .rne => decide (2 ^ sh < 2 * d) || (decide (2 * d = 2 ^ sh) && k % 2 == 1)
        | .sr r => decide (2 ^ 16 ≤ (d <<< 16) >>> sh + r)
      base + k + up.toNat

/-- A rounded result and what R56 and R57 count of it. -/
structure Rounded where
  code : Nat
  sat : Bool := false
  nonfinite : Bool := false
  flush : Bool := false
deriving DecidableEq, Repr

/-- The sign of a code. -/
def Fmt.signed (f : Fmt) (neg : Bool) (c : Nat) : Nat := c + neg.toNat * 2 ^ (f.width - 1)

/-- Rounding of a value to a sign-magnitude format with the range rules of R56. A NaN or infinity in a
format that has none is code 0; its block scale tells it (R41). -/
def Fmt.round (f : Fmt) (rnd : Rnd) : Val → Rounded
  | .nan => { code := f.nanCode.getD 0, nonfinite := true }
  | .inf neg =>
    match f.infCode with
    | some c => { code := f.signed neg c, nonfinite := true }
    | none => { code := f.nanCode.getD 0, nonfinite := true }
  | .fin neg m e =>
    let c := f.roundMag rnd m e
    if f.maxCode < c then
      match f.infCode with
      | some i => { code := f.signed neg i, nonfinite := true }
      | none => { code := f.signed neg f.maxCode, sat := true }
    else { code := f.signed neg c, flush := decide (m ≠ 0 ∧ c = 0) }

/-- Rounding to an MX element (R56): saturates where E5M2 has an infinity code. -/
def Fmt.roundElem (f : Fmt) (rnd : Rnd) : Val → Rounded
  | .fin neg m e =>
    let c := f.roundMag rnd m e
    if f.maxCode < c then { code := f.signed neg f.maxCode, sat := true }
    else { code := f.signed neg c, flush := decide (m ≠ 0 ∧ c = 0) }
  | v => f.round rnd v

/-- Rounding to an INT8 element (R42): symmetric, two's complement. -/
def int8Round (rnd : Rnd) : Val → Rounded
  | .fin neg m e =>
    let c := int8.roundMag rnd m e
    let k := min c 127
    { code := if neg ∧ k ≠ 0 then 256 - k else k, sat := decide (127 < c),
      flush := decide (m ≠ 0 ∧ c = 0) }
  | _ => { code := 0, nonfinite := true }

/-! ## Exact operations -/

/-- Sign of a value; NaN has none. -/
def Val.neg? : Val → Bool
  | .nan => false
  | .inf n => n
  | .fin n _ _ => n

/-- The value with its sign changed. -/
def Val.negate : Val → Val
  | .nan => .nan
  | .inf n => .inf (!n)
  | .fin n m e => .fin (!n) m e

/-- The magnitude. -/
def Val.abs : Val → Val
  | .nan => .nan
  | .inf _ => .inf false
  | .fin _ m e => .fin false m e

/-- A finite value. -/
def Val.isFin : Val → Bool
  | .fin _ _ _ => true
  | _ => false

/-- NaN. -/
def Val.isNan : Val → Bool
  | .nan => true
  | _ => false

/-- A zero of either sign. -/
def Val.isZero : Val → Bool
  | .fin _ m _ => m == 0
  | _ => false

/-- The integer a finite value is at exponent e0, not above its own. -/
def Val.scaled (neg : Bool) (m : Nat) (e e0 : Int) : Int :=
  let k : Int := (m <<< (e - e0).toNat : Nat)
  if neg then -k else k

/-- The exact value of an integer at exponent e; an exact zero is +0 (R47). -/
def Val.ofInt (i : Int) (e : Int) : Val := .fin (decide (i < 0)) i.natAbs e

/-- The exact sum. The sum of two zeros is -0 only when both are; an exact zero sum of others is +0. -/
def Val.add : Val → Val → Val
  | .nan, _ => .nan
  | _, .nan => .nan
  | .inf a, .inf b => if a = b then .inf a else .nan
  | .inf a, .fin _ _ _ => .inf a
  | .fin _ _ _, .inf b => .inf b
  | .fin na ma ea, .fin nb mb eb =>
    if ma = 0 ∧ mb = 0 then .fin (na && nb) 0 0
    else
      let e0 := if ea ≤ eb then ea else eb
      Val.ofInt (Val.scaled na ma ea e0 + Val.scaled nb mb eb e0) e0

/-- The exact difference. -/
def Val.sub (a b : Val) : Val := Val.add a b.negate

/-- The exact product. -/
def Val.mul : Val → Val → Val
  | .nan, _ => .nan
  | _, .nan => .nan
  | .inf a, .inf b => .inf (a != b)
  | .inf a, .fin b m _ => if m = 0 then .nan else .inf (a != b)
  | .fin a m _, .inf b => if m = 0 then .nan else .inf (a != b)
  | .fin a m e, .fin b n k => .fin (a != b) (m * n) (e + k)

/-- The quotient with enough bits, and a sticky bit below them, to round as the exact one does. -/
def Val.div (prec : Nat) : Val → Val → Val
  | .nan, _ => .nan
  | _, .nan => .nan
  | .inf _, .inf _ => .nan
  | .inf a, .fin b _ _ => .inf (a != b)
  | .fin a _ _, .inf b => .fin (a != b) 0 0
  | .fin a m e, .fin b n k =>
    if n = 0 then (if m = 0 then .nan else .inf (a != b))
    else if m = 0 then .fin (a != b) 0 0
    else
      let sh := prec + Nat.log2 n + 3
      let num := m <<< sh
      let q := num / n
      let st := if num % n = 0 then 0 else 1
      .fin (a != b) (2 * q + st) (e - k - (sh : Int) - 1)

/-- The integer square root by bits: the largest r with r * r ≤ n, for n below 4^fuel. -/
def isqrtAux : Nat → Nat → Nat → Nat
  | 0, _, r => r
  | fuel + 1, n, r =>
    let c := r + 2 ^ fuel
    isqrtAux fuel n (if c * c ≤ n then c else r)

/-- The integer square root. -/
def isqrt (n : Nat) : Nat := isqrtAux (Nat.log2 n / 2 + 1) n 0

/-- The square root with enough bits and a sticky bit; NaN for a negative value, and -0 for -0. -/
def Val.sqrt (prec : Nat) : Val → Val
  | .nan => .nan
  | .inf a => if a then .nan else .inf false
  | .fin a m e =>
    if m = 0 then .fin a 0 0
    else if a then .nan
    else
      let odd := (e % 2).toNat
      let sh := 2 * (prec + 3)
      let n := m <<< (sh + odd)
      let r := isqrt n
      let st := if r * r = n then 0 else 1
      .fin false (2 * r + st) ((e - (odd : Int)) / 2 - (prec + 3 : Nat) - 1)

/-- The value times 2^k. -/
def Val.scale (k : Int) : Val → Val
  | .fin n m e => .fin n m (e + k)
  | v => v

/-- Order of two values that are not NaN; the zeros are equal. -/
def Val.lt : Val → Val → Bool
  | .nan, _ => false
  | _, .nan => false
  | .inf a, .inf b => a && !b
  | .inf a, .fin _ _ _ => a
  | .fin _ _ _, .inf b => !b
  | .fin na ma ea, .fin nb mb eb =>
    let e0 := if ea ≤ eb then ea else eb
    decide (Val.scaled na ma ea e0 < Val.scaled nb mb eb e0)

/-- Equality of two values; NaN equals nothing. -/
def Val.eq (a b : Val) : Bool :=
  !a.isNan && !b.isNan && !(Val.lt a b) && !(Val.lt b a)

/-- floor(log2) of a finite non-zero magnitude. -/
def Val.log2 : Val → Int
  | .fin _ m e => (Nat.log2 m : Nat) + e
  | _ => 0

/-! ## binary32 and binary64 -/

/-- The value of a binary32 word. -/
def dec32 (w : W32) : Val := fp32.decode w.toNat
/-- A value rounded to nearest even in binary32. -/
def enc32 (v : Val) : W32 := BitVec.ofNat 32 (fp32.round .rne v).code
/-- The value of a binary64 word. -/
def dec64 (w : W64) : Val := fp64.decode w.toNat
/-- A value rounded to nearest even in binary64. -/
def enc64 (v : Val) : W64 := BitVec.ofNat 64 (fp64.round .rne v).code

/-- binary32 addition, one rounding to nearest even. -/
def add32 (a b : W32) : W32 := enc32 (Val.add (dec32 a) (dec32 b))
/-- binary32 subtraction. -/
def sub32 (a b : W32) : W32 := enc32 (Val.sub (dec32 a) (dec32 b))
/-- binary32 multiplication. -/
def mul32 (a b : W32) : W32 := enc32 (Val.mul (dec32 a) (dec32 b))
/-- binary32 division. -/
def div32 (a b : W32) : W32 := enc32 (Val.div 30 (dec32 a) (dec32 b))
/-- binary32 square root. -/
def sqrt32 (a : W32) : W32 := enc32 (Val.sqrt 30 (dec32 a))
/-- binary64 addition. -/
def add64 (a b : W64) : W64 := enc64 (Val.add (dec64 a) (dec64 b))
/-- binary64 subtraction. -/
def sub64 (a b : W64) : W64 := enc64 (Val.sub (dec64 a) (dec64 b))
/-- binary64 multiplication. -/
def mul64 (a b : W64) : W64 := enc64 (Val.mul (dec64 a) (dec64 b))
/-- binary64 division. -/
def div64 (a b : W64) : W64 := enc64 (Val.div 60 (dec64 a) (dec64 b))
/-- binary64 square root. -/
def sqrt64 (a : W64) : W64 := enc64 (Val.sqrt 60 (dec64 a))

/-- A binary32 word that is neither infinite nor NaN. -/
def isFin32 (a : W32) : Bool := (dec32 a).isFin
/-- A binary64 word that is neither infinite nor NaN. -/
def isFin64 (a : W64) : Bool := (dec64 a).isFin
/-- A binary32 zero of either sign. -/
def isZero32 (a : W32) : Bool := (dec32 a).isZero

/-- binary64 of a binary32 word, exact but for the canonical NaN. -/
def widen (a : W32) : W64 := enc64 (dec32 a)
/-- binary32 of a binary64 word. -/
def narrow (a : W64) : W32 := enc32 (dec64 a)
/-- binary64 of an unsigned integer. -/
def ofNat64 (n : Nat) : W64 := enc64 (.fin false n 0)

/-! ## Compensated accumulation (R46 to R49) -/

/-- An accumulator pair: value s and ply c. -/
structure Pair where
  s : W32 := 0
  c : W32 := 0
deriving DecidableEq, Repr

/-- The compensated addition of R46 with the non-finite rule of R48. -/
def Pair.addTerm (p : Pair) (x : W32) : Pair :=
  let t := add32 p.s x
  if !isFin32 t then ⟨t, 0⟩
  else
    let big := !(Val.lt (dec32 p.s).abs (dec32 x).abs)
    let e := if big then add32 (sub32 p.s t) x else add32 (sub32 x t) p.s
    ⟨t, add32 p.c e⟩

/-- A value added to the ply by one binary32 addition; a non-finite s keeps c at +0 (R48). -/
def Pair.addPly (p : Pair) (x : W32) : Pair :=
  if isFin32 p.s then ⟨p.s, add32 p.c x⟩ else ⟨p.s, 0⟩

/-- Addition of a second pair (R46). -/
def Pair.addPair (p q : Pair) : Pair := (p.addTerm q.s).addPly q.c

/-- The exact value of a pair; s where s is non-finite (R49). -/
def Pair.exact (p : Pair) : Val :=
  if isFin32 p.s then Val.add (dec32 p.s) (dec32 p.c) else dec32 p.s

/-- The folded read-out (R49). -/
def Pair.fold (p : Pair) : W32 := enc32 p.exact

/-- One exact term presented as head and tail, as the cell adds a block sum (R45). -/
def Pair.addExact (p : Pair) (x : Val) : Pair :=
  let t := enc32 x
  let p1 := p.addTerm t
  p1.addPly (enc32 (Val.sub x (dec32 t)))

end Sys2Proof.Machine
end

