-- ==== Sys2Proof/Machine/Formats.lean ====
section
/-! DEFINITION. The format codes of R33, their packing (R38, R71), MX blocks and conversion to them (R37 to
R42), and the terms the cells form (R43 to R45). -/

namespace Sys2Proof.Machine

/-- A format a hank, lea or array may hold: codes 0 to 8 (R33). -/
def fmtOk (f : Nat) : Bool := decide (f ≤ 8)

/-- An MX format. -/
def isMx (f : Nat) : Bool := decide (3 ≤ f ∧ f ≤ 8)

/-- Element width in bits. -/
def elemBits (f : Nat) : Nat :=
  match f with
  | 0 => 32 | 1 => 16 | 2 => 16 | 3 => 8 | 4 => 8 | 5 => 6 | 6 => 6 | 7 => 4 | 8 => 8 | 9 => 64 | _ => 0

/-- The element layout of a format other than MXINT8. -/
def elemFmt (f : Nat) : Fmt :=
  match f with
  | 1 => bf16 | 2 => fp16 | 3 => e4m3 | 4 => e5m2 | 5 => e3m2 | 6 => e2m3 | 7 => e2m1 | 9 => fp64
  | _ => fp32

/-- The largest exponent of an MX element (R40). -/
def emaxOf (f : Nat) : Int :=
  match f with
  | 3 => 8 | 4 => 15 | 5 => 4 | 6 => 2 | 7 => 2 | _ => 0

/-- The MX formats that have no NaN (R41). -/
def mxNoNan (f : Nat) : Bool := decide (5 ≤ f)

/-- The element's own value under R34. -/
def decodeElem (f w : Nat) : Val := if f = 8 then int8Decode w else (elemFmt f).decode w

/-- A value rounded to an element of the format (R56). -/
def roundElem (f : Nat) (rnd : Rnd) (v : Val) : Rounded :=
  if f = 8 then int8Round rnd v
  else if isMx f then (elemFmt f).roundElem rnd v
  else (elemFmt f).round rnd v

/-- Lines of a hank's element region (R71). -/
def hankLines (f : Nat) : Nat := 8 * elemBits f

/-- Lines of its scale region. -/
def scaleLines (f : Nat) : Nat := if isMx f then 2 else 0

/-- The value X × v of an element under its block's scale (R37, R39). -/
def mxValue (f : Nat) (scale : Byte) (w : Nat) : Val :=
  if scale = 0xFF then .nan else (decodeElem f w).scale ((scale.toNat : Int) - 127)

/-- The scale exponent R40 chooses for a block's finite values. -/
def mxScaleExp (f : Nat) (vs : List Val) : Int :=
  let big := vs.foldl (fun (m : Val) v => if v.isFin && Val.lt m v.abs then v.abs else m) (.fin false 0 0)
  if big.isZero then -127
  else
    let x := big.log2 - emaxOf f
    if x < -127 then -127 else if 127 < x then 127 else x

/-- An MX block: its scale byte and its elements with what they count. -/
structure MxBlock where
  scale : Byte
  elems : List Rounded
deriving DecidableEq, Repr

/-- Conversion of a block (R40, R41); each value comes with its rounding. -/
def toMxBlock (f : Nat) (vs : List (Val × Rnd)) : MxBlock :=
  let x := mxScaleExp f (vs.map (·.1))
  let bad := mxNoNan f && vs.any (fun v => !v.1.isFin)
  { scale := if bad then 0xFF else BitVec.ofNat 8 (x + 127).toNat
    elems := vs.map (fun v => roundElem f v.2 (v.1.scale (-x))) }

/-- What a conversion counts (R56, R57). -/
structure Counts where
  flush : Nat := 0
  sat : Nat := 0
  nonfinite : Nat := 0
deriving DecidableEq, Repr

/-- The sum of two counts. -/
def Counts.add (a b : Counts) : Counts := ⟨a.flush + b.flush, a.sat + b.sat, a.nonfinite + b.nonfinite⟩

/-- The counts of a list of results. -/
def countsOf (rs : List Rounded) : Counts :=
  { flush := (rs.filter (·.flush)).length
    sat := (rs.filter (·.sat)).length
    nonfinite := (rs.filter (·.nonfinite)).length }

/-- A tensor's worth of elements converted: element codes, scale bytes of blocks of 32, counts. -/
structure Converted where
  codes : List Nat
  scales : List Byte
  counts : Counts
deriving DecidableEq, Repr

/-- Conversion of a run of values whose length is a multiple of 32 where the format is MX. -/
def convertAll (f : Nat) (vs : List (Val × Rnd)) : Converted :=
  if isMx f then
    let bs := (chunks 32 (vs.length + 1) vs).map (toMxBlock f)
    let rs := bs.flatMap (·.elems)
    { codes := rs.map (·.code), scales := bs.map (·.scale), counts := countsOf rs }
  else
    let rs := vs.map (fun v => roundElem f v.2 v.1)
    { codes := rs.map (·.code), scales := [], counts := countsOf rs }

/-! ## Products and terms -/

/-- The format pairs of R91, in either order. -/
def mmaPairOk (fa fb : Nat) : Bool :=
  (isMx fa && isMx fb) || (fa == fb && decide (fa ≤ 2))

/-- The conversion pairs of R82. -/
def cvtPairOk (fin fout : Nat) : Bool :=
  decide (fin ≤ 2 ∧ fout ≤ 2) || (fin == 0 && isMx fout) || (isMx fin && fout == 0)

/-- The term of one product of binary32, binary16 or bfloat16 elements (R43, R44). -/
def denseTerm (f : Nat) (a b : Nat) : W32 := enc32 (Val.mul (decodeElem f a) (decodeElem f b))

/-- The exact sum of products of two MX blocks' elements; an IEEE 754 sum where an element is not
finite (R45). -/
def blockSum (fa fb : Nat) (ps : List (Nat × Nat)) : Val :=
  ps.foldl (fun acc p => Val.add acc (Val.mul (decodeElem fa p.1) (decodeElem fb p.2))) (.fin false 0 0)

/-- The term of one block pair: b × Xa × Xb, NaN where a scale is 0xFF (R45). -/
def blockTerm (fa fb : Nat) (xa xb : Byte) (ps : List (Nat × Nat)) : Val :=
  if xa = 0xFF ∨ xb = 0xFF then .nan
  else (blockSum fa fb ps).scale ((xa.toNat : Int) + (xb.toNat : Int) - 254)

end Sys2Proof.Machine
end

