-- ==== Sys2Proof/Machine/Twist.lean ====
section
/-! DEFINITION. The twist generator (R60 to R66). -/

namespace Sys2Proof.Machine

/-- 32-bit left rotation. -/
def rotl32 (v : W32) (n : Nat) : W32 := (v <<< n) ||| (v >>> (32 - n))

/-- The generator's running values: four words and two key words. -/
structure TwistState where
  x0 : W32
  x1 : W32
  x2 : W32
  x3 : W32
  k0 : W32
  k1 : W32
deriving DecidableEq, Repr

/-- Round i of R63. `odd` says whether i is odd: key words k[i mod 2] and k[(i + 1) mod 2]. -/
def twistRound (odd : Bool) (t : TwistState) : TwistState :=
  let ka := if odd then t.k1 else t.k0
  let kb := if odd then t.k0 else t.k1
  let x0 := t.x0 + (t.x1 ^^^ ka)
  let x2 := t.x2 + (t.x3 ^^^ rotl32 kb 7)
  let x1 := rotl32 t.x1 13 ^^^ x0
  let x3 := rotl32 t.x3 19 ^^^ x2
  let x0 := x0 * 0xC8A71D0B
  let x2 := x2 * 0x9E2F3B51
  { x0 := x0, x1 := x3, x2 := x2, x3 := x1, k0 := t.k0 + 0xB5297A4D, k1 := t.k1 + 0x68E31DA4 }

/-- n rounds from round i. -/
def twistRounds : Nat → Bool → TwistState → TwistState
  | 0, _, t => t
  | n + 1, odd, t => twistRounds n (!odd) (twistRound odd t)

/-- The 128-bit output, word 0 lowest (R63, R64). -/
def twist (seed : W64) (c0 c1 c2 c3 : W32) : Nat :=
  let t := twistRounds 10 false
    { x0 := c0, x1 := c1, x2 := c2, x3 := c3, k0 := seed.truncate 32, k1 := (seed >>> 32).truncate 32 }
  packFields 32 [(t.x0 ^^^ t.k0).toNat, (t.x1 ^^^ t.k1).toNat, (t.x2 ^^^ t.k0).toNat,
    (t.x3 ^^^ t.k1).toNat]

/-- The 16-bit chunk of element e (R61, R64, R65): the step field is STEP_COUNT's low 24 bits. -/
def twistChunk (seed : W64) (tid : W32) (step purpose e : Nat) : Nat :=
  let blk := e / 8
  let out := twist seed (BitVec.ofNat 32 blk) (BitVec.ofNat 32 (blk / 2 ^ 32)) tid
    (BitVec.ofNat 32 (step % 2 ^ 24 * 256 + purpose))
  bits out (16 * (e % 8)) 16

end Sys2Proof.Machine
end

