-- ==== Sys2Proof/Config.lean ====
section
/-! DEFINITION. What the manual leaves open, as constants with no body: nothing in Lean can
evaluate them, so no proof can rest on a value of them. The log entries that name each stand in
notes/assumptions. -/

namespace Sys2Proof.Config

/-- Bits of a 32-bit element that the manual calls undefined (R74, R362): fill number `seed`,
element `i`. Log entry 3. -/
opaque free32 (seed i : Nat) : W32
/-- Bits of a scale byte that the manual calls undefined (R74, R362). Log entry 3. -/
opaque free8 (seed i : Nat) : Byte
/-- Bits of a 64-byte store line that the manual calls undefined (R74, R404). Log entry 3. -/
opaque freeLine (seed line : Nat) : BitVec 512
/-- A natural number the manual does not fix: cycles of a stall, microseconds of a transfer. Log
entry 4. -/
opaque freeNat (n : Nat) : Nat
/-- A truth value that depends on timing the model does not hold. Log entry 4. -/
opaque freeBool (n : Nat) : Bool

/-- The site of bolt B27 above the service die, as column and row of the bolt (R208): the manual does not place it. Log
entry 45. -/
opaque serviceSite : Fin 16 × Fin 12

/-- SERIAL_NUMBER as one 16-byte value, fixed at manufacture (R439). Log entry 5. -/
opaque serialNumber : BitVec 128
/-- MGMT_MAC, fixed at manufacture (R439). Log entry 5. -/
opaque mgmtMac : BitVec 48
/-- FIRMWARE_VERSION row c as built (R439). Log entry 5. -/
opaque firmwareVersion (c : Nat) : W32
/-- The boot ROM version that measurement register 0 starts with (R476). Log entry 5. -/
opaque bootRomVersion : W32
/-- BOLT_VSET row b, the factory setpoints (R445). Log entry 5. -/
opaque boltVset (b : Nat) : BitVec 60
/-- FACTORY_DEFECTS row b (R487). Log entry 5. -/
opaque factoryDefects (b : Nat) : W64
/-- FW_KEY_HASH, fused (R486). Log entry 5. -/
opaque fwKeyHash : BitVec 384
/-- DEBUG_KEY_HASH, fused (R486). Log entry 5. -/
opaque debugKeyHash : BitVec 384
/-- IDENTITY_PUBKEY row r (R486). Log entry 5. -/
opaque identityPubkey (r : Nat) : BitVec 384
/-- IDENTITY_CERT row r (R475). Log entry 5. -/
opaque identityCert (r : Nat) : BitVec 512
/-- IDENTITY_CERT_LEN (R475). Log entry 5. -/
opaque identityCertLen : BitVec 13
/-- The n-th draw of the security block's random source, for DEBUG_NONCE (R482). Log entry 6. -/
opaque debugNonce (n : Nat) : BitVec 256
/-- The signature the identity key gives over a digest; the private half never leaves the security
block (R475, R477). Log entry 6. -/
opaque attestSignature (digest : BitVec 384) (n : Nat) : BitVec 768
/-- Header of the image of a component in a firmware bank as delivered (R471). Log entry 5. -/
opaque flashHeader (bank component : Nat) : BitVec 1024
/-- DBG_TDO while the scan interface runs: the scan chains are not in the manual (R483, R498). Log
entry 7. -/
opaque scanOut (n : Nat) : Bool

/-- Bytes of staging of a weft die, which the manual gives nowhere (R271). Log entry 50. -/
opaque weftStaging : Nat

end Sys2Proof.Config
end

