-- ==== Sys2Proof/Machine/State.lean ====
section
/-! DEFINITION. The state of the module as plain data: every register, store, queue, table, counter,
mode and pin the manual gives the TW24-A, the queue of waiting commands, and the model's own counter
of free values. Each field names the rule it comes from; INVENTORY.md lists them with their reset
values. A field's default is its value in `State.reset`. -/

namespace Sys2Proof.Machine

/-- A sparse table: keys strictly rising. An absent key holds the table's default. -/
abbrev SMap (β : Type) := List (Nat × β)

/-- Byte memory in canonical form: addresses strictly rising, no byte equal to 0, which an unlisted
address reads as (log entry 2). -/
abbrev Mem := List Host.Cell

/-! ## The spindle -/

/-- A hank register (R70). An element or scale beyond the list is undefined: the free value of
`seed` (R362, log entry 3). -/
structure Hank where
  elems : List W32 := []
  scales : List Byte := []
  seed : Nat := 0
  poison : Bool := false
deriving DecidableEq, Repr

/-- An accumulator hank (R70, R53): values, plies, the 21-bit add counter, LONG and poison. -/
structure Acc where
  s : List W32 := []
  c : List W32 := []
  seed : Nat := 0
  count : Nat := 0
  long : Bool := false
  poison : Bool := false
deriving DecidableEq, Repr

/-- A 64-byte store line and its poison bit (R74). -/
structure Line where
  data : BitVec 512 := 0
  poison : Bool := false
deriving DecidableEq, Repr

/-- A spindle's store (R70): the lines written since the last load. Any other line holds undefined
bits, unpoisoned (R404): the free value of `seed`; or zeros after a clearing (R484). Bit errors that stand in the store are
the environment's: the words of a line that hold a single-bit error, and the lines with an uncorrectable one (R75; log
entry 47). -/
structure Store where
  lines : SMap Line := []
  seed : Nat := 0
  zeroed : Bool := false
  flips : SMap Nat := []
  upsets : List Nat := []
deriving DecidableEq, Repr

/-- One active loop (R79, R84), outermost first in the list: the first and last instruction of its
body, its COUNT, and the counter L, which counts iterations from 0. -/
structure LoopFrame where
  first : Nat
  last : Nat
  count : Nat
  iter : Nat
deriving DecidableEq, Repr

/-- A buffer-table entry and its 4-bit generation (R166). -/
structure Buffer where
  base : Nat := 0
  size : Nat := 0
  gen : BitVec 4 := 0
deriving DecidableEq, Repr

/-- A handle slot (R166, R167). -/
structure Slot where
  handle : W32 := 0
  valid : Bool := false
deriving DecidableEq, Repr

/-- A random context slot (R83). -/
structure Ctx where
  tid : W32 := 0
  ebase : BitVec 48 := 0
  estride : W32 := 0
  tr : Bool := false
deriving DecidableEq, Repr

/-- A summary slot (R125). -/
structure SumSlot where
  value : W64 := 0
  written : Bool := false
  poison : Bool := false
deriving DecidableEq, Repr

/-- One fabric flit's payload as words, with its POISON bit (R143, R158). -/
structure Flit where
  words : List W32 := []
  poison : Bool := false
deriving DecidableEq, Repr

/-- The sideband of a flit (R143). -/
structure Sideband where
  vc : Nat
  kind : Nat
  dx : Nat
  dy : Nat
  tag : Nat
  first : Bool
  last : Bool
  poison : Bool
  twin : Bool
  seq : Nat
  budget : Nat
deriving DecidableEq, Repr

/-- A flit in the mesh (R141, R143): sideband and payload, and the model's own marks: the transmission it belongs to, the
shape entry of its route, the count of CORE cycles outside holds at its injection (R151), the outputs of the router it
stands in that still lack their copy (R156), and whether it has been counted late. -/
structure NetFlit where
  sb : Sideband
  words : List W32
  id : Nat
  shape : Nat
  born : Nat
  todo : List Nat := []
  late : Bool := false
deriving DecidableEq, Repr

/-- The spindle end of an open stream (R181, R183, R188): its pool, the buffers that hold an
unreleased lea, the LEA_SEQ expected next, whether its END lea has arrived, and the flits of the lea that is
arriving. -/
structure SpStream where
  stream : Nat
  queue : Nat
  first : Nat
  count : Nat
  busy : List Nat := []
  expect : Nat := 0
  ended : Bool := false
  inbox : List NetFlit := []
deriving DecidableEq, Repr

/-- A reduction declared at a router (R157): result flits already sent, the flits waiting at each
input in the order west, north, east, south, local (R158), and whether the next result has been counted late (R151). -/
structure Decl where
  rid : Nat
  inputs : BitVec 5
  out : Nat
  twin : Bool
  lines : Nat
  sent : Nat := 0
  inq : List (List Flit) := [[], [], [], [], []]
  late : Bool := false
deriving DecidableEq, Repr

/-- A SEND or SENDH issued and with flits still to inject (R154, R155): its region, or the lines of its hank, and, once the
engine has begun it, the flits that wait at the sender. -/
structure SendOp where
  vc : Nat
  shape : Nat
  line : Nat
  length : Nat
  hank : Option (List Line) := none
  handle : Option (Nat × W32) := none
  ecc : EccResult := ⟨0, []⟩
  started : Bool := false
  left : List NetFlit := []
  /-- Lines of its region that another engine has written meanwhile (R89). -/
  undef : List Nat := []
deriving DecidableEq, Repr

/-- A receive that has issued and is not complete (R154, R155): the message it takes, once its first flit has come, and
the lines taken so far. -/
structure RecvOp where
  shape : Nat
  line : Nat
  length : Nat
  queue : Nat
  handle : Option W32
  /-- The hank a RECVH writes (R154); none for RECV. -/
  hank : Option (BitVec 5) := none
  id : Option Nat := none
  got : List Line := []
  /-- Lines of its region that another engine has written meanwhile (R89). -/
  undef : List Nat := []
deriving DecidableEq, Repr

/-- An RSEND that has issued and has flits still to contribute (R160). -/
structure RsendOp where
  rid : Nat
  line : Nat
  length : Nat
  handle : Option W32
  ecc : EccResult
  started : Bool := false
  left : List Flit := []
  /-- Lines of its region that another engine has written meanwhile (R89). -/
  undef : List Nat := []
deriving DecidableEq, Repr

/-- An RRECV that has issued and waits for result flits: its region, its handle and the lines taken so far (R160). -/
structure RrecvOp where
  rid : Nat
  line : Nat
  length : Nat
  handle : Option W32
  got : List Line := []
  /-- Lines of its region that another engine has written meanwhile (R89). -/
  undef : List Nat := []
deriving DecidableEq, Repr

/-- An instruction in the queue of the transfer engine (R70, R73): the head is the one the engine works on. -/
inductive Xfer where
  | send (o : SendOp)
  | recv (o : RecvOp)
  | rsend (o : RsendOp)
  | rrecv (o : RrecvOp)
  | rdecl (d : Decl)
  | sopen (stream queue first count : Nat)
  | sclose (stream : Nat)
deriving DecidableEq, Repr

/-- The router of a site (R141, R142, R157, R161): active declarations, overflow buffers of the west, north, east and south
inputs, the buffers of the inputs by 4 * input + VC (inputs 0 west, 1 north, 2 east, 3 south, 4 local, 5 the edge or back
port), the skid buffers by input, and the input each output served last by 4 * output + VC (R148). -/
structure Router where
  decls : List Decl := []
  overflow : List (List (Nat × Flit)) := [[], [], [], []]
  bufs : SMap (List NetFlit) := []
  skid : SMap (List NetFlit) := []
  served : SMap Nat := []
deriving DecidableEq, Repr

/-- One logical spindle (R70). -/
structure Spindle where
  halted : Bool := true
  pc : Nat := 0
  loops : List LoopFrame := []
  hanks : List Hank := List.replicate 16 {}
  accs : List Acc := List.replicate 8 {}
  store : Store := {}
  codeLines : Nat := 0
  bufs : SMap Buffer := []
  slots : List Slot := List.replicate 8 {}
  queues : List (List W32) := List.replicate 8 []
  ctxs : List Ctx := List.replicate 4 {}
  sums : List SumSlot := List.replicate 8 {}
  /-- The slots that travel with the doff the spindle has arrived at (R127). -/
  carried : List SumSlot := List.replicate 8 {}
  streams : List SpStream := []
  /-- The queue of the transfer engine, oldest first; at most four instructions (R70, R73). -/
  xq : List Xfer := []
  /-- Handles an engine has yet to put, each with its queue (R155, R169). -/
  puts : List (Nat × W32) := []
  /-- Accumulators an issued instruction may still be writing, and whether it is of the matrix class
  (R88, R90). -/
  inFlight : List (Nat × Bool) := []
  /-- The accumulator the instruction issued just before wrote, if any, and the one the running instruction writes (R90). -/
  justWrote : Option Nat := none
  nowWrote : Option Nat := none
  /-- Hank registers an issued instruction may still be writing (R88). -/
  fresh : List Nat := []
  /-- Regions (first line, lines) that STOREs without a handle have written since the engines were last known idle: no
  hand-off orders another engine after them (R89). -/
  stored : List (Nat × Nat) := []
  /-- DSEQ of the DOFF at issue, and of the doff arrived at (R171). -/
  atDoff : Option W16 := none
  arrived : Option W16 := none
  router : Router := {}
deriving DecidableEq, Repr

/-! ## The bolt controllers -/

/-- A bolt controller as the bolt program and the firmware see it (R132, R133, R136, R436). -/
structure Bolt where
  progRunning : Bool := false
  codeLen : Nat := 0
  dataLen : Nat := 0
  code : Mem := []
  data : Mem := []
  /-- The integer registers, the program counter, and the address and bytes an LR has reserved (R132). -/
  regs : List W64 := List.replicate 32 0
  pc : W64 := 0
  resv : Option (Nat × Nat) := none
  suDone : W16 := 0
  suFlags : W16 := 0
  suRes : List W64 := List.replicate 8 0
  suWait : W16 := 0
  /-- The read of SU_WAIT is blocked (R133). -/
  suBlocked : Bool := false
  f64A : W64 := 0
  f64B : W64 := 0
  f64Res : W64 := 0
  decLast : W64 := 0
  /-- Decision table: entry to tag and word; an absent entry has no valid tag (R136). -/
  decTable : SMap (W16 × W32) := []
  /-- STEP_INFO (R133). -/
  stepInfo : W64 := 0
  /-- The firmware's copy of CHAIN_TIME (R436). -/
  chainTimeCopy : W64 := 0
deriving DecidableEq, Repr

/-! ## The fabric and the doff -/

/-- A transmission that has begun and is not complete (R155, R156, R390): its shape entry, its source as a site row, or
9216 + w for weft die w, its length in lines, the destinations that have not written it, and the handle its SEND puts on a
queue when the last of them has it. -/
structure Sending where
  shape : Nat
  src : Nat
  lines : Nat
  due : List Nat
  handle : Option (Nat × W32) := none
deriving DecidableEq, Repr

/-- A reduction result flit that has left by an edge port (R159). -/
structure EdgeFlit where
  rid : Nat
  flit : Flit
  twin : Bool
  last : Bool
deriving DecidableEq, Repr

/-- One arbiter instance (R174, R175): priorities in force, the requester served last, the holder, and the flits an edge
port has moved under the grant. -/
structure Arbiter where
  prio : W32
  last : Option (Nat × Nat) := none
  holder : Option (Nat × Nat) := none
  passed : Nat := 0
deriving DecidableEq, Repr

/-- The global results of a doff on their way to the bolt controllers (R128, R131). -/
structure DoffResult where
  dseq : W16
  values : List W64
  empty : Byte
  poison : Byte
deriving DecidableEq, Repr

/-- Transmissions, the ports, edge-port results, arbiters and the doff network. -/
structure Fabric where
  /-- Transmissions under way by number. -/
  sending : SMap Sending := []
  /-- Flits waiting outside the mesh to enter by a port, by 4 * port + VC; edge ports 0 to 351, back port q is 352 + q. -/
  portIn : SMap (List NetFlit) := []
  /-- Flits that have left by a back port for an EVAL_RESULT role, by port (R384, R391). -/
  portOut : SMap (List NetFlit) := []
  edge : SMap (List EdgeFlit) := []
  /-- CORE cycles outside holds, by which budgets run down (R151). -/
  cycles : Nat := 0
  /-- Number of the next transmission. -/
  nextMsg : Nat := 0
  arbiters : SMap Arbiter := []
  results : List DoffResult := []
  /-- DSEQs whose results have reached the bolt controllers in this microbatch (R134; log entry 30). -/
  doneSeqs : List W16 := []
  /-- The doff watchdog's count in CORE cycles (R173). -/
  watchdog : Nat := 0
  watchdogOn : Bool := false
  /-- Fenced edge and back ports (R175). -/
  deadPorts : List Nat := []
deriving DecidableEq, Repr

/-! ## Weight streaming -/

/-- A mask report held for one MRID of one edge port (R203). -/
structure MaskRep where
  values : List W32
  poison : Bool
deriving DecidableEq, Repr

/-- What a lea read from its descriptors waits for or holds (R185, R189, R198). -/
inductive LeaKind where
  | data        -- FETCH
  | group       -- FETCH_GROUP or FETCH_EXPERT
  | reject      -- replaces a rejected descriptor (R193)
  | badKind     -- replaces a descriptor rejected under R190
  | fin         -- the END lea
deriving DecidableEq, Repr

/-- A lea in a stream engine, from the reading of its descriptor to its injection. -/
structure Lea where
  kind : LeaKind
  layer : W16 := 0
  tensor : W32 := 0
  brow : W16 := 0
  bcol : W16 := 0
  format : BitVec 4 := 0
  sfmt : BitVec 4 := 0
  maskmode : BitVec 2 := 0
  orient : Bool := false
  /-- Payload lines, and of each merged part its payload lines, source address and stored lines (R192). -/
  paylen : Nat := 0
  parts : List (Nat × Nat × Nat) := []
  group : W16 := 0
  segcount : Nat := 0
  /-- Epoch the lea was fetched under; unresolved epochs it depends on (R199, R201). -/
  epoch : Nat := 0
  depends : List Nat := []
  /-- Predicted active (R199); selection known to be active (R198). -/
  predicted : Bool := true
  active : Option Bool := some true
  fetched : Bool := false
  skip : Bool := false
  makeup : Bool := false
  poison : Bool := false
  payload : List Line := []
  /-- Fault code of a rejected descriptor (R193). -/
  code : Nat := 0
  /-- What its conversions count (R187), and whether it has read an average, and a live W_work, in an evaluation microbatch
  (R281); both take effect when it is injected (R202). -/
  flush : Nat := 0
  sat : Nat := 0
  nonfinite : Nat := 0
  readAvg : Bool := false
  readLive : Bool := false
deriving DecidableEq, Repr

/-- An unresolved prediction of a stream (R199, R200). -/
structure Epoch where
  number : Nat
  /-- For a BRANCH: SEQ, bit, predicted value, and the descriptor address of the other target; none
  for a mask prediction. -/
  branch : Option (W16 × Nat × Bool × Nat)
deriving DecidableEq, Repr

/-- One stream in its stream engine (R181, R182, R191, R198, R199). -/
structure StreamEng where
  /-- Openings reported: site row, pool size, smallest buffer. -/
  opened : List (Nat × Nat × Nat) := []
  running : Bool := false
  depth : Nat := 0
  bufLimit : Nat := 0
  credits : Nat := 0
  pad : Nat := 0
  /-- Byte address of the next descriptor, and whether reading has stopped for this pass. -/
  dptr : Nat := 0
  stopped : Bool := false
  /-- LEA_SEQ of the next lea injected, and whether END has been sent. -/
  seq : Nat := 0
  ended : Bool := false
  leas : List Lea := []
  /-- Descriptors of the lea whose flits are entering the fabric (R191). -/
  leaving : Nat := 0
  epochs : List Epoch := []
  /-- Releases reported by each destination and not yet matched by a credit (R182). -/
  releases : SMap Nat := []
  /-- The first report of this pass, for PRED 0 to 2 (R198). -/
  passReport : Option MaskRep := none
deriving DecidableEq, Repr

/-- The stream engines of the Dudin dies. -/
structure Streams where
  engines : SMap StreamEng := []
  /-- Latest report by key 65536 * port + MRID (R203, R206). -/
  reports : SMap MaskRep := []
  /-- Decisions of B27 posted and not yet relayed; decisions relayed, by SEQ (R200). -/
  relayQueue : List (W16 × W32) := []
  relayed : SMap W32 := []
  /-- Epoch number last opened by each die (R199). -/
  lastEpoch : SMap Nat := []
deriving DecidableEq, Repr

/-! ## The hold -/

/-- A raised hold (R208, R209, R215). Kinds and sources as HOLD_LAST codes them (R217); the rows of the entry sites, the cycles
into them, and the sites the raise has reached, one bit a row. -/
structure HoldRaise where
  kind : Nat
  number : Nat
  source : Nat
  at_ : Nat
  entry : List Nat
  cost : Nat
  reached : Nat := 0
deriving DecidableEq, Repr

/-- The hold (R208 to R214). -/
structure Hold where
  /-- Remaining count of each held site (R209, R213). -/
  counts : SMap Nat := []
  /-- Cycle of the release already scheduled (R215). -/
  releaseAt : Nat := 0
  raises : List HoldRaise := []
  /-- Divisor a throttle hold changes to, and whether the change has been made (R214). -/
  newDiv : Option Nat := none
deriving DecidableEq, Repr

/-! ## The loaded program -/

/-- The tables of the loaded image (R152, R179, R251, R254, R383, R399). -/
structure Prog where
  loaded : Bool := false
  /-- Bit 128*y + x is 1 for an absent logical site (R399). -/
  absent : Nat := 0
  shapes : SMap (BitVec 64) := []
  streams : SMap (BitVec 128) := []
  grads : SMap (BitVec 128) := []
  bobbins : SMap (BitVec 128) := []
  /-- Layer and DSEQ (R254). -/
  exchange : List (W16 × W16) := []
  /-- The module may not run this program after a retirement under R371. -/
  unrunnable : Bool := false
  /-- The program is halted under R173 until a RESTART or a load. -/
  halted173 : Bool := false
deriving DecidableEq, Repr

/-! ## The step -/

/-- The step scalars of one HYPER row (R265, R266). -/
structure RowScalars where
  lr : W64 := 0
  lr32 : W32 := 0
  dfac : W32 := 0
  c1 : W32 := 0
  c2 : W32 := 0
  ca : W32 := 0
  k1 : W32 := 0
  k2 : W32 := 0
deriving DecidableEq, Repr

/-- The step scalars (R266, R267). -/
structure Scalars where
  gnorm : W64 := 0
  clip : W64 := 0
  gscale : W32 := 0
  rows : List RowScalars := []
  /-- r of R267 by tensor, which times lr[h] gives lrr. -/
  ratio : SMap W64 := []
deriving DecidableEq, Repr

/-- Counts of one monitor slot in the running stone (R287). -/
structure Stone where
  zeros : Nat := 0
  flushes : Nat := 0
  saturations : Nat := 0
  nonfinite : Nat := 0
  still : Nat := 0
  elements : Nat := 0
deriving DecidableEq, Repr

/-- A bobbin slot the module has taken (R389). -/
structure Taken where
  slot : Nat
  kind : Nat
  role : Nat
  /-- EVAL_RESULT: bytes written so far, and whether bytes were discarded (R391). -/
  written : Nat := 0
  overflow : Bool := false
deriving DecidableEq, Repr

/-- The step controller (R249 to R284). The phase and the microbatch index are STEP_STATUS. -/
structure Step where
  mbRunning : Bool := false
  /-- m: STEP_MICROBATCHES as taken at the STEP boundary before the step (R250). -/
  total : Nat := 0
  evaluating : Bool := false
  evalIndex : Nat := 0
  /-- Evaluation microbatches of this step (R279). -/
  evalTotal : Nat := 0
  /-- The evaluation microbatch has read an average, and a live W_work (R281). -/
  evalAvg : Bool := false
  evalLive : Bool := false
  /-- The running step is poisoned, tainted, or runs no further microbatch (R102, R173, R253, R370). -/
  poisoned : Bool := false
  tainted : Bool := false
  noMore : Bool := false
  lossBad : Bool := false
  /-- The step ends in PAUSED whatever PAUSE_ON_ABANDON says (R173, R278, R272). -/
  mustPause : Bool := false
  /-- Elements each gradient target row received in this microbatch, and elements it added before a
  stop that a replay must discard (R253, R365). -/
  gradCount : SMap Nat := []
  gradSkip : SMap Nat := []
  /-- Layers whose exchange has started, and microbatches whose LOSS_PLAN results are in (R365). -/
  layersStarted : List Nat := []
  lossDone : List Nat := []
  /-- Gradient blocks received and not yet used, by step, layer, block, phase and direction, each with its
  POISON bit (R321, R322). -/
  partials : SMap (Bool × List W32) := []
  /-- Blocks sent on, blocks whose chain sum stands in G, blocks whose grid sum does (R321 to R323), key
  layer * 2^32 + block; blocks found poisoned. -/
  sentBlocks : List Nat := []
  chained : List Nat := []
  summed : List Nat := []
  badBlocks : List Nat := []
  /-- The exchange has ended (R255). -/
  exchangeEnded : Bool := false
  n2 : W64 := 0
  /-- Aggregates received on ports 0-2, on ports 3-5 and on the column (R258, R325). -/
  voteNext : Option (BitVec 512) := none
  votePrev : Option (BitVec 512) := none
  voteColumn : Option (BitVec 512) := none
  voteSent : Bool := false
  /-- Decision payload held for the open step (R260, R262). -/
  decision : Option (BitVec 512) := none
  /-- The membership epoch under which it was taken (R326). -/
  decisionEpoch : Nat := 0
  /-- A membership change that makes the open decision ABANDON (R261, R319). -/
  memberChange : Bool := false
  scalars : Option Scalars := none
  /-- Entries updated in this step (R274) and the digest formed so far (R277). -/
  updated : List Nat := []
  digest : W64 := 0
  commitTime : Nat := 0
  slowTime : Nat := 0
  mbStart : Nat := 0
  waitStart : Option Nat := none
  waited : Nat := 0
  /-- DIGEST entries held and whether this module's own entry has been sent (R329). -/
  digestSent : Bool := false
  verdictSeen : Bool := false
  divergent : Bool := false
  /-- The record of it (R278, R345). -/
  divergeSeq : Nat := 0
  leaveAsked : Bool := false
  /-- RUN was accepted while a voted object was lost: stepping starts when it has been written (R416). -/
  startHeld : Bool := false
  slots : List Taken := []
  /-- Input slots to hand back when their microbatch ends, handed back with step and mb (R390). -/
  maskSlots : List Taken := []
  /-- Layers where every kept element of G was zero at the update, and layers with any other (R290). -/
  nonZeroLayers : List Nat := []
  /-- STILL and ELEMENTS of COMPACT shards by layer (R296). -/
  compactCounts : SMap (Nat × Nat) := []
  /-- Bands to repack, key tensor * 2^40 + stack * 2^33 + form * 2^32 + band (R247). -/
  repack : List Nat := []
deriving DecidableEq, Repr

/-! ## Links, membership and time -/

/-- A frame given to a port for transmission (R307, R308): TYPE, the 64-bit TAG, STEP, the payload as
one little-endian number and its length in bytes. -/
structure OutFrame where
  typ : Byte
  tag : W64
  step : BitVec 48
  poison : Bool := false
  payload : Nat := 0
  bytes : Nat := 0
deriving DecidableEq, Repr

/-- One link port (R306 to R311, R333). Its state and lanes stand in LINK_STATE. -/
structure Port where
  cable : Bool := false
  txNext : W16 := 0
  rxNext : W16 := 0
  /-- Unacknowledged frames in order, each with its TXSEQ (R309). -/
  unacked : List (W16 × OutFrame) := []
  /-- Frames waiting for a credit or a live port (R310). -/
  waiting : List OutFrame := []
  ctlCredits : Nat := 8
  bulkCredits : Nat := 56
  /-- Buffers to return in the next header (R310). -/
  ctlReturn : Nat := 0
  bulkReturn : Nat := 0
  nakNext : Bool := false
  /-- The frames put on the line at the latest sending, each with its header (R307). -/
  lastSent : List (FrameHdr × OutFrame) := []
  /-- TX of the latest TIME frame received and the own time at its arrival (R333). -/
  echoTx : W64 := 0
  echoRx : W64 := 0
  /-- When the port left UP for an agreed retraining (R315). -/
  leftUp : Option Nat := none
  /-- A lane retirement agreed with the peer and not yet retrained (R311). -/
  retiring : List Nat := []
deriving DecidableEq, Repr

/-- A module that is lost or leaves, as chain index and position. -/
abbrev Peer := Nat × Nat

/-- A joining module this module supplies with a copy (R340, R341): it stands beyond ports 0 to 2 or beyond ports 3 to 5; the
units, rows and the end mark sent so far, and the step in which they were. -/
structure Supply where
  next : Bool
  step : Nat
  sent : Nat := 0
deriving DecidableEq, Repr

/-- Membership and re-weaving (R314 to R319, R339 to R342). L, epoch and MEMBERS are MEMBERSHIP. -/
structure Link where
  ports : List Port := List.replicate 8 {}
  /-- The module holds membership (R314). -/
  member : Bool := false
  /-- JOINs received by the grid head (R314). -/
  joined : List Peer := []
  joinSent : Bool := false
  /-- A step has been decided since LOAD (R314). -/
  decided : Bool := false
  /-- Losses learned after the decision, applied at the STEP boundary (R319): the position, and whether its module left or was
cut off for certain, not merely claimed lost (R315). -/
  pendingLoss : List (Nat × Bool) := []
  /-- Neighbours declared lost (R315). -/
  lostNeighbours : List Neighbour := []
  /-- Losses recorded in this membership epoch (R359). -/
  recorded : List Peer := []
  /-- Re-weave: entries and regions copied, grid sums received, digest matched (R340 to R342). -/
  reweaving : Bool := false
  copied : List (Nat × Nat × Nat) := []
  gridSums : List Nat := []
  /-- Positions whose modules have re-woven with a majority digest (R342). -/
  rewoven : List Peer := []
  /-- Joining modules beside this one (R340). -/
  supply : List Supply := []
  /-- Answers to the queries of a new grid head that are still out (R262). -/
  queries : Nat := 0
  /-- The epoch of the latest query answered, and a decision that came before its step began here (R326). -/
  asked : Option Nat := none
  early : Option (BitVec 512) := none
  digestList : List (BitVec 128) := []
deriving DecidableEq, Repr

/-- Chain time and its synchronisation (R332 to R338). -/
structure Time where
  /-- CHAIN_TIME in grains, and the sixteenths of a grain that slewing has added to it. -/
  now : Nat := 0
  frac : Nat := 0
  /-- CORE cycles and the 5 GHz root cycles not yet making one (R7, R451). -/
  core : Nat := 0
  root : Nat := 0
  /-- Offset still to be slewed out, in sixteenths of a grain (R334). -/
  slew : Int := 0
  /-- Grains counted towards the next slewed sixteenth (R334). -/
  slewPhase : Nat := 0
  /-- The direction of the slew in the latest grain; HOLDOVER goes on with it (R338). -/
  rate : Int := 0
  /-- Hold the counter still for this many grains (R334). -/
  still : Nat := 0
  good : Nat := 0
  /-- An edge aligned chain time after TIME_SOURCE 2 was selected (R337). -/
  aligned : Bool := false
  refLost : Bool := false
deriving DecidableEq, Repr

/-! ## Faults -/

/-- A report about another unit (R357). -/
structure Report where
  time : Nat
  reporter : UnitId
  unit : UnitId
  code : W16
  detail : W32
deriving DecidableEq, Repr

/-- An open report group (R357). -/
structure Group where
  opened : Nat
  reports : List Report
deriving DecidableEq, Repr

/-- A hard indicator seen: time, unit, code, DETAIL (R349, R358). -/
structure HardSeen where
  time : Nat
  unit : UnitId
  code : W16
  detail : W32
deriving DecidableEq, Repr

/-- A retirement whose record waits for its unit's group to close. -/
structure Owed where
  unit : UnitId
  code : Nat
  detail : Nat
  hard : Bool
  /-- The retirement has a record of its own; else the group's root record is it (R358). -/
  own : Bool
  /-- LEFT_MEMBERSHIP and RECOVERY_LAST wait for the record too (R371, R374). -/
  leave : Bool := false
  start : Nat := 0
deriving DecidableEq, Repr

/-- A place of a tier whose reads fail until it is written: slow tier or not, its 64-byte line in that tier's flat memory, and how
many attempts of one read fail (R347). The environment's; nothing in the machine makes one. -/
structure ReadErr where
  slow : Bool
  line : Nat
  fails : Nat
deriving DecidableEq, Repr

/-- Fault handling (R346 to R378). FAULT_LOG and its counters are objects. -/
structure Faults where
  groups : List Group := []
  hard : List HardSeen := []
  /-- Occurrences by unit: level, UNIT, time (R348). -/
  occurrences : List (UnitId × Nat) := []
  retired : List UnitId := []
  /-- Units permanent by recurrence, retired at the next STEP boundary (R351). -/
  dueRetire : List UnitId := []
  /-- Sites due for a fence at the next STEP boundary: bolt, column, row (R366). -/
  dueFence : List (Nat × Nat × Nat) := []
  /-- A spindle stop awaits its fence and replay (R360). -/
  stopped : Bool := false
  stopTime : Nat := 0
  /-- Doffs the replay has yet to complete to reach the point of the stop, and the root of the stop (R374). -/
  doffsAtStop : Nat := 0
  recRoot : Nat := 0
  /-- Logical sites to rewrite before the next microbatch (R362, R366). -/
  moved : List Nat := []
  /-- Runs of spare 2 KiB units taken by redirection, by die, s or 24 + w: first unit, limit, and the
  channels or devices skipped as a bit map (R368). A redirected unit keeps its address, so its contents
  stay in the tier's memory. -/
  redirect : SMap (List (Nat × Nat × Nat)) := []
  /-- Channels and devices whose units' contents were lost and not refilled: (die, channel) with die s or
  24 + w (R369). -/
  lost : List (Nat × Nat) := []
  /-- When the first unit still to be refilled was retired, and its record (R374). -/
  lostSince : Nat := 0
  lostRoot : Nat := 0
  /-- A module was lost and the survivors have not yet gone on: its last frame (R374). -/
  dropSince : Option Nat := none
  /-- Corrected store words of a site, and retried reads of a channel or device, in the running second: key
  site UNIT, or level * 2^32 + UNIT; (second, count) (R347). -/
  eccRate : SMap (Nat × Nat) := []
  /-- Places of the tiers that do not read (R347). -/
  readErrs : List ReadErr := []
  /-- Retirements whose records wait for an open group to close (R352, R357). -/
  owed : List Owed := []
  /-- MODULE_STATE changed before its record was written (R438). -/
  causePending : Bool := false
  /-- Lateness of each policy unit by step, newest first: elapsed cycles and LATE values (R216). -/
  window : List (Nat × SMap Nat) := []
  lateBase : SMap Nat := []
  coreBase : Nat := 0
deriving DecidableEq, Repr

/-! ## Host port and dictionary -/

/-- A TOP response (R424). -/
structure TopResp where
  op : Byte
  status : Byte
  master : BitVec 4
  seq : W16
  session : W16
  index : W16
  subindex : Byte
  flags : Byte
  row : W32
  offset : W32
  arg : W32
  data : List Byte
deriving DecidableEq, Repr

/-- A lock-pending write (R418): object, first row, half, bytes. -/
structure LockWrite where
  id : Nat
  row : Nat
  data : List Byte
  master : Nat
deriving DecidableEq, Repr

/-- A read shadow (R415). -/
structure Shadow where
  id : Nat
  row : Nat
  word : W32
deriving DecidableEq, Repr

/-- One master's kept session and responses (R427), newest first, and its shadows (R415). -/
structure Master where
  session : Option W16 := none
  kept : List (W16 × TopResp) := []
  readShadow : Option Shadow := none
  writeShadow : Option Shadow := none
deriving DecidableEq, Repr

/-- The dictionary (R407 to R436). -/
structure Dict where
  /-- Pending values of RWB objects (R409). -/
  pending : SMap Nat := []
  /-- Values in use of RW objects with a later boundary (R409); absent: the default. -/
  inUse : SMap Nat := []
  /-- The two further copies of a voted row, present only while they may differ (R416). -/
  copies : SMap (Nat × Nat) := []
  /-- A voted object is lost and not yet written (R416). -/
  voteLost : List Nat := []
  lockOwner : Option Nat := none
  lease : W16 := 0
  lockWrites : List LockWrite := []
  masters : List Master := List.replicate 5 {}
  /-- The frame the module sends next, if any (R428). -/
  response : Option TopResp := none
  /-- Position and status of the first failing write of the latest refused COMMIT (R419, R434). -/
  commitPos : Nat := 0
  commitStatus : Nat := 0
deriving DecidableEq, Repr

/-- The host port, BAR windows and image store (R379 to R397). -/
structure HostPort where
  linkUp : Bool := false
  enumerated : Bool := false
  staging : Mem := []
  retained : Mem := []
  /-- Data the latest BAR read returned (R397, R431). -/
  readData : Nat := 0
deriving DecidableEq, Repr

/-! ## Power, start-up, security, pins -/

/-- Power, throttle and thermal state that is no object (R442 to R459). -/
structure Power where
  on : Bool := false
  /-- The input has been absent for 1 s since a trip (R443). -/
  tripped : Bool := false
  /-- Consecutive windows below 38.0 V, below 40.0 V, and at or above 40.0 V (R442). -/
  below38 : Nat := 0
  lowRequest : Bool := false
  inputClear : Nat := 0
  powerRequest : Option Nat := none
  powerClear : Nat := 0
  req6 : Bool := false
  req16 : Bool := false
  clear6 : Nat := 0
  clear16 : Nat := 0
  /-- Windows since every request for the present divisor cleared (R456). -/
  allClear : Nat := 0
  /-- A speed-up waits for its setpoints (R445). -/
  raising : Option Nat := none
  /-- Setpoints lowered after a slowdown have not settled (R445, R456). -/
  settling : Bool := false
  /-- Rails with boost or shunt engaged (R446). -/
  boost : List Nat := []
  shunt : List Nat := []
  /-- Bolts whose rails are off. -/
  railsOff : List Nat := []
  /-- Setpoint divisor in force for the rails (R445). -/
  vsetDiv : Nat := 4
deriving DecidableEq, Repr

/-- A firmware image in flash: header (R471), and whether its magic, key hash, signature and body
digest verify (R472). -/
structure FwImage where
  header : BitVec 1024
  genuine : Bool
deriving DecidableEq, Repr

/-- Firmware images in flash and what the security block counts (R471 to R483). The settings, measurements and
reports are objects. -/
structure Security where
  /-- Draws of DEBUG_NONCE so far, and attestation reports signed (R477, R482). -/
  nonceDraws : Nat := 0
  reports : Nat := 0
  /-- Banks A and B: four images each (R471). -/
  banks : List (List FwImage) := [Config.flashHeader 0, Config.flashHeader 1].map (fun f =>
    (List.range 4).map (fun c => { header := f c, genuine := true }))
  /-- Bank of each running component, 1 for B, and the preferred bank (R474). -/
  runBank : List Bool := [false, false, false, false]
  preferred : Bool := false
  /-- Bank written by the latest install that passed (R474). -/
  installed : Option Bool := none
  /-- FIELD_CLEAR empties the field defect map at the next power-up (R483). -/
  clearField : Bool := false
  /-- Field defect map of the memories: retired channels or devices by die, s or 24 + w (R351, R467). -/
  fieldMemory : SMap Nat := []
  /-- The recovery subset runs (R470). -/
  recovery : Bool := false
deriving DecidableEq, Repr

/-- Pins of the management connector (R497, R498). -/
structure Pins where
  chainIn : Bool := false
  chainOut : Bool := false
  markOut : Bool := false
  /-- REF_OUT, high in the first half of each 10 ns of chain time (R336). -/
  refOut : Bool := false
  /-- When the pulse on MARK_OUT ends (R336). -/
  markFall : Nat := 0
  /-- The latest MARK_IN edge acted on (R498). -/
  lastMark : Option Nat := none
  /-- State of the IEEE 1149.1 test access port, 0 Test-Logic-Reset, and the DBG_HALT level. -/
  tap : Fin 16 := 0
  dbgHalt : Bool := false
  /-- DBG_TDO; none while high impedance. -/
  tdo : Option Bool := none
deriving DecidableEq, Repr

/-! ## The machine -/

/-- The module. -/
structure State where
  /-- Commands waiting, first in first out. -/
  pending : List Instr := []
  /-- Object rows whose value differs from the default, key id * 2^20 + row with
  id = index * 256 + subindex (R407). -/
  objs : SMap Nat := []
  dict : Dict := {}
  spindles : SMap Spindle := []
  bolts : SMap Bolt := []
  fabric : Fabric := {}
  streams : Streams := {}
  hold : Hold := {}
  prog : Prog := {}
  /-- The fast tier: byte a of stack s at s * 2^36 + a (R218). -/
  fast : Mem := []
  /-- Poisoned 64-byte lines of the fast tier (R347, R370). -/
  fastPoison : List Nat := []
  /-- The slow tier: byte a of weft die w at w * 2^39 + a (R219); the bobbin window lies in it. -/
  slow : Mem := []
  step : Step := {}
  /-- Running counts by monitor slot; slot 4096 collects the unwatched (R286, R287). -/
  stones : SMap Stone := []
  /-- Layers whose ZERO_STREAK bit has been set in their current streak (R291). -/
  streaks : List Nat := []
  link : Link := {}
  time : Time := {}
  faults : Faults := {}
  host : HostPort := {}
  power : Power := {}
  sec : Security := {}
  pins : Pins := {}
  /-- The model's own counter of free values drawn (log entry 4); no register of the module. -/
  free : Nat := 0
deriving DecidableEq, Repr

/-- Why the machine stops. No rule of the manual stops this block: every fault the manual describes is
a record in FAULT_LOG and the module goes on. -/
inductive Fault where
  /-- Raised by nothing: the type is kept closed and empty of causes. Safe. -/
  | none_
deriving DecidableEq, Repr

/-- Why a command has no meaning. -/
inductive Refusal where
  /-- An arm of `exec` that has no meaning yet. Safe. -/
  | notModelled (mnemonic : String)
  /-- Raised by a spindle instruction whose fields the image loader refuses with this cause: no image
  that holds it is ever loaded, so no spindle issues it (R33, R62, R86, R124). Safe. -/
  | loaderRefuses (cause : Nat)
deriving DecidableEq, Repr

/-- What a command answers. -/
abbrev Result := Host.Outcome State Fault Refusal

/-- The module as delivered, before the 44 V input is applied: every object at its power-up reset
value (R378, R406, R439, R460, R461, R486), MODULE_STATE BOOT, nothing in any memory, no command
waiting (log entries 1, 2, 5). -/
def State.reset : State := {}

end Sys2Proof.Machine
end

