-- ==== Sys2Proof/Machine/Objects.lean ====
section
/-! DEFINITION. The object dictionary's table: for each object its type, rows, row size, access, apply
boundary, vote attribute, reset rule and default, as the object tables of the chapters give them (R407 to
R411, R416, R421), and a name for each object. An object's id is index * 256 + subindex. Whether an object
that is no counter resets at LOAD where its chapter speaks of counters alone is DEDUCED (log entry 9). -/

namespace Sys2Proof.Machine

/-- One row of the table. Codes of type, access and apply are those of R408, R409 and R411. -/
structure ObjInfo where
  id : Nat
  typ : Nat
  elem : Nat
  rows : Nat
  rowBytes : Nat
  access : Nat
  apply : Nat
  vote : Bool
  loadReset : Bool
  dflt : Nat
deriving DecidableEq, Repr

namespace Obj

/-- MODULE_STATE (0x1000.00, R439). -/
abbrev moduleState : Nat := 0x100000
/-- PART_NUMBER (0x1001.00, R439). -/
abbrev partNumber : Nat := 0x100100
/-- MODULE_REV (0x1002.00, R439). -/
abbrev moduleRev : Nat := 0x100200
/-- SERIAL_NUMBER (0x1003.00, R439). -/
abbrev serialNumber : Nat := 0x100300
/-- VENDOR (0x1004.00, R439). -/
abbrev vendor : Nat := 0x100400
/-- MGMT_MAC (0x1005.00, R439). -/
abbrev mgmtMac : Nat := 0x100500
/-- FIRMWARE_VERSION (0x1006.00, R439). -/
abbrev firmwareVersion : Nat := 0x100600
/-- STATE_SINCE (0x1007.00, R439). -/
abbrev stateSince : Nat := 0x100700
/-- STATE_CAUSE (0x1008.00, R439). -/
abbrev stateCause : Nat := 0x100800
/-- MIRROR_STATUS (0x1010.00, R439). -/
abbrev mirrorStatus : Nat := 0x101000
/-- MIRROR_REFUSED (0x1011.00, R439). -/
abbrev mirrorRefused : Nat := 0x101100
/-- DICT_CURSOR (0x1020.00, R439). -/
abbrev dictCursor : Nat := 0x102000
/-- DICT_WINDOW word 0 (0x1021.00, R439). -/
abbrev dictWindow : Nat := 0x102100
/-- DICT_WINDOW_CTL (0x1022.00, R439). -/
abbrev dictWindowCtl : Nat := 0x102200
/-- DICT_LOCK (0x1030.00, R439). -/
abbrev dictLock : Nat := 0x103000
/-- LOCK_EXPIRIES (0x1031.00, R439). -/
abbrev lockExpiries : Nat := 0x103100
/-- TRIPLE_REPAIRS (0x1032.00, R439). -/
abbrev tripleRepairs : Nat := 0x103200
/-- VOTE_LOST (0x1033.00, R439). -/
abbrev voteLost : Nat := 0x103300
/-- TOP_REQUESTS (0x1040.00, R439). -/
abbrev topRequests : Nat := 0x104000
/-- TOP_DUPLICATES (0x1041.00, R439). -/
abbrev topDuplicates : Nat := 0x104100
/-- TOP_DISCARDED (0x1042.00, R439). -/
abbrev topDiscarded : Nat := 0x104200
/-- PLCA_NODE_COUNT (0x1043.00, R439). -/
abbrev plcaNodeCount : Nat := 0x104300
/-- INPUT_VOLT (0x2000.00, R460). -/
abbrev inputVolt : Nat := 0x200000
/-- INPUT_CURRENT (0x2001.00, R460). -/
abbrev inputCurrent : Nat := 0x200100
/-- INPUT_POWER (0x2002.00, R460). -/
abbrev inputPower : Nat := 0x200200
/-- POWER_LIMIT (0x2003.00, R460). -/
abbrev powerLimit : Nat := 0x200300
/-- INPUT_EVENTS (0x2004.00, R460). -/
abbrev inputEvents : Nat := 0x200400
/-- CURRENT (0x2010.00, R460). -/
abbrev current : Nat := 0x201000
/-- CURRENT_HISTORY (0x2011.00, R460). -/
abbrev currentHistory : Nat := 0x201100
/-- CURRENT_SAMPLE (0x2012.00, R460). -/
abbrev currentSample : Nat := 0x201200
/-- BOLT_VSET (0x2013.00, R460). -/
abbrev boltVset : Nat := 0x201300
/-- BOLT_VSENSE (0x2014.00, R460). -/
abbrev boltVsense : Nat := 0x201400
/-- RAIL_BOOSTS (0x2015.00, R460). -/
abbrev railBoosts : Nat := 0x201500
/-- RAIL_SHUNTS (0x2016.00, R460). -/
abbrev railShunts : Nat := 0x201600
/-- SENSE_SPREAD (0x2017.00, R460). -/
abbrev senseSpread : Nat := 0x201700
/-- BOLT_TEMP (0x2020.00, R460). -/
abbrev boltTemp : Nat := 0x202000
/-- SENSOR_TEMP (0x2021.00, R460). -/
abbrev sensorTemp : Nat := 0x202100
/-- DIE_TEMP (0x2022.00, R460). -/
abbrev dieTemp : Nat := 0x202200
/-- THERMAL_STATE (0x2023.00, R460). -/
abbrev thermalState : Nat := 0x202300
/-- LAST_SHUTDOWN (0x2030.00, R460). -/
abbrev lastShutdown : Nat := 0x203000
/-- CLOCK_STATE (0x3000.00, R461). -/
abbrev clockState : Nat := 0x300000
/-- CLOCK_REF (0x3001.00, R461). -/
abbrev clockRef : Nat := 0x300100
/-- CORE_DIV (0x3002.00, R461). -/
abbrev coreDiv : Nat := 0x300200
/-- DIV_CAP (0x3003.00, R461). -/
abbrev divCap : Nat := 0x300300
/-- THROTTLE_REASON (0x3004.00, R461). -/
abbrev throttleReason : Nat := 0x300400
/-- THROTTLE_CHANGES (0x3005.00, R461). -/
abbrev throttleChanges : Nat := 0x300500
/-- THROTTLE_TIME (0x3006.00, R461). -/
abbrev throttleTime : Nat := 0x300600
/-- CLOCK_PARENT (0x3007.00, R461). -/
abbrev clockParent : Nat := 0x300700
/-- CLOCK_REPARENTS (0x3008.00, R461). -/
abbrev clockReparents : Nat := 0x300800
/-- REF_IN_OFFSET (0x3009.00, R461). -/
abbrev refInOffset : Nat := 0x300900
/-- CHAIN_TIME (0x3010.00, R343). -/
abbrev chainTime : Nat := 0x301000
/-- TIME_STATE (0x3011.00, R343). -/
abbrev timeState : Nat := 0x301100
/-- TIME_OFFSET (0x3012.00, R343). -/
abbrev timeOffset : Nat := 0x301200
/-- TIME_MASTER (0x3013.00, R343). -/
abbrev timeMaster : Nat := 0x301300
/-- TIME_SOURCE (0x3014.00, R343). -/
abbrev timeSource : Nat := 0x301400
/-- MARK_OUT_MODE (0x3015.00, R343). -/
abbrev markOutMode : Nat := 0x301500
/-- MARK_IN_TIME (0x3016.00, R343). -/
abbrev markInTime : Nat := 0x301600
/-- CARDING_MAP (0x4100.00, R378). -/
abbrev cardingMap : Nat := 0x410000
/-- BOLT_STATE (0x4101.00, R378). -/
abbrev boltState : Nat := 0x410100
/-- FENCES (0x4102.00, R378). -/
abbrev fences : Nat := 0x410200
/-- SPINDLE_FLAGS (0x4200.00, R104). -/
abbrev spindleFlags : Nat := 0x420000
/-- SPINDLE_FLAGS_ANY (0x4200.01, R104). -/
abbrev spindleFlagsAny : Nat := 0x420001
/-- SPINDLE_ISSUED (0x4201.00, R104). -/
abbrev spindleIssued : Nat := 0x420100
/-- SPINDLE_ISSUED_SUM (0x4201.01, R104). -/
abbrev spindleIssuedSum : Nat := 0x420101
/-- SPINDLE_CELL_BUSY (0x4202.00, R104). -/
abbrev spindleCellBusy : Nat := 0x420200
/-- SPINDLE_CELL_BUSY_SUM (0x4202.01, R104). -/
abbrev spindleCellBusySum : Nat := 0x420201
/-- SPINDLE_STALL_HANK (0x4203.00, R104). -/
abbrev spindleStallHank : Nat := 0x420300
/-- SPINDLE_STALL_HANK_SUM (0x4203.01, R104). -/
abbrev spindleStallHankSum : Nat := 0x420301
/-- SPINDLE_STALL_QUEUE (0x4204.00, R104). -/
abbrev spindleStallQueue : Nat := 0x420400
/-- SPINDLE_STALL_QUEUE_SUM (0x4204.01, R104). -/
abbrev spindleStallQueueSum : Nat := 0x420401
/-- SPINDLE_NONZEROS (0x4205.00, R104). -/
abbrev spindleNonzeros : Nat := 0x420500
/-- SPINDLE_NONZEROS_SUM (0x4205.01, R104). -/
abbrev spindleNonzerosSum : Nat := 0x420501
/-- SPINDLE_ECC_CORRECTED (0x4206.00, R104). -/
abbrev spindleEccCorrected : Nat := 0x420600
/-- SPINDLE_ECC_CORRECTED_SUM (0x4206.01, R104). -/
abbrev spindleEccCorrectedSum : Nat := 0x420601
/-- SPINDLE_POISON_READS (0x4207.00, R104). -/
abbrev spindlePoisonReads : Nat := 0x420700
/-- SPINDLE_POISON_READS_SUM (0x4207.01, R104). -/
abbrev spindlePoisonReadsSum : Nat := 0x420701
/-- SPINDLE_ALIASES (0x4208.00, R104). -/
abbrev spindleAliases : Nat := 0x420800
/-- SPINDLE_ALIASES_SUM (0x4208.01, R104). -/
abbrev spindleAliasesSum : Nat := 0x420801
/-- SPINDLE_REJECTS (0x4209.00, R104). -/
abbrev spindleRejects : Nat := 0x420900
/-- SPINDLE_REJECTS_SUM (0x4209.01, R104). -/
abbrev spindleRejectsSum : Nat := 0x420901
/-- SUMMARY_PLAN (0x4300.00, R140). -/
abbrev summaryPlan : Nat := 0x430000
/-- SUMMARY_LAST (0x4301.00, R140). -/
abbrev summaryLast : Nat := 0x430100
/-- SUMMARY_LAST_SEQ (0x4302.00, R140). -/
abbrev summaryLastSeq : Nat := 0x430200
/-- DECISION_LAST (0x4303.00, R140). -/
abbrev decisionLast : Nat := 0x430300
/-- BOLT_PROG_TRAP (0x4304.00, R140). -/
abbrev boltProgTrap : Nat := 0x430400
/-- DOFF_WATCHDOG (0x4400.00, R178). -/
abbrev doffWatchdog : Nat := 0x440000
/-- DOFF_LAST (0x4401.00, R178). -/
abbrev doffLast : Nat := 0x440100
/-- DOFF_COUNT (0x4402.00, R178). -/
abbrev doffCount : Nat := 0x440200
/-- DOFF_MISSING (0x4403.00, R178). -/
abbrev doffMissing : Nat := 0x440300
/-- DOFF_MISSING_COUNT (0x4404.00, R178). -/
abbrev doffMissingCount : Nat := 0x440400
/-- TIER_LAYOUT (0x5000.00, R248). -/
abbrev tierLayout : Nat := 0x500000
/-- SLOW_LAYOUT (0x5001.00, R248). -/
abbrev slowLayout : Nat := 0x500100
/-- RESIDENCE (0x5100.00, R248). -/
abbrev residence : Nat := 0x510000
/-- RESIDENCE_USED (0x5101.00, R248). -/
abbrev residenceUsed : Nat := 0x510100
/-- CLASS_PARAMS (0x5102.00, R248). -/
abbrev classParams : Nat := 0x510200
/-- RESIDENCE_LAST_REFUSAL (0x5103.00, R248). -/
abbrev residenceLastRefusal : Nat := 0x510300
/-- RESIDENCE_APPLY_TIME (0x5104.00, R248). -/
abbrev residenceApplyTime : Nat := 0x510400
/-- RESIDENCE_CHANGES (0x5105.00, R248). -/
abbrev residenceChanges : Nat := 0x510500
/-- MASK_TABLE (0x5200.00, R248). -/
abbrev maskTable : Nat := 0x520000
/-- MASK_LAST_EVENT (0x5201.00, R248). -/
abbrev maskLastEvent : Nat := 0x520100
/-- MASK_EVENTS (0x5202.00, R248). -/
abbrev maskEvents : Nat := 0x520200
/-- MASK_REFUSALS (0x5203.00, R248). -/
abbrev maskRefusals : Nat := 0x520300
/-- MASK_SEGMENTS_PEAK (0x5204.00, R248). -/
abbrev maskSegmentsPeak : Nat := 0x520400
/-- CHANNEL_RETIRED (0x5300.00, R378). -/
abbrev channelRetired : Nat := 0x530000
/-- SLOWDEV_RETIRED (0x5301.00, R378). -/
abbrev slowdevRetired : Nat := 0x530100
/-- SPARE_FREE (0x5302.00, R378). -/
abbrev spareFree : Nat := 0x530200
/-- REFILL_STATUS (0x5303.00, R378). -/
abbrev refillStatus : Nat := 0x530300
/-- STEP_COUNT (0x6000.00, R284). -/
abbrev stepCount : Nat := 0x600000
/-- STEP_MICROBATCHES (0x6001.00, R284). -/
abbrev stepMicrobatches : Nat := 0x600100
/-- STEP_CONTROL (0x6002.00, R284). -/
abbrev stepControl : Nat := 0x600200
/-- STEP_STATUS (0x6003.00, R284). -/
abbrev stepStatus : Nat := 0x600300
/-- RUN_SEED (0x6004.00, R284). -/
abbrev runSeed : Nat := 0x600400
/-- CONFIG_DIGEST (0x6005.00, R284). -/
abbrev configDigest : Nat := 0x600500
/-- STEP_RESULT (0x6006.00, R284). -/
abbrev stepResult : Nat := 0x600600
/-- LOSS_PLAN (0x6010.00, R284). -/
abbrev lossPlan : Nat := 0x601000
/-- LOSS_LOCAL (0x6011.00, R284). -/
abbrev lossLocal : Nat := 0x601100
/-- TOKENS_LOCAL (0x6012.00, R284). -/
abbrev tokensLocal : Nat := 0x601200
/-- SCHEDULE (0x6020.00, R284). -/
abbrev schedule : Nat := 0x602000
/-- HYPER (0x6021.00, R284). -/
abbrev hyper : Nat := 0x602100
/-- CLIP_NORM (0x6022.00, R284). -/
abbrev clipNorm : Nat := 0x602200
/-- GRAD_DIVISOR (0x6023.00, R284). -/
abbrev gradDivisor : Nat := 0x602300
/-- EVAL_CONTROL (0x6030.00, R284). -/
abbrev evalControl : Nat := 0x603000
/-- EVAL_MIXED (0x6031.00, R284). -/
abbrev evalMixed : Nat := 0x603100
/-- EVAL_GRAD_DROPPED (0x6032.00, R284). -/
abbrev evalGradDropped : Nat := 0x603200
/-- UPDATE_TIME (0x6040.00, R284). -/
abbrev updateTime : Nat := 0x604000
/-- SLOW_UPDATE_TIME (0x6041.00, R284). -/
abbrev slowUpdateTime : Nat := 0x604100
/-- INPUT_WAIT_TIME (0x6042.00, R284). -/
abbrev inputWaitTime : Nat := 0x604200
/-- STEPS_ABANDONED (0x6043.00, R284). -/
abbrev stepsAbandoned : Nat := 0x604300
/-- JOURNAL_SLOT (0x6050.00, R284). -/
abbrev journalSlot : Nat := 0x605000
/-- JOURNAL_REDOS (0x6051.00, R284). -/
abbrev journalRedos : Nat := 0x605100
/-- DIGEST_LAST (0x6060.00, R284). -/
abbrev digestLast : Nat := 0x606000
/-- MONITOR_CFG (0x7000.00, R299). -/
abbrev monitorCfg : Nat := 0x700000
/-- STONE_LAST (0x7001.00, R299). -/
abbrev stoneLast : Nat := 0x700100
/-- STONE_UNWATCHED (0x7002.00, R299). -/
abbrev stoneUnwatched : Nat := 0x700200
/-- ZERO_STREAK_LIMIT (0x7010.00, R299). -/
abbrev zeroStreakLimit : Nat := 0x701000
/-- ZERO_STREAK_COUNT (0x7011.00, R299). -/
abbrev zeroStreakCount : Nat := 0x701100
/-- ZERO_STREAK (0x7012.00, R299). -/
abbrev zeroStreak : Nat := 0x701200
/-- ZERO_STREAK_ANY (0x7013.00, R299). -/
abbrev zeroStreakAny : Nat := 0x701300
/-- LOSS_SCALE_EXP (0x7020.00, R299). -/
abbrev lossScaleExp : Nat := 0x702000
/-- LS_ENABLE (0x7021.00, R299). -/
abbrev lsEnable : Nat := 0x702100
/-- LS_MIN_EXP (0x7022.00, R299). -/
abbrev lsMinExp : Nat := 0x702200
/-- LS_MAX_EXP (0x7023.00, R299). -/
abbrev lsMaxExp : Nat := 0x702300
/-- LS_INTERVAL (0x7024.00, R299). -/
abbrev lsInterval : Nat := 0x702400
/-- LS_CLEAN_RUN (0x7025.00, R299). -/
abbrev lsCleanRun : Nat := 0x702500
/-- LS_HALVINGS (0x7026.00, R299). -/
abbrev lsHalvings : Nat := 0x702600
/-- LS_DOUBLINGS (0x7027.00, R299). -/
abbrev lsDoublings : Nat := 0x702700
/-- LS_LINE (0x7028.00, R299). -/
abbrev lsLine : Nat := 0x702800
/-- LS_FLOOR_HITS (0x7029.00, R299). -/
abbrev lsFloorHits : Nat := 0x702900
/-- COMPACT_EXP (0x7030.00, R299). -/
abbrev compactExp : Nat := 0x703000
/-- EXP_MAX (0x7031.00, R299). -/
abbrev expMax : Nat := 0x703100
/-- STILL_UP (0x7032.00, R299). -/
abbrev stillUp : Nat := 0x703200
/-- STILL_DOWN (0x7033.00, R299). -/
abbrev stillDown : Nat := 0x703300
/-- EXP_ENABLE (0x7034.00, R299). -/
abbrev expEnable : Nat := 0x703400
/-- LAYER_STILL (0x7035.00, R299). -/
abbrev layerStill : Nat := 0x703500
/-- CHAIN_ADDRESS (0x8000.00, R343). -/
abbrev chainAddress : Nat := 0x800000
/-- CHAIN_INDEX (0x8001.00, R343). -/
abbrev chainIndex : Nat := 0x800100
/-- CHAIN_POSITIONS (0x8002.00, R343). -/
abbrev chainPositions : Nat := 0x800200
/-- GRID_CHAINS (0x8003.00, R343). -/
abbrev gridChains : Nat := 0x800300
/-- MEMBERSHIP (0x8004.00, R343). -/
abbrev membership : Nat := 0x800400
/-- CHAIN_STATUS (0x8005.00, R343). -/
abbrev chainStatus : Nat := 0x800500
/-- CHAIN_LEAVE (0x8006.00, R343). -/
abbrev chainLeave : Nat := 0x800600
/-- SLOW_RATIO (0x8007.00, R343). -/
abbrev slowRatio : Nat := 0x800700
/-- SLOW_WINDOW (0x8008.00, R343). -/
abbrev slowWindow : Nat := 0x800800
/-- PACE_LAST (0x8009.00, R343). -/
abbrev paceLast : Nat := 0x800900
/-- PACE_MEDIAN (0x800a.00, R343). -/
abbrev paceMedian : Nat := 0x800a00
/-- LINK_STATE (0x8010.00, R343). -/
abbrev linkState : Nat := 0x801000
/-- LINK_FRAMES_TX (0x8011.00, R343). -/
abbrev linkFramesTx : Nat := 0x801100
/-- LINK_FRAMES_RX (0x8012.00, R343). -/
abbrev linkFramesRx : Nat := 0x801200
/-- LINK_REPLAYS (0x8013.00, R343). -/
abbrev linkReplays : Nat := 0x801300
/-- LINK_FEC_CORRECTED (0x8014.00, R343). -/
abbrev linkFecCorrected : Nat := 0x801400
/-- LINK_FEC_UNCORR (0x8015.00, R343). -/
abbrev linkFecUncorr : Nat := 0x801500
/-- LINK_CRC_ERRORS (0x8016.00, R343). -/
abbrev linkCrcErrors : Nat := 0x801600
/-- LINK_DELAY (0x8017.00, R343). -/
abbrev linkDelay : Nat := 0x801700
/-- REPLAY_BOUND (0x8018.00, R343). -/
abbrev replayBound : Nat := 0x801800
/-- REWEAVE_CONTROL (0x8020.00, R343). -/
abbrev reweaveControl : Nat := 0x802000
/-- REWEAVE_STATUS (0x8021.00, R343). -/
abbrev reweaveStatus : Nat := 0x802100
/-- HOST_LINK (0x9000.00, R406). -/
abbrev hostLink : Nat := 0x900000
/-- HOST_ERRORS (0x9001.00, R406). -/
abbrev hostErrors : Nat := 0x900100
/-- LOAD_WINDOW (0x9010.00, R406). -/
abbrev loadWindow : Nat := 0x901000
/-- LOAD_CONTROL (0x9011.00, R406). -/
abbrev loadControl : Nat := 0x901100
/-- LOAD_STATUS (0x9012.00, R406). -/
abbrev loadStatus : Nat := 0x901200
/-- IMAGE_ID (0x9013.00, R406). -/
abbrev imageId : Nat := 0x901300
/-- LOADED_ID (0x9014.00, R406). -/
abbrev loadedId : Nat := 0x901400
/-- PATCH_VALUES (0x9015.00, R406). -/
abbrev patchValues : Nat := 0x901500
/-- LOAD_TIME (0x9016.00, R406). -/
abbrev loadTime : Nat := 0x901600
/-- WINDOW_REFUSED (0x9017.00, R406). -/
abbrev windowRefused : Nat := 0x901700
/-- BOBBIN_TAKEN (0x9020.00, R406). -/
abbrev bobbinTaken : Nat := 0x902000
/-- BOBBIN_RETURNED (0x9021.00, R406). -/
abbrev bobbinReturned : Nat := 0x902100
/-- BOBBIN_WAIT (0x9022.00, R406). -/
abbrev bobbinWait : Nat := 0x902200
/-- FAULT_LOG (0xa000.00, R378). -/
abbrev faultLog : Nat := 0xa00000
/-- FAULT_SEQ_LAST (0xa001.00, R378). -/
abbrev faultSeqLast : Nat := 0xa00100
/-- FAULT_REPORTS (0xa002.00, R378). -/
abbrev faultReports : Nat := 0xa00200
/-- FAULT_FOLDED (0xa003.00, R378). -/
abbrev faultFolded : Nat := 0xa00300
/-- FAULT_PERM_RECUR (0xa010.00, R378). -/
abbrev faultPermRecur : Nat := 0xa01000
/-- FAULT_PERM_WINDOW (0xa011.00, R378). -/
abbrev faultPermWindow : Nat := 0xa01100
/-- RECOVERY_LAST (0xa020.00, R378). -/
abbrev recoveryLast : Nat := 0xa02000
/-- REPLAYS (0xa021.00, R378). -/
abbrev replays : Nat := 0xa02100
/-- ARB_PRIO (0xa200.00, R178). -/
abbrev arbPrio : Nat := 0xa20000
/-- GRANT_WATCHDOG (0xa201.00, R178). -/
abbrev grantWatchdog : Nat := 0xa20100
/-- GRANT_WATCHDOG_BITES (0xa202.00, R178). -/
abbrev grantWatchdogBites : Nat := 0xa20200
/-- HOLD_POLICY_SHARE (0xa210.00, R217). -/
abbrev holdPolicyShare : Nat := 0xa21000
/-- HOLD_POLICY_WINDOW (0xa211.00, R217). -/
abbrev holdPolicyWindow : Nat := 0xa21100
/-- HOLD_POLICY_FENCES (0xa212.00, R217). -/
abbrev holdPolicyFences : Nat := 0xa21200
/-- SECURITY_STATE (0xb000.00, R486). -/
abbrev securityState : Nat := 0xb00000
/-- FW_KEY_HASH (0xb001.00, R486). -/
abbrev fwKeyHash : Nat := 0xb00100
/-- DEBUG_KEY_HASH (0xb002.00, R486). -/
abbrev debugKeyHash : Nat := 0xb00200
/-- IDENTITY_PUBKEY (0xb003.00, R486). -/
abbrev identityPubkey : Nat := 0xb00300
/-- IDENTITY_CERT (0xb004.00, R486). -/
abbrev identityCert : Nat := 0xb00400
/-- IDENTITY_CERT_LEN (0xb005.00, R486). -/
abbrev identityCertLen : Nat := 0xb00500
/-- OWNER_KEY_HASH (0xb010.00, R486). -/
abbrev ownerKeyHash : Nat := 0xb01000
/-- IMAGE_SIGN_REQUIRED (0xb011.00, R486). -/
abbrev imageSignRequired : Nat := 0xb01100
/-- CLEAR_ON_UNLOAD (0xb012.00, R486). -/
abbrev clearOnUnload : Nat := 0xb01200
/-- FW_MIN_SVN (0xb013.00, R486). -/
abbrev fwMinSvn : Nat := 0xb01300
/-- ATTEST_NONCE (0xb020.00, R486). -/
abbrev attestNonce : Nat := 0xb02000
/-- ATTEST_CONTROL (0xb021.00, R486). -/
abbrev attestControl : Nat := 0xb02100
/-- ATTEST_REPORT (0xb022.00, R486). -/
abbrev attestReport : Nat := 0xb02200
/-- MEASUREMENT (0xb023.00, R486). -/
abbrev measurement : Nat := 0xb02300
/-- DEBUG_NONCE (0xb030.00, R486). -/
abbrev debugNonce : Nat := 0xb03000
/-- DEBUG_TOKEN (0xb031.00, R486). -/
abbrev debugToken : Nat := 0xb03100
/-- DEBUG_STATE (0xb032.00, R486). -/
abbrev debugState : Nat := 0xb03200
/-- FW_BANK (0xb040.00, R486). -/
abbrev fwBank : Nat := 0xb04000
/-- FW_CONTROL (0xb041.00, R486). -/
abbrev fwControl : Nat := 0xb04100
/-- FW_STATUS (0xb042.00, R486). -/
abbrev fwStatus : Nat := 0xb04200
/-- SELFTEST_CONTROL (0xc000.00, R487). -/
abbrev selftestControl : Nat := 0xc00000
/-- STARTUP_TEST (0xc001.00, R487). -/
abbrev startupTest : Nat := 0xc00100
/-- STARTUP_REDUCED (0xc002.00, R487). -/
abbrev startupReduced : Nat := 0xc00200
/-- SELFTEST_STATUS (0xc003.00, R487). -/
abbrev selftestStatus : Nat := 0xc00300
/-- SELFTEST_SITES (0xc004.00, R487). -/
abbrev selftestSites : Nat := 0xc00400
/-- FACTORY_DEFECTS (0xc005.00, R487). -/
abbrev factoryDefects : Nat := 0xc00500
/-- FIELD_DEFECTS (0xc006.00, R487). -/
abbrev fieldDefects : Nat := 0xc00600
/-- SELFTEST_MEMORY (0xc007.00, R487). -/
abbrev selftestMemory : Nat := 0xc00700
/-- SELFTEST_TIME (0xc008.00, R487). -/
abbrev selftestTime : Nat := 0xc00800
/-- STREAM_LEAS (0xd000.00, R217). -/
abbrev streamLeas : Nat := 0xd00000
/-- STREAM_MERGED (0xd001.00, R217). -/
abbrev streamMerged : Nat := 0xd00100
/-- STREAM_REJECTS (0xd002.00, R217). -/
abbrev streamRejects : Nat := 0xd00200
/-- STREAM_POISONED (0xd003.00, R217). -/
abbrev streamPoisoned : Nat := 0xd00300
/-- SPEC_SQUASHED (0xd004.00, R217). -/
abbrev specSquashed : Nat := 0xd00400
/-- PRED_HITS (0xd005.00, R217). -/
abbrev predHits : Nat := 0xd00500
/-- PRED_MAKEUP (0xd006.00, R217). -/
abbrev predMakeup : Nat := 0xd00600
/-- PRED_WASTED (0xd007.00, R217). -/
abbrev predWasted : Nat := 0xd00700
/-- DESC_PEAK (0xd008.00, R217). -/
abbrev descPeak : Nat := 0xd00800
/-- LEA_HEADER_ERRORS (0xd009.00, R217). -/
abbrev leaHeaderErrors : Nat := 0xd00900
/-- HOLD_COUNT (0xd010.00, R217). -/
abbrev holdCount : Nat := 0xd01000
/-- HOLD_CYCLES (0xd011.00, R217). -/
abbrev holdCycles : Nat := 0xd01100
/-- HOLD_LAST (0xd012.00, R217). -/
abbrev holdLast : Nat := 0xd01200
/-- LATE_DUDIN (0xd013.00, R217). -/
abbrev lateDudin : Nat := 0xd01300
/-- LATE_WEFT (0xd014.00, R217). -/
abbrev lateWeft : Nat := 0xd01400
/-- LATE_PORT (0xd015.00, R217). -/
abbrev latePort : Nat := 0xd01500
/-- LATE_SPINDLE (0xd016.00, R217). -/
abbrev lateSpindle : Nat := 0xd01600
/-- LATE_SPINDLE_SUM (0xd016.01, R217). -/
abbrev lateSpindleSum : Nat := 0xd01601
/-- LATE_CLOCK (0xd017.00, R217). -/
abbrev lateClock : Nat := 0xd01700
/-- FABRIC_FLITS (0xd100.00, R178). -/
abbrev fabricFlits : Nat := 0xd10000
/-- FABRIC_LATE (0xd101.00, R178). -/
abbrev fabricLate : Nat := 0xd10100
/-- REDUCTION_WAIT (0xd102.00, R178). -/
abbrev reductionWait : Nat := 0xd10200
/-- EDGE_PORT_BUSY (0xd103.00, R178). -/
abbrev edgePortBusy : Nat := 0xd10300
/-- BACK_PORT_BUSY (0xd104.00, R178). -/
abbrev backPortBusy : Nat := 0xd10400
/-- SKID_PEAK (0xd105.00, R178). -/
abbrev skidPeak : Nat := 0xd10500

end Obj

/-- Objects 0x1000 to 0x1021. -/
def objTable0 : List ObjInfo := [
  ⟨0x100000, 1, 0, 1, 1, 0, 7, false, false, 0⟩,
  ⟨0x100100, 11, 0, 1, 16, 0, 7, false, false, 0x412d34325754⟩,
  ⟨0x100200, 1, 0, 1, 1, 0, 7, false, false, 65⟩,
  ⟨0x100300, 11, 0, 1, 16, 0, 7, false, false, 0⟩,
  ⟨0x100400, 11, 0, 1, 16, 0, 7, false, false, 0x6c6f6b7369726f4d⟩,
  ⟨0x100500, 4, 0, 1, 8, 0, 7, false, false, 0⟩,
  ⟨0x100600, 13, 3, 4, 4, 0, 7, false, false, 0⟩,
  ⟨0x100700, 4, 0, 1, 8, 0, 7, false, false, 0⟩,
  ⟨0x100800, 3, 0, 1, 4, 0, 7, false, false, 0⟩,
  ⟨0x101000, 3, 0, 1, 4, 0, 7, false, false, 0⟩,
  ⟨0x101100, 4, 0, 1, 8, 0, 7, false, false, 0⟩,
  ⟨0x102000, 4, 0, 1, 8, 1, 0, false, false, 0⟩,
  ⟨0x102100, 4, 0, 1, 8, 1, 0, false, false, 0⟩,
  ⟨0x102101, 4, 0, 1, 8, 1, 0, false, false, 0⟩,
  ⟨0x102102, 4, 0, 1, 8, 1, 0, false, false, 0⟩,
  ⟨0x102103, 4, 0, 1, 8, 1, 0, false, false, 0⟩,
  ⟨0x102104, 4, 0, 1, 8, 1, 0, false, false, 0⟩,
  ⟨0x102105, 4, 0, 1, 8, 1, 0, false, false, 0⟩,
  ⟨0x102106, 4, 0, 1, 8, 1, 0, false, false, 0⟩,
  ⟨0x102107, 4, 0, 1, 8, 1, 0, false, false, 0⟩,
  ⟨0x102108, 4, 0, 1, 8, 1, 0, false, false, 0⟩,
  ⟨0x102109, 4, 0, 1, 8, 1, 0, false, false, 0⟩,
  ⟨0x10210a, 4, 0, 1, 8, 1, 0, false, false, 0⟩,
  ⟨0x10210b, 4, 0, 1, 8, 1, 0, false, false, 0⟩,
  ⟨0x10210c, 4, 0, 1, 8, 1, 0, false, false, 0⟩,
  ⟨0x10210d, 4, 0, 1, 8, 1, 0, false, false, 0⟩,
  ⟨0x10210e, 4, 0, 1, 8, 1, 0, false, false, 0⟩,
  ⟨0x10210f, 4, 0, 1, 8, 1, 0, false, false, 0⟩,
  ⟨0x102110, 4, 0, 1, 8, 1, 0, false, false, 0⟩,
  ⟨0x102111, 4, 0, 1, 8, 1, 0, false, false, 0⟩,
  ⟨0x102112, 4, 0, 1, 8, 1, 0, false, false, 0⟩,
  ⟨0x102113, 4, 0, 1, 8, 1, 0, false, false, 0⟩,
  ⟨0x102114, 4, 0, 1, 8, 1, 0, false, false, 0⟩,
  ⟨0x102115, 4, 0, 1, 8, 1, 0, false, false, 0⟩,
  ⟨0x102116, 4, 0, 1, 8, 1, 0, false, false, 0⟩,
  ⟨0x102117, 4, 0, 1, 8, 1, 0, false, false, 0⟩,
  ⟨0x102118, 4, 0, 1, 8, 1, 0, false, false, 0⟩,
  ⟨0x102119, 4, 0, 1, 8, 1, 0, false, false, 0⟩,
  ⟨0x10211a, 4, 0, 1, 8, 1, 0, false, false, 0⟩,
  ⟨0x10211b, 4, 0, 1, 8, 1, 0, false, false, 0⟩]
/-- Objects 0x1021 to 0x3008. -/
def objTable1 : List ObjInfo := [
  ⟨0x10211c, 4, 0, 1, 8, 1, 0, false, false, 0⟩,
  ⟨0x10211d, 4, 0, 1, 8, 1, 0, false, false, 0⟩,
  ⟨0x10211e, 4, 0, 1, 8, 1, 0, false, false, 0⟩,
  ⟨0x10211f, 4, 0, 1, 8, 1, 0, false, false, 0⟩,
  ⟨0x102200, 10, 0, 1, 4, 1, 0, false, false, 0⟩,
  ⟨0x103000, 3, 0, 1, 4, 1, 0, false, false, 0xe0000000⟩,
  ⟨0x103100, 4, 0, 1, 8, 0, 7, false, false, 0⟩,
  ⟨0x103200, 4, 0, 1, 8, 0, 7, false, false, 0⟩,
  ⟨0x103300, 3, 0, 1, 4, 0, 7, false, false, 0⟩,
  ⟨0x104000, 13, 4, 5, 8, 0, 7, false, false, 0⟩,
  ⟨0x104100, 13, 4, 5, 8, 0, 7, false, false, 0⟩,
  ⟨0x104200, 4, 0, 1, 8, 0, 7, false, false, 0⟩,
  ⟨0x104300, 1, 0, 1, 1, 1, 0, false, false, 36⟩,
  ⟨0x200000, 2, 0, 1, 2, 0, 7, false, false, 0⟩,
  ⟨0x200100, 2, 0, 1, 2, 0, 7, false, false, 0⟩,
  ⟨0x200200, 3, 0, 1, 4, 0, 7, false, false, 0⟩,
  ⟨0x200300, 3, 0, 1, 4, 1, 0, false, false, 30000⟩,
  ⟨0x200400, 4, 0, 1, 8, 0, 7, false, false, 0⟩,
  ⟨0x201000, 13, 2, 154, 2, 0, 7, false, false, 0⟩,
  ⟨0x201100, 13, 2, 157696, 2, 0, 7, false, false, 0⟩,
  ⟨0x201200, 4, 0, 1, 8, 0, 7, false, false, 0⟩,
  ⟨0x201300, 13, 4, 48, 8, 0, 7, false, false, 0⟩,
  ⟨0x201400, 13, 4, 48, 8, 0, 7, false, false, 0⟩,
  ⟨0x201500, 13, 4, 96, 8, 0, 7, false, false, 0⟩,
  ⟨0x201600, 13, 4, 96, 8, 0, 7, false, false, 0⟩,
  ⟨0x201700, 13, 4, 48, 8, 0, 7, false, false, 0⟩,
  ⟨0x202000, 13, 5, 48, 4, 0, 7, false, false, 0⟩,
  ⟨0x202100, 13, 5, 768, 4, 0, 7, false, false, 0⟩,
  ⟨0x202200, 13, 5, 57, 4, 0, 7, false, false, 0⟩,
  ⟨0x202300, 3, 0, 1, 4, 0, 7, false, false, 0⟩,
  ⟨0x203000, 12, 0, 1, 32, 0, 7, false, false, 0⟩,
  ⟨0x300000, 3, 0, 1, 4, 0, 7, false, false, 0⟩,
  ⟨0x300100, 1, 0, 1, 1, 1, 0, false, false, 0⟩,
  ⟨0x300200, 1, 0, 1, 1, 0, 7, false, false, 4⟩,
  ⟨0x300300, 1, 0, 1, 1, 1, 0, false, false, 4⟩,
  ⟨0x300400, 3, 0, 1, 4, 0, 7, false, false, 0⟩,
  ⟨0x300500, 4, 0, 1, 8, 0, 7, false, false, 0⟩,
  ⟨0x300600, 13, 4, 5, 8, 0, 7, false, false, 0⟩,
  ⟨0x300700, 13, 1, 48, 1, 0, 7, false, false, 7⟩,
  ⟨0x300800, 4, 0, 1, 8, 0, 7, false, false, 0⟩]
/-- Objects 0x3009 to 0x4403. -/
def objTable2 : List ObjInfo := [
  ⟨0x300900, 5, 0, 1, 4, 0, 7, false, false, 0x80000000⟩,
  ⟨0x301000, 4, 0, 1, 8, 0, 7, false, false, 0⟩,
  ⟨0x301100, 3, 0, 1, 4, 0, 7, false, false, 240⟩,
  ⟨0x301200, 5, 0, 1, 4, 0, 7, false, false, 0⟩,
  ⟨0x301300, 2, 0, 1, 2, 1, 0, true, false, 1⟩,
  ⟨0x301400, 1, 0, 1, 1, 1, 0, false, false, 0⟩,
  ⟨0x301500, 1, 0, 1, 1, 1, 0, false, false, 0⟩,
  ⟨0x301600, 4, 0, 1, 8, 0, 7, false, false, 0⟩,
  ⟨0x410000, 13, 4, 48, 8, 0, 7, false, false, 0xffffffffffffffff⟩,
  ⟨0x410100, 13, 3, 48, 4, 0, 7, false, false, 0⟩,
  ⟨0x410200, 3, 0, 1, 4, 0, 7, false, false, 0⟩,
  ⟨0x420000, 13, 3, 9216, 4, 1, 0, false, true, 0⟩,
  ⟨0x420001, 3, 0, 1, 4, 0, 7, false, true, 0⟩,
  ⟨0x420100, 13, 4, 9216, 8, 0, 7, false, true, 0⟩,
  ⟨0x420101, 4, 0, 1, 8, 0, 7, false, true, 0⟩,
  ⟨0x420200, 13, 4, 9216, 8, 0, 7, false, true, 0⟩,
  ⟨0x420201, 4, 0, 1, 8, 0, 7, false, true, 0⟩,
  ⟨0x420300, 13, 4, 9216, 8, 0, 7, false, true, 0⟩,
  ⟨0x420301, 4, 0, 1, 8, 0, 7, false, true, 0⟩,
  ⟨0x420400, 13, 4, 9216, 8, 0, 7, false, true, 0⟩,
  ⟨0x420401, 4, 0, 1, 8, 0, 7, false, true, 0⟩,
  ⟨0x420500, 13, 4, 9216, 8, 0, 7, false, true, 0⟩,
  ⟨0x420501, 4, 0, 1, 8, 0, 7, false, true, 0⟩,
  ⟨0x420600, 13, 3, 9216, 4, 0, 7, false, true, 0⟩,
  ⟨0x420601, 4, 0, 1, 8, 0, 7, false, true, 0⟩,
  ⟨0x420700, 13, 3, 9216, 4, 0, 7, false, true, 0⟩,
  ⟨0x420701, 4, 0, 1, 8, 0, 7, false, true, 0⟩,
  ⟨0x420800, 13, 3, 9216, 4, 0, 7, false, true, 0⟩,
  ⟨0x420801, 4, 0, 1, 8, 0, 7, false, true, 0⟩,
  ⟨0x420900, 13, 3, 9216, 4, 0, 7, false, true, 0⟩,
  ⟨0x420901, 4, 0, 1, 8, 0, 7, false, true, 0⟩,
  ⟨0x430000, 3, 0, 1, 4, 0, 7, false, true, 0⟩,
  ⟨0x430100, 13, 8, 8, 8, 0, 7, false, true, 0⟩,
  ⟨0x430200, 3, 0, 1, 4, 0, 7, false, true, 0⟩,
  ⟨0x430300, 13, 4, 48, 8, 0, 7, false, true, 0⟩,
  ⟨0x430400, 13, 4, 48, 8, 1, 0, false, true, 0⟩,
  ⟨0x440000, 3, 0, 1, 4, 1, 5, false, false, 0x1000000⟩,
  ⟨0x440100, 3, 0, 1, 4, 0, 7, false, true, 0⟩,
  ⟨0x440200, 4, 0, 1, 8, 0, 7, false, true, 0⟩,
  ⟨0x440300, 13, 3, 16, 4, 0, 7, false, true, 0xffffffff⟩]
/-- Objects 0x4404 to 0x6050. -/
def objTable3 : List ObjInfo := [
  ⟨0x440400, 3, 0, 1, 4, 0, 7, false, true, 0⟩,
  ⟨0x500000, 13, 12, 24, 32, 0, 7, false, true, 0⟩,
  ⟨0x500100, 13, 4, 8, 8, 0, 7, false, true, 0⟩,
  ⟨0x510000, 13, 12, 262144, 32, 3, 4, false, true, 0⟩,
  ⟨0x510100, 3, 0, 1, 4, 0, 7, false, true, 0⟩,
  ⟨0x510200, 13, 4, 3, 8, 0, 7, false, true, 0⟩,
  ⟨0x510300, 4, 0, 1, 8, 0, 7, false, false, 0⟩,
  ⟨0x510400, 4, 0, 1, 8, 0, 7, false, false, 0⟩,
  ⟨0x510500, 4, 0, 1, 8, 0, 7, false, true, 0⟩,
  ⟨0x520000, 13, 12, 4096, 32, 0, 7, false, true, 0⟩,
  ⟨0x520100, 13, 3, 4096, 4, 0, 7, false, true, 0xffffffff⟩,
  ⟨0x520200, 4, 0, 1, 8, 0, 7, false, true, 0⟩,
  ⟨0x520300, 3, 0, 1, 4, 0, 7, false, true, 0⟩,
  ⟨0x520400, 13, 3, 4096, 4, 0, 7, false, true, 0⟩,
  ⟨0x530000, 13, 4, 24, 8, 0, 7, false, false, 0⟩,
  ⟨0x530100, 3, 0, 1, 4, 0, 7, false, false, 0⟩,
  ⟨0x530200, 13, 3, 32, 4, 0, 7, false, false, 0⟩,
  ⟨0x530300, 3, 0, 1, 4, 0, 7, false, false, 0⟩,
  ⟨0x600000, 4, 0, 1, 8, 3, 5, true, false, 0⟩,
  ⟨0x600100, 3, 0, 1, 4, 3, 4, true, false, 16⟩,
  ⟨0x600200, 10, 0, 1, 4, 1, 0, false, false, 4⟩,
  ⟨0x600300, 3, 0, 1, 4, 0, 7, false, false, 0⟩,
  ⟨0x600400, 4, 0, 1, 8, 1, 5, true, false, 0⟩,
  ⟨0x600500, 4, 0, 1, 8, 0, 7, false, false, 0⟩,
  ⟨0x600600, 12, 0, 1, 64, 0, 7, false, false, 0⟩,
  ⟨0x601000, 3, 0, 1, 4, 0, 7, false, false, 0⟩,
  ⟨0x601100, 8, 0, 1, 8, 0, 7, false, false, 0⟩,
  ⟨0x601200, 4, 0, 1, 8, 0, 7, false, false, 0⟩,
  ⟨0x602000, 13, 12, 16, 32, 3, 4, true, false, 0⟩,
  ⟨0x602100, 13, 12, 256, 64, 3, 4, true, false, 0⟩,
  ⟨0x602200, 8, 0, 1, 8, 3, 4, true, false, 0⟩,
  ⟨0x602300, 8, 0, 1, 8, 3, 4, true, false, 0⟩,
  ⟨0x603000, 3, 0, 1, 4, 3, 4, false, false, 0x10000⟩,
  ⟨0x603100, 4, 0, 1, 8, 0, 7, false, true, 0⟩,
  ⟨0x603200, 4, 0, 1, 8, 0, 7, false, true, 0⟩,
  ⟨0x604000, 4, 0, 1, 8, 0, 7, false, false, 0⟩,
  ⟨0x604100, 4, 0, 1, 8, 0, 7, false, false, 0⟩,
  ⟨0x604200, 4, 0, 1, 8, 0, 7, false, true, 0⟩,
  ⟨0x604300, 4, 0, 1, 8, 0, 7, false, true, 0⟩,
  ⟨0x605000, 13, 4, 256, 8, 0, 7, false, false, 0⟩]
/-- Objects 0x6051 to 0x8013. -/
def objTable4 : List ObjInfo := [
  ⟨0x605100, 4, 0, 1, 8, 0, 7, false, true, 0⟩,
  ⟨0x606000, 4, 0, 1, 8, 0, 7, false, false, 0⟩,
  ⟨0x700000, 13, 12, 4096, 16, 3, 4, false, true, 0⟩,
  ⟨0x700100, 13, 12, 4096, 64, 0, 7, false, true, 0⟩,
  ⟨0x700200, 12, 0, 1, 64, 0, 7, false, true, 0⟩,
  ⟨0x701000, 3, 0, 1, 4, 1, 4, false, true, 64⟩,
  ⟨0x701100, 13, 3, 4096, 4, 0, 7, false, true, 0⟩,
  ⟨0x701200, 13, 4, 64, 8, 1, 0, false, true, 0⟩,
  ⟨0x701300, 9, 0, 1, 1, 0, 7, false, true, 0⟩,
  ⟨0x702000, 5, 0, 1, 4, 3, 4, true, true, 15⟩,
  ⟨0x702100, 9, 0, 1, 1, 3, 4, false, true, 1⟩,
  ⟨0x702200, 5, 0, 1, 4, 3, 4, false, true, 0⟩,
  ⟨0x702300, 5, 0, 1, 4, 3, 4, false, true, 24⟩,
  ⟨0x702400, 3, 0, 1, 4, 3, 4, false, true, 2000⟩,
  ⟨0x702500, 3, 0, 1, 4, 0, 7, false, true, 0⟩,
  ⟨0x702600, 4, 0, 1, 8, 0, 7, false, true, 0⟩,
  ⟨0x702700, 4, 0, 1, 8, 0, 7, false, true, 0⟩,
  ⟨0x702800, 3, 0, 1, 4, 0, 7, false, true, 0⟩,
  ⟨0x702900, 4, 0, 1, 8, 0, 7, false, true, 0⟩,
  ⟨0x703000, 13, 1, 4096, 1, 3, 4, true, true, 0⟩,
  ⟨0x703100, 3, 0, 1, 4, 3, 4, false, true, 3⟩,
  ⟨0x703200, 3, 0, 1, 4, 3, 4, false, true, 9000⟩,
  ⟨0x703300, 3, 0, 1, 4, 3, 4, false, true, 5000⟩,
  ⟨0x703400, 9, 0, 1, 1, 3, 4, false, true, 1⟩,
  ⟨0x703500, 13, 4, 4096, 8, 0, 7, false, true, 0⟩,
  ⟨0x800000, 1, 0, 1, 1, 1, 0, true, false, 0⟩,
  ⟨0x800100, 1, 0, 1, 1, 1, 0, true, false, 0⟩,
  ⟨0x800200, 1, 0, 1, 1, 1, 0, true, false, 1⟩,
  ⟨0x800300, 1, 0, 1, 1, 1, 0, true, false, 1⟩,
  ⟨0x800400, 4, 0, 1, 8, 0, 7, false, false, 0⟩,
  ⟨0x800500, 3, 0, 1, 4, 0, 7, false, false, 0⟩,
  ⟨0x800600, 9, 0, 1, 1, 2, 4, false, false, 0⟩,
  ⟨0x800700, 3, 0, 1, 4, 1, 4, false, false, 120⟩,
  ⟨0x800800, 3, 0, 1, 4, 1, 4, false, false, 20⟩,
  ⟨0x800900, 4, 0, 1, 8, 0, 7, false, false, 0⟩,
  ⟨0x800a00, 4, 0, 1, 8, 0, 7, false, false, 0⟩,
  ⟨0x801000, 13, 3, 8, 4, 0, 7, false, false, 0⟩,
  ⟨0x801100, 13, 4, 8, 8, 0, 7, false, true, 0⟩,
  ⟨0x801200, 13, 4, 8, 8, 0, 7, false, true, 0⟩,
  ⟨0x801300, 13, 4, 8, 8, 0, 7, false, true, 0⟩]
/-- Objects 0x8014 to 0xb005. -/
def objTable5 : List ObjInfo := [
  ⟨0x801400, 13, 4, 8, 8, 0, 7, false, true, 0⟩,
  ⟨0x801500, 13, 4, 8, 8, 0, 7, false, true, 0⟩,
  ⟨0x801600, 13, 4, 8, 8, 0, 7, false, true, 0⟩,
  ⟨0x801700, 13, 3, 8, 4, 0, 7, false, false, 0⟩,
  ⟨0x801800, 3, 0, 1, 4, 1, 5, false, false, 8192⟩,
  ⟨0x802000, 10, 0, 1, 4, 1, 0, false, false, 0⟩,
  ⟨0x802100, 3, 0, 1, 4, 0, 7, false, false, 0⟩,
  ⟨0x900000, 3, 0, 1, 4, 0, 7, false, false, 0⟩,
  ⟨0x900100, 4, 0, 1, 8, 0, 7, false, true, 0⟩,
  ⟨0x901000, 4, 0, 1, 8, 1, 0, false, false, 0⟩,
  ⟨0x901100, 10, 0, 1, 4, 1, 0, false, false, 0⟩,
  ⟨0x901200, 3, 0, 1, 4, 0, 7, false, false, 0⟩,
  ⟨0x901300, 4, 0, 1, 8, 0, 7, false, false, 0⟩,
  ⟨0x901400, 4, 0, 1, 8, 0, 7, false, false, 0⟩,
  ⟨0x901500, 13, 4, 16, 8, 1, 5, true, false, 0⟩,
  ⟨0x901600, 4, 0, 1, 8, 0, 7, false, false, 0⟩,
  ⟨0x901700, 4, 0, 1, 8, 0, 7, false, true, 0⟩,
  ⟨0x902000, 4, 0, 1, 8, 0, 7, false, true, 0⟩,
  ⟨0x902100, 13, 4, 16, 8, 0, 7, false, true, 0⟩,
  ⟨0x902200, 3, 0, 1, 4, 0, 7, false, false, 0xffffffff⟩,
  ⟨0xa00000, 13, 12, 4096, 32, 0, 7, false, false, 0⟩,
  ⟨0xa00100, 3, 0, 1, 4, 0, 7, false, false, 0⟩,
  ⟨0xa00200, 4, 0, 1, 8, 0, 7, false, false, 0⟩,
  ⟨0xa00300, 4, 0, 1, 8, 0, 7, false, false, 0⟩,
  ⟨0xa01000, 3, 0, 1, 4, 1, 0, true, false, 3⟩,
  ⟨0xa01100, 3, 0, 1, 4, 1, 0, true, false, 600⟩,
  ⟨0xa02000, 12, 0, 1, 32, 0, 7, false, false, 0⟩,
  ⟨0xa02100, 4, 0, 1, 8, 0, 7, false, false, 0⟩,
  ⟨0xa20000, 13, 3, 6, 4, 3, 1, true, false, 0⟩,
  ⟨0xa20100, 3, 0, 1, 4, 1, 5, false, false, 0x100000⟩,
  ⟨0xa20200, 3, 0, 1, 4, 0, 7, false, true, 0⟩,
  ⟨0xa21000, 3, 0, 1, 4, 1, 4, false, false, 100⟩,
  ⟨0xa21100, 3, 0, 1, 4, 1, 4, false, false, 100⟩,
  ⟨0xa21200, 3, 0, 1, 4, 0, 7, false, true, 0⟩,
  ⟨0xb00000, 3, 0, 1, 4, 0, 7, false, false, 0⟩,
  ⟨0xb00100, 12, 0, 1, 48, 0, 7, false, false, 0⟩,
  ⟨0xb00200, 12, 0, 1, 48, 0, 7, false, false, 0⟩,
  ⟨0xb00300, 13, 12, 2, 48, 0, 7, false, false, 0⟩,
  ⟨0xb00400, 13, 12, 64, 64, 0, 7, false, false, 0⟩,
  ⟨0xb00500, 3, 0, 1, 4, 0, 7, false, false, 0⟩]
/-- Objects 0xb010 to 0xd016. -/
def objTable6 : List ObjInfo := [
  ⟨0xb01000, 12, 0, 1, 48, 1, 0, true, false, 0⟩,
  ⟨0xb01100, 9, 0, 1, 1, 1, 0, true, false, 0⟩,
  ⟨0xb01200, 1, 0, 1, 1, 1, 0, true, false, 0⟩,
  ⟨0xb01300, 3, 0, 1, 4, 1, 0, true, false, 0⟩,
  ⟨0xb02000, 12, 0, 1, 32, 1, 0, false, false, 0⟩,
  ⟨0xb02100, 10, 0, 1, 4, 1, 0, false, false, 0⟩,
  ⟨0xb02200, 13, 12, 9, 64, 0, 7, false, false, 0⟩,
  ⟨0xb02300, 13, 12, 8, 48, 0, 7, false, false, 0⟩,
  ⟨0xb03000, 12, 0, 1, 32, 0, 7, false, false, 0⟩,
  ⟨0xb03100, 13, 12, 4, 64, 2, 0, false, false, 0⟩,
  ⟨0xb03200, 1, 0, 1, 1, 0, 7, false, false, 0⟩,
  ⟨0xb04000, 3, 0, 1, 4, 0, 7, false, false, 0⟩,
  ⟨0xb04100, 10, 0, 1, 4, 1, 0, false, false, 0⟩,
  ⟨0xb04200, 3, 0, 1, 4, 0, 7, false, false, 0⟩,
  ⟨0xc00000, 10, 0, 1, 4, 1, 0, false, false, 0⟩,
  ⟨0xc00100, 1, 0, 1, 1, 1, 0, false, false, 0⟩,
  ⟨0xc00200, 9, 0, 1, 1, 1, 0, false, false, 0⟩,
  ⟨0xc00300, 3, 0, 1, 4, 0, 7, false, false, 0⟩,
  ⟨0xc00400, 13, 4, 48, 8, 0, 7, false, false, 0xffffffffffffffff⟩,
  ⟨0xc00500, 13, 4, 48, 8, 0, 7, false, false, 0⟩,
  ⟨0xc00600, 13, 4, 48, 8, 0, 7, false, false, 0xffffffffffffffff⟩,
  ⟨0xc00700, 13, 4, 32, 8, 0, 7, false, false, 0⟩,
  ⟨0xc00800, 4, 0, 1, 8, 0, 7, false, false, 0⟩,
  ⟨0xd00000, 13, 4, 24, 8, 0, 7, false, true, 0⟩,
  ⟨0xd00100, 13, 4, 24, 8, 0, 7, false, true, 0⟩,
  ⟨0xd00200, 13, 3, 24, 4, 0, 7, false, true, 0⟩,
  ⟨0xd00300, 13, 4, 24, 8, 0, 7, false, true, 0⟩,
  ⟨0xd00400, 13, 4, 24, 8, 0, 7, false, true, 0⟩,
  ⟨0xd00500, 13, 4, 24, 8, 0, 7, false, true, 0⟩,
  ⟨0xd00600, 13, 4, 24, 8, 0, 7, false, true, 0⟩,
  ⟨0xd00700, 13, 4, 24, 8, 0, 7, false, true, 0⟩,
  ⟨0xd00800, 13, 3, 24, 4, 0, 7, false, true, 0⟩,
  ⟨0xd00900, 4, 0, 1, 8, 0, 7, false, true, 0⟩,
  ⟨0xd01000, 4, 0, 1, 8, 0, 7, false, true, 0⟩,
  ⟨0xd01100, 4, 0, 1, 8, 0, 7, false, true, 0⟩,
  ⟨0xd01200, 4, 0, 1, 8, 0, 7, false, true, 0⟩,
  ⟨0xd01300, 13, 4, 24, 8, 0, 7, false, true, 0⟩,
  ⟨0xd01400, 13, 4, 8, 8, 0, 7, false, true, 0⟩,
  ⟨0xd01500, 13, 4, 8, 8, 0, 7, false, true, 0⟩,
  ⟨0xd01600, 13, 4, 9216, 8, 0, 7, false, true, 0⟩]
/-- Objects 0xd016 to 0xd105. -/
def objTable7 : List ObjInfo := [
  ⟨0xd01601, 4, 0, 1, 8, 0, 7, false, true, 0⟩,
  ⟨0xd01700, 4, 0, 1, 8, 0, 7, false, true, 0⟩,
  ⟨0xd10000, 13, 4, 4, 8, 0, 7, false, true, 0⟩,
  ⟨0xd10100, 13, 4, 4, 8, 0, 7, false, true, 0⟩,
  ⟨0xd10200, 4, 0, 1, 8, 0, 7, false, true, 0⟩,
  ⟨0xd10300, 13, 4, 352, 8, 0, 7, false, true, 0⟩,
  ⟨0xd10400, 13, 4, 32, 8, 0, 7, false, true, 0⟩,
  ⟨0xd10500, 3, 0, 1, 4, 0, 7, false, true, 0⟩]
/-- Every object of the dictionary, in ascending id. -/
def objTable : List ObjInfo :=
  objTable0 ++ objTable1 ++ objTable2 ++ objTable3 ++ objTable4 ++ objTable5 ++ objTable6 ++ objTable7

/-- The row of an object, or none where no table defines it (R407). -/
def objInfo? (id : Nat) : Option ObjInfo := objTable.find? (fun o => o.id == id)

/-- Defaults that differ by row or are fixed at manufacture; the table's for every other object. -/
def objDefault (id row : Nat) : Nat :=
  if id = Obj.arbPrio then nth [0x00432201, 0x3210, 0x32100, 0x2110, 0x10, 0] row 0
  else if id = Obj.firmwareVersion then (Config.firmwareVersion row).toNat
  else if id = Obj.boltVset then (Config.boltVset row).toNat
  else if id = Obj.factoryDefects then (Config.factoryDefects row).toNat
  else if id = Obj.mgmtMac then Config.mgmtMac.toNat
  else if id = Obj.serialNumber then Config.serialNumber.toNat
  else if id = Obj.fwKeyHash then Config.fwKeyHash.toNat
  else if id = Obj.debugKeyHash then Config.debugKeyHash.toNat
  else if id = Obj.debugNonce then (Config.debugNonce 0).toNat
  else if id = Obj.identityPubkey then (Config.identityPubkey row).toNat
  else if id = Obj.identityCert then (Config.identityCert row).toNat
  else if id = Obj.identityCertLen then Config.identityCertLen.toNat
  else ((objInfo? id).map (·.dflt)).getD 0

/-- Bits of one row of an object. -/
def objBits (id : Nat) : Nat := 8 * ((objInfo? id).map (·.rowBytes)).getD 0

/-- The key of a row in `State.objs`. -/
def objKey (id row : Nat) : Nat := id * 2 ^ 20 + row

end Sys2Proof.Machine
end

