-- ==== Sys2Proof/Machine/Ops.lean ====
section
/-! DEFINITION. The named operations over State that every meaning uses: sorted tables, byte memory,
object rows, units, free values, fault records and MODULE_STATE. -/

namespace Sys2Proof.Machine

/-! ## Sorted tables -/

/-- The entry at a key. -/
def tget {β : Type} : SMap β → Nat → Option β
  | [], _ => none
  | (k, v) :: m, i => if k = i then some v else tget m i

/-- The table with the entry at a key set, keys kept rising. -/
def tput {β : Type} : SMap β → Nat → β → SMap β
  | [], i, v => [(i, v)]
  | (k, w) :: m, i, v =>
    if i < k then (i, v) :: (k, w) :: m
    else if k = i then (i, v) :: m
    else (k, w) :: tput m i v

/-- The table without any entry at a key. -/
def tdel {β : Type} : SMap β → Nat → SMap β
  | [], _ => []
  | (k, w) :: m, i => if k = i then tdel m i else (k, w) :: tdel m i

/-- Keys strictly rising from a bound. -/
def keysFrom {β : Type} : Nat → SMap β → Bool
  | _, [] => true
  | b, (k, _) :: m => decide (b ≤ k) && keysFrom (k + 1) m

/-! ## Byte memory -/

/-- Memory.wf: addresses strictly rising and no byte equal to what an unlisted address reads as. -/
def Mem.wf (m : Mem) : Bool := keysFrom 0 m && m.all (fun c => c.2 != 0)

/-- One byte; an unlisted address reads 0 (log entry 2). -/
def memGet (m : Mem) (a : Nat) : Byte := (tget m a).getD 0

/-- One byte written, in canonical form. -/
def memPut (m : Mem) (a : Nat) (b : Byte) : Mem := if b = 0 then tdel m a else tput m a b

/-- n bytes from an address. -/
def memRead (m : Mem) (a : Nat) : Nat → List Byte
  | 0 => []
  | n + 1 => memGet m a :: memRead m (a + 1) n

/-- Bytes written from an address. -/
def memWrite (m : Mem) (a : Nat) : List Byte → Mem
  | [] => m
  | b :: bs => memWrite (memPut m a b) (a + 1) bs

/-- The bytes of [a, a + n) set to 0. -/
def memClear (m : Mem) (a n : Nat) : Mem := m.filter (fun c => c.1 < a || a + n ≤ c.1)

/-- A little-endian number of n bytes. -/
def memNat (m : Mem) (a n : Nat) : Nat := leNat (memRead m a n)

/-- A little-endian number of n bytes written. -/
def memPutNat (m : Mem) (a n v : Nat) : Mem := memWrite m a (leBytes n v)

/-! ## Results -/

/-- The outcome of a command whose effect is a function of the state. -/
def done (s : State) : Result := .next s

/-! ## Object rows -/

/-- The bitwise majority of three copies (R416). -/
def majority (a b c : Nat) : Nat := (a &&& b) ||| (a &&& c) ||| (b &&& c)

/-- The first copy of an object row: its default where the table of rows lists none. -/
def State.raw (s : State) (id row : Nat) : Nat :=
  (tget s.objs (objKey id row)).getD (objDefault id row)

/-- All three copies of a row differ from each other (R416; DEDUCED, log entry 10). -/
def State.voteFailed (s : State) (id row : Nat) : Bool :=
  match tget s.dict.copies (objKey id row) with
  | none => false
  | some (b, c) => let a := s.raw id row; a != b && a != c && b != c

/-- The value of an object row: the majority of a voted row's copies, 0 where the vote fails (R416). -/
def State.obj (s : State) (id row : Nat) : Nat :=
  match tget s.dict.copies (objKey id row) with
  | none => s.raw id row
  | some (b, c) => if s.voteFailed id row then 0 else majority (s.raw id row) b c

/-- The rows with one value stored, absent at the default. -/
def putRow (objs : SMap Nat) (id row v : Nat) : SMap Nat :=
  if v = objDefault id row then tdel objs (objKey id row) else tput objs (objKey id row) v

/-- An object row set, in all three copies where it is voted. -/
def State.setObj (s : State) (id row v : Nat) : State :=
  { s with
    objs := putRow s.objs id row v
    dict := { s.dict with copies := tdel s.dict.copies (objKey id row) } }

/-- A counter advanced; counters saturate. -/
def State.bump (s : State) (id row n : Nat) : State :=
  s.setObj id row (satAdd (objBits id) (s.obj id row) n)

/-- Bits [lo + w - 1 : lo] of an object row. -/
def State.field (s : State) (id row lo w : Nat) : Nat := bits (s.obj id row) lo w

/-- Bits [lo + w - 1 : lo] of an object row replaced. -/
def State.setField (s : State) (id row lo w v : Nat) : State :=
  s.setObj id row (setBits (s.obj id row) lo w v)

/-- The value in use of an RW object with a later boundary (R409). -/
def State.used (s : State) (id row : Nat) : Nat :=
  (tget s.dict.inUse (objKey id row)).getD (objDefault id row)

/-- A sticky flag bit set in an object row. -/
def State.setFlag (s : State) (id row i : Nat) : State :=
  s.setObj id row (setBit (s.obj id row) i true)

/-! ## Free values -/

/-- The model's counter of free values advanced. -/
def State.drew (s : State) (n : Nat) : State := { s with free := s.free + n }

/-- A counter advanced by a number of cycles the manual does not fix (log entry 4). -/
def State.bumpFree (s : State) (id row : Nat) : State :=
  (s.bump id row (Config.freeNat s.free)).drew 1

/-! ## Units and coordinates -/

/-- A logical spindle's state. -/
def State.spindle (s : State) (p : Site) : Spindle := (tget s.spindles p.row).getD {}

/-- A logical spindle's state replaced. -/
def State.setSpindle (s : State) (p : Site) (x : Spindle) : State :=
  { s with spindles := tput s.spindles p.row x }

/-- A bolt controller's state. -/
def State.bolt (s : State) (b : Nat) : Bolt := (tget s.bolts b).getD {}

/-- A bolt controller's state replaced. -/
def State.setBolt (s : State) (b : Nat) (x : Bolt) : State := { s with bolts := tput s.bolts b x }

/-- The logical site of a row. -/
def siteRow (r : Nat) : Site :=
  ⟨⟨r % 128, Nat.mod_lt _ (by decide)⟩, ⟨r / 128 % 72, Nat.mod_lt _ (by decide)⟩⟩

/-- The bolt of a logical spindle (R9). -/
def boltOf (x y : Nat) : Nat := 8 * (y / 12) + x / 16

/-- The physical row of a logical spindle under the carding map (R10). -/
def State.physRow (s : State) (x y : Nat) : Nat :=
  let f := bits (s.obj Obj.cardingMap (boltOf x y)) (4 * (x % 16)) 4
  let j := y % 12
  if j < (if f = 15 then 12 else f) then j else j + 1

/-- UNIT of the physical site of a logical spindle (R356). -/
def State.siteUnit (s : State) (x y : Nat) : Nat :=
  boltOf x y * 2 ^ 24 + x % 16 * 2 ^ 20 + s.physRow x y * 2 ^ 16 + 2 ^ 15 + y * 2 ^ 8 + x

/-- The logical spindle at a physical site, if it holds one (R10). -/
def State.logicalOf (s : State) (b c r : Nat) : Option (Nat × Nat) :=
  let f := bits (s.obj Obj.cardingMap b) (4 * c) 4
  let f := if f = 15 then 12 else f
  if r = f then none
  else
    let j := if r < f then r else r - 1
    some (16 * (b % 8) + c, 12 * (b / 8) + j)

/-- The logical site is marked absent in the loaded image (R146, R399). -/
def State.isAbsent (s : State) (row : Nat) : Bool := bitAt s.prog.absent row

/-- Every present logical spindle is halted. -/
def State.allHalted (s : State) : Bool := s.spindles.all (fun e => s.isAbsent e.1 || e.2.halted)

/-! ## MODULE_STATE, phase and time -/

/-- Values of MODULE_STATE (R437). -/
abbrev stBoot : Nat := 0
/-- UNADDRESSED. -/
abbrev stUnaddressed : Nat := 1
/-- SELFTEST. -/
abbrev stSelftest : Nat := 2
/-- QUIET. -/
abbrev stQuiet : Nat := 3
/-- READY. -/
abbrev stReady : Nat := 4
/-- LOADED. -/
abbrev stLoaded : Nat := 5
/-- RUN. -/
abbrev stRun : Nat := 6
/-- DRAIN. -/
abbrev stDrain : Nat := 7
/-- RECOVER. -/
abbrev stRecover : Nat := 8
/-- STANDBY. -/
abbrev stStandby : Nat := 9

/-- MODULE_STATE. -/
def State.mode (s : State) : Nat := s.obj Obj.moduleState 0

/-- MODULE_STATE changed by the record with this SEQ, or by a command (0) (R438). A change awaiting its
record holds 0 until the record is written. -/
def State.setMode (s : State) (m cause : Nat) : State :=
  ((s.setObj Obj.moduleState 0 m).setObj Obj.stateSince 0 s.time.now).setObj Obj.stateCause 0 cause

/-- MODULE_STATE changed before the causing record is written (R438). -/
def State.setModePending (s : State) (m : Nat) : State :=
  let t := s.setMode m 0
  { t with faults := { t.faults with causePending := true } }

/-- STEP_COUNT. -/
def State.stepCount (s : State) : Nat := s.obj Obj.stepCount 0

/-- The phase of STEP_STATUS (R249). -/
def State.phase (s : State) : Nat := s.field Obj.stepStatus 0 0 4

/-- The microbatch index of STEP_STATUS. -/
def State.mbIndex (s : State) : Nat := s.field Obj.stepStatus 0 8 16

/-- The phase of STEP_STATUS set. -/
def State.setPhase (s : State) (p : Nat) : State := s.setField Obj.stepStatus 0 0 4 p

/-- The microbatch index of STEP_STATUS set. -/
def State.setMb (s : State) (k : Nat) : State := s.setField Obj.stepStatus 0 8 16 k

/-- A second, a millisecond and a microsecond of chain time in grains of 4 ns. -/
abbrev grainsPerSecond : Nat := 250000000
/-- Grains in a millisecond. -/
abbrev grainsPerMs : Nat := 250000

/-! ## Fault records -/

/-- SEQ of the newest record. -/
def State.lastSeq (s : State) : Nat := s.obj Obj.faultSeqLast 0

/-- A record of FAULT_LOG (R353). -/
structure Rec where
  time : Nat
  code : Nat
  unit : Nat
  detail : Nat := 0
  related : Nat := 0
  echoes : Nat := 0
  hard : Bool := false
  root : Bool := false
deriving DecidableEq, Repr

/-- The 256 bits of a record (R353). -/
def Rec.word (r : Rec) (seq step : Nat) : Nat :=
  packFields 8 [r.root.toNat + 2 * r.hard.toNat]
    + (step % 2 ^ 24) * 2 ^ 8 + (r.related % 2 ^ 32) * 2 ^ 32 + (r.detail % 2 ^ 32) * 2 ^ 64
    + (r.unit % 2 ^ 32) * 2 ^ 96 + min r.echoes 0xFFFF * 2 ^ 128 + (r.code % 2 ^ 16) * 2 ^ 144
    + (seq % 2 ^ 32) * 2 ^ 160 + (r.time % 2 ^ 64) * 2 ^ 192

/-- A record written: SEQ advances by one and names the row modulo 4,096 (R352). -/
def State.record (s : State) (r : Rec) : State :=
  let seq := (s.lastSeq + 1) % 2 ^ 32
  (s.setObj Obj.faultLog (seq % 4096) (r.word seq s.stepCount)).setObj Obj.faultSeqLast 0 seq

/-- An occurrence the module itself reports, with its record. -/
def State.fault (s : State) (code unit detail : Nat) : State :=
  (s.bump Obj.faultReports 0 1).record { time := s.time.now, code, unit, detail }

/-- The record that a pending MODULE_STATE change waited for has just been written (R438). -/
def State.causeWritten (s : State) : State :=
  if s.faults.causePending then
    let t := s.setObj Obj.stateCause 0 s.lastSeq
    { t with faults := { t.faults with causePending := false } }
  else s

/-- The running step is tainted: the module reports its gradients as poisoned (R102). -/
def State.taint (s : State) : State := { s with step := { s.step with tainted := true } }

/-- The running step is poisoned. -/
def State.poisonStep (s : State) : State := { s with step := { s.step with poisoned := true } }

/-- The module has its 44 V input and runs. -/
def State.up (s : State) : Bool := s.power.on

/-- An effect that only a powered module has; without the input nothing happens (log entry 1). -/
def State.ifUp (s : State) (f : State → State) : State := if s.up then f s else s

end Sys2Proof.Machine
end

