-- ==== Sys2Proof/Machine/Arbiter.lean ====
section
/-! DEFINITION. The arbiters (R174 to R177): priorities, round robin, and a decision at a break point. -/

namespace Sys2Proof.Machine

/-- The key of an arbiter instance. -/
def arbKey (kind inst : Nat) : Nat := kind * 2 ^ 20 + inst

/-- An instance; it starts with the reset priorities of its kind. -/
def State.arbiter (s : State) (kind inst : Nat) : Arbiter :=
  (tget s.fabric.arbiters (arbKey kind inst)).getD { prio := BitVec.ofNat 32 (objDefault Obj.arbPrio kind) }

/-- An instance replaced. -/
def State.setArbiter (s : State) (kind inst : Nat) (a : Arbiter) : State :=
  { s with fabric := { s.fabric with arbiters := tput s.fabric.arbiters (arbKey kind inst) a } }

/-- The priority of a class. -/
def Arbiter.priority (a : Arbiter) (cls : Nat) : Nat := bits a.prio.toNat (4 * cls) 3

/-- The place of a requester in round robin: after the last one granted. R174 does not give the order in which requesters
follow each other; they are taken by class, then by number (DESIGN CHOICE, log entry 42). -/
def roundRobin (last : Option (Nat × Nat)) (r : Nat × Nat) : Nat :=
  let k := r.1 * 2 ^ 32 + r.2
  match last with
  | none => k
  | some l => if l.1 * 2 ^ 32 + l.2 < k then k else k + 2 ^ 40

/-- The requester granted (R174). -/
def Arbiter.grant (a : Arbiter) (rs : List (Nat × Nat)) : Option (Nat × Nat) :=
  rs.foldl (fun best r =>
    match best with
    | none => some r
    | some b =>
      let pb := a.priority b.1
      let pr := a.priority r.1
      if pr < pb ∨ (pr = pb ∧ roundRobin a.last r < roundRobin a.last b) then some r else best) none

/-- ARB_PRIO of a kind after its pending write, if any, has met its boundary (R177, R411). -/
def State.applyRound (s : State) (kind : Nat) : State :=
  match tget s.dict.pending (objKey Obj.arbPrio kind) with
  | none => s
  | some v =>
    let s := s.setObj Obj.arbPrio kind v
    { s with dict := { s.dict with pending := tdel s.dict.pending (objKey Obj.arbPrio kind) } }

/-- A decision of an instance among its requesters (R174, R175, R177). -/
def State.decideArb (s : State) (kind inst : Nat) (rs : List (Nat × Nat)) : State :=
  let s := s.applyRound kind
  let a := { s.arbiter kind inst with prio := BitVec.ofNat 32 (s.obj Obj.arbPrio kind), passed := 0 }
  match a.grant rs with
  | none => s.setArbiter kind inst { a with holder := none }
  | some r => s.setArbiter kind inst { a with holder := some r, last := some r }

/-- The object and row that count a port's busy cycles (R178). -/
def busyRow (port : Nat) : Nat × Nat := if port < 352 then (Obj.edgePortBusy, port) else (Obj.backPortBusy, port - 352)

end Sys2Proof.Machine
end

