-- ==== Sys2Proof/Machine/Crc.lean ====
section
/-! DEFINITION. The checks over bytes: CRC-64 (R280), CRC-32C (R385, R398) and SHA-384 (R401, R471). -/

namespace Sys2Proof.Machine

/-- One bit of the ECMA-182 polynomial, not reflected. -/
def crc64Bit (c : W64) : W64 := if c.msb then (c <<< 1) ^^^ 0x42F0E1EBA9EA3693 else c <<< 1

/-- One byte. -/
def crc64Byte (c : W64) (b : Byte) : W64 :=
  Nat.repeat crc64Bit 8 (c ^^^ (b.zeroExtend 64 <<< 56))

/-- CRC-64 with initial value 0 and no final XOR (R280). -/
def crc64 (bs : List Byte) : W64 := bs.foldl crc64Byte 0

/-- One bit of CRC-32C, reflected. -/
def crc32cBit (c : W32) : W32 := if c.getLsbD 0 then (c >>> 1) ^^^ 0x82F63B78 else c >>> 1

/-- One byte. -/
def crc32cByte (c : W32) (b : Byte) : W32 := Nat.repeat crc32cBit 8 (c ^^^ b.zeroExtend 32)

/-- CRC-32C. -/
def crc32c (bs : List Byte) : W32 := bs.foldl crc32cByte 0xFFFFFFFF ^^^ 0xFFFFFFFF

/-! ## SHA-384 -/

/-- The primes below 410, of which there are eighty. -/
def primes80 : List Nat :=
  (List.range 410).filter (fun n => Nat.ble 2 n && (List.range 21).all (fun d => Nat.ble d 1 || Nat.ble n d || !Nat.beq (n % d) 0))

/-- The largest r below 2^k more than the start whose power e is at most n, found from its highest bit down. -/
def rootBits (e n : Nat) : Nat → Nat → Nat
  | 0, r => r
  | k + 1, r => rootBits e n k (if Nat.ble ((r + 2 ^ k) ^ e) n then r + 2 ^ k else r)

/-- The first 64 bits of the fraction of the root of order e of p. -/
def rootFraction (e p : Nat) : W64 := BitVec.ofNat 64 (rootBits e (p * 2 ^ (64 * e)) 70 0)

/-- The round constants of SHA-384: the fractions of the cube roots of the first eighty primes (FIPS 180-4, which R401 and R471
name). -/
def shaK : List W64 := primes80.map (rootFraction 3)

/-- Right rotation of a 64-bit word. -/
def rotr64 (x : W64) (n : Nat) : W64 := (x >>> n) ||| (x <<< (64 - n))

/-- The exclusive or of a word rotated right by each of some counts. -/
def rotations (x : W64) (ns : List Nat) : W64 := (ns.map (rotr64 x)).foldl (· ^^^ ·) 0

/-- The next word of the message schedule from the sixteen before it, newest first. -/
def nextWord (last : List W64) : W64 :=
  let x := nth last 14 0
  let y := nth last 1 0
  nth last 15 0 + nth last 6 0 + (rotations x [1, 8] ^^^ (x >>> 7)) + (rotations y [19, 61] ^^^ (y >>> 6))

/-- n more words of the message schedule put before those there are, newest first. -/
def moreWords : Nat → List W64 → List W64
  | 0, ws => ws
  | n + 1, ws => moreWords n (nextWord ws :: ws)

/-- The eight working words after a round with a sum of schedule word and constant: the first and the fifth are new, the others
move one place on. -/
def shaRound (h : List W64) (kw : W64) : List W64 :=
  let at_ := fun (i : Nat) => nth h i 0
  let t := at_ 7 + rotations (at_ 4) [14, 18, 41] + ((at_ 4 &&& at_ 5) ||| (~~~(at_ 4) &&& at_ 6)) + kw
  let major := (at_ 0 &&& at_ 1) ||| (at_ 2 &&& (at_ 0 ||| at_ 1))
  (t + rotations (at_ 0) [28, 34, 39] + major) :: (h.take 3 ++ (at_ 3 + t) :: (h.drop 4).take 3)

/-- A big-endian number of bytes. -/
def beNat (bs : List Byte) : Nat := bs.foldl (fun n b => n * 256 + b.toNat) 0

/-- The n bytes of a number, highest first. -/
def beBytes (n v : Nat) : List Byte := (leBytes n v).reverse

/-- One block of 128 bytes. -/
def shaBlock (h : List W64) (block : List Byte) : List W64 :=
  let ws := (chunks 8 17 block).map (fun b => BitVec.ofNat 64 (beNat b))
  List.zipWith (· + ·) h ((List.zipWith (· + ·) shaK (moreWords 64 ws.reverse).reverse).foldl shaRound h)

/-- The initial words of SHA-384: the fractions of the square roots of the ninth to the sixteenth prime. -/
def shaInit : List W64 := ((primes80.drop 8).take 8).map (rootFraction 2)

/-- The padding of a message of n bytes. -/
def shaPad (n : Nat) : List Byte :=
  0x80 :: List.replicate ((239 - n % 128) % 128) 0 ++ beBytes 16 (8 * n)

/-- The 48 bytes of the SHA-384 digest. -/
def sha384 (bs : List Byte) : List Byte :=
  let m := bs ++ shaPad bs.length
  (((chunks 128 (m.length / 128 + 1) m).foldl shaBlock shaInit).take 6).flatMap (fun w => beBytes 8 w.toNat)

/-- A digest as a number whose byte 0 is its lowest (R5). -/
def digestNat (bs : List Byte) : Nat := leNat (sha384 bs)

end Sys2Proof.Machine
end

