-- ==== Sys2Proof/Machine/Links.lean ====
section
/-! DEFINITION. The link ports and the grid's shape: sending and accepting frames under credits and
acknowledgement (R307 to R310), membership as L, the orders and the paths of R318, R325, R326 and R328. -/

namespace Sys2Proof.Machine

/-! ## The grid -/

/-- CHAIN_ADDRESS. -/
def State.myPos (s : State) : Nat := s.obj Obj.chainAddress 0
/-- CHAIN_INDEX. -/
def State.myChain (s : State) : Nat := s.obj Obj.chainIndex 0
/-- P, CHAIN_POSITIONS. -/
def State.gridP (s : State) : Nat := s.obj Obj.chainPositions 0
/-- C, GRID_CHAINS. -/
def State.gridC (s : State) : Nat := s.obj Obj.gridChains 0
/-- L as a bit map. -/
def State.liveMap (s : State) : Nat := s.field Obj.membership 0 32 32
/-- The membership epoch. -/
def State.epoch (s : State) : Nat := s.field Obj.membership 0 16 16

/-- The positions of a map in ascending order. -/
def positionsOf (map : Nat) : List Nat := ((List.range 32).filter (fun i => bitAt map i)).map (· + 1)

/-- L in ascending order. -/
def State.live (s : State) : List Nat := positionsOf s.liveMap

/-- A chain with every position live is closed (R318). -/
def State.closed (s : State) : Bool := s.liveMap == 2 ^ s.gridP - 1

/-- The next position in cyclic order among P. -/
def nextPos (P p : Nat) : Nat := if P ≤ p then 1 else p + 1
/-- The previous position in cyclic order among P. -/
def prevPos (P p : Nat) : Nat := if p ≤ 1 then P else p - 1

/-- n positions in ascending cyclic order from p. -/
def cyclicFrom (P : Nat) : Nat → Nat → List Nat
  | 0, _ => []
  | n + 1, p => p :: cyclicFrom P n (nextPos P p)

/-- The chain's line: L in ascending cyclic order from the first live position after the gap; 1 to P
where the chain is closed (R318, R325). -/
def State.line (s : State) : List Nat :=
  let P := s.gridP
  let isLive := fun p => bitAt s.liveMap (p - 1)
  match (cyclicFrom P P 1).find? (fun p => isLive p && !isLive (prevPos P p)) with
  | none => (cyclicFrom P P 1).filter isLive
  | some p => (cyclicFrom P P p).filter isLive

/-- Place of a position in the line. -/
def State.linePos (s : State) (p : Nat) : Nat := (s.line.findIdx? (· == p)).getD 0

/-- The chain head: the lowest live position (R325). -/
def State.head (s : State) : Nat := nth s.live 0 0
/-- This module is its chain's head. -/
def State.isChainHead (s : State) : Bool := s.link.member && s.myPos == s.head
/-- This module is the grid head. -/
def State.isGridHead (s : State) : Bool := s.isChainHead && s.myChain == 0
/-- The module is alone in its grid. -/
def State.alone (s : State) : Bool := s.gridP == 1 && s.gridC == 1

/-! ## Port state -/

/-- The STATE field of LINK_STATE (R344). -/
def State.portState (s : State) (p : Nat) : Nat := s.field Obj.linkState p 0 4
/-- Values of that field. -/
abbrev lkDown : Nat := 0
/-- TRAINING. -/
abbrev lkTraining : Nat := 1
/-- HELLO. -/
abbrev lkHello : Nat := 2
/-- UP. -/
abbrev lkUp : Nat := 3
/-- RETRAINING. -/
abbrev lkRetraining : Nat := 4
/-- MISWIRED. -/
abbrev lkMiswired : Nat := 5
/-- RETIRED. -/
abbrev lkRetired : Nat := 6
/-- UNUSED. -/
abbrev lkUnused : Nat := 7

/-- The STATE field set. -/
def State.setPortState (s : State) (p v : Nat) : State := s.setField Obj.linkState p 0 4 v

/-- A port's buffers and sequence numbers. -/
def State.port (s : State) (p : Nat) : Port := nth s.link.ports p {}

/-- A port's buffers and sequence numbers replaced. -/
def State.setPort (s : State) (p : Nat) (x : Port) : State :=
  { s with link := { s.link with ports := setNth s.link.ports p x } }

/-- A live port: UP. -/
def State.portUp (s : State) (p : Nat) : Bool := s.portState p == lkUp

/-- The neighbour a port reaches (R300). -/
def neighbourOf (p : Nat) : Neighbour :=
  if p < 3 then .next else if p < 6 then .prev else if p = 6 then .columnLow else .columnHigh

/-- The ports to a neighbour. -/
def portsTo : Neighbour → List Nat
  | .next => [0, 1, 2]
  | .prev => [3, 4, 5]
  | .columnLow => [6]
  | .columnHigh => [7]

/-- The lowest live port to a neighbour. -/
def State.livePort (s : State) (n : Neighbour) : Option Nat := (portsTo n).find? s.portUp

/-! ## Sending -/

/-- Types of R308. -/
abbrev tyGrad : Nat := 1
/-- VOTE. -/
abbrev tyVote : Nat := 2
/-- COMMIT. -/
abbrev tyCommit : Nat := 3
/-- TIME. -/
abbrev tyTime : Nat := 4
/-- REWEAVE. -/
abbrev tyReweave : Nat := 5
/-- DIGEST. -/
abbrev tyDigest : Nat := 6
/-- CTRL. -/
abbrev tyCtrl : Nat := 7

/-- GRAD and REWEAVE use bulk buffers, the other sequenced frames control buffers (R308). -/
def isBulk (t : Nat) : Bool := t == tyGrad || t == tyReweave

/-! ### The layout of a frame -/

/-- The header of a frame as a 256-bit number (R307). -/
def frameHead (h : FrameHdr) (f : OutFrame) : Nat :=
  h.mepoch.toNat * 2 ^ 32 + h.step.toNat * 2 ^ 48 + f.tag.toNat * 2 ^ 96 + h.srcPort.toNat * 2 ^ 171 +
    h.srcChain.toNat * 2 ^ 174 + h.srcPos.toNat * 2 ^ 179 + f.bytes % 2 ^ 13 * 2 ^ 185 + h.bcred.toNat * 2 ^ 198 +
    h.ccred.toNat * 2 ^ 204 + h.ackseq.toNat * 2 ^ 208 + h.txseq.toNat * 2 ^ 224 + h.nak.toNat * 2 ^ 246 +
    h.poison.toNat * 2 ^ 247 + f.typ.toNat * 2 ^ 248

/-- The bytes of a frame on the line: header, payload and trailer (R307). -/
def wireBytes (h : FrameHdr) (f : OutFrame) : List Byte :=
  let body := leBytes 32 (frameHead h f) ++ leBytes f.bytes f.payload
  body ++ leBytes 8 (crc32c body).toNat

/-- The header fields of a 256-bit number. -/
def headOfFrame (w : Nat) : FrameHdr where
  poison := bitAt w 247
  nak := bitAt w 246
  txseq := BitVec.ofNat 16 (bits w 224 16)
  ackseq := BitVec.ofNat 16 (bits w 208 16)
  ccred := BitVec.ofNat 4 (bits w 204 4)
  bcred := BitVec.ofNat 6 (bits w 198 6)
  srcPos := BitVec.ofNat 6 (bits w 179 6)
  srcChain := BitVec.ofNat 5 (bits w 174 5)
  srcPort := BitVec.ofNat 3 (bits w 171 3)
  step := BitVec.ofNat 48 (bits w 48 48)
  mepoch := BitVec.ofNat 16 (bits w 32 16)

/-- A frame read from the line: none where its length, its CRC or its TYPE is bad (R307 to R309). Reserved bits are ignored. -/
def readFrame (bs : List Byte) : Option (FrameHdr × OutFrame) :=
  let w := leNat (bs.take 32)
  let h := headOfFrame w
  let n := bits w 185 13
  let body := bs.take (32 + n)
  let typ := bits w 248 8
  if bs.length ≠ 40 + n ∨ 4096 < n ∨ n % 8 ≠ 0 ∨ typ = 0 ∨ 7 < typ then none
  else if leNat ((bs.drop (32 + n)).take 4) ≠ (crc32c body).toNat then none
  else some (h, { typ := BitVec.ofNat 8 typ, tag := BitVec.ofNat 64 (bits w 96 64), step := h.step, poison := h.poison
                  payload := leNat (body.drop 32), bytes := n })

/-! ### A port's transmit side -/

/-- The requester class of a frame on a link (R175). -/
def linkClass (typ : Nat) : Nat := if typ = tyGrad then 1 else if typ = tyDigest then 2 else if typ = tyReweave then 3 else 0

/-- A frame of this type could be put in flight: at most 64 stand unacknowledged, and a credit of its pool is there (R309,
R310). -/
def Port.room (q : Port) (typ : Nat) : Bool :=
  decide (q.unacked.length < 64) && (if isBulk typ then decide (0 < q.bulkCredits) else decide (0 < q.ctlCredits))

/-- The first waiting frame of a class. -/
def Port.firstOf (q : Port) (cls : Nat) : Option OutFrame := q.waiting.find? (fun f => linkClass f.typ.toNat == cls)

/-- The classes that ask for the line: those whose first frame may go. -/
def Port.asks (q : Port) : List Nat := (List.range 4).filter (fun c => (q.firstOf c).any (fun f => q.room f.typ.toNat))

/-- A frame put in flight: it takes a number and a credit. -/
def Port.put (q : Port) (f : OutFrame) : Port :=
  let bulk := isBulk f.typ.toNat
  { q with
    waiting := q.waiting.erase f, unacked := q.unacked ++ [(q.txNext, f)], txNext := q.txNext + 1
    ctlCredits := if bulk then q.ctlCredits else q.ctlCredits - 1
    bulkCredits := if bulk then q.bulkCredits - 1 else q.bulkCredits }

/-- The header of a frame that a port sends (R307): TXSEQ, the acknowledgement, NAK and the buffers to return. -/
def State.header (s : State) (p : Nat) (q : Port) (f : OutFrame) (txseq : W16) : FrameHdr where
  poison := f.poison
  nak := q.nakNext
  txseq := txseq
  ackseq := q.rxNext
  ccred := BitVec.ofNat 4 (min 15 q.ctlReturn)
  bcred := BitVec.ofNat 6 (min 63 q.bulkReturn)
  srcPos := BitVec.ofNat 6 s.myPos
  srcChain := BitVec.ofNat 5 s.myChain
  srcPort := BitVec.ofNat 3 p
  step := f.step
  mepoch := BitVec.ofNat 16 s.epoch

/-- Frames leave in order; the first header carries NAK, and each what it can of the buffers to return (R309, R310). -/
def State.emit (s : State) (p : Nat) : List (W16 × OutFrame) → Port → Port
  | [], q => q
  | (n, f) :: fs, q =>
    s.emit p fs { q with
      lastSent := q.lastSent ++ [(s.header p q f n, f)], nakNext := false
      ctlReturn := q.ctlReturn - 15, bulkReturn := q.bulkReturn - 63 }

/-- The frames of one sending. -/
def State.putOnLine (s : State) (p : Nat) (fs : List (W16 × OutFrame)) (q : Port) : Port :=
  if fs.isEmpty then q else s.emit p fs { q with lastSent := [] }

/-- The ports that can carry a frame: HELLO or UP. -/
def State.receives (s : State) (p : Nat) : Bool := s.portState p == lkUp || s.portState p == lkHello

/-- One frame put in flight: the arbiter of the port grants a class (R310, R175). A frame leaves whole, so its end is the next
break point and the grant ends with it. -/
def State.pumpOne (s : State) (p : Nat) : State :=
  let q := s.port p
  let s := s.decideArb 3 p (q.asks.map (fun c => (c, 0)))
  let a := s.arbiter 3 p
  match a.holder.bind (fun h => q.firstOf h.1) with
  | none => s
  | some f =>
    let s := s.setArbiter 3 p { a with holder := none }
    (s.setPort p (s.emit p [(q.txNext, f)] (q.put f))).bump Obj.linkFramesTx p 1

/-- At most n frames put in flight. -/
def State.pumpN : Nat → Nat → State → State
  | 0, _, s => s
  | n + 1, p, s => if (s.port p).asks.isEmpty then s else pumpN n p (s.pumpOne p)

/-- A port sends what it can; LINK_FRAMES_TX counts it. -/
def State.pump (s : State) (p : Nat) : State :=
  let q := s.port p
  if s.receives p && !q.asks.isEmpty then State.pumpN q.waiting.length p (s.setPort p { q with lastSent := [] }) else s

/-- A sequenced frame that waits at a port until it can go. -/
def State.giveFrame (s : State) (p : Nat) (f : OutFrame) : State :=
  let q := s.port p
  (s.setPort p { q with waiting := q.waiting ++ [f] }).pump p

/-- A frame with data of the tiers crosses the wafer between weft die p and the Dudin dies as flits of VC2, through one of the
four back ports of that die and an edge port (R312, R178). Which ports they are, whether the header takes a flit of its own,
and the cycles the ports are busy are free values; the flits take no part in the mesh of log entry 41 (log entry 51). -/
def State.crossWafer (s : State) (p bytes : Nat) : State :=
  let n := ceilDiv bytes 128 + Config.freeNat s.free % 2
  let back := 4 * p + Config.freeNat (s.free + 1) % 4
  let edge := Config.freeNat (s.free + 2) % 352
  let s := s.drew 5
  ((s.bump Obj.fabricFlits 2 n).bump Obj.backPortBusy back (Config.freeNat (s.free - 2) % (n + 1))).bump Obj.edgePortBusy edge
    (Config.freeNat (s.free - 1) % (n + 1))

/-- A sequenced frame given to a port; one with data of the tiers has crossed the wafer to it. -/
def State.sendOn (s : State) (p : Nat) (f : OutFrame) : State :=
  (if isBulk f.typ.toNat then s.crossWafer p f.bytes else s).giveFrame p f

/-- Where a frame waits while no port to a neighbour is live: a port that retrains, else one that may yet train (R311). -/
def State.waitPort (s : State) (n : Neighbour) : Nat :=
  let ps := portsTo n
  ((ps.find? (fun p => s.portState p == lkRetraining)).or (ps.find? (fun p => s.portState p != lkRetired))).getD (nth ps 0 0)

/-- A sequenced frame given to a neighbour's lowest live port, or left to wait where no port is live (R311). -/
def State.sendTo (s : State) (n : Neighbour) (f : OutFrame) : State := s.sendOn ((s.livePort n).getD (s.waitPort n)) f

/-- An unsequenced frame sent: TIME or CTRL IDLE; its TXSEQ is ignored (R307). It is a frame of class 0 (R175). -/
def State.sendPlain (s : State) (p : Nat) (f : OutFrame) : State :=
  let s := s.decideArb 3 p [(0, 0)]
  let s := s.setArbiter 3 p { s.arbiter 3 p with holder := none }
  s.setPort p (s.putOnLine p [(0, f)] (s.port p))

/-- Frames that belong to one port only: HELLO and LANE_RETIRE. -/
def OutFrame.ofPort (f : OutFrame) : Bool :=
  f.typ.toNat == tyCtrl && (f.tag.toNat / 2 ^ 56 == 1 || f.tag.toNat / 2 ^ 56 == 8)

/-- The frames of a port that retires go to another port of its direction, those not yet acknowledged first (DESIGN CHOICE, log
entry 52). -/
def State.moveFrames (s : State) (p : Nat) : State :=
  let q := s.port p
  let n := neighbourOf p
  if s.portState (s.waitPort n) = lkRetired ∧ s.livePort n = none then s
  else
    let fs := (q.unacked.map (·.2) ++ q.waiting).filter (fun f => !f.ofPort)
    fs.foldl (fun t f => t.giveFrame ((t.livePort n).getD (t.waitPort n)) f) (s.setPort p { q with unacked := [], waiting := [] })

/-- A frame of this module: TYPE, TAG and payload, with the running STEP. -/
def State.frame (s : State) (typ : Nat) (tag : Nat) (payload bytes : Nat) : OutFrame :=
  { typ := BitVec.ofNat 8 typ, tag := BitVec.ofNat 64 tag, step := BitVec.ofNat 48 s.stepCount,
    payload := payload, bytes := bytes }

/-- TAG of a CTRL frame: kind in [159:152]. -/
def ctrlTag (kind : Nat) : Nat := kind * 2 ^ 56

/-- A CTRL frame. -/
def State.ctrl (s : State) (kind payload bytes : Nat) : OutFrame := s.frame tyCtrl (ctrlTag kind) payload bytes

/-- CTRL IDLE, header only, from a port that has nothing else to send: it carries the acknowledgement, NAK and the buffers to
return (R310). -/
def State.idle (s : State) (p : Nat) : State :=
  if s.receives p then (if (s.port p).asks.isEmpty then s.sendPlain p (s.ctrl 0 0 0) else s.pump p) else s

/-- Every port sends: what waits, else IDLE. -/
def State.idleAll (s : State) : State := (List.range 8).foldl State.idle s

/-! ## Accepting -/

/-- An epoch older than another, modulo 65,536. -/
def epochOlder (a b : Nat) : Bool := decide (2 ^ 15 ≤ (a + 2 ^ 16 - b) % 2 ^ 16)

/-- Frames that ACKSEQ has passed leave the replay buffer. -/
def acked (ack : W16) : List (W16 × OutFrame) → List (W16 × OutFrame)
  | [] => []
  | f :: fs => if (ack - f.1 - 1).toNat < 2 ^ 15 then acked ack fs else f :: fs

/-- Every unacknowledged frame sent again, in order: one replay episode (R309). -/
def State.replay (s : State) (p : Nat) : State :=
  let q := s.port p
  let n := q.unacked.length
  if n = 0 then s
  else (((s.setPort p (s.putOnLine p q.unacked q)).bump Obj.linkReplays p 1).bump Obj.linkFramesTx p n).fault 0x8101 p 0

/-- The acknowledgement, credits and NAK a header brings (R309, R310). -/
def State.takeHeader (s : State) (p : Nat) (h : FrameHdr) : State :=
  let q := s.port p
  let q := { q with
    unacked := acked h.ackseq q.unacked
    ctlCredits := min 8 (q.ctlCredits + h.ccred.toNat), bulkCredits := min 56 (q.bulkCredits + h.bcred.toNat) }
  let s := s.setPort p q
  let s := if h.nak then s.replay p else s
  s.pump p

/-- A sequenced frame whose CRC is good arrives: accepted when its TXSEQ is the next expected and its
MEPOCH is not older (R309). The effect runs only on an accepted frame. -/
def State.accept (s : State) (p : Nat) (h : FrameHdr) (typ : Nat) (effect : State → State) : State :=
  if !s.receives p then s
  else
    let s := s.takeHeader p h
    let q := s.port p
    if h.txseq ≠ q.rxNext then s.setPort p { q with nakNext := true }
    else
      let q := { q with
        rxNext := q.rxNext + 1
        ctlReturn := if isBulk typ then q.ctlReturn else q.ctlReturn + 1
        bulkReturn := if isBulk typ then q.bulkReturn + 1 else q.bulkReturn }
      let s := s.setPort p q
      if epochOlder h.mepoch.toNat s.epoch then s
      else effect (s.bump Obj.linkFramesRx p 1)

/-! ## Paths -/

/-- The direction of the vote path from this module, none at the chain head (R325). -/
def State.towardsHead (s : State) : Option Neighbour :=
  let k := s.linePos s.myPos
  let h := s.linePos s.head
  if k = h then none else if k < h then some .next else some .prev

/-- A frame sent along the vote path: towards the chain head, and from a chain head down the column to
chain 0 on port 6 (R325, R328). -/
def State.sendVotePath (s : State) (f : OutFrame) : State :=
  match s.towardsHead with
  | some n => s.sendTo n f
  | none => if s.myChain = 0 then s else s.sendTo .columnLow f

/-- A module sends in a direction of its chain: in a closed ring always, in a line up to its ends. -/
def State.canGo (s : State) (n : Neighbour) : Bool :=
  if s.gridP ≤ 1 then false
  else if s.closed then true
  else
    let k := s.linePos s.myPos
    match n with
    | .next => decide (k + 1 < s.line.length)
    | .prev => decide (0 < k)
    | _ => false

/-- A frame sent in a direction of the chain where it goes on. -/
def State.sendChain (s : State) (n : Neighbour) (f : OutFrame) : State :=
  if s.canGo n then s.sendTo n f else s

/-- A frame of the decision path in a direction of the chain. A line end sends it on over a live port to the module beyond it,
which joins or has just been put out (R341, R317; DEDUCED, log entry 53). -/
def State.sendOut (s : State) (n : Neighbour) (f : OutFrame) : State :=
  if s.canGo n then s.sendTo n f
  else if decide (1 < s.gridP) && !s.closed && (s.livePort n).isSome then s.sendTo n f
  else s

/-- The decision path from its origin: both ways along the chain, and from a chain head both ways along
the column (R326). -/
def State.sendDecisionPath (s : State) (f : OutFrame) : State :=
  let s := (s.sendOut .next f).sendOut .prev f
  if s.isChainHead && decide (1 < s.gridC) then (s.sendTo .columnHigh f).sendTo .columnLow f else s

/-- The decision path onward from the port a first copy arrived on (R326): in the chain in the direction
it arrived; on the column onward, and by a chain head both ways along its chain. -/
def State.forwardDecision (s : State) (p : Nat) (f : OutFrame) : State :=
  match neighbourOf p with
  | .prev => s.sendOut .next f
  | .next => s.sendOut .prev f
  | .columnLow => ((s.sendTo .columnHigh f).sendOut .next f).sendOut .prev f
  | .columnHigh => ((s.sendTo .columnLow f).sendOut .next f).sendOut .prev f

/-- The path to the head is broken. -/
def State.headPathBroken (s : State) : Bool :=
  match s.towardsHead with
  | some n => (s.livePort n).isNone || s.link.lostNeighbours.contains n
  | none => s.myChain != 0 && ((s.livePort .columnLow).isNone || s.link.lostNeighbours.contains .columnLow)

/-- A frame arrived from the side of the head: it travels along the decision path. -/
def State.fromHead (s : State) (p : Nat) : Bool :=
  match s.towardsHead with
  | some n => n == neighbourOf p
  | none => neighbourOf p == .columnLow

/-- MEMBER_LOST or LEAVE of this module's own: along the vote path, or along the decision path where the path to the head is
broken or this module is the grid head (R328). -/
def State.sendLoss (s : State) (f : OutFrame) : State :=
  if s.headPathBroken || s.isGridHead then s.sendDecisionPath f else s.sendVotePath f

/-- MEMBER_LOST or LEAVE passed on: one that travels along the decision path goes on in its direction (R326, R328). -/
def State.passLoss (s : State) (p : Nat) (f : OutFrame) : State :=
  if s.fromHead p then s.forwardDecision p f else s.sendLoss f

end Sys2Proof.Machine
end

