-- ==== Sys2Proof/Machine/Residence.lean ====
section
/-! DEFINITION. Parameter residence: shards and their arrays (R218 to R226), masks (R232 to R236) and the
packed forms (R239 to R247). -/

namespace Sys2Proof.Machine

/-! ## Rows of an object -/

/-- The rows of an object that differ from its default, ascending. -/
def State.rowsOf (s : State) (id : Nat) : List (Nat × Nat) :=
  (s.objs.filter (fun e => e.1 / 2 ^ 20 == id)).map (fun e => (e.1 % 2 ^ 20, e.2))

/-! ## Shards -/

/-- A residence entry's fields (R225). -/
structure Shard where
  tensor : Nat
  layer : Nat
  efirst : Nat
  ecount : Nat
  cls : Nat
  rule : Nat
  maskmode : Nat
  jrnl : Bool
  avg : Bool
  state : Nat
  gen : Nat
  home : Nat
  weft : Nat
  hset : Nat
  wbase : Nat
  fbase : Nat
  sbase : Nat
  rowlen : Nat
deriving DecidableEq, Repr

/-- A 256-bit entry. -/
def shardOf (w : Nat) : Shard where
  tensor := bits w 224 32
  layer := bits w 208 16
  efirst := bits w 168 40
  ecount := bits w 147 21
  cls := bits w 145 2
  rule := bits w 137 8
  maskmode := bits w 135 2
  jrnl := bitAt w 134
  avg := bitAt w 133
  state := bits w 130 3
  gen := bits w 114 16
  home := bits w 109 5
  weft := bits w 106 3
  hset := bits w 98 8
  wbase := bits w 74 24
  fbase := bits w 50 24
  sbase := bits w 23 27
  rowlen := bits w 2 21

/-- FAST (R225). -/
abbrev clsFast : Nat := 0
/-- COMPACT. -/
abbrev clsCompact : Nat := 1
/-- SLOW. -/
abbrev clsSlow : Nat := 2

/-- States of a shard (R226). -/
abbrev shDone : Nat := 0
/-- JOURNALED. -/
abbrev shJournaled : Nat := 1
/-- MOMENTS_WRITTEN. -/
abbrev shMoments : Nat := 2
/-- TORN. -/
abbrev shTorn : Nat := 3

/-- Entry i. -/
def State.shard (s : State) (i : Nat) : Shard := shardOf (s.obj Obj.residence i)

/-- The non-empty entries, ascending. -/
def State.shards (s : State) : List (Nat × Shard) :=
  ((s.rowsOf Obj.residence).map (fun e => (e.1, shardOf e.2))).filter (fun e => e.2.ecount != 0)

/-- The non-empty, non-FROZEN entries. -/
def State.liveShards (s : State) : List (Nat × Shard) := s.shards.filter (fun e => e.2.rule != 0)

/-- The STATE field of an entry set. -/
def State.setShardState (s : State) (i v : Nat) : State := s.setField Obj.residence i 130 3 v
/-- The GEN field of an entry set. -/
def State.setShardGen (s : State) (i v : Nat) : State := s.setField Obj.residence i 114 16 v

/-- The die that updates a shard: s for a stack, 24 + w for a weft die (R271). -/
def Shard.die (d : Shard) : Nat := if d.cls = clsSlow then 24 + d.weft else d.home

/-- The arrays of a shard (R220). -/
inductive Arr where
  | work | grad | master | m | v | avg
deriving DecidableEq, Repr

/-- Bytes of an element. -/
def Arr.width : Arr → Nat
  | .work => 2
  | .avg => 2
  | _ => 4

/-- Values an array holds; 0 for one that the rule, the class or AVG leaves absent, and in an empty entry, which nothing uses
(R220 to R222, R225). -/
def Shard.count (d : Shard) (a : Arr) : Nat :=
  if d.ecount = 0 then 0
  else match a with
  | .work => d.ecount
  | .grad => if d.rule = 0 then 0 else d.ecount
  | .master => if d.rule = 0 ∨ d.cls = clsCompact then 0 else d.ecount
  | .m => if 2 ≤ d.rule then d.ecount else 0
  | .v => if d.rule = 4 ∨ d.rule = 5 then d.ecount
    else if d.rule = 7 then (if d.rowlen = 0 then 0 else d.ecount / d.rowlen) + d.rowlen else 0
  | .avg => if d.avg then d.ecount else 0

/-- Bytes of an array padded to whole 4 KiB units (R222). -/
def Shard.padded (d : Shard) (a : Arr) : Nat := ceilDiv (d.count a * a.width) 4096 * 4096

/-- The arrays that lie from FBASE, in order. -/
def Shard.fastArrs (d : Shard) : List Arr := if d.cls = clsSlow then [.grad] else [.grad, .master, .m, .v, .avg]
/-- The arrays that lie from SBASE, in order. -/
def Shard.slowArrs (d : Shard) : List Arr := if d.cls = clsSlow then [.master, .m, .v, .avg] else []

/-- Bytes before an array among contiguous ones. -/
def Shard.before (d : Shard) (a : Arr) : List Arr → Nat
  | [] => 0
  | b :: bs => if b = a then 0 else d.padded b + d.before a bs

/-- Where an array begins: in the slow tier or not, and its address in that tier's flat memory (R222). -/
def Shard.place (d : Shard) (a : Arr) : Bool × Nat :=
  if a = .work then (false, d.home * 2 ^ 36 + d.wbase * 4096)
  else if d.fastArrs.contains a then (false, d.home * 2 ^ 36 + d.fbase * 4096 + d.before a d.fastArrs)
  else (true, d.weft * 2 ^ 39 + d.sbase * 4096 + d.before a d.slowArrs)

/-- A tier's memory. -/
def State.tier (s : State) (slow : Bool) : Mem := if slow then s.slow else s.fast

/-- A line of a tier lies in n bytes from an address. -/
def lineIn (a n line : Nat) : Bool := decide (64 * line < a + n ∧ a < 64 * line + 64)

/-- Bytes written to a tier; a fast line written is unpoisoned, and a place written reads again (R347). -/
def State.tierWrite (s : State) (slow : Bool) (a : Nat) (bs : List Byte) : State :=
  let s := { s with faults := { s.faults with
    readErrs := s.faults.readErrs.filter (fun e => !(e.slow == slow && lineIn a bs.length e.line)) } }
  if slow then { s with slow := memWrite s.slow a bs }
  else
    { s with
      fast := memWrite s.fast a bs
      fastPoison := s.fastPoison.filter (fun l => decide (64 * l + 64 ≤ a ∨ a + bs.length ≤ 64 * l)) }

/-- n values of w bytes from an address. -/
def readVals (m : Mem) (a w n : Nat) : List Nat := (List.range n).map (fun i => memNat m (a + w * i) w)

/-- An array's values. -/
def State.readArr (s : State) (d : Shard) (a : Arr) : List Nat :=
  let p := d.place a
  readVals (s.tier p.1) p.2 a.width (d.count a)

/-- An array's values written from its element k on. -/
def State.writeArr (s : State) (d : Shard) (a : Arr) (k : Nat) (vs : List Nat) : State :=
  if d.count a = 0 then s
  else
    let p := d.place a
    s.tierWrite p.1 (p.2 + a.width * k) (vs.flatMap (leBytes a.width))

/-! ## Masks -/

/-- A mask table entry's fields (R232). -/
structure MaskRow where
  tensor : Nat
  rows : Nat
  rowlen : Nat
  mode : Nat
  dbound : Nat
  pfmt : Nat
  rpack : Bool
  cpack : Bool
  evFirst : Nat
  evPeriod : Nat
  evLast : Nat
  dirbase : Nat
  rsegs : Nat
  csegs : Nat
  mbase : Nat
deriving DecidableEq, Repr

/-- A 256-bit mask entry. -/
def maskRow (w : Nat) : MaskRow where
  tensor := bits w 224 32
  rows := bits w 192 32
  rowlen := bits w 171 21
  mode := bits w 169 2
  dbound := bits w 162 7
  pfmt := bits w 158 4
  rpack := bitAt w 157
  cpack := bitAt w 156
  evFirst := bits w 124 32
  evPeriod := bits w 108 16
  evLast := bits w 76 32
  dirbase := bits w 52 24
  rsegs := bits w 40 12
  csegs := bits w 28 12
  mbase := bits w 4 24

/-- The used mask entries with their rows. -/
def State.masks (s : State) : List (Nat × MaskRow) :=
  ((s.rowsOf Obj.maskTable).map (fun e => (e.1, maskRow e.2))).filter (fun e => e.2.mode != 0)

/-- The mask entry of a tensor. -/
def State.maskOf (s : State) (tensor : Nat) : Option (Nat × MaskRow) := s.masks.find? (fun e => e.2.tensor == tensor)

/-- The shards of a tensor on a stack: the stack's part (R233). -/
def State.part (s : State) (tensor stack : Nat) : List (Nat × Shard) :=
  s.shards.filter (fun e => e.2.tensor == tensor && e.2.home == stack)

/-- First element and number of elements of a part. -/
def partSpan (es : List (Nat × Shard)) : Nat × Nat :=
  let lo := es.foldl (fun m e => min m e.2.efirst) (2 ^ 40)
  let hi := es.foldl (fun m e => max m (e.2.efirst + e.2.ecount)) 0
  (if es.isEmpty then 0 else lo, hi - lo)

/-- A PRUNE tensor has an event at step n (R235). -/
def MaskRow.pruneAt (m : MaskRow) (n : Nat) : Bool :=
  m.mode == 2 && decide (m.evFirst ≤ n ∧ n ≤ m.evLast) &&
    (if m.evPeriod = 0 then n == m.evFirst else (n - m.evFirst) % m.evPeriod == 0)

/-- The mask slot that holds a FIXED tensor's mask of this step, as taken (R237). -/
def State.fixedSlot (s : State) (tensor : Nat) : Option Taken := s.step.maskSlots.find? (fun t => t.role == tensor)

/-- The flat address of a bobbin slot in the slow tier (R219, R381, R383). -/
def State.slotAddr (s : State) (n : Nat) : Nat :=
  let w := ((tget s.prog.bobbins n).map (·.toNat)).getD 0
  let o := bits w 48 16 * 65536
  o / 2 ^ 29 * 2 ^ 39 + 0x7FE0000000 + o % 2 ^ 29

/-- Bit k of a bitmap. -/
def memBit (m : Mem) (base k : Nat) : Bool := bitAt (memGet m (base + k / 8)).toNat (k % 8)

/-- Bits of a bitmap written one by one. -/
def memPutBits (m : Mem) (base k : Nat) : List Bool → Mem
  | [] => m
  | b :: bs =>
    let a := base + k / 8
    memPutBits (memPut m a (BitVec.ofNat 8 (setBit (memGet m a).toNat (k % 8) b))) base (k + 1) bs

/-- The order of R236 among masters: a NaN above every finite value, then magnitude. -/
def pruneKey (w : W32) : Nat := if (dec32 w).isNan then 2 ^ 32 else bits w.toNat 0 31

/-- The positions of one group that a PRUNE event keeps: the k of largest magnitude, equal ones by lower
canonical index (R236). Positions come in canonical order with their masters. -/
def pruneGroup (k : Nat) (ps : List (Nat × W32)) : List Nat :=
  ((ps.mergeSort (fun a b => decide (pruneKey b.2 < pruneKey a.2) ||
    (pruneKey a.2 == pruneKey b.2 && decide (a.1 ≤ b.1)))).take k).map (·.1)

/-- Group of 8 by 8 of the n-th element of whole rows. -/
def groupOf (rowlen n : Nat) : Nat := n / rowlen / 8 * (rowlen / 8) + n % rowlen / 8

/-- The mask of a PRUNE event over a shard's new masters. -/
def pruneMask (rowlen k : Nat) (ws : List W32) : List Bool :=
  let idx := ws.mapIdx (fun n w => (n, w))
  let gs := (idx.map (fun e => groupOf rowlen e.1)).eraseDups
  let kept := gs.flatMap (fun g => pruneGroup k (idx.filter (fun e => groupOf rowlen e.1 == g)))
  idx.map (fun e => kept.contains e.1)

/-- The mask in force for a shard's write-back in the running step with these new masters (R234 to R236). -/
def State.shardMask (s : State) (d : Shard) (masters : List W32) : List Bool :=
  let all := List.replicate d.ecount true
  if d.maskmode = 0 then all
  else match s.maskOf d.tensor with
    | none => all
    | some (row, m) =>
      if m.pruneAt s.stepCount then pruneMask m.rowlen m.dbound masters
      else match s.fixedSlot d.tensor with
        | some t => (List.range d.ecount).map (fun e => memBit s.slow (s.slotAddr t.slot + 256) (d.efirst + e))
        | none =>
          if s.obj Obj.maskLastEvent row = 0xFFFFFFFF then all
          else
            let first := (partSpan (s.part d.tensor d.home)).1
            (List.range d.ecount).map (fun e =>
              memBit s.fast (d.home * 2 ^ 36 + m.mbase * 4096) (d.efirst - first + e))

/-- The bits of a shard written into its stack's bitmap. -/
def State.writeMask (s : State) (d : Shard) (bs : List Bool) : State :=
  match s.maskOf d.tensor with
  | none => s
  | some (_, m) =>
    if d.maskmode = 0 then s
    else
      let first := (partSpan (s.part d.tensor d.home)).1
      { s with fast := memPutBits s.fast (d.home * 2 ^ 36 + m.mbase * 4096) (d.efirst - first) bs }

/-! ## Packed forms -/

/-- Lines of a segment slot (R242). -/
def segSlotLines (pfmt : Nat) : Nat :=
  match pfmt with
  | 0 => 517 | 1 => 389 | 2 => 389 | 3 => 389 | 4 => 389 | 8 => 389 | 5 => 373 | 6 => 373 | _ => 357

/-- One entry before packing: its K, its slot in the band, its W_work value. -/
structure Kept where
  k : Nat
  slot : Nat
  w : Nat
deriving DecidableEq, Repr

/-- A segment of the cut (R240): its slots with their rows or columns, its entries, SPLIT and LASTPART. -/
structure Seg where
  slots : List (Nat × Nat) := []
  entries : List Kept := []
  split : Bool := false
  last : Bool := false
deriving DecidableEq, Repr

/-- A segment holds the entry or entries of one more slot. -/
def Seg.join (g : Seg) (slot name : Nat) (es : List Kept) : Seg :=
  { g with slots := g.slots ++ [(slot, name)], entries := g.entries ++ es.map (fun e => { e with slot := slot }) }

/-- The cut of a band (R240): slots in order, each with its number, its row or column and its entries by K.
`open_` is the open segment. -/
def cutBand : List (Nat × Nat × List Kept) → Option Seg → List Seg
  | [], open_ => open_.toList
  | (n, name, es) :: rest, open_ =>
    if 4096 < es.length then
      let full := (es.length - 1) / 4096
      let pieces := (List.range full).map (fun i =>
        { ({} : Seg).join 0 name ((es.drop (4096 * i)).take 4096) with split := true })
      open_.toList ++ pieces ++ cutBand rest (some { ({} : Seg).join 0 name (es.drop (4096 * full)) with last := true })
    else
      match open_ with
      | none => cutBand rest (some (({} : Seg).join n name es))
      | some g =>
        if g.entries.length + es.length ≤ 4096 then cutBand rest (some (g.join n name es))
        else g :: cutBand rest (some (({} : Seg).join n name es))

/-- The entries of a segment in the order of R96. -/
def Seg.sorted (g : Seg) : List Kept :=
  g.entries.mergeSort (fun a b => decide (a.k < b.k) || (a.k == b.k && decide (a.slot ≤ b.slot)))

/-- The (block, slot) pairs of entries, ascending. -/
def pairsOf (es : List Kept) : List Nat := (es.map (fun e => e.k / 32 * 64 + e.slot)).mergeSort.eraseDups

/-- The element codes of a segment's entries, its scale bytes and its counts (R243). -/
def Seg.convert (pfmt : Nat) (es : List Kept) : Converted :=
  let val := fun (e : Kept) => ((elemFmt 1).decode e.w, Rnd.rne)
  if isMx pfmt then
    let ps := pairsOf es
    let blocks := ps.map (fun q => toMxBlock pfmt ((es.filter (fun e => e.k / 32 * 64 + e.slot == q)).map val))
    let codeOf := fun (i : Nat) (e : Kept) =>
      let q := e.k / 32 * 64 + e.slot
      let before := ((es.take i).filter (fun f => f.k / 32 * 64 + f.slot == q)).length
      let b := nth blocks ((ps.findIdx? (· == q)).getD 0) { scale := 0, elems := [] }
      nth b.elems before { code := 0 }
    let rs := es.mapIdx codeOf
    { codes := rs.map (·.code), scales := blocks.map (·.scale), counts := countsOf rs }
  else convertAll pfmt (es.map val)

/-- Bytes padded to whole lines. -/
def padLine (bs : List Byte) : List Byte := bs ++ List.replicate (ceilDiv bs.length 64 * 64 - bs.length) 0

/-- Elements of w bits as bytes. -/
def packBytes (w : Nat) (vs : List Nat) : List Byte := leBytes (ceilDiv (w * vs.length) 8) (packFields w vs)

/-- A segment header (R244). -/
def segHeader (m : MaskRow) (band piece : Nat) (column : Bool) (lines nnz nrows : Nat) (g : Seg) : List Byte :=
  leBytes 64 (nnz + lines * 2 ^ 16 + nrows * 2 ^ 28 + m.pfmt * 2 ^ 35 + column.toNat * 2 ^ 39 + g.split.toNat * 2 ^ 40
    + g.last.toNat * 2 ^ 41 + m.tensor * 2 ^ 48 + band * 2 ^ 80 + piece * 2 ^ 112)

/-- The bytes of a segment (R242 to R244), and what its conversion counts. -/
def Seg.bytes (g : Seg) (m : MaskRow) (band piece : Nat) (column : Bool) : List Byte × Counts :=
  let es := g.sorted
  let c := Seg.convert m.pfmt es
  let table := (List.range 64).flatMap (fun n =>
    leBytes 4 (((g.slots.find? (fun e => e.1 == n)).map (·.2)).getD 0xFFFFFFFF))
  let idx := padLine (es.flatMap (fun e => leBytes 4 (e.k + e.slot * 2 ^ 22)))
  let vals := padLine (packBytes (elemBits m.pfmt) c.codes)
  let scs := padLine c.scales
  let body := table ++ idx ++ vals ++ scs
  (segHeader m band piece column (1 + body.length / 64) es.length g.slots.length g ++ body, c.counts)

/-- The header line of a segment slot the cut leaves unused (R245). -/
def emptySeg (m : MaskRow) (band piece : Nat) (column : Bool) : List Byte := segHeader m band piece column 1 0 0 {}

/-- Kept positions of a stack's part with their W_work: (row, column, value), canonical order. -/
def State.partKept (s : State) (tensor stack : Nat) (m : MaskRow) : List (Nat × Nat × Nat) :=
  let es := s.part tensor stack
  let first := (partSpan es).1
  let ev := match s.maskOf tensor with
    | some (row, _) => s.obj Obj.maskLastEvent row
    | none => 0xFFFFFFFF
  let whole := ev == 0xFFFFFFFF && !m.pruneAt s.stepCount && (s.fixedSlot tensor).isNone
  let base := stack * 2 ^ 36 + m.mbase * 4096
  (es.mergeSort (fun a b => decide (a.2.efirst ≤ b.2.efirst))).flatMap (fun e =>
    (s.readArr e.2 .work).mapIdx (fun i w => (e.2.efirst + i, w)) |>.filterMap (fun (p : Nat × Nat) =>
      if whole || memBit s.fast base (p.1 - first) then some (p.1 / m.rowlen, p.1 % m.rowlen, p.2) else none))

/-- The slots of one band with their entries (R239): every row or column of the band, those without a kept position too,
which R240 joins to the open segment like any other. -/
def bandSlots (column : Bool) (first band count : Nat) (ks : List (Nat × Nat × Nat)) : List (Nat × Nat × List Kept) :=
  (List.range (min 64 (count - 64 * band))).map (fun n =>
    let name := if column then 64 * band + n else first + 64 * band + n
    (n, name, ks.filterMap (fun e =>
      if column then (if e.2.1 = name then some { k := e.1, slot := n, w := e.2.2 : Kept } else none)
      else if e.1 = name then some { k := e.2.1, slot := n, w := e.2.2 : Kept } else none)))

/-- The key of a band to repack. -/
def bandKey (tensor stack : Nat) (column : Bool) (band : Nat) : Nat :=
  tensor * 2 ^ 40 + stack * 2 ^ 33 + column.toNat * 2 ^ 32 + band

/-- Rows of a stack's part: first row and number. -/
def State.partRows (s : State) (tensor stack : Nat) (m : MaskRow) : Nat × Nat :=
  let p := partSpan (s.part tensor stack)
  if m.rowlen = 0 then (0, 0) else (p.1 / m.rowlen, p.2 / m.rowlen)

/-- The directory word of a band (R247). -/
def State.bandDir (s : State) (tensor stack : Nat) (m : MaskRow) (column : Bool) (band : Nat) : Nat :=
  let rowBands := ceilDiv (s.partRows tensor stack m).2 64
  stack * 2 ^ 36 + m.dirbase * 4096 + 8 * (if column then rowBands + band else band)

/-- The segments of a band. -/
def State.bandSegs (s : State) (tensor stack : Nat) (m : MaskRow) (column : Bool) (band : Nat) : List Seg :=
  let r := s.partRows tensor stack m
  cutBand (bandSlots column r.1 band (if column then m.rowlen else r.2) (s.partKept tensor stack m)) none

/-- Segment slots written one after another from an address. -/
def State.putSegs (s : State) (a L : Nat) : List (List Byte) → State
  | [] => s
  | b :: bs => (s.tierWrite false a b).putSegs (a + 64 * L) L bs

/-- A band repacked (R240 to R247): its segments, the headers of unused slots, the directory's count and the
peak. -/
def State.repackBand (s : State) (row : Nat) (m : MaskRow) (stack : Nat) (column : Bool) (band : Nat) : State × Counts :=
  let gs := s.bandSegs m.tensor stack m column band
  let L := segSlotLines m.pfmt
  let dir := s.bandDir m.tensor stack m column band
  let word := memNat s.fast dir 8
  let base := stack * 2 ^ 36 + bits word 40 24 * 4096
  let reserve := if column then m.csegs else m.rsegs
  let out := gs.mapIdx (fun i g => g.bytes m band i column)
  let unused := (List.range (reserve - gs.length)).map (fun i => emptySeg m band (gs.length + i) column)
  let t := s.putSegs base L (out.map (·.1) ++ unused)
  let t := t.tierWrite false dir (leBytes 8 (setBits word 28 12 gs.length))
  let lo := if column then 16 else 0
  let t := t.setField Obj.maskSegmentsPeak row lo 16 (max (t.field Obj.maskSegmentsPeak row lo 16) gs.length)
  (t, out.foldl (fun c b => c.add b.2) {})

end Sys2Proof.Machine
end

