-- ==== Sys2Proof/Machine/Exchange.lean ====
section
/-! DEFINITION. The gradient exchange (R254 to R256, R320 to R324): blocks and their owners, the chain sum, the
column sum, the gathers, and the norm partial. -/

namespace Sys2Proof.Machine

/-! ## Blocks -/

/-- One block: the shard's G array, its first element and its length. -/
structure Block where
  addr : Nat
  len : Nat
deriving DecidableEq, Repr

/-- The blocks of a shard: 1,024 elements each, the last possibly shorter (R320). -/
def Shard.blocks (d : Shard) : List Block :=
  (List.range (ceilDiv d.ecount 1024)).map (fun i =>
    { addr := (d.place .grad).2 + 4096 * i, len := min 1024 (d.ecount - 1024 * i) })

/-- The blocks of a layer in order. -/
def State.blocks (s : State) (layer : Nat) : List Block :=
  (s.liveShards.filter (fun e => e.2.layer == layer)).flatMap (fun e => e.2.blocks)

/-- The layers the exchange plan lists. -/
def State.planLayers (s : State) : List Nat := s.prog.exchange.map (fun e => e.1.toNat)

/-- q(b): the position that owns a block in its chain (R320). -/
def State.ownerPos (s : State) (b : Nat) : Nat := nth s.live (b / 2 % max 1 s.live.length) 0

/-- c(b): the chain index that owns a block in its column (R320). -/
def State.ownerChain (s : State) (b : Nat) : Nat := b / (2 * max 1 s.live.length) % max 1 s.gridC

/-- The key of a block. -/
def blockKey (layer b : Nat) : Nat := layer * 2 ^ 32 + b

/-- The key of a received block: `dir` is 0 when it travels towards higher positions or chains. -/
def partialKey (step layer b phase dir : Nat) : Nat := ((step * 2 ^ 16 + layer) * 2 ^ 32 + b) * 8 + phase * 2 + dir

/-- The STEP a frame of the running step carries (R307). -/
def State.stepTag (s : State) : Nat := s.stepCount % 2 ^ 48

/-- The values of G in a block. -/
def State.readG (s : State) (k : Block) : List W32 := (readVals s.fast k.addr 4 k.len).map (BitVec.ofNat 32)

/-- A block of G overwritten. -/
def State.writeG (s : State) (k : Block) (vs : List W32) : State :=
  s.tierWrite false k.addr ((vs.take k.len).flatMap (fun v => leBytes 4 v.toNat))

/-- A block of G holds poison: a poisoned line, or a lost unit while the step is poisoned (R370). -/
def State.gPoison (s : State) (k : Block) : Bool :=
  s.fastPoison.any (fun l => decide (64 * l < k.addr + 4 * k.len ∧ k.addr < 64 * l + 64)) ||
    (s.step.poisoned && s.faults.lost.any (fun e => e.1 == k.addr / 2 ^ 36 &&
      (List.range 3).any (fun i => let u := k.addr / 2048 + i
        u % 64 == e.2 && decide (2048 * u < k.addr + 4 * k.len))))

/-- Two blocks added element by element in binary32 (R321). -/
def addBlocks (a b : List W32) : List W32 := List.zipWith add32 a b

/-! ## Frames -/

/-- TAG of a GRAD frame (R308). -/
def gradTag (layer b phase : Nat) : Nat := layer % 2 ^ 16 * 2 ^ 48 + b % 2 ^ 32 * 2 ^ 16 + phase % 4 * 2 ^ 14

/-- The port a block takes in a direction of its chain: (b div 2) mod 3 from the direction's first, or the next
live one (R321); where none is live it waits for one that retrains (R311). -/
def State.gradPort (s : State) (n : Neighbour) (b : Nat) : Nat :=
  let ps := portsTo n
  let k := b / 2 % max 1 ps.length
  let order := ps.drop k ++ ps.take k
  (order.find? s.portUp).getD (s.waitPort n)

/-- A block sent to a neighbour. -/
def State.sendGrad (s : State) (n : Neighbour) (layer b phase : Nat) (poison : Bool) (vs : List W32) : State :=
  let f := s.frame tyGrad (gradTag layer b phase) (packFields 32 (vs.map (·.toNat))) (ceilDiv (4 * vs.length) 8 * 8)
  s.sendOn (s.gradPort n b) { f with poison := poison }

/-- A received block, if it is there. -/
def State.got (s : State) (layer b phase dir : Nat) : Option (Bool × List W32) :=
  tget s.step.partials (partialKey s.stepTag layer b phase dir)

/-- A received block used up. -/
def State.use (s : State) (layer b phase dir : Nat) : State :=
  { s with step := { s.step with partials := tdel s.step.partials (partialKey s.stepTag layer b phase dir) } }

/-- A block marked poisoned: the step is poisoned with it (R323). -/
def State.badBlock (s : State) (layer b : Nat) (poison : Bool) : State :=
  if poison then
    { s with step := { s.step with badBlocks := s.step.badBlocks ++ [blockKey layer b], poisoned := true } }
  else s

/-- A block is known to be poisoned. -/
def State.isBad (s : State) (layer b : Nat) : Bool := s.step.badBlocks.contains (blockKey layer b)

/-! ## The chain gather -/

/-- A neighbour's position on a side. -/
def State.posAt (s : State) (n : Neighbour) : Nat :=
  match n with
  | .next => nextPos s.gridP s.myPos
  | _ => prevPos s.gridP s.myPos

/-- A line end forwards the blocks of its parity to a joiner beside it: even ones towards higher positions, odd
ones towards lower (R341); and all of them where the joiner has no other neighbour in L (DEDUCED, log entry 53). -/
def State.forwardJoiner (s : State) (layer b : Nat) (poison : Bool) (vs : List W32) : State :=
  let P := s.gridP
  let wants := fun (n : Neighbour) =>
    let q := s.posAt n
    let far := if n = .next then nextPos P q else prevPos P q
    !(s.closed || s.canGo n || (s.livePort n).isNone || bitAt s.liveMap (q - 1)) &&
      ((b % 2 == 0) == (n == .next) || !bitAt s.liveMap (far - 1))
  ([Neighbour.next, .prev].filter wants).foldl (fun t n => t.sendGrad n layer b 3 poison vs) s

/-- The grid sum sent on through the chain from its owner: in the block's direction in a ring, both ways in a line
(R323). -/
def State.gatherFrom (s : State) (layer b : Nat) (poison : Bool) (vs : List W32) : State :=
  if s.closed then
    (if 1 < s.live.length then s.sendGrad (if b % 2 = 0 then .next else .prev) layer b 3 poison vs else s)
  else
    let s := if s.canGo .next then s.sendGrad .next layer b 3 poison vs else s
    if s.canGo .prev then s.sendGrad .prev layer b 3 poison vs else s

/-- The grid sum forwarded by a position it reached, in the direction it travels. -/
def State.gatherOn (s : State) (n : Neighbour) (layer b : Nat) (poison : Bool) (vs : List W32) : State :=
  if !s.canGo n then s
  else if s.closed && s.posAt n == s.ownerPos b then s
  else s.sendGrad n layer b 3 poison vs

/-- The grid sum of a block written into G (R323). -/
def State.takeSum (s : State) (layer b : Nat) (k : Block) (poison : Bool) (vs : List W32) : State :=
  let s := (s.writeG k vs).badBlock layer b poison
  let s := { s with step := { s.step with summed := s.step.summed ++ [blockKey layer b] } }
  s.forwardJoiner layer b poison vs

/-- The grid sum at a position that owns the block in its chain. -/
def State.ownSum (s : State) (layer b : Nat) (k : Block) (poison : Bool) (vs : List W32) : State :=
  (s.takeSum layer b k poison vs).gatherFrom layer b poison vs

/-! ## The column -/

/-- The column neighbour a block of this parity travels to (R322). -/
def columnDir (b : Nat) : Neighbour := if b % 2 = 0 then .columnHigh else .columnLow

/-- The chain after this one in a block's column direction. -/
def nextChain (C c b : Nat) : Nat := if b % 2 = 0 then (c + 1) % max 1 C else (c + C - 1) % max 1 C

/-- A block marked sent. -/
def State.markSent (s : State) (layer b : Nat) : State :=
  { s with step := { s.step with sentBlocks := s.step.sentBlocks ++ [blockKey layer b] } }

/-- The grid sum formed or passed on at the owner's position of each chain (R322, R323). -/
def State.columnStep (s : State) (layer b : Nat) (k : Block) : State :=
  let C := s.gridC
  let c := s.myChain
  let oc := s.ownerChain b
  let dir := b % 2
  let bad := s.isBad layer b
  if C ≤ 1 then s.ownSum layer b k bad (s.readG k)
  else if c = oc then
    match s.got layer b 1 dir with
    | none => s
    | some (p, vs) =>
      let sum := addBlocks vs (s.readG k)
      let s := (s.use layer b 1 dir).sendGrad (columnDir b) layer b 2 (bad || p) sum
      s.ownSum layer b k (bad || p) sum
  else if s.step.sentBlocks.contains (blockKey layer b) then s
  else if c = nextChain C oc b then (s.sendGrad (columnDir b) layer b 1 bad (s.readG k)).markSent layer b
  else
    match s.got layer b 1 dir with
    | none => s
    | some (p, vs) =>
      ((s.use layer b 1 dir).sendGrad (columnDir b) layer b 1 (bad || p) (addBlocks vs (s.readG k))).markSent layer b

/-- A chain sum formed: it stands in G, and the column goes on. -/
def State.chainSum (s : State) (layer b : Nat) (k : Block) (poison : Bool) (vs : List W32) : State :=
  let s := (s.writeG k vs).badBlock layer b poison
  ({ s with step := { s.step with chained := s.step.chained ++ [blockKey layer b] } }).columnStep layer b k

/-! ## The chain -/

/-- A position of the chain other than the owner sends a block on in a direction: its own values, or the received
ones plus its own (R321). `first` says that the sum starts here. -/
def State.scatter (s : State) (n : Neighbour) (first : Bool) (layer b : Nat) (k : Block) : State :=
  let dir := if n = .next then 0 else 1
  if s.step.sentBlocks.contains (blockKey layer b) then s
  else if first then (s.sendGrad n layer b 0 (s.gPoison k) (s.readG k)).markSent layer b
  else
    match s.got layer b 0 dir with
    | none => s
    | some (p, vs) =>
      ((s.use layer b 0 dir).sendGrad n layer b 0 (p || s.gPoison k) (addBlocks vs (s.readG k))).markSent layer b

/-- The owner of a block in a closed ring forms the chain sum. -/
def State.ringOwner (s : State) (layer b : Nat) (k : Block) : State :=
  if s.live.length ≤ 1 then s.chainSum layer b k (s.gPoison k) (s.readG k)
  else
    match s.got layer b 0 (b % 2) with
    | none => s
    | some (p, vs) => (s.use layer b 0 (b % 2)).chainSum layer b k (p || s.gPoison k) (addBlocks vs (s.readG k))

/-- The owner of a block in a line forms the chain sum from the parts of both sides (R321). -/
def State.lineOwner (s : State) (layer b : Nat) (k : Block) : State :=
  let i := s.linePos s.myPos
  let left := decide (0 < i)
  let right := decide (i + 1 < s.line.length)
  match left, s.got layer b 0 0, right, s.got layer b 0 1 with
  | true, none, _, _ => s
  | _, _, true, none => s
  | true, some (pa, a), true, some (pz, z) =>
    ((s.use layer b 0 0).use layer b 0 1).chainSum layer b k (pa || pz || s.gPoison k) (addBlocks (addBlocks a z) (s.readG k))
  | true, some (pa, a), false, _ =>
    (s.use layer b 0 0).chainSum layer b k (pa || s.gPoison k) (addBlocks a (s.readG k))
  | false, _, true, some (pz, z) =>
    (s.use layer b 0 1).chainSum layer b k (pz || s.gPoison k) (addBlocks z (s.readG k))
  | false, _, false, _ => s.chainSum layer b k (s.gPoison k) (s.readG k)

/-- What a block can do now at this module (R321, R322). -/
def State.blockStep (s : State) (layer b : Nat) (k : Block) : State :=
  let key := blockKey layer b
  if s.step.summed.contains key then s
  else if s.step.chained.contains key then s.columnStep layer b k
  else
    let q := s.ownerPos b
    let me := s.myPos
    if s.closed then
      if me = q then s.ringOwner layer b k
      else
        let n : Neighbour := if b % 2 = 0 then .next else .prev
        let start := if b % 2 = 0 then nextPos s.gridP q else prevPos s.gridP q
        s.scatter n (me == start) layer b k
    else if me = q then s.lineOwner layer b k
    else if s.linePos me < s.linePos q then s.scatter .next (s.linePos me == 0) layer b k
    else s.scatter .prev (s.linePos me + 1 == s.line.length) layer b k

/-- Every block of a layer moved on as far as it can go. -/
def State.layerSteps (s : State) (layer : Nat) : State :=
  ((s.blocks layer).zipIdx).foldl (fun t e => t.blockStep layer e.2 e.1) s

/-- The exchange of a layer starts, once a step (R254, R365). -/
def State.startLayer (s : State) (layer : Nat) : State :=
  if s.step.layersStarted.contains layer then s
  else ({ s with step := { s.step with layersStarted := s.step.layersStarted ++ [layer] } }).layerSteps layer

/-- The exchange entered for every layer that has not started (R173, R254, R370). -/
def State.startAll (s : State) : State := s.planLayers.foldl State.startLayer s

/-- A gradient target row (R251). -/
structure GradRow where
  rid : Nat
  port : Nat
  tensor : Nat
  efirst : Nat
  ecount : Nat
deriving DecidableEq, Repr

/-- A 128-bit row. -/
def gradRow (w : Nat) : GradRow where
  rid := bits w 112 16
  port := bits w 103 9
  tensor := bits w 64 32
  efirst := bits w 24 40
  ecount := bits w 0 24

/-- The rows of the image's table. -/
def State.gradRows (s : State) : List (Nat × GradRow) := s.prog.grads.map (fun e => (e.1, gradRow e.2.toNat))

/-- A row writes elements of a layer. -/
def State.rowOfLayer (s : State) (layer : Nat) (r : GradRow) : Bool :=
  s.liveShards.any (fun d => d.2.layer == layer && d.2.tensor == r.tensor &&
    decide (d.2.efirst < r.efirst + r.ecount ∧ r.efirst < d.2.efirst + d.2.ecount))

/-- The doffs of the running microbatch that have completed. -/
def State.doffsDone (s : State) : List W16 := s.fabric.doneSeqs ++ s.fabric.results.map (·.dseq)

/-- A layer's G is final (R254): the doff the plan gives the layer has completed in the last microbatch, and no result of the
layer still waits at an edge port for the adder. -/
def State.layerFinal (s : State) (layer : Nat) : Bool :=
  (s.prog.exchange.filter (fun e => e.1.toNat == layer)).all (fun e => s.doffsDone.contains e.2) &&
    s.gradRows.all (fun r => !s.rowOfLayer layer r.2 ||
      ((tget s.fabric.edge r.2.port).getD []).all (fun f => f.rid != r.2.rid))

/-- LAYER_EXCHANGE_START (R254): in the last microbatch of a step, once the layer's G is final. -/
def execLayerExchangeStart (layer : W16) (s : State) : Result :=
  done (s.ifUp (fun s =>
    let lastMb := s.phase == 1 && s.step.mbRunning && !s.step.evaluating && s.mbIndex + 1 == s.step.total
    if s.planLayers.contains layer.toNat && (lastMb || s.phase == 2) && s.layerFinal layer.toNat then s.startLayer layer.toNat else s))

/-! ## Received blocks -/

/-- A grid sum on its way through the column reaches a position that owns the block in its chain. -/
def State.columnGather (s : State) (layer b : Nat) (k : Block) (poison : Bool) (vs : List W32) : State :=
  let s := if nextChain s.gridC s.myChain b = s.ownerChain b then s else s.sendGrad (columnDir b) layer b 2 poison vs
  s.ownSum layer b k poison vs

/-- A grid sum on its way through the chain reaches another position. -/
def State.chainGather (s : State) (port layer b : Nat) (k : Block) (poison : Bool) (vs : List W32) : State :=
  let n : Neighbour := if neighbourOf port = .prev then .next else .prev
  (s.takeSum layer b k poison vs).gatherOn n layer b poison vs

/-- A block of a scatter phase kept until this module's own values are final. -/
def State.keepPartial (s : State) (step layer b phase dir : Nat) (poison : Bool) (vs : List W32) : State :=
  { s with step := { s.step with partials := tput s.step.partials (partialKey step layer b phase dir) (poison, vs) } }

/-- The grid sum received by a joining module, written into G (R341). -/
def State.joinerSum (s : State) (layer b : Nat) (poison : Bool) (vs : List W32) : State :=
  match (s.blocks layer)[b]? with
  | none => s
  | some k =>
    let s := (s.writeG k vs).badBlock layer b poison
    { s with link := { s.link with gridSums := s.link.gridSums ++ [blockKey layer b] } }

/-- An accepted GRAD frame. -/
def State.takeGrad (s : State) (port step layer b phase : Nat) (poison : Bool) (vs : List W32) : State :=
  let dir := match neighbourOf port with
    | .prev => 0
    | .next => 1
    | _ => b % 2
  if s.link.reweaving then (if phase = 3 then s.joinerSum layer b poison vs else s)
  else if phase ≤ 1 then
    let s := s.keepPartial step layer b phase dir poison vs
    match (s.blocks layer)[b]? with
    | some k => if step = s.stepTag ∧ s.step.layersStarted.contains layer then s.blockStep layer b k else s
    | none => s
  else if step ≠ s.stepTag ∨ s.step.summed.contains (blockKey layer b) then s
  else
    match (s.blocks layer)[b]? with
    | none => s
    | some k => if phase = 2 then s.columnGather layer b k poison vs else s.chainGather port layer b k poison vs

/-- GRAD_FRAME (R321 to R323). -/
def execGradFrame (port : PortNo) (hdr : FrameHdr) (layer : W16) (block : W32) (phase : BitVec 2) (data : List W32)
    (s : State) : Result :=
  done (s.ifUp (fun s =>
    s.accept port.val hdr tyGrad (fun t =>
      let t := t.crossWafer port.val (4 * data.length)
      if t.link.member || t.link.reweaving then
        t.takeGrad port.val hdr.step.toNat layer.toNat block.toNat phase.toNat hdr.poison data
      else t)))

/-! ## The end of the exchange -/

/-- The summed G of every layer has been written back (R255). -/
def State.allSummed (s : State) : Bool :=
  s.planLayers.all (fun l => s.step.layersStarted.contains l &&
    (List.range (s.blocks l).length).all (fun b => s.step.summed.contains (blockKey l b)))

/-- The squares of a block added to a sum in element order, each exact (R256). -/
def addSquares (acc : W64) (vs : List W32) : W64 :=
  vs.foldl (fun a v => add64 a (enc64 (Val.mul (dec32 v) (dec32 v)))) acc

/-- The number of the first block of an entry within its layer. -/
def State.firstBlock (s : State) (i : Nat) (d : Shard) : Nat :=
  (((s.liveShards.filter (fun e => e.2.layer == d.layer && decide (e.1 < i))).map (fun e => e.2.blocks.length))).foldl (· + ·) 0

/-- N2_local: over the blocks whose grid sum this module formed, by entry and element (R256, R324). -/
def State.normPartial (s : State) : W64 :=
  s.liveShards.foldl (fun acc e =>
    let first := s.firstBlock e.1 e.2
    (e.2.blocks.zipIdx).foldl (fun a k =>
      let b := first + k.2
      if s.ownerPos b = s.myPos ∧ s.ownerChain b = s.myChain then addSquares a (s.readG k.1) else a) acc) 0

/-- EXCHANGE_END (R255, R256). -/
def execExchangeEnd (s : State) : Result :=
  done (s.ifUp (fun s =>
    if (s.phase == 1 || s.phase == 2) && !s.step.exchangeEnded && s.allSummed then
      let s := { s with step := { s.step with exchangeEnded := true, n2 := s.normPartial } }
      if s.phase = 2 then s.setPhase 3 else s
    else s))

end Sys2Proof.Machine
end

