-- ==== Sys2Proof/Machine/Slots.lean ====
section
/-! DEFINITION. The bobbin table and slot headers (R381, R383, R385, R388): entries, header fields, and handing
a slot back. -/

namespace Sys2Proof.Machine

/-! ## The table -/

/-- A bobbin table entry (R383). -/
structure BobbinRow where
  kind : Nat
  role : Nat
  shape : Nat
  dlines : Nat
  base : Nat
  size : Nat
deriving DecidableEq, Repr

/-- A 128-bit entry. -/
def bobbinRow (w : Nat) : BobbinRow where
  kind := bits w 124 4
  role := bits w 112 12
  shape := bits w 100 12
  dlines := bits w 82 18
  base := bits w 48 16
  size := bits w 32 16

/-- KIND values. -/
abbrev bkInput : Nat := 1
/-- EVAL_INPUT. -/
abbrev bkEvalInput : Nat := 2
/-- EVAL_RESULT. -/
abbrev bkEvalResult : Nat := 3
/-- MASK. -/
abbrev bkMask : Nat := 4

/-- The entry of a slot. -/
def State.bobbin (s : State) (n : Nat) : BobbinRow := bobbinRow (((tget s.prog.bobbins n).map (·.toNat)).getD 0)

/-- The declared slots, ascending. -/
def State.bobbins (s : State) : List (Nat × BobbinRow) :=
  (s.prog.bobbins.map (fun e => (e.1, bobbinRow e.2.toNat))).filter (fun e => e.2.kind != 0)

/-- The weft die of a slot (R381). -/
def BobbinRow.weft (b : BobbinRow) : Nat := b.base / 8192

/-- The roles of a KIND, ascending. -/
def State.roles (s : State) (kind : Nat) : List Nat :=
  ((s.bobbins.filter (fun e => e.2.kind == kind)).map (·.2.role)).mergeSort.eraseDups

/-! ## Headers -/

/-- A header field: n bytes from byte off (R385). -/
def State.hdr (s : State) (slot off n : Nat) : Nat := memNat s.slow (s.slotAddr slot + off) n

/-- A header field written. -/
def State.putHdr (s : State) (slot off n v : Nat) : State := { s with slow := memPutNat s.slow (s.slotAddr slot + off) n v }

/-- OWNER. -/
def State.owner (s : State) (slot : Nat) : Nat := s.hdr slot 0 4
/-- LENGTH. -/
def State.slotLen (s : State) (slot : Nat) : Nat := s.hdr slot 8 4

/-- Bytes of payload a slot holds. -/
def BobbinRow.room (b : BobbinRow) : Nat := b.size * 65536 - 256

/-- A slot handed back: CHAIN_TIME, STATUS, then OWNER (R388). -/
def State.handBack (s : State) (slot status : Nat) : State :=
  let s := ((s.putHdr slot 32 8 s.time.now).putHdr slot 44 4 status).putHdr slot 0 4 1
  s.bump Obj.bobbinReturned status 1

end Sys2Proof.Machine
end

