-- ==== Sys2Proof/Machine/Units.lean ====
section
/-! DEFINITION. Units that fail: occurrences and permanence (R346 to R351), report groups (R357), the stop
of the wafer (R360), redirection of memory units (R368), leaving the grid (R316, R371) and retirement. -/

namespace Sys2Proof.Machine

/-- Levels of R354. -/
abbrev lvSpindle : Nat := 1
/-- BOLT. -/
abbrev lvBolt : Nat := 2
/-- WAFER. -/
abbrev lvWafer : Nat := 3
/-- DUDIN. -/
abbrev lvDudin : Nat := 4
/-- CHANNEL. -/
abbrev lvChannel : Nat := 5
/-- WEFT. -/
abbrev lvWeft : Nat := 6
/-- LANE. -/
abbrev lvLane : Nat := 7
/-- PORT. -/
abbrev lvPort : Nat := 8
/-- SLOWDEV. -/
abbrev lvSlowdev : Nat := 9
/-- SERVICE. -/
abbrev lvService : Nat := 10
/-- MODULE. -/
abbrev lvModule : Nat := 11
/-- PEER. -/
abbrev lvPeer : Nat := 12

/-- A unit from its level and UNIT. -/
def unitId (level unit : Nat) : UnitId := ⟨BitVec.ofNat 4 level, BitVec.ofNat 32 unit⟩

/-- The physical site of a logical spindle as a unit. -/
def State.siteId (s : State) (p : Site) : UnitId := unitId lvSpindle (s.siteUnit p.x.val p.y.val)

/-- UNIT of a physical site, with the logical spindle it holds (R356). -/
def State.physUnit (s : State) (b c r : Nat) : Nat :=
  b * 2 ^ 24 + c * 2 ^ 20 + r * 2 ^ 16 +
    match s.logicalOf b c r with
    | some (x, y) => 2 ^ 15 + y * 2 ^ 8 + x
    | none => 0

/-- Two units are the same: sites by their physical place. -/
def sameUnit (a b : UnitId) : Bool :=
  a.level == b.level &&
    (if a.level.toNat = lvSpindle then a.unit.toNat >>> 16 == b.unit.toNat >>> 16 else a.unit == b.unit)

/-- The module is stepping: neither IDLE nor PAUSED. -/
def State.stepping (s : State) : Bool := s.phase != 0 && s.phase != 8

/-- The stack behind an edge port (R12, R163). -/
def stackOfPort (p : Nat) : Nat :=
  if p < 128 then p / 16
  else if p < 176 then 8 + (p - 128) / 12
  else if p < 304 then 19 - (p - 176) / 16
  else 24 - (p - 304 + 12) / 12

/-! ## The stop of the wafer -/

/-- A spindle halted by a stop: nothing of its running instructions, doff or router remains (R360). -/
def Spindle.stop (x : Spindle) : Spindle :=
  { x with
    halted := true, xq := [], puts := [], stored := [], fresh := [], streams := [], inFlight := []
    justWrote := none, nowWrote := none, atDoff := none, arrived := none, router := {} }

/-- A port's grant ends with the traffic it was given for. -/
def Arbiter.freed (a : Arbiter) : Arbiter := { a with holder := none, passed := 0 }

/-- The wafer halts and its traffic is discarded: spindles, bolt programs, streams, flits of spindles,
the hold and a doff in progress (R173, R261, R360). -/
def State.haltWafer (s : State) : State :=
  { s with
    spindles := s.spindles.map (fun e => (e.1, e.2.stop))
    bolts := s.bolts.map (fun e => (e.1, { e.2 with progRunning := false }))
    streams := { s.streams with engines := [] }
    fabric := { s.fabric with
      sending := [], portIn := [], portOut := [], edge := [], results := [], watchdog := 0, watchdogOn := false
      arbiters := s.fabric.arbiters.map (fun e => if e.1 / 2 ^ 20 = 1 then (e.1, e.2.freed) else e) }
    hold := {}
    faults := { s.faults with doffsAtStop := 0 }
    step := { s.step with mbRunning := false } }

/-! ## Reports -/

/-- A report joins every open group in which its unit or its reporter already appears; groups it links
merge into the one that opened earliest (R357). -/
def joinGroups (r : Report) (gs : List Group) : List Group :=
  let hit := fun (g : Group) => g.reports.any (fun q =>
    sameUnit q.unit r.unit || sameUnit q.reporter r.unit || sameUnit q.unit r.reporter || sameUnit q.reporter r.reporter)
  let inG := gs.filter hit
  let opened := inG.foldl (fun t g => min t g.opened) r.time
  gs.filter (fun g => !hit g) ++ [{ opened := opened, reports := inG.flatMap (·.reports) ++ [r] }]

/-- A report about another unit gathered into a group (R357). -/
def State.report (s : State) (reporter unit : UnitId) (code detail : Nat) : State :=
  let s := s.bump Obj.faultReports 0 1
  let r : Report := { time := s.time.now, reporter, unit, code := BitVec.ofNat 16 code, detail := BitVec.ofNat 32 detail }
  { s with faults := { s.faults with groups := joinGroups r s.faults.groups } }

/-- The unit is named in an open report group, itself or by a unit it contains. -/
def State.inOpenGroup (s : State) (u : UnitId) : Bool :=
  s.faults.groups.any (fun g => g.reports.any (fun q =>
    sameUnit q.unit u ||
      (u.level.toNat == lvBolt && q.unit.level.toNat == lvSpindle && q.unit.unit.toNat >>> 24 == u.unit.toNat)))

/-- SEQ of the newest ROOT record that names a unit; 0 for none. -/
def State.rootSeq (s : State) (u : UnitId) : Nat :=
  let rows := (s.objs.filter (fun e => e.1 / 2 ^ 20 == Obj.faultLog)).map (·.2)
  (rows.filter (fun w => bitAt w 0 && bits w 156 4 == u.level.toNat &&
    sameUnit u (unitId u.level.toNat (bits w 96 32)))).foldl (fun m w => max m (bits w 160 32)) 0

/-- SEQ of the newest ROOT record at a level; 0 for none. -/
def State.rootOfLevel (s : State) (level : Nat) : Nat :=
  let rows := (s.objs.filter (fun e => e.1 / 2 ^ 20 == Obj.faultLog)).map (·.2)
  (rows.filter (fun w => bitAt w 0 && bits w 156 4 == level)).foldl (fun m w => max m (bits w 160 32)) 0

/-! ## Recovery record -/

/-- RECOVERY_LAST (R374, R378): kind 1 lane, 2 fence, 3 refill, 4 module drop, 5 leave, 6 re-weave. -/
def State.recovered (s : State) (kind start root : Nat) : State :=
  s.setObj Obj.recoveryLast 0
    (kind * 2 ^ 88 + root % 2 ^ 32 * 2 ^ 96 + s.time.now % 2 ^ 64 * 2 ^ 128 + start % 2 ^ 64 * 2 ^ 192)

/-! ## Membership flags -/

/-- The module takes or loses membership; CHAIN_STATUS shows it. -/
def State.setMember (s : State) (b : Bool) : State :=
  { s with link := { s.link with member := b } }

/-- The payload of CTRL frames that name a module: chain in byte 0, position in byte 1 (DESIGN CHOICE,
log entry 11). -/
def peerPayload (chain pos : Nat) : Nat := chain % 32 + pos % 64 * 2 ^ 8

/-- CTRL LEAVE (R316, R328). -/
def State.sendLeave (s : State) : State :=
  s.sendLoss (s.ctrl 3 (peerPayload s.myChain s.myPos) 8)

/-- A re-weave that runs here ends (R342, R343). -/
def State.endWeave (s : State) : State :=
  if s.link.reweaving then
    ({ s with link := { s.link with reweaving := false, copied := [], gridSums := [] } }).setField Obj.reweaveStatus 0 0 4 0
  else s

/-- The module leaves: LEAVE where it was a member, LEFT_MEMBERSHIP with the SEQ of the record of its cause, STANDBY (R316,
R345, R371). -/
def State.leaveGrid (s : State) (cause : Nat) : State :=
  let s := (if s.link.member then s.sendLeave else s).endWeave
  let s := (s.setMember false).fault 0xB431 0 cause
  let s := s.setMode stStandby s.lastSeq
  { s.setPhase 0 with step := { s.step with mbRunning := false } }

/-- The module leaves before the record of its cause is written: LEFT_MEMBERSHIP follows that record (R357, R371). -/
def State.leaveEarly (s : State) (u : UnitId) : State :=
  let s := (if s.link.member then s.sendLeave else s).endWeave
  let s := (s.setMember false).setMode stStandby s.lastSeq
  let owed := s.faults.owed.map (fun o => if sameUnit o.unit u then { o with leave := true } else o)
  let s := { s with faults := { s.faults with owed := owed, causePending := true } }
  { s.setPhase 0 with step := { s.step with mbRunning := false } }

/-- The loss of a unit a module cannot lose: the wafer stops, the program is unrunnable, the module leaves
its grid with the retirement's SEQ in DETAIL (R371). -/
def State.cannotLose (s : State) (u : UnitId) : State :=
  let start := s.time.now
  let seq := s.lastSeq
  let owed := s.faults.owed.any (fun o => sameUnit o.unit u)
  let s := s.haltWafer
  let s := { s with prog := { s.prog with unrunnable := true } }
  let m := s.mode
  let inGrid := decide (m = stRun ∨ m = stRecover ∨ m = stDrain)
  let s := if m = stRun ∨ m = stRecover then s.setMode stDrain seq else s
  if owed then (if inGrid then s.leaveEarly u else s)
  else ((if inGrid then s.leaveGrid seq else s).recovered 5 start seq).causeWritten

/-! ## Retirement of memory -/

/-- The declared, journal and bobbin regions of a die as unit intervals of 2 KiB (R218, R219, R368). -/
def State.coveredUnits (s : State) (die : Nat) : List (Nat × Nat) :=
  if die < 24 then
    let w := s.obj Obj.tierLayout die
    ((List.range 4).map (fun i => (2 * bits w (64 * i + 24) 24, 2 * bits w (64 * i) 24))) ++ [(0x1FF4000, 0x2000000)]
  else [(0, 2 * s.obj Obj.slowLayout (die - 24)), (0xFFB4000, 0x10000000)]

/-- Units of a die, and channels or devices it interleaves over. -/
def dieUnits (die : Nat) : Nat := if die < 24 then 2 ^ 25 else 2 ^ 28
/-- The interleave of a die. -/
def dieWays (die : Nat) : Nat := if die < 24 then 64 else 4

/-- Numbers below n congruent to k modulo w. -/
def countMod (n k w : Nat) : Nat := if n ≤ k then 0 else (n - k - 1) / w + 1

/-- Units of [a, b) on channel k. -/
def unitsOn (w k : Nat) (r : Nat × Nat) : Nat := countMod r.2 k w - countMod r.1 k w

/-- Units of [lo, hi) outside the covered intervals and off the skipped channels. -/
def spareIn (w skip : Nat) (cov : List (Nat × Nat)) (lo hi : Nat) : Nat :=
  (List.range w).foldl (fun n k =>
    if bitAt skip k then n
    else n + (unitsOn w k (lo, hi) -
      (cov.map (fun c => unitsOn w k (max lo c.1, max (max lo c.1) (min hi c.2)))).foldl (· + ·) 0)) 0

/-- Retired channels or devices of a die as a bit map. -/
def State.retiredMap (s : State) (die : Nat) : Nat :=
  if die < 24 then s.obj Obj.channelRetired die else bits (s.obj Obj.slowdevRetired 0) (4 * (die - 24)) 4

/-- The lowest unit the spare runs of a die have reached. -/
def State.frontier (s : State) (die : Nat) : Nat :=
  (((tget s.faults.redirect die).getD []).foldl (fun m r => min m r.1) (dieUnits die))

/-- The largest lo in [0, hi) whose spare units down from hi number at least m, by bits. -/
def findLo (w skip : Nat) (cov : List (Nat × Nat)) (hi m : Nat) : Nat → Nat → Nat
  | 0, lo => lo
  | fuel + 1, lo =>
    let c := lo + 2 ^ fuel
    findLo w skip cov hi m fuel (if c ≤ hi ∧ m ≤ spareIn w skip cov c hi then c else lo)

/-- Spare units left in a die (R368). -/
def State.spareFree (s : State) (die : Nat) : Nat :=
  spareIn (dieWays die) (s.retiredMap die) (s.coveredUnits die) 0 (s.frontier die)

/-- Units in use that lie on channel k: covered ones and redirected ones placed there. -/
def State.usedOn (s : State) (die k : Nat) : Nat :=
  let w := dieWays die
  let cov := s.coveredUnits die
  (cov.map (unitsOn w k)).foldl (· + ·) 0 +
    (((tget s.faults.redirect die).getD []).map (fun r =>
      if bitAt r.2.2 k then 0
      else unitsOn w k (r.1, r.2.1) - (cov.map (fun c => unitsOn w k (max r.1 c.1, max (max r.1 c.1) (min r.2.1 c.2)))).foldl (· + ·) 0)).foldl (· + ·) 0

/-- The field defect map's nibble for a fenced site: the row, or 0xE for more than one (R351, R487). -/
def addDefect (w c r : Nat) : Nat :=
  let old := bits w (4 * c) 4
  setBits w (4 * c) 4 (if old = 15 then r else if old = r then r else 14)

/-- The exchange entered at once with G as it stands: the wafer stops and every layer's exchange starts (R173,
R370). -/
def State.enterExchange (s : State) : State :=
  let s := s.haltWafer.setPhase 2
  ({ s with step := { s.step with noMore := true } }).startAll

/-- G of the lost units is poisoned: the module runs no further microbatch and enters the exchange at once
(R370). -/
def State.losePhase (s : State) : State :=
  let ph := s.phase
  if ph = 1 ∨ ph = 2 ∨ (ph = 3 ∧ s.step.decision = none) then
    let s := { s with step := { s.step with poisoned := true, noMore := true } }
    if ph = 1 then s.enterExchange else s
  else s

/-- A slot whose payload is lost: handed to the host with STATUS DATA_LOST, whoever owns it (R393). -/
def State.loseSlot (s : State) (slot : Nat) : State :=
  let mine := s.owner slot == 2
  let s := ((s.putHdr slot 4 4 ((s.hdr slot 4 4 + 1) % 2 ^ 32)).putHdr slot 44 4 9).putHdr slot 0 4 1
  let s := if mine then s.bump Obj.bobbinReturned 9 1 else s
  { s with step := { s.step with maskSlots := s.step.maskSlots.filter (fun t => t.slot != slot) } }

/-- The stop of a microbatch that is to be replayed (R360): the module is in RECOVER until then. The doffs completed so
far tell where the replay reaches the point of the stop (R374). -/
def State.stopForReplay (s : State) : State :=
  let n := s.fabric.doneSeqs.length + s.fabric.results.length
  let s := s.haltWafer
  let s := { s with faults := { s.faults with stopTime := s.time.now, stopped := true, doffsAtStop := n } }
  if s.mode = stRun then s.setModePending stRecover else s

/-- The slots of a weft die lost with one of its devices: each spans all four. A running microbatch that had taken
one stops, to be replayed once the input is there again (R393). -/
def State.loseSlots (s : State) (weft : Nat) : State :=
  let ns := (s.bobbins.filter (fun e => e.2.weft == weft)).map (·.1)
  let hit := s.step.slots.any (fun t => ns.contains t.slot)
  let s := ns.foldl State.loseSlot s
  let s := { s with step := { s.step with slots := s.step.slots.filter (fun t => !ns.contains t.slot) } }
  if hit && s.step.mbRunning then s.stopForReplay else s

/-- An address of a tier lies on a unit whose contents are lost (R218, R219, R369). -/
def State.isLost (s : State) (slow : Bool) (a : Nat) : Bool :=
  s.faults.lost.any (fun e =>
    if slow then e.1 == 24 + a / 2 ^ 39 && e.2 == a / 2048 % 4 else e.1 == a / 2 ^ 36 && e.2 == a / 2048 % 64)

/-- The contents of the lost units dropped: nothing has written the places they are redirected to. The headers of the
declared slots stay, which the weft die holds (R393). -/
def State.dropLost (s : State) : State :=
  let heads := s.bobbins.map (fun e => s.slotAddr e.1)
  let isHead := fun (a : Nat) => heads.any (fun h => decide (h ≤ a ∧ a < h + 256))
  { s with
    fast := s.fast.filter (fun c => !s.isLost false c.1)
    slow := s.slow.filter (fun c => !s.isLost true c.1 || isHead c.1) }

/-- A unit of the gradient accumulators lies on a pseudo-channel (R370). -/
def State.losesG (s : State) (die k : Nat) : Bool :=
  s.liveShards.any (fun e => e.2.home == die &&
    (let p := (e.2.place .grad).2
     decide (0 < unitsOn 64 k (p / 2048, (p + 4 * e.2.ecount + 2047) / 2048))))

/-- Redirection of the units on channel k of a die (R368): none where the redirect table is full or the
spare area too small. -/
def State.redirect (s : State) (die k : Nat) : Option (State × Nat) :=
  let limit := if die < 24 then 4 else 1
  let map := s.retiredMap die
  let n := s.usedOn die k
  let map' := setBit map k true
  let s' := if die < 24 then s.setObj Obj.channelRetired die map'
    else s.setField Obj.slowdevRetired 0 (4 * (die - 24)) 4 map'
  if limit ≤ popcount 64 map then none
  else if s'.spareFree die < n then none
  else
    let hi := s.frontier die
    let lo := findLo (dieWays die) map' (s.coveredUnits die) hi n 28 0
    let rs := (tget s.faults.redirect die).getD []
    let rs := if n = 0 then rs else rs ++ [(lo, hi, map')]
    some ({ s' with faults := { s'.faults with redirect := tput s'.faults.redirect die rs } }, n)

/-! ## Retirement -/

/-- A unit entered as retired; it returns to service only after power-off (R351). -/
def State.markRetired (s : State) (u : UnitId) : State :=
  { s with faults := { s.faults with retired := s.faults.retired ++ [u] } }

/-- A record of a retirement, with HARD where the unit became permanent by a hard indicator or silence. -/
def State.retireRecord (s : State) (code unit detail : Nat) (hard : Bool) (related : Nat) : State :=
  ((s.bump Obj.faultReports 0 1).record
    { time := s.time.now, code, unit, detail, hard, related }).causeWritten

/-- The record of a retirement that a report may have caused: RELATED is the root's SEQ, so it waits while a group
that names the unit is open; where the group takes the unit's hard indicator, its root record is the
retirement's (R352, R357, R358). -/
def State.recordRetired (s : State) (u : UnitId) (code detail : Nat) (hard : Bool) : State :=
  if s.inOpenGroup u then
    let own := !s.faults.hard.any (fun h => sameUnit h.unit u)
    let o : Owed := { unit := u, code, detail, hard, own, start := s.time.now }
    { s with faults := { s.faults with owed := s.faults.owed ++ [o] } }
  else s.retireRecord code u.unit.toNat detail hard (s.rootSeq u)

/-- An owed record written, and LEFT_MEMBERSHIP with its SEQ (R345, R358, R371, R374). -/
def State.payOwed (s : State) (o : Owed) : State :=
  let s := if o.own then s.retireRecord o.code o.unit.unit.toNat o.detail o.hard (s.rootSeq o.unit) else s
  let seq := if o.own then s.lastSeq else s.rootSeq o.unit
  if o.leave then
    let peer := o.unit.level.toNat == lvPeer
    let s := s.fault 0xB431 0 seq
    let s := if peer then s else s.recovered 5 o.start seq
    if s.mode = stStandby ∨ (s.mode = stRecover ∧ peer = true) then s.setObj Obj.stateCause 0 s.lastSeq else s
  else s

/-- The records owed for units that no open group names any longer. -/
def State.settleOwed (s : State) : State :=
  let due := s.faults.owed.filter (fun o => !s.inOpenGroup o.unit)
  let rest := s.faults.owed.filter (fun o => s.inOpenGroup o.unit)
  due.foldl State.payOwed { s with faults := { s.faults with owed := rest } }

/-- Lanes of a port. -/
def State.lanes (s : State) (p : Nat) : Nat := s.field Obj.linkState p 4 4

/-- A port leaves service: what waits for it goes another way (R311). -/
def State.retirePort (s : State) (p : Nat) : State :=
  ((s.setPortState p lkRetired).markRetired (unitId lvPort p)).moveFrames p

/-- A lane retired (R311): agreed with the peer by LANE_RETIRE and followed by retraining on the remaining
lanes; the last lane retires the port. -/
def State.retireLane (s : State) (p l : Nat) (hard : Bool) : State :=
  if !bitAt (s.lanes p) l then s
  else
    let s := s.setField Obj.linkState p 4 4 (setBit (s.lanes p) l false)
    let s := (s.markRetired (unitId lvLane (8 * p + l))).recordRetired (unitId lvLane (8 * p + l)) 0x7201 0 hard
    if s.lanes p = 0 then
      (s.retirePort p).retireRecord 0x8202 p 0 true s.lastSeq
    else if s.portState p = lkUp then
      let s := s.sendOn p (s.ctrl 8 l 8)
      let q := s.port p
      (s.setPort p { q with leftUp := some s.time.now, retiring := [l] }).setPortState p lkRetraining
    else s

/-- How a unit became permanent. -/
inductive Perm where
  | silent | hard | recurrence | policy | watchdog
deriving DecidableEq, Repr

/-- DETAIL of SPINDLE_FENCED (R377); 4 stands for a fence under R216, recorded as SLOW_SPINDLE, and 5 for one on a bite of the
grant watchdog, which has its record already (R176). -/
def Perm.detail : Perm → Nat
  | .silent => 1
  | .hard => 2
  | .recurrence => 3
  | .policy => 4
  | .watchdog => 5

/-- Permanent by a hard indicator, by silence or by a bite. -/
def Perm.isHard : Perm → Bool
  | .silent => true
  | .hard => true
  | .watchdog => true
  | _ => false

/-- The code of a retirement's record: GRANT_WATCHDOG of the unit's level on a bite (R176, R377). -/
def Perm.code (how : Perm) (level code : Nat) : Nat := if how = .watchdog then level * 2 ^ 12 + 0x240 else code

/-- The carding multiplexers of a column switched around a row: CARDING_MAP, BOLT_STATE, FENCES, the field
defect map and the record (R361, R378). -/
def State.fenceRow (s : State) (b c r detail : Nat) : State :=
  let unit := s.physUnit b c r
  let hard := detail == 1 || detail == 2
  let s := s.setField Obj.cardingMap b (4 * c) 4 r
  let s := s.setField Obj.boltState b 8 8 (s.field Obj.boltState b 8 8 + 1)
  let s := (s.bump Obj.fences 0 1).setObj Obj.fieldDefects b (addDefect (s.obj Obj.fieldDefects b) c r)
  let s := s.markRetired (unitId lvSpindle unit)
  if detail = 5 then s
  else if detail = 4 then s.recordRetired (unitId lvSpindle unit) 0x1601 0 false
  else s.recordRetired (unitId lvSpindle unit) 0x1201 detail hard

/-- A lost bolt leaves the clock tree; for B27 the service die drives its standby entry into B28 (R454). -/
def State.clockLost (s : State) (b : Nat) : State :=
  let s := s.setObj Obj.clockParent b 7
  if b = 27 then (s.setField Obj.clockState 0 12 1 1).setObj Obj.clockParent 28 4 else s

/-- The loss of a bolt with its cause for BOLT_STATE and its record (R371, R372). -/
def State.loseBolt (s : State) (b cause code detail : Nat) : State :=
  if s.field Obj.boltState b 0 4 ≠ 0 then s
  else
    let s := s.setField Obj.boltState b 0 4 cause
    let s := { s with faults := { s.faults with dueFence := s.faults.dueFence.filter (fun d => d.1 != b) } }
    let seen : HardSeen :=
      { time := s.time.now, unit := unitId lvBolt b, code := BitVec.ofNat 16 code, detail := BitVec.ofNat 32 detail }
    let s := if s.inOpenGroup (unitId lvBolt b) then { s with faults := { s.faults with hard := s.faults.hard ++ [seen] } } else s
    let s := s.recordRetired (unitId lvBolt b) code detail true
    let s := { s with power := { s.power with railsOff := s.power.railsOff ++ [b] } }
    (s.clockLost b |>.markRetired (unitId lvBolt b)).cannotLose (unitId lvBolt b)

/-- A spindle site becomes due for its fence (R360, R366): where it holds a logical spindle and a
microbatch runs, a hard or silent failure stops the wafer; an unused spare is fenced at once (R361). A second
permanent site in one bolt column is a hard indicator of its bolt (R349). -/
def State.retireSite (s : State) (b c r : Nat) (how : Perm) : State :=
  if s.faults.dueFence.any (fun d => d.1 == b && d.2.1 == c && d.2.2 % 16 == r) then s
  else if (s.logicalOf b c r).isNone then
    if bits (s.obj Obj.cardingMap b) (4 * c) 4 = 15 then s.fenceRow b c r how.detail else s
  else if bits (s.obj Obj.cardingMap b) (4 * c) 4 ≠ 15 ∨ s.faults.dueFence.any (fun d => d.1 == b && d.2.1 == c) then
    s.loseBolt b 2 0x2201 2
  else
    let s := { s with faults := { s.faults with dueFence := s.faults.dueFence ++ [(b, c, r + 16 * how.detail)] } }
    if how.isHard && s.step.mbRunning then s.stopForReplay else s

/-- A die retired (R371): a Dudin die with its stack, or a weft die. -/
def State.loseDie (s : State) (die detail : Nat) (hard : Bool) : State :=
  let u := if die < 24 then unitId lvDudin die else unitId lvWeft (die - 24)
  if s.faults.retired.any (sameUnit u) then s
  else
    let s := s.markRetired u
    let s := if die < 24 then s.recordRetired u 0x4201 detail hard else s.recordRetired u 0x6201 0 hard
    s.cannotLose u

/-- The contents of a pseudo-channel or device are lost: they are refilled, the module in RECOVER meanwhile, and the
step goes on as R370 gives (R369, R438). -/
def State.startRefill (s : State) (die k : Nat) : State :=
  let since := if s.faults.lost.isEmpty then s.time.now else s.faults.lostSince
  let root := if s.faults.lost.isEmpty then s.lastSeq else s.faults.lostRoot
  let s := { s with faults := { s.faults with lost := s.faults.lost ++ [(die, k)], lostSince := since, lostRoot := root } }
  let s := (s.dropLost).setField Obj.refillStatus 0 0 4 2
  let s := if s.mode = stRun then s.setMode stRecover s.lastSeq else s
  if die < 24 && s.losesG die k then s.losePhase else s

/-- A read error lies on a channel or device; and one that the retries of a copy do not overcome (R347, R369). -/
def ReadErr.on (die k : Nat) (e : ReadErr) : Bool :=
  if e.slow then 24 + 64 * e.line / 2 ^ 39 == die && 64 * e.line / 2048 % 4 == k
  else 64 * e.line / 2 ^ 36 == die && 64 * e.line / 2048 % 64 == k

/-- A channel or device left: the places on it are read no more. -/
def State.leaveErrs (s : State) (die k : Nat) : State :=
  { s with faults := { s.faults with readErrs := s.faults.readErrs.filter (fun e => !e.on die k) } }

/-- A pseudo-channel or slow-tier device retired (R368 to R370): redirected, recorded, written to the
field maps; its contents lost where it failed hard, or where a unit of it cannot be copied (R369; the whole channel or device is
then refilled: DESIGN CHOICE, log entry 59). A retirement that fails retires the die. -/
def State.retireMemory (s : State) (die k : Nat) (how : Perm) : State :=
  if bitAt (s.retiredMap die) k then s
  else
    match s.redirect die k with
    | none => s.loseDie die 2 how.isHard
    | some (t, n) =>
      let u := if die < 24 then unitId lvChannel (die * 2 ^ 8 + k) else unitId lvSlowdev (4 * (die - 24) + k)
      let code := if die < 24 then how.code 5 0x5201 else how.code 9 0x9201
      let old := (tget t.sec.fieldMemory die).getD 0
      let t := { t with sec := { t.sec with fieldMemory := tput t.sec.fieldMemory die (setBit old k true) } }
      let t := (t.markRetired u).recordRetired u code (if how = .watchdog then 0 else n) how.isHard
      let t := if die < 24 then t else t.loseSlots (die - 24)
      let stuck := s.faults.readErrs.any (fun e => e.on die k && decide (4 ≤ e.fails))
      let t := t.leaveErrs die k
      if (how.isHard || stuck) && decide (0 < n) then t.startRefill die k else t

/-- A unit retired at its level (R351, R366, R368, R371). -/
def State.retire (s : State) (u : UnitId) (how : Perm) : State :=
  let n := u.unit.toNat
  match u.level.toNat with
  | 1 => s.retireSite (bits n 24 6) (bits n 20 4) (bits n 16 4) how
  | 2 => s.loseBolt (bits n 0 6) 4 0x2201 4
  | 3 =>
    if s.faults.retired.any (sameUnit u) then s
    else
      let s := { s with fabric := { s.fabric with deadPorts := s.fabric.deadPorts ++ [n] } }
      ((s.markRetired u).recordRetired u 0x3240 0 how.isHard).cannotLose u
  | 4 => s.loseDie (bits n 0 5) (if how.isHard then 1 else 3) how.isHard
  | 5 => s.retireMemory (bits n 8 5) (bits n 0 6) how
  | 6 => s.loseDie (24 + bits n 0 3) 0 how.isHard
  | 7 => s.retireLane (bits n 3 3) (bits n 0 2) how.isHard
  | 8 =>
    if s.portState (bits n 0 3) = lkRetired then s
    else (s.retirePort (bits n 0 3)).recordRetired u 0x8202 0 how.isHard
  | 9 => s.retireMemory (24 + bits n 2 3) (bits n 0 2) how
  | _ => s

/-- Occurrences of a unit within FAULT_PERM_WINDOW seconds (R348). -/
def State.recent (s : State) (u : UnitId) : Nat :=
  let w := s.obj Obj.faultPermWindow 0 * grainsPerSecond
  (s.faults.occurrences.filter (fun o => sameUnit o.1 u && decide (s.time.now ≤ o.2 + w))).length

/-- The unit is out of service or due to leave it. -/
def State.isRetired (s : State) (u : UnitId) : Bool :=
  s.faults.retired.any (sameUnit u) || s.faults.dueRetire.any (sameUnit u)

/-- One occurrence (R347, R348): permanent by recurrence on FAULT_PERM_RECUR + 1 within the window; such a
unit is retired at the next STEP boundary, or at once if the module is not stepping (R351). -/
def State.occurrence (s : State) (u : UnitId) : State :=
  let s := { s with faults := { s.faults with occurrences := s.faults.occurrences ++ [(u, s.time.now)] } }
  if s.isRetired u then s
  else if s.obj Obj.faultPermRecur 0 + 1 ≤ s.recent u then
    if s.stepping then { s with faults := { s.faults with dueRetire := s.faults.dueRetire ++ [u] } }
    else s.retire u .recurrence
  else s

/-! ## Reads of the tiers -/

/-- The pseudo-channel of a byte address (R368; log entry 25). -/
def channelOf (die a : Nat) : Nat := die * 2 ^ 8 + a / 2048 % 64

/-- Retried reads of a channel or device counted; more than 64 in one second of chain time are one occurrence
with its record (R347). -/
def State.retried (s : State) (u : UnitId) (code n : Nat) : State :=
  if n = 0 then s
  else
    let key := u.level.toNat * 2 ^ 32 + u.unit.toNat
    let sec := s.time.now / grainsPerSecond
    let old := match tget s.faults.eccRate key with
      | some (t, c) => if t = sec then c else 0
      | none => 0
    let s := { s with faults := { s.faults with eccRate := tput s.faults.eccRate key (sec, old + n) } }
    if old ≤ 64 ∧ 64 < old + n then (s.fault code u.unit.toNat 0).occurrence u else s

/-- The channel or device of a line. -/
def ReadErr.unit (e : ReadErr) : UnitId :=
  let a := 64 * e.line
  if e.slow then unitId lvSlowdev (4 * (a / 2 ^ 39) + a / 2048 % 4) else unitId lvChannel (channelOf (a / 2 ^ 36) a)

/-- A read that fails is tried again, up to three times (R347). -/
def ReadErr.lasts (e : ReadErr) : Bool := decide (4 ≤ e.fails)

/-- A read that found an error: counted as retried; one that still fails is recorded as poisoned, an occurrence (R347, R377). -/
def State.noteRead (s : State) (e : ReadErr) : State :=
  let base := if e.slow then 0x9000 else 0x5000
  let s := s.retried e.unit (base + 0x101) 1
  if e.lasts then (s.fault (base + 0x402) e.unit.unit.toNat 0).occurrence e.unit
  else { s with faults := { s.faults with readErrs := s.faults.readErrs.erase e } }

/-- A read of n bytes of a tier finds the errors that stand there. -/
def State.checkRead (s : State) (slow : Bool) (a n : Nat) : State :=
  (s.faults.readErrs.filter (fun e => e.slow == slow && lineIn a n e.line)).foldl State.noteRead s

/-- The line at an address cannot be read: it is delivered poisoned. -/
def State.unreadable (s : State) (slow : Bool) (a : Nat) : Bool :=
  s.faults.readErrs.any (fun e => e.slow == slow && e.line == a / 64 && e.lasts)

end Sys2Proof.Machine
end

