-- ==== Sys2Proof/Machine/Operands.lean ====
section
/-! DEFINITION. The operand forms of a spindle instruction: hank operands (R78, R101), store references
(R79, R102, R170), store lines (R71, R74), random contexts (R83) and the loop and program counters (R76,
R84). Undefined bits are free values (log entry 3). -/

namespace Sys2Proof.Machine

/-! ## Program order -/

/-- A program counter after an instruction: at the end of a loop body the innermost frame iterates or is
left; frames innermost first (R84). -/
def closeLoops (pc : Nat) : List LoopFrame → Nat × List LoopFrame
  | [] => (pc, [])
  | f :: fs =>
    if pc = f.last + 1 then
      if f.iter + 1 < f.count then (f.first, { f with iter := f.iter + 1 } :: fs) else closeLoops pc fs
    else (pc, f :: fs)

/-- The spindle at an instruction reached in program order. -/
def Spindle.goto (x : Spindle) (pc : Nat) : Spindle :=
  let r := closeLoops pc x.loops.reverse
  { x with pc := r.1, loops := r.2.reverse }

/-- The spindle after its instruction. -/
def Spindle.next (x : Spindle) : Spindle := x.goto (x.pc + 1)

/-- The counter of the loop at nesting depth k from the outermost; 0 when fewer are active (R79). -/
def Spindle.counter (x : Spindle) (k : Nat) : Nat := ((x.loops[k]?).map (·.iter)).getD 0

/-! ## Hank operands -/

/-- A 5-bit hank operand (R78). -/
inductive Opd where
  | h (k : Nat)
  | a (k : Nat)
  | p (k : Nat)
deriving DecidableEq, Repr

/-- The operand a field names. -/
def opd (v : BitVec 5) : Opd :=
  if v.toNat < 16 then .h v.toNat else if v.toNat < 24 then .a (v.toNat - 16) else .p (v.toNat - 24)

/-- An accumulator part. -/
def Opd.isAcc : Opd → Bool
  | .h _ => false
  | _ => true

/-- What an instruction reads of a hank operand: 4,096 elements, 128 scales, the poison bit. -/
structure View where
  elems : List W32
  scales : List Byte
  poison : Bool
deriving DecidableEq, Repr

/-- Index of the first undefined element of a register of a site: no two registers share one. -/
def regBase (p : Site) (k : Nat) : Nat := (p.row * 64 + k) * 2 ^ 16

/-- A list of words completed to n with undefined ones. -/
def fill32 (seed base n : Nat) (l : List W32) : List W32 :=
  l.take n ++ (List.range (n - l.length)).map (fun i => Config.free32 seed (base + l.length + i))

/-- A list of bytes completed to n with undefined ones. -/
def fill8 (seed base n : Nat) (l : List Byte) : List Byte :=
  l.take n ++ (List.range (n - l.length)).map (fun i => Config.free8 seed (base + l.length + i))

/-- Hank register k. -/
def Spindle.hank (x : Spindle) (k : Nat) : Hank := nth x.hanks k {}
/-- Accumulator hank k. -/
def Spindle.acc (x : Spindle) (k : Nat) : Acc := nth x.accs k {}

/-- The value parts of an accumulator. -/
def Acc.values (p : Site) (k : Nat) (a : Acc) : List W32 := fill32 a.seed (regBase p (16 + k)) 4096 a.s
/-- The ply parts of an accumulator. -/
def Acc.plies (p : Site) (k : Nat) (a : Acc) : List W32 := fill32 a.seed (regBase p (24 + k)) 4096 a.c
/-- The pairs of an accumulator. -/
def Acc.pairs (p : Site) (k : Nat) (a : Acc) : List Pair :=
  List.zipWith (fun s c => ⟨s, c⟩) (a.values p k) (a.plies p k)

/-- A hank operand read (R78, R101): A reads s, P reads c. -/
def State.view (s : State) (p : Site) (o : Opd) : View :=
  let x := s.spindle p
  match o with
  | .h k =>
    let h := x.hank k
    { elems := fill32 h.seed (regBase p k) 4096 h.elems
      scales := fill8 h.seed (regBase p k) 128 h.scales, poison := h.poison }
  | .a k => let a := x.acc k; { elems := a.values p k, scales := [], poison := a.poison }
  | .p k => let a := x.acc k; { elems := a.plies p k, scales := [], poison := a.poison }

/-- An element written with w bits: the bits above them are undefined. -/
def padElem (seed base w i : Nat) (v : W32) : W32 :=
  if 32 ≤ w then v else ((Config.free32 seed (base + i) >>> w) <<< w) ||| (v &&& (BitVec.ofNat 32 (2 ^ w - 1)))

/-- A list of elements written with w bits. -/
def padElems (seed base w : Nat) (l : List W32) : List W32 := l.mapIdx (fun i v => padElem seed base w i v)

/-- A hank register written: elements of w bits, and scales where the format has them. A poisoned write
leaves undefined bits (R74). -/
def Hank.write (h : Hank) (seed base w : Nat) (vals : List W32) (scales : Option (List Byte)) (poison : Bool) : Hank :=
  if poison then { elems := [], scales := [], seed := seed, poison := true }
  else
    { elems := padElems seed base w vals, scales := scales.getD h.scales, seed := h.seed, poison := false }

/-- A value or ply part written; the other part, the counter and LONG stay, and the poison bit becomes
that of the write (R101). -/
def Acc.writePart (a : Acc) (seed : Nat) (isPly : Bool) (vals : List W32) (poison : Bool) : Acc :=
  if poison then { a with s := [], c := [], seed := seed, poison := true }
  else if isPly then { a with c := vals, poison := false }
  else { a with s := vals, poison := false }

/-- A hank register replaced. -/
def State.setHank (s : State) (p : Site) (k : Nat) (h : Hank) : State :=
  let x := s.spindle p
  s.setSpindle p { x with hanks := setNth x.hanks k h }

/-- An accumulator hank replaced. -/
def State.setAcc (s : State) (p : Site) (k : Nat) (a : Acc) : State :=
  let x := s.spindle p
  s.setSpindle p { x with accs := setNth x.accs k a }

/-- A hank operand written with elements of w bits (R74, R78, R101). -/
def State.writeOpd (s : State) (p : Site) (o : Opd) (w : Nat) (vals : List W32) (scales : Option (List Byte))
    (poison : Bool) : State :=
  let x := s.spindle p
  let seed := s.free + 1
  let t := match o with
    | .h k => s.setHank p k ((x.hank k).write seed (regBase p k) w vals scales poison)
    | .a k => s.setAcc p k ((x.acc k).writePart seed false (padElems seed (regBase p (16 + k)) w vals) poison)
    | .p k => s.setAcc p k ((x.acc k).writePart seed true (padElems seed (regBase p (24 + k)) w vals) poison)
  t.drew 1

/-- A hank operand poisoned, as by a rejected instruction (R102). -/
def State.poisonOpd (s : State) (p : Site) (o : Opd) : State := s.writeOpd p o 32 [] none true

/-! ## The store -/

/-- Lines of a spindle's store (R70). -/
abbrev storeLines : Nat := 98304

/-- One store line; one that nothing has written since the load holds undefined bits (R404). -/
def Store.line (p : Site) (st : Store) (l : Nat) : Line :=
  (tget st.lines l).getD { data := if st.zeroed then 0 else Config.freeLine st.seed (p.row * 2 ^ 20 + l), poison := false }

/-- n lines of a spindle's store. -/
def State.readLines (s : State) (p : Site) (l n : Nat) : List Line :=
  (List.range n).map (fun i => Store.line p (s.spindle p).store (l + i))

/-- Lines written in order from a line. -/
def putLines (ls : SMap Line) (l : Nat) : List Line → SMap Line
  | [] => ls
  | x :: xs => putLines (tput ls l x) (l + 1) xs

/-- Lines of a spindle's store written (R74): a bit error that stood in one of them is gone (R75). -/
def State.writeLines (s : State) (p : Site) (l : Nat) (xs : List Line) : State :=
  let x := s.spindle p
  let there := fun k => decide (l ≤ k ∧ k < l + xs.length)
  s.setSpindle p { x with store := { x.store with
    lines := putLines x.store.lines l xs
    flips := x.store.flips.filter (fun e => !there e.1)
    upsets := x.store.upsets.filter (fun k => !there k) } }

/-- Lines with one poison bit for all: the bits of poisoned lines are undefined. -/
def poisonedLines (seed l n : Nat) : List Line :=
  (List.range n).map (fun i => { data := Config.freeLine seed (l + i), poison := true })

/-- The bits of lines as one little-endian number. -/
def linesNat (xs : List Line) : Nat := packFields 512 (xs.map (·.data.toNat))

/-- n lines that spell a number. -/
def natLines (n v : Nat) : List Line :=
  (fields 512 n v).map (fun d => { data := BitVec.ofNat 512 d, poison := false })

/-- The 4,096 elements of w bits in lines (R71). -/
def lineElems (w : Nat) (xs : List Line) : List W32 :=
  (fields w 4096 (linesNat xs)).map (BitVec.ofNat 32)

/-- The lines of 4,096 elements of w bits. -/
def elemLines (w : Nat) (es : List W32) : List Line := natLines (8 * w) (packFields w (es.map (·.toNat)))

/-- The 128 scale bytes of two lines. -/
def lineScales (xs : List Line) : List Byte := leBytes 128 (linesNat xs)

/-- The two lines of 128 scale bytes. -/
def scaleLinesOf (ss : List Byte) : List Line := natLines 2 (leNat ss)

/-- The hank transposed (R72): element (i, j) from (j, i). -/
def transpose64 {α : Type} (d : α) (es : List α) : List α :=
  let rows := chunks 64 65 es
  (List.range 64).flatMap (fun j => rows.map (fun r => nth r j d))

/-! ## Store references -/

/-- The fields of a store reference (R79). -/
structure SRef where
  am : Nat
  base : Nat
  slot : Nat
  offset : Nat
  lsel : Nat
  stride : Int
deriving DecidableEq, Repr

/-- A 36-bit store reference. -/
def sref (v : BitVec 36) : SRef :=
  let n := v.toNat
  { am := bits n 34 2, base := bits n 17 17, slot := bits n 31 3, offset := bits n 17 14
    lsel := bits n 14 3, stride := signed 14 n }

/-- A reserved AM or LSEL (R86, cause 0x25). -/
def SRef.reserved (r : SRef) : Bool := decide (2 ≤ r.am) || decide (5 ≤ r.lsel)

/-- The reference uses no handle. -/
def SRef.direct (r : SRef) : Bool := r.am == 0

/-- Why a store reference is rejected (R102). -/
inductive RejectCause where
  | storeRange | extent | handleGen
deriving DecidableEq, Repr

/-- An extent resolved, or the cause of its rejection. -/
inductive Extent where
  | ok (line : Nat)
  | bad (c : RejectCause)
deriving DecidableEq, Repr

/-- The buffer a handle names. -/
def handleBuf (h : W32) : Nat := bits h.toNat 0 8
/-- The generation a handle carries. -/
def handleGen (h : W32) : BitVec 4 := BitVec.ofNat 4 (bits h.toNat 8 4)
/-- The length a handle carries. -/
def handleLen (h : W32) : Nat := bits h.toNat 12 18

/-- A buffer-table entry. -/
def Spindle.buf (x : Spindle) (b : Nat) : Buffer := (tget x.bufs b).getD {}
/-- A handle slot. -/
def Spindle.slot (x : Spindle) (k : Nat) : Slot := nth x.slots k {}

/-- The slot is valid and its handle carries its buffer's current generation (R170). -/
def Spindle.slotLive (x : Spindle) (k : Nat) : Bool :=
  let sl := x.slot k
  sl.valid && handleGen sl.handle == (x.buf (handleBuf sl.handle)).gen

/-- The extent of a store reference of n lines (R79) with the checks of R102. A handle's generation is
checked before its extent (DEDUCED, log entry 12). -/
def Spindle.extent (x : Spindle) (r : SRef) (n : Nat) : Extent :=
  let l : Int := if r.lsel = 0 then 0 else x.counter (r.lsel - 1)
  if r.am = 0 then
    let first := (r.base : Int) + l * r.stride
    if (x.codeLines : Int) ≤ first ∧ first + n ≤ storeLines then .ok first.toNat else .bad .storeRange
  else if !x.slotLive r.slot then .bad .handleGen
  else
    let b := x.buf (handleBuf (x.slot r.slot).handle)
    let rel := (r.offset : Int) + l * r.stride
    if 0 ≤ rel ∧ rel + n ≤ b.size then .ok (b.base + rel.toNat) else .bad .extent

/-! ## Random contexts -/

/-- A random context slot (R83). -/
def Spindle.ctx (x : Spindle) (k : Nat) : Ctx := nth x.ctxs k {}

/-- The element index of hank element (i, j) (R83). -/
def Ctx.index (c : Ctx) (i j : Nat) : Nat :=
  if c.tr then c.ebase.toNat + j * c.estride.toNat + i else c.ebase.toNat + i * c.estride.toNat + j

/-- The purpose in force: EVAL during an evaluation microbatch (R62, R65). -/
def State.purpose (s : State) (p : Nat) : Nat := if s.step.evaluating then 0x10 else p

/-- The chunk of hank element n = 64 i + j under a context (R64, R65). -/
def State.chunk (s : State) (c : Ctx) (purpose n : Nat) : Nat :=
  twistChunk (BitVec.ofNat 64 (s.used Obj.runSeed 0)) c.tid s.stepCount (s.purpose purpose) (c.index (n / 64) (n % 64))

/-- The purpose codes of R62 that are not reserved. -/
def purposeOk (p : Nat) : Bool := decide (1 ≤ p ∧ p ≤ 4) || p == 0x10

end Sys2Proof.Machine
end

