-- ==== Sys2Proof/Machine/Flags.lean ====
section
/-! DEFINITION. What issuing an instruction does besides its result: the issue conditions (R76, R84,
R171, R208), rejections (R102), aliases (R90), the add counter and LONG (R53), poison reads (R74), the
store's error check (R75), the flags and counters of R104 and R105, and the numerics watch's counts (R57,
R122, R286). -/

namespace Sys2Proof.Machine

/-! ## Issue -/

/-- A spindle is held (R209). -/
def State.isHeld (s : State) (p : Site) : Bool := (tget s.hold.counts p.row).isSome

/-- The spindle runs and its program counter lies within the code region (R76, R84). -/
def Spindle.runs (x : Spindle) : Bool := !x.halted && x.atDoff.isNone && decide (x.pc < 4 * x.codeLines)

/-- The spindle can issue its next instruction: the module is powered with a program loaded, the site is
present and not held, and the spindle runs and does not wait at a doff (R76, R171, R208). -/
def State.issues (s : State) (p : Site) : Bool :=
  s.up && s.prog.loaded && !s.isAbsent p.row && !s.isHeld p && (s.spindle p).runs

/-- The counters of an issued instruction: SPINDLE_ISSUED, and the cycles it waited, which are timing
(log entry 4). -/
def State.issued (s : State) (p : Site) : State :=
  let x := s.spindle p
  let s := s.setSpindle p { x with justWrote := x.nowWrote, nowWrote := none }
  ((s.bump Obj.spindleIssued p.row 1).bumpFree Obj.spindleStallHank p.row).bumpFree Obj.spindleStallQueue p.row

/-- The spindle moves to its next instruction. -/
def State.advance (s : State) (p : Site) : State := s.setSpindle p (s.spindle p).next

/-- An instruction issued, done, and passed in program order. -/
def State.runAt (s : State) (p : Site) (body : State → State) : State :=
  if s.issues p then (body (s.issued p)).advance p else s

/-- Two operands name one hank of the scoreboard; the parts of an accumulator count as one (R88). -/
def sameHank : Opd → Opd → Bool
  | .h i, .h j => i == j
  | .h _, _ => false
  | _, .h _ => false
  | .a i, .a j => i == j
  | .a i, .p j => i == j
  | .p i, .a j => i == j
  | .p i, .p j => i == j

/-- The hank an instruction in the transfer engine's queue still has to write (R154). -/
def Xfer.hank? : Xfer → Option (BitVec 5)
  | .recv o => o.hank
  | _ => none

/-- No receive that has issued and waits still has to write one of these hanks (R88). -/
def Spindle.hanksFree (x : Spindle) (os : List Opd) : Bool :=
  x.xq.all (fun r => match r.hank? with
    | none => true
    | some h => os.all (fun o => !sameHank o (opd h)))

/-- An operand is a hank register that may still be written. -/
def Spindle.isFresh (x : Spindle) : Opd → Bool
  | .h k => x.fresh.contains k
  | _ => false

/-- An instruction that may have waited for one of its hank registers issued some time after the one before it. -/
def State.mayWait (s : State) (p : Site) (os : List Opd) : State :=
  let x := s.spindle p
  if os.any x.isFresh then s.setSpindle p { x with justWrote := none } else s

/-- An instruction that reads or writes these hanks: it waits at issue while a receive still has to write
one of them (R88). -/
def State.runOn (s : State) (p : Site) (os : List Opd) (body : State → State) : State :=
  if (s.spindle p).hanksFree os then s.runAt p (fun t => body (t.mayWait p os)) else s

/-! ## Flags -/

/-- A bit of SPINDLE_FLAGS set (R105). -/
def State.spFlag (s : State) (p : Site) (i : Nat) : State := s.setFlag Obj.spindleFlags p.row i

/-- The fault code and flag bit of a rejection (R102, R103, R105). -/
def RejectCause.code : RejectCause → Nat × Nat
  | .storeRange => (0x1503, 4)
  | .extent => (0x1504, 5)
  | .handleGen => (0x1505, 3)

/-- A rejection: its flags and counter, one fault entry, and the tainted step (R102). -/
def State.rejected (s : State) (p : Site) (c : RejectCause) : State :=
  let s := (s.spFlag p 0).spFlag p c.code.2
  let s := s.bump Obj.spindleRejects p.row 1
  (s.fault c.code.1 (s.siteUnit p.x.val p.y.val) 0).taint

/-- A rejected instruction: every hank it would have written is poisoned (R102). -/
def State.reject (s : State) (p : Site) (c : RejectCause) (dsts : List Opd) : State :=
  (dsts.foldl (fun t o => t.poisonOpd p o) s).rejected p c

/-- Every engine of the spindle is known to be idle: nothing it issued is unfinished. -/
def Spindle.quiet (x : Spindle) : Spindle := { x with inFlight := [], fresh := [], stored := [] }

/-- An instruction that read poison: POISON_SEEN and its counter. -/
def State.sawPoison (s : State) (p : Site) (b : Bool) : State :=
  if b then (s.spFlag p 7).bump Obj.spindlePoisonReads p.row 1 else s

/-- The fields of a spindle that record an accumulator being written. -/
def Spindle.writing (x : Spindle) (k : Nat) (matrix : Bool) : Spindle :=
  { x with inFlight := x.inFlight.filter (fun e => e.1 != k) ++ [(k, matrix)], nowWrote := some k }

/-- An accumulator written while an earlier writer of it may be unfinished is an alias (R90), except in a chained
accumulation (R88). A matrix instruction that follows one of its class at once finds it unfinished; whether any other
earlier writer has finished is timing, and a free value decides (log entry 4). -/
def State.writesAcc (s : State) (p : Site) (k : Nat) (matrix chained : Bool) : State :=
  let x := s.spindle p
  let mine := x.inFlight.filter (fun e => e.1 == k)
  if mine.isEmpty || (chained && mine.all (·.2)) then s.setSpindle p (x.writing k (matrix && mine.all (·.2)))
  else
    let hit := (matrix && mine.all (·.2) && x.justWrote == some k) || Config.freeBool s.free
    let s := (s.setSpindle p (x.writing k matrix)).drew 1
    if hit then
      let s := (s.spFlag p 1).bump Obj.spindleAliases p.row 1
      s.fault 0x1501 (s.siteUnit p.x.val p.y.val) 0
    else s

/-- An accumulator part written enters the scoreboard. -/
def State.writesOpd (s : State) (p : Site) : Opd → State
  | .h _ => s
  | .a k => s.writesAcc p k false false
  | .p k => s.writesAcc p k false false

/-- Hank registers that the running instruction writes. -/
def State.freshen (s : State) (p : Site) (os : List Opd) : State :=
  let ks := os.filterMap (fun o => match o with
    | .h k => some k
    | _ => none)
  let x := s.spindle p
  s.setSpindle p { x with fresh := x.fresh.filter (fun k => !ks.contains k) ++ ks }

/-- The spindle once the writer of an accumulator has finished, unless it is the running instruction. -/
def Spindle.settledAcc (x : Spindle) (k : Nat) : Spindle :=
  if x.nowWrote = some k then x else { x with inFlight := x.inFlight.filter (fun e => e.1 != k) }

/-- An operand read waits for its writer, which is then no longer in flight (R88). -/
def State.readsOpd (s : State) (p : Site) : Opd → State
  | .h k => let x := s.spindle p; s.setSpindle p { x with fresh := x.fresh.filter (· != k) }
  | .a k => s.setSpindle p ((s.spindle p).settledAcc k)
  | .p k => s.setSpindle p ((s.spindle p).settledAcc k)

/-- The operands an instruction reads and writes meet the scoreboard: an alias is judged before the reads wait for their
writers (R88, R90). -/
def State.uses (s : State) (p : Site) (rs ws : List Opd) : State :=
  (rs.foldl (fun t o => t.readsOpd p o) (ws.foldl (fun t o => t.writesOpd p o) s)).freshen p ws

/-- An accumulator written with n terms added to its counter: LONG set once it passes 2^20 (R53). -/
def State.putAcc (s : State) (p : Site) (k n : Nat) (a : Acc) : State :=
  let count := min (a.count + n) (2 ^ 21 - 1)
  let long := a.long || decide (2 ^ 20 < count)
  let s := s.setAcc p k { a with count := count, long := long }
  if long && !a.long then (s.spFlag p 2).fault 0x1502 (s.siteUnit p.x.val p.y.val) 0 else s

/-! ## The store's error check -/

/-- Corrected words counted; more than 1,024 in one second of chain time are one occurrence (R75, R347). -/
def State.corrected (s : State) (p : Site) (n : Nat) : State :=
  if n = 0 then s
  else
    let s := s.bump Obj.spindleEccCorrected p.row n
    let u := s.siteUnit p.x.val p.y.val
    let sec := s.time.now / grainsPerSecond
    let old := match tget s.faults.eccRate u with
      | some (t, c) => if t = sec then c else 0
      | none => 0
    let s := { s with faults := { s.faults with eccRate := tput s.faults.eccRate u (sec, old + n) } }
    if old ≤ 1024 ∧ 1024 < old + n then (s.fault 0x1001 u 0).occurrence (unitId lvSpindle u) else s

/-- Lines with an uncorrectable error: poisoned in the store, flagged, one fault entry and one occurrence
each (R75, R347, R377). -/
def State.uncorrectable (s : State) (p : Site) (ls : List Nat) : State :=
  ls.foldl (fun t l =>
    let t := t.writeLines p l (poisonedLines (t.free + 1) (p.row * 2 ^ 20 + l) 1)
    let u := t.siteUnit p.x.val p.y.val
    (((t.drew 1).spFlag p 6).fault 0x1402 u 0).occurrence (unitId lvSpindle u)) s

/-- What a read of n lines from a line finds of the bit errors that stand in the store (R75). -/
def Store.errors (st : Store) (line n : Nat) : EccResult where
  corrected := ((List.range n).map (fun i => (tget st.flips (line + i)).getD 0)).sum
  bad := (List.range n).filter (fun i => st.upsets.contains (line + i))

/-- The error check of a read of n lines from a line: the errors the command names and those that stand in the store
(R75). -/
def State.eccRead (s : State) (p : Site) (e : EccResult) (line n : Nat) : State :=
  let o := (s.spindle p).store.errors line n
  let bad := o.bad ++ (e.bad.filter (fun i => decide (i < n))).filter (fun i => !o.bad.contains i)
  (s.corrected p (e.corrected + o.corrected)).uncorrectable p (bad.map (line + ·))

/-! ## The numerics watch -/

/-- The slot a count with this tensor id goes to: the lowest with EN set and (t and MASK) = MATCH; 4,096
for the unwatched (R286). -/
def State.slotOf (s : State) (t : Nat) : Nat :=
  let rows := s.objs.filter (fun e => e.1 / 2 ^ 20 == Obj.monitorCfg)
  match rows.find? (fun e => bitAt e.2 64 && (t &&& bits e.2 0 32) == bits e.2 32 32) with
  | some e => e.1 % 2 ^ 20
  | none => 4096

/-- The counts of one slot. -/
def State.stone (s : State) (k : Nat) : Stone := (tget s.stones k).getD {}

/-- The sum of two stones; counters are U64 and saturate (R287). -/
def Stone.add (o d : Stone) : Stone where
  zeros := satAdd 64 o.zeros d.zeros
  flushes := satAdd 64 o.flushes d.flushes
  saturations := satAdd 64 o.saturations d.saturations
  nonfinite := satAdd 64 o.nonfinite d.nonfinite
  still := satAdd 64 o.still d.still
  elements := satAdd 64 o.elements d.elements

/-- Counts added to a slot of the running stone; counters are U64 and saturate (R287). -/
def State.addStone (s : State) (t : Nat) (d : Stone) : State :=
  let k := s.slotOf t
  let o := s.stone k
  { s with stones := tput s.stones k (o.add d) }

/-- The counts of a conversion against a tensor id (R57, R122); nothing where all are 0. -/
def State.countConv (s : State) (t : Nat) (c : Counts) : State :=
  if c.flush = 0 ∧ c.sat = 0 ∧ c.nonfinite = 0 then s
  else s.addStone t { flushes := c.flush, saturations := c.sat, nonfinite := c.nonfinite }

end Sys2Proof.Machine
end

