-- ==== Sys2Proof/Machine/Move.lean ====
section
/-! DEFINITION. The move class (R71, R72, R81). -/

namespace Sys2Proof.Machine

/-- Fields of LOAD and STORE that the loader refuses (R33, R86). A format of 16 bits on an accumulator part is none of the
causes of R86: the move reads or writes the low 16 bits of each element, and a LOAD leaves the bits above them undefined
(DESIGN CHOICE, log entry 43: R101 speaks of binary32 hanks only). -/
def moveBad (fmt : BitVec 4) (hd : BitVec 5) (r c : SRef) : Option Nat :=
  if !fmtOk fmt.toNat then some 0x20
  else if isMx fmt.toNat && (opd hd).isAcc then some 0x23
  else if r.reserved || (isMx fmt.toNat && c.reserved) then some 0x25
  else none

/-- The element and scale regions of a move; a format without scales has no second region. -/
def Spindle.regions (x : Spindle) (f : Nat) (r c : SRef) : Sum (Nat × Nat) RejectCause :=
  match x.extent r (hankLines f) with
  | .bad e => .inr e
  | .ok l =>
    if isMx f then
      match x.extent c 2 with
      | .bad e => .inr e
      | .ok m => .inl (l, m)
    else .inl (l, 0)

/-! ## Store regions that two engines use (R89) -/

/-- The lines of a region that lie in another. -/
def overlap (line n line' n' : Nat) : List Nat :=
  ((List.range n).map (line + ·)).filter (fun l => decide (line' ≤ l ∧ l < line' + n'))

/-- The region an instruction of the transfer engine uses without a handle: first line, lines, and whether it writes it. -/
def Xfer.region : Xfer → Option (Nat × Nat × Bool)
  | .send o => if o.hank.isNone && o.handle.isNone then some (o.line, o.length, false) else none
  | .recv o => if o.hank.isNone && o.handle.isNone then some (o.line, o.length, true) else none
  | .rsend o => if o.handle.isNone then some (o.line, o.length, false) else none
  | .rrecv o => if o.handle.isNone then some (o.line, o.length, true) else none
  | _ => none

/-- Lines of a region that the transfer engine still has to write without a handle. -/
def Spindle.pendingIn (x : Spindle) (line n : Nat) : List Nat :=
  x.xq.flatMap (fun o => match o.region with
    | some (l, k, true) => overlap line n l k
    | _ => [])

/-- A line whose contents are undefined: free values (R89, log entry 3). -/
def freeLineOf (seed : Nat) (p : Site) (l : Nat) : Line :=
  { data := Config.freeLine seed (p.row * 2 ^ 20 + l), poison := Config.freeBool seed }

/-- Lines made undefined. -/
def State.blurLines (s : State) (p : Site) (ls : List Nat) : State :=
  if ls.isEmpty then s
  else (ls.foldl (fun t l => t.writeLines p l [freeLineOf (s.free + 1) p l]) s).drew 1

/-- Lines of a region that a STORE without a handle has written, or still may write. -/
def Spindle.storedIn (x : Spindle) (line n : Nat) : List Nat := x.stored.flatMap (fun r => overlap line n r.1 r.2)

/-- n lines read while some of them are undefined. -/
def State.readAs (s : State) (p : Site) (undef : List Nat) (line n : Nat) : List Line :=
  (s.readLines p line n).mapIdx (fun i l => if undef.contains (line + i) then freeLineOf (s.free + 1) p (line + i) else l)

/-- n lines as the move engine reads them, `direct` where it uses no handle. -/
def State.readMove (s : State) (p : Site) (direct : Bool) (line n : Nat) : List Line :=
  s.readAs p (if direct then (s.spindle p).pendingIn line n else []) line n

/-- n lines as the matrix or the vector engine reads them. -/
def State.readCells (s : State) (p : Site) (direct : Bool) (line n : Nat) : List Line :=
  s.readAs p (if direct then (s.spindle p).pendingIn line n ++ (s.spindle p).storedIn line n else []) line n

/-- n lines as the transfer engine reads them, of which another engine has written some meanwhile. -/
def State.readXfer (s : State) (p : Site) (direct : Bool) (undef : List Nat) (line n : Nat) : List Line :=
  s.readAs p (undef ++ if direct then (s.spindle p).storedIn line n else []) line n

/-- An instruction in the transfer engine's queue after another engine has written lines it uses: what it has still to read
or write of them is undefined. -/
def Xfer.clash (line n : Nat) (o : Xfer) : Xfer :=
  match o.region with
  | none => o
  | some (l, k, _) =>
    let ls := overlap line n l k
    match o with
    | .send o => .send { o with undef := o.undef ++ ls }
    | .recv o => .recv { o with undef := o.undef ++ ls }
    | .rsend o => .rsend { o with undef := o.undef ++ ls }
    | .rrecv o => .rrecv { o with undef := o.undef ++ ls }
    | o => o

/-- A region written by a STORE without a handle (R89). -/
def State.storedAt (s : State) (p : Site) (line n : Nat) : State :=
  let x := s.spindle p
  s.setSpindle p { x with stored := x.stored ++ [(line, n)], xq := x.xq.map (Xfer.clash line n) }

/-! ## LOAD and STORE -/

/-- A hank read from store lines: LOAD, or LOAD_T where transposed. `direct`: without a handle. -/
def State.loadHank (s : State) (p : Site) (f : Nat) (o : Opd) (direct sdirect : Bool) (line sline : Nat) (tr : Bool)
    (ecc : EccResult) : State :=
  let n := hankLines f
  let s := s.eccRead p ecc line n
  let s := if isMx f then
      s.eccRead p { corrected := 0, bad := (ecc.bad.filter (fun i => decide (n ≤ i))).map (· - n) } sline 2
    else s
  let ls := s.readMove p direct line n
  let cs := if isMx f then s.readMove p sdirect sline 2 else []
  let bad := (ls ++ cs).any (·.poison)
  let es := lineElems (elemBits f) ls
  let s := (s.drew 1).uses p [] [o] |>.sawPoison p bad
  s.writeOpd p o (elemBits f) (if tr then transpose64 0 es else es)
    (if isMx f then some (lineScales cs) else none) bad

/-- LOAD (R81). -/
def execLoad (p : Site) (fmt : BitVec 4) (hd : BitVec 5) (sr ssc : BitVec 36) (ecc : EccResult) (s : State) : Result :=
  match moveBad fmt hd (sref sr) (sref ssc) with
  | some c => .refused (.loaderRefuses c)
  | none =>
    done (s.runOn p [opd hd] (fun t =>
      match (t.spindle p).regions fmt.toNat (sref sr) (sref ssc) with
      | .inr c => t.reject p c [opd hd]
      | .inl (l, m) => t.loadHank p fmt.toNat (opd hd) (sref sr).direct (sref ssc).direct l m false ecc))

/-- Lines written with one poison bit; the bits of poisoned lines are undefined (R74). -/
def State.putRegion (s : State) (p : Site) (line : Nat) (xs : List Line) (poison : Bool) : State :=
  if poison then
    (s.writeLines p line (poisonedLines (s.free + 1) (p.row * 2 ^ 20 + line) xs.length)).drew 1
  else s.writeLines p line xs

/-- A region written by the move engine; without a handle nothing orders another engine after it. -/
def State.storeRegion (s : State) (p : Site) (direct : Bool) (line : Nat) (xs : List Line) (poison : Bool) : State :=
  let s := s.putRegion p line xs poison
  if direct then s.storedAt p line xs.length else s

/-- A hank written to store lines: STORE. -/
def State.storeHank (s : State) (p : Site) (f : Nat) (o : Opd) (direct sdirect : Bool) (line sline : Nat) : State :=
  let s := s.uses p [o] []
  let v := s.view p o
  let s := (s.sawPoison p v.poison).storeRegion p direct line (elemLines (elemBits f) v.elems) v.poison
  if isMx f then s.storeRegion p sdirect sline (scaleLinesOf v.scales) v.poison else s

/-- STORE (R81). -/
def execStore (p : Site) (fmt : BitVec 4) (hd : BitVec 5) (sr ssc : BitVec 36) (s : State) : Result :=
  match moveBad fmt hd (sref sr) (sref ssc) with
  | some c => .refused (.loaderRefuses c)
  | none =>
    done (s.runOn p [opd hd] (fun t =>
      match (t.spindle p).regions fmt.toNat (sref sr) (sref ssc) with
      | .inr c => t.reject p c []
      | .inl (l, m) => t.storeHank p fmt.toNat (opd hd) (sref sr).direct (sref ssc).direct l m))

/-- Fields of LOAD_T that the loader refuses: binary32, binary16 and bfloat16 only (R72, R86). -/
def loadTBad (fmt : BitVec 4) (r : SRef) : Option Nat :=
  if !fmtOk fmt.toNat then some 0x20 else if isMx fmt.toNat then some 0x23 else if r.reserved then some 0x25 else none

/-- LOAD_T (R72, R81). -/
def execLoadT (p : Site) (fmt : BitVec 4) (hd : BitVec 5) (sr : BitVec 36) (ecc : EccResult) (s : State) : Result :=
  match loadTBad fmt (sref sr) with
  | some c => .refused (.loaderRefuses c)
  | none =>
    done (s.runOn p [opd hd] (fun t =>
      match (t.spindle p).extent (sref sr) (hankLines fmt.toNat) with
      | .bad c => t.reject p c [opd hd]
      | .ok l => t.loadHank p fmt.toNat (opd hd) (sref sr).direct true l 0 true ecc))

/-- A hank copied to another: elements of the format's width, and the scales where the format has them, as a LOAD would
write what a STORE had read (R81; DEDUCED, log entry 40). -/
def State.copyHank (s : State) (p : Site) (f : Nat) (dst src : Opd) : State :=
  let s := s.uses p [src] [dst]
  let v := s.view p src
  (s.sawPoison p v.poison).writeOpd p dst (elemBits f) v.elems (if isMx f then some v.scales else none) v.poison

/-- Fields of COPY that the loader refuses (R33, R86). -/
def copyBad (fmt : BitVec 4) (hd hsrc : BitVec 5) : Option Nat :=
  if !fmtOk fmt.toNat then some 0x20
  else if isMx fmt.toNat && ((opd hd).isAcc || (opd hsrc).isAcc) then some 0x23 else none

/-- COPY (R81). -/
def execCopy (p : Site) (fmt : BitVec 4) (hd hsrc : BitVec 5) (s : State) : Result :=
  match copyBad fmt hd hsrc with
  | some c => .refused (.loaderRefuses c)
  | none => done (s.runOn p [opd hd, opd hsrc] (fun t => t.copyHank p fmt.toNat (opd hd) (opd hsrc)))

end Sys2Proof.Machine
end

