-- ==== Sys2Proof/Machine/Mesh.lean ====
section
/-! DEFINITION. The mesh (R141 to R156, R161, R163 to R165): shapes and routes, the buffers of the routers, the ports,
arbitration, the transfer engine, and how far flits move. A command takes no time, so flits move until each one waits: at a
buffer without room, a receive that has not issued, a held site, or a port granted to another channel (log entry 41). -/

namespace Sys2Proof.Machine

/-! ## Shapes and routes -/

/-- A shape entry's fields (R152). -/
structure Shape where
  skind : Nat
  yx : Bool
  sx : Nat
  sy : Nat
  x0 : Nat
  y0 : Nat
  x1 : Nat
  y1 : Nat
deriving DecidableEq, Repr

/-- A 64-bit shape entry. -/
def shapeOf (w : Nat) : Shape :=
  { skind := bits w 62 2, yx := bitAt w 61, sx := bits w 54 7, sy := bits w 47 7, x0 := bits w 40 7, y0 := bits w 33 7
    x1 := bits w 26 7, y1 := bits w 19 7 }

/-- Entry n of the image's shape table. -/
def State.shape (s : State) (n : Nat) : Shape := shapeOf (((tget s.prog.shapes n).map (·.toNat)).getD 0)

/-- A site lies in the shape. -/
def Shape.covers (h : Shape) (p : Site) : Bool :=
  decide (h.x0 ≤ p.x.val ∧ p.x.val ≤ h.x1 ∧ h.y0 ≤ p.y.val ∧ p.y.val ≤ h.y1)

/-- The rows of the destinations (R152). -/
def Shape.dests (h : Shape) : List Nat :=
  (List.range (h.y1 + 1 - h.y0)).flatMap (fun j =>
    (List.range (h.x1 + 1 - h.x0)).map (fun i => 128 * (h.y0 + j) + (h.x0 + i)))

/-- The outputs that lead outwards from a source coordinate along one axis, as far as the destinations [lo, hi] ask. -/
def outward (lo hi src c less more : Nat) : List Nat :=
  (if c ≤ src ∧ lo < c then [less] else []) ++ (if src ≤ c ∧ c < hi then [more] else [])

/-- The outputs of the tree of a shape at a site: 0 west, 1 north, 2 east, 3 south, 4 local (R145, R156). Under XY order the
source row is walked first and branches at each destination column; under YX order the source column. -/
def Shape.outs (h : Shape) (x y : Nat) : List Nat :=
  let inX := decide (h.x0 ≤ x ∧ x ≤ h.x1)
  let inY := decide (h.y0 ≤ y ∧ y ≤ h.y1)
  let rows := outward h.x0 h.x1 h.sx x 0 2
  let cols := outward h.y0 h.y1 h.sy y 1 3
  (if h.yx then (if x = h.sx then cols else []) ++ (if inY then rows else [])
    else (if y = h.sy then rows else []) ++ (if inX then cols else [])) ++
    (if inX && inY then [4] else [])

/-- A bobbin role of this KIND names the shape (R383). -/
def State.roleShape (s : State) (kind n : Nat) : Bool :=
  s.prog.bobbins.any (fun e => bits e.2.toNat 124 4 == kind && bits e.2.toNat 100 12 == n)

/-- The outputs a flit of a shape entry takes at a row; under an EVAL_RESULT role it leaves the destination by its back port,
output 5 (R384). -/
def State.outsAt (s : State) (shape row : Nat) : List Nat :=
  let os := (s.shape shape).outs (row % 128) (row / 128)
  if s.roleShape 3 shape then os.map (fun o => if o = 4 then 5 else o) else os

/-! ## Ports of a router -/

/-- The mesh neighbour of a site through port 0 west, 1 north, 2 east, 3 south; none off the wafer. -/
def meshNext (p : Site) (port : Nat) : Option Nat :=
  match port with
  | 0 => if p.x.val = 0 then none else some (p.row - 1)
  | 1 => if p.y.val = 0 then none else some (p.row - 128)
  | 2 => if p.x.val = 127 then none else some (p.row + 1)
  | 3 => if p.y.val = 71 then none else some (p.row + 128)
  | _ => none

/-- The port a flit enters by that left by this one. -/
def opposite (port : Nat) : Nat := (port + 2) % 4

/-- The edge port in a direction off the wafer (R163). -/
def edgePort (p : Site) (port : Nat) : Option Nat :=
  let x := p.x.val
  let y := p.y.val
  match port with
  | 0 => if x = 0 ∧ 12 ≤ y ∧ y ≤ 59 then some (304 + (y - 12)) else none
  | 1 => if y = 0 then some x else none
  | 2 => if x = 127 ∧ 12 ≤ y ∧ y ≤ 59 then some (128 + (y - 12)) else none
  | 3 => if y = 71 then some (176 + x) else none
  | _ => none

/-- The site of an edge port (R163). -/
def siteOfPort (p : Nat) : Site :=
  if p < 128 then ⟨Fin.ofNat 128 p, 0⟩
  else if p < 176 then ⟨127, Fin.ofNat 72 (p - 128 + 12)⟩
  else if p < 304 then ⟨Fin.ofNat 128 (p - 176), 71⟩
  else ⟨0, Fin.ofNat 72 (p - 304 + 12)⟩

/-- The bolt of a weft die (R12). -/
def weftBolt (w : Nat) : Nat := nth [9, 14, 17, 22, 25, 30, 33, 38] w 0

/-- Logical site of a back port (R164). -/
def backSite (q : Nat) : Nat × Nat :=
  let b := weftBolt (q / 4)
  (16 * (b % 8) + 2 + 4 * (q % 4), 12 * (b / 8) + 5)

/-- The site of an edge port, or of back port q at 352 + q. -/
def portSite (p : Nat) : Site :=
  if p < 352 then siteOfPort p
  else ⟨Fin.ofNat 128 (backSite (p - 352)).1, Fin.ofNat 72 (backSite (p - 352)).2⟩

/-- The back port of a site, at 352 + q. -/
def backPort? (row : Nat) : Option Nat :=
  ((List.range 32).find? (fun q => (backSite q).1 + 128 * (backSite q).2 == row)).map (352 + ·)

/-! ## Bounds -/

/-- Bolt boundaries between two coordinates of an axis with n sites a bolt. -/
def crossings (n a b : Nat) : Nat := max a b / n - min a b / n

/-- Fenced sites passed between logical rows y and y + 1 of a column (R147, R149). -/
def State.bypasses (s : State) (x y : Nat) : Nat :=
  let f := fun b => bits (s.obj Obj.cardingMap b) (4 * (x % 16)) 4
  if y % 12 < 11 then (if f (boltOf x y) = y % 12 + 1 then 1 else 0)
  else (if f (boltOf x y) = 12 then 1 else 0) + (if f (boltOf x (y + 1)) = 0 then 1 else 0)

/-- Hops, bolt crossings and bypasses of the longest branch of a shape (R149). -/
def State.longest (s : State) (h : Shape) : Nat × Nat × Nat :=
  let far := fun lo hi c => if c - lo < hi - c then hi else lo
  let x := far h.x0 h.x1 h.sx
  let y := far h.y0 h.y1 h.sy
  let col := if h.yx then h.sx else x
  let ys := (List.range (max h.sy y - min h.sy y)).map (· + min h.sy y)
  (max h.sx x - min h.sx x + ys.length, crossings 16 h.sx x + crossings 12 h.sy y,
    ys.foldl (fun n j => n + s.bypasses col j) 0)

/-- The most a flit of a channel waits at one hop (R150). -/
def waitPerHop (vc : Nat) : Nat := 4 * 2 ^ vc

/-- BUDGET at injection: the bound of R150 for the path, the longest branch of a multicast; a port counts as one hop (R149,
R151). -/
def State.bound (s : State) (vc shape : Nat) (port : Bool) : Nat :=
  let r := s.longest (s.shape shape)
  let h := r.1 + port.toNat
  2 * h + 2 * r.2.1 + r.2.2 + 2 + waitPerHop vc * h

/-! ## Flits -/

/-- The 64-bit sideband (R143). -/
def Sideband.word (b : Sideband) : Nat :=
  b.budget % 2 ^ 13 + b.seq % 2 ^ 12 * 2 ^ 13 + b.twin.toNat * 2 ^ 25 + b.poison.toNat * 2 ^ 26 + b.last.toNat * 2 ^ 27 +
    b.first.toNat * 2 ^ 28 + b.tag % 2 ^ 16 * 2 ^ 29 + b.dy % 2 ^ 7 * 2 ^ 45 + b.dx % 2 ^ 7 * 2 ^ 52 + b.kind % 2 ^ 3 * 2 ^ 59 +
    b.vc % 2 ^ 2 * 2 ^ 62

/-- The sideband of a flit as it stands: BUDGET run down by the cycles outside holds since its injection (R151). -/
def State.sideband (s : State) (f : NetFlit) : Sideband :=
  { f.sb with budget := if f.late then 0 else f.sb.budget - (s.fabric.cycles - f.born) }

/-- Flits of a message (R154). -/
def flitsOf (lines : Nat) : Nat := ceilDiv lines 2

/-- The words of a line. -/
def Line.words (l : Line) : List W32 := (fields 32 16 l.data.toNat).map (BitVec.ofNat 32)

/-- Lines as flits of two lines; a flit is poisoned when a line of it is (R143, R154). -/
def toFlits : List Line → List Flit
  | [] => []
  | [a] => [{ words := a.words, poison := a.poison }]
  | a :: b :: r => { words := a.words ++ b.words, poison := a.poison || b.poison } :: toFlits r

/-- The lines of a flit. -/
def Flit.lines (f : Flit) : List Line :=
  (chunks 16 3 f.words).map (fun ws => { data := BitVec.ofNat 512 (packFields 32 (ws.map (·.toNat))), poison := f.poison })

/-- The lines of a flit in the mesh. -/
def NetFlit.lines (f : NetFlit) : List Line := Flit.lines ⟨f.words, f.sb.poison⟩

/-- The flits of a transmission in order: their sidebands name the first destination of the shape, the TAG, and the place in
the message (R143). -/
def State.netFlits (s : State) (vc kind tag shape id : Nat) (port : Bool) (fs : List Flit) : List NetFlit :=
  let h := s.shape shape
  let budget := s.bound vc shape port
  fs.mapIdx (fun i f =>
    { sb := { vc, kind, dx := h.x0, dy := h.y0, tag, first := i == 0, last := i + 1 == fs.length, poison := f.poison
              twin := false, seq := i % 4096, budget }
      words := f.words, id, shape, born := s.fabric.cycles })

/-- KIND of a message under a shape entry: a unicast, or a multicast (R143, R152). -/
def Shape.kind (h : Shape) : Nat := if h.skind = 0 then 0 else 1

/-! ## Buffers and credits -/

/-- A list stored in a table; an empty one is not listed. -/
def putList {α : Type} (m : SMap (List α)) (k : Nat) (l : List α) : SMap (List α) :=
  if l.isEmpty then tdel m k else tput m k l

/-- The flits of one list of a table. -/
def getList {α : Type} (m : SMap (List α)) (k : Nat) : List α := (tget m k).getD []

/-- Flits of a virtual channel that an input holds, in its buffer and its skid buffer. -/
def Router.holds (r : Router) (input vc : Nat) : Nat :=
  (getList r.bufs (4 * input + vc)).length + ((getList r.skid input).filter (fun f => f.sb.vc == vc)).length

/-- A credit of the channel is left at the input (R141). -/
def Router.credit (r : Router) (input vc : Nat) : Bool := decide (r.holds input vc < 8)

/-- A flit taken in: into the channel's buffer, or into the skid buffer while the router is frozen (R142, R212). -/
def Router.take (r : Router) (frozen : Bool) (input : Nat) (f : NetFlit) : Router :=
  if frozen then { r with skid := putList r.skid input (getList r.skid input ++ [f]) }
  else { r with bufs := putList r.bufs (4 * input + f.sb.vc) (getList r.bufs (4 * input + f.sb.vc) ++ [f]) }

/-! ## Declarations at a router -/

/-- INPUTS lists the input: bit 4 west, 3 north, 2 east, 1 south, 0 local (R85). -/
def Decl.takes (d : Decl) (input : Nat) : Bool := d.inputs.getLsbD (4 - input)

/-- Result flits of a declaration. -/
def Decl.flits (d : Decl) : Nat := flitsOf d.lines

/-- The first n flits of one RID taken out of an overflow buffer. -/
def takeRid (rid : Nat) : Nat → List (Nat × Flit) → List Flit × List (Nat × Flit)
  | _, [] => ([], [])
  | 0, q => ([], q)
  | n + 1, e :: q =>
    if e.1 = rid then
      let r := takeRid rid n q
      (e.2 :: r.1, r.2)
    else
      let r := takeRid rid (n + 1) q
      (r.1, e :: r.2)

/-- Flits one input of a declaration still lacks: one for each of its result flits (R158). -/
def Decl.room (d : Decl) (input : Nat) : Nat := d.flits - (d.sent + (nth d.inq input []).length)

/-- A declaration entered; it absorbs the flits that wait for it, as many as it has result flits (R158,
R161); what is left waits for the next declaration of the RID. -/
def Router.declare (r : Router) (d : Decl) : Router :=
  let ts := r.overflow.map (takeRid d.rid d.flits)
  { r with decls := r.decls ++ [{ d with inq := ts.map (·.1) ++ [[]] }], overflow := ts.map (·.2) }

/-- The active declaration of a RID. -/
def Router.decl (r : Router) (rid : Nat) : Option Decl := r.decls.find? (fun d => d.rid == rid)

/-- Flits appended to one input of a declaration. -/
def Router.feed (r : Router) (rid input : Nat) (fs : List Flit) : Router :=
  { r with decls := r.decls.map (fun d =>
      if d.rid = rid then { d with inq := setNth d.inq input (nth d.inq input [] ++ fs) } else d) }

/-- Flits the VC1 buffer of an input holds: those that wait at active declarations for other inputs (R141, R158). -/
def Router.waiting (r : Router) (input : Nat) : Nat := (r.decls.map (fun d => (nth d.inq input []).length)).sum

/-- The active declaration still takes a flit of its RID through this input, and the input's VC1 buffer has room. -/
def Router.absorbs (r : Router) (rid input : Nat) : Bool :=
  (r.decl rid).any (fun d => decide (0 < d.room input)) && decide (r.waiting input < 8)

/-- A reduction flit arriving from a mesh neighbour: none while the input's overflow buffer is full, whatever its RID (R161);
else to its declaration, or to the overflow buffer where its RID is not active or needs no more flits. -/
def Router.arrive (r : Router) (rid port : Nat) (f : Flit) : Option Router :=
  let q := nth r.overflow port []
  if 8 ≤ q.length then none
  else if r.absorbs rid port then some (r.feed rid port [f])
  else if (r.decl rid).any (fun d => decide (0 < d.room port)) then none
  else some { r with overflow := setNth r.overflow port (q ++ [(rid, f)]) }

/-- The skid contents of one input given back in arrival order: reduction flits as they arrive, others at the ends of their
channels' buffers, so that none is reordered within its channel (R212). -/
def Router.spill (input : Nat) : List NetFlit → Router → Router
  | [], r => r
  | f :: fs, r =>
    Router.spill input fs
      (if f.sb.kind = 2 then (r.arrive f.sb.tag input ⟨f.words, f.sb.poison⟩).getD r else r.take false input f)

/-- The router with its skid buffers given back. -/
def Router.unskid (r : Router) : Router :=
  r.skid.foldl (fun t e => Router.spill e.1 e.2 t) { r with skid := [] }

/-! ## Spindles by row -/

/-- The spindle of a row. -/
def State.at (s : State) (row : Nat) : Spindle := (tget s.spindles row).getD {}

/-- The spindle of a row replaced. -/
def State.setAt (s : State) (row : Nat) (x : Spindle) : State := { s with spindles := tput s.spindles row x }

/-- The router of a row replaced. -/
def State.setRouterAt (s : State) (row : Nat) (r : Router) : State := s.setAt row { s.at row with router := r }

/-- The site of a row is held. -/
def State.heldAt (s : State) (row : Nat) : Bool := (tget s.hold.counts row).isSome

/-! ## Passing an edge port or a back port -/

/-- The instance of a port's arbiter in a direction: 0 into the mesh, 1 out of it (R175). -/
def portInst (port dir : Nat) : Nat := 2 * port + dir

/-- UNIT of a port at the wafer level (R356). -/
def portUnit (port : Nat) : Nat := if port < 352 then 2 ^ 28 + port else 2 * 2 ^ 28 + (port - 352)

/-- A port that is not fenced (R175). -/
def State.portLive (s : State) (port : Nat) : Bool := !s.fabric.deadPorts.contains (portUnit port)

/-- Flits in a burst of 2 KiB (R175). -/
abbrev burstFlits : Nat := 16

/-- A port's arbiter is at a break point, and its holder, if it has one, asks for nothing. -/
def Arbiter.idle (a : Arbiter) (asking : List Nat) : Bool :=
  match a.holder with
  | none => true
  | some (v, _) => a.passed == 0 && !asking.contains v

/-- The port's arbiter, asked by the channels that have a flit for it, lets a flit of this channel pass, or answers none. A
flit that ends a lea or a message, or a burst of 2 KiB on a channel other than VC2, is a break point (R165, R175). Busy
cycles are timing: a flit adds none or one (R178, log entry 4). -/
def State.passPort (s : State) (port dir vc : Nat) (last : Bool) (asking : List Nat) : Option State :=
  let inst := portInst port dir
  let s := if (s.arbiter 1 inst).idle asking then s.decideArb 1 inst (asking.map (fun v => (v, 0))) else s
  let a := s.arbiter 1 inst
  if !s.portLive port || a.holder != some (vc, 0) then none
  else
    let n := a.passed + 1
    let free := last || (vc != 2 && decide (burstFlits ≤ n))
    let s := s.setArbiter 1 inst { a with passed := if free then 0 else n, holder := if free then none else a.holder }
    let b := busyRow port
    some ((s.bump b.1 b.2 (Config.freeNat s.free % 2)).drew 1)

/-! ## The transfer engine -/

/-- Handles an engine waits to put, put on their queues in order; the first that finds its queue full holds back those
behind it (R169). -/
def settlePuts : List (Nat × W32) → List (List W32) → List (Nat × W32) × List (List W32)
  | [], qs => ([], qs)
  | (q, h) :: r, qs =>
    if (nth qs q []).length < 16 then settlePuts r (setNth qs q (nth qs q [] ++ [h])) else ((q, h) :: r, qs)

/-- The spindle with its waiting handles put where places are free. -/
def Spindle.settle (x : Spindle) : Spindle :=
  let t := settlePuts x.puts x.queues
  { x with puts := t.1, queues := t.2 }

/-- A handle put on a queue at the completion of a transfer (R155). -/
def State.putHandle (s : State) (row q : Nat) (h : W32) : State :=
  match tget s.spindles row with
  | none => s
  | some x => { s with spindles := tput s.spindles row { x with puts := x.puts ++ [(q, h)] }.settle }

/-- The engine of a row may work: its site is not held, and no handle waits for a full queue (R169, R210). -/
def State.engineFree (s : State) (row : Nat) : Bool := !s.heldAt row && (s.at row).puts.isEmpty

/-- The instruction at the head of an engine's queue done. -/
def State.popXfer (s : State) (row : Nat) : State :=
  let x := s.at row
  s.setAt row { x with xq := x.xq.drop 1 }

/-- The instruction at the head of an engine's queue replaced. -/
def State.setHead (s : State) (row : Nat) (o : Xfer) : State :=
  let x := s.at row
  s.setAt row { x with xq := o :: x.xq.drop 1 }

/-- A transmission numbered and entered (R155). -/
def State.begins (s : State) (t : Sending) : State :=
  { s with fabric := { s.fabric with sending := tput s.fabric.sending s.fabric.nextMsg t, nextMsg := s.fabric.nextMsg + 1 } }

/-- A SEND or SENDH begun: its lines read with their error check, and its flits formed (R75, R154). -/
def State.startSend (s : State) (p : Site) (o : SendOp) : State :=
  let s := if o.hank.isNone then s.eccRead p o.ecc o.line o.length else s
  let ls := o.hank.getD (s.readXfer p o.handle.isNone o.undef o.line o.length)
  let s := (s.drew 1).sawPoison p (ls.any (·.poison))
  let h := s.shape o.shape
  let fs := s.netFlits o.vc h.kind o.shape o.shape s.fabric.nextMsg false (toFlits ls)
  (s.begins { shape := o.shape, src := p.row, lines := ls.length, due := h.dests, handle := o.handle }).setHead p.row
    (.send { o with started := true, left := fs })

/-- An RSEND begun. -/
def State.startRsend (s : State) (p : Site) (o : RsendOp) : State :=
  let s := s.eccRead p o.ecc o.line o.length
  let ls := s.readXfer p o.handle.isNone o.undef o.line o.length
  ((s.drew 1).sawPoison p (ls.any (·.poison))).setHead p.row (.rsend { o with started := true, left := toFlits ls })

/-! ### Streams at a spindle -/

/-- A stream's engine. -/
def State.engine (s : State) (id : Nat) : StreamEng := (tget s.streams.engines id).getD {}

/-- A stream's engine replaced. -/
def State.setEngine (s : State) (id : Nat) (g : StreamEng) : State :=
  { s with streams := { s.streams with engines := tput s.streams.engines id g } }

/-- The spindle's pool of an open stream. -/
def Spindle.stream? (x : Spindle) (id : Nat) : Option SpStream := x.streams.find? (fun e => e.stream == id)

/-- A spindle's entry of a stream set; one entry a stream. -/
def State.setStream (s : State) (p : Site) (e : SpStream) : State :=
  let x := s.spindle p
  s.setSpindle p { x with streams := x.streams.filter (fun f => f.stream != e.stream) ++ [e] }

/-- The smallest buffer of a pool. -/
def Spindle.smallest (x : Spindle) (first count : Nat) : Nat :=
  (List.range count).foldl (fun m i => min m (x.buf (first + i)).size) (2 ^ 18)

/-- An opening reported to the stream engine by a flit on VC0 (log entry 41); the first report after an END begins a new pass (R181). -/
def State.reportOpening (s : State) (p : Site) (id count size : Nat) : State :=
  let g := s.engine id
  let g := if g.ended then {} else g
  (s.setEngine id { g with opened := g.opened.filter (fun o => o.1 != p.row) ++ [(p.row, count, size)] }).bump Obj.fabricFlits 0 1

/-- SOPEN's effect (R181). -/
def State.openStream (s : State) (p : Site) (stream queue first count : Nat) : State :=
  let t := s.setStream p { stream, queue, first, count }
  t.reportOpening p stream count ((t.spindle p).smallest first count)

/-- Every buffer of a pool advanced by one generation (R184). -/
def Spindle.staleFrom (x : Spindle) (first : Nat) : Nat → Spindle
  | 0 => x
  | n + 1 =>
    let b := x.buf first
    ({ x with bufs := tput x.bufs first { b with gen := b.gen + 1 } } : Spindle).staleFrom (first + 1) n

/-- SCLOSE's effect: the stream closed at this spindle. -/
def State.closeStream (s : State) (p : Site) (e : SpStream) : State :=
  let x := (s.spindle p).staleFrom e.first e.count
  s.setSpindle p { x with streams := x.streams.filter (fun f => f.stream != e.stream) }

/-- The lowest buffer of a pool that holds no unreleased lea. -/
def SpStream.free? (e : SpStream) : Option Nat := ((List.range e.count).map (e.first + ·)).find? (fun b => !e.busy.contains b)

/-! ### One piece of work -/

/-- The engine of a row does one piece of the work of its oldest instruction; none where it waits (R73, R154, R155, R157,
R160, R181, R184). A SEND leaves the queue with its last flit, and completes with its last copy. An RSEND with more flits than
its declaration takes waits with the rest until its RID takes a flit again (DESIGN CHOICE, log entry 44: R160 does not say). -/
def State.engineStep (s : State) (row : Nat) : Option State :=
  let x := s.at row
  let p := siteRow row
  if !s.engineFree row then none
  else
    match x.xq.head? with
    | none => none
    | some (.send o) =>
      if !o.started then some (s.startSend p o)
      else
        match o.left with
        | [] => some (s.popXfer row)
        | f :: fs =>
          if x.router.credit 4 f.sb.vc then
            let f := { f with todo := s.outsAt f.shape row, born := s.fabric.cycles }
            some (((s.setRouterAt row (x.router.take false 4 f)).setHead row (.send { o with left := fs })).bump Obj.fabricFlits
              f.sb.vc 1)
          else none
    | some (.recv _) => none
    | some (.rsend o) =>
      if !o.started then some (s.startRsend p o)
      else
        match o.left with
        | [] => some (s.popXfer row)
        | f :: fs =>
          if x.router.absorbs o.rid 4 then
            some (((s.setRouterAt row (x.router.feed o.rid 4 [f])).setHead row (.rsend { o with left := fs })).bump
              Obj.fabricFlits 1 1)
          else none
    | some (.rrecv _) => none
    | some (.rdecl d) =>
      if 16 ≤ x.router.decls.length ∨ (x.router.decl d.rid).isSome then none
      else some ((s.setRouterAt row (x.router.declare d)).popXfer row)
    | some (.sopen id q first count) => some ((s.popXfer row).openStream p id q first count)
    | some (.sclose id) =>
      match x.stream? id with
      | none => some (s.popXfer row)
      | some e => some ((s.popXfer row).closeStream p e)

/-! ## Ejection -/

/-- The oldest transmission under a shape entry that a destination has not written: the next message sent (R154). -/
def State.nextFor (s : State) (shape row : Nat) : Option (Nat × Sending) :=
  s.fabric.sending.find? (fun e => e.2.shape == shape && e.2.due.contains row)

/-- A message flit taken by the receive at the head of the engine: the next flit of its message, or the first flit of the next
message sent under its shape entry with its LENGTH (R154). -/
def State.ejectMsg (s : State) (row : Nat) (f : NetFlit) : Option State :=
  match (s.at row).xq.head? with
  | some (.recv o) =>
    let mine := match o.id with
      | some i => i == f.id
      | none => f.sb.first && (s.nextFor o.shape row).any (fun e => e.1 == f.id && e.2.lines == o.length)
    if o.shape == f.shape && mine then some (s.setHead row (.recv { o with id := some f.id, got := o.got ++ f.lines }))
    else none
  | _ => none

/-- The lea whose first flit this is ends its stream (R184). -/
def NetFlit.isEnd (f : NetFlit) : Bool := bitAt (nth f.words 13 0).toNat 4

/-- A lea flit taken into the stream's pool: one lea at a time, while a buffer is free for it (R183). -/
def State.ejectLea (s : State) (row : Nat) (f : NetFlit) : Option State :=
  let x := s.at row
  match x.stream? f.sb.tag with
  | none => none
  | some e =>
    if e.inbox.any (·.sb.last) || (f.sb.first && !f.isEnd && e.free?.isNone) then none
    else
      let e' := { e with inbox := e.inbox ++ [f] }
      some (s.setAt row { x with streams := x.streams.map (fun g => if g.stream = e.stream then e' else g) })

/-- Channels with a flit for output 5 of a router. -/
def Router.askingOut (r : Router) : List Nat :=
  (List.range 4).filter (fun v => (List.range 6).any (fun i =>
    ((getList r.bufs (4 * i + v)).head?).any (fun f => f.todo.contains 5)))

/-- A flit that leaves the mesh by the site's back port (R384). -/
def State.leave (s : State) (row : Nat) (f : NetFlit) : Option State :=
  match backPort? row with
  | none => none
  | some port =>
    (s.passPort port 1 f.sb.vc f.sb.last (s.at row).router.askingOut).map (fun t =>
      { t with fabric := { t.fabric with portOut := putList t.fabric.portOut port (getList t.fabric.portOut port ++ [f]) } })

/-! ## Movement -/

/-- A copy of a flit given to an output of a router; none while the other side has no credit for it (R141, R156). -/
def State.give (s : State) (row out : Nat) (f : NetFlit) : Option State :=
  if out = 4 then
    if !s.engineFree row then none else if f.sb.kind = 3 then s.ejectLea row f else s.ejectMsg row f
  else if out = 5 then s.leave row f
  else
    match meshNext (siteRow row) out with
    | none => none
    | some n =>
      let r := (s.at n).router
      let i := opposite out
      if r.credit i f.sb.vc then
        let frozen := s.heldAt n
        let r := r.take frozen i { f with todo := s.outsAt f.shape n }
        let s := s.setRouterAt n r
        some (if frozen then s.setObj Obj.skidPeak 0 (max (s.obj Obj.skidPeak 0) (getList r.skid i).length) else s)
      else none

/-- The head of an input's channel moved by one output, if it wants it; its buffer keeps it until every copy has gone
(R156). -/
def State.moveFrom (s : State) (row out vc input : Nat) : Option State :=
  match getList (s.at row).router.bufs (4 * input + vc) with
  | [] => none
  | f :: fs =>
    if !f.todo.contains out then none
    else
      (s.give row out f).map (fun t =>
        let r := (t.at row).router
        let todo := f.todo.erase out
        t.setRouterAt row
          { r with
            bufs := putList r.bufs (4 * input + vc) (if todo.isEmpty then fs else { f with todo } :: fs)
            served := tput r.served (4 * out + vc) input })

/-- The inputs of a router in the order of round robin after the one an output served last (R148). -/
def Router.inputsFrom (r : Router) (out vc : Nat) : List Nat :=
  let k := ((tget r.served (4 * out + vc)).getD 5 + 1) % 6
  (List.range 6).map (fun i => (k + i) % 6)

/-- One flit moved by an output: the highest channel first, inputs in round robin (R148). -/
def State.moveOut (s : State) (row out : Nat) : Option State :=
  [0, 1, 2, 3].findSome? (fun vc => ((s.at row).router.inputsFrom out vc).findSome? (fun i => s.moveFrom row out vc i))

/-- One flit moved into the mesh from outside a port (R165, R211). -/
def State.movePort (s : State) (key : Nat) : Option State :=
  let port := key / 4
  let row := (portSite port).row
  match getList s.fabric.portIn key with
  | [] => none
  | f :: fs =>
    let r := (s.at row).router
    if s.heldAt row || !r.credit 5 f.sb.vc then none
    else
      let asking := (List.range 4).filter (fun v => !(getList s.fabric.portIn (4 * port + v)).isEmpty)
      (s.passPort port 0 f.sb.vc f.sb.last asking).map (fun t =>
        let r := (t.at row).router
        let f := { f with todo := t.outsAt f.shape row, born := t.fabric.cycles }
        let t := t.setRouterAt row (r.take false 5 f)
        ({ t with fabric := { t.fabric with portIn := putList t.fabric.portIn key fs } }).bump Obj.fabricFlits f.sb.vc 1)

/-- What was moved so far, and whether anything was. -/
def orKeep (a : State × Bool) (f : State → Option State) : State × Bool :=
  match f a.1 with
  | some t => (t, true)
  | none => a

/-- Rows with work for an engine or a router. -/
def State.busyRows (s : State) : List Nat :=
  (s.spindles.filter (fun e => !e.2.xq.isEmpty || !e.2.router.bufs.isEmpty)).map (·.1)

/-- One round: every engine, every output of every router that is not held, and every port moves at most one flit. -/
def State.round (s : State) : State × Bool :=
  let a := s.busyRows.foldl (fun a row =>
    let a := orKeep a (fun t => t.engineStep row)
    if a.1.heldAt row then a else (List.range 6).foldl (fun b o => orKeep b (fun t => t.moveOut row o)) a) (s, false)
  (s.fabric.portIn.map (·.1)).foldl (fun b k => orKeep b (fun t => t.movePort k)) a

/-- Rounds until nothing moves. -/
def State.flowFor : Nat → State → State
  | 0, s => s
  | n + 1, s => let r := s.round; if r.2 then r.1.flowFor n else s

/-- More rounds than any traffic needs to come to rest: each round moves a flit or begins an instruction. -/
abbrev flowRounds : Nat := 2 ^ 60

/-- The fabric and the transfer engines go on as far as they can. -/
def State.flow (s : State) : State := s.flowFor flowRounds

/-! ## Transmissions from outside and completion -/

/-- A message put before a port on a channel, from weft die w (R390). -/
def State.sendFrom (s : State) (port vc shape src : Nat) (lines : List Line) : State :=
  let h := s.shape shape
  let fs := s.netFlits vc h.kind shape shape s.fabric.nextMsg true (toFlits lines)
  let s := s.begins { shape, src, lines := lines.length, due := h.dests }
  let k := 4 * port + vc
  { s with fabric := { s.fabric with portIn := putList s.fabric.portIn k (getList s.fabric.portIn k ++ fs) } }

/-- A destination has written its copy of a transmission; the last one completes the SEND, whose handle goes on its queue
(R155). -/
def State.written (s : State) (id row : Nat) : State :=
  match tget s.fabric.sending id with
  | none => s
  | some t =>
    let due := t.due.erase row
    if due.isEmpty then
      let s := { s with fabric := { s.fabric with sending := tdel s.fabric.sending id } }
      match t.handle with
      | none => s
      | some (q, h) => s.putHandle t.src q h
    else { s with fabric := { s.fabric with sending := tput s.fabric.sending id { t with due } } }

/-- The engines of a spindle are idle: no instruction in a queue, no handle waiting for its queue, and no message it sent
still to be written (R77, R155, R160, R171). -/
def State.enginesIdle (s : State) (p : Site) : Bool :=
  (s.spindle p).xq.isEmpty && (s.spindle p).puts.isEmpty && s.fabric.sending.all (fun e => e.2.src != p.row)

/-- Handles of this spindle's transfers that are still under way (R168). -/
def State.handlesInUse (s : State) (p : Site) : List W32 :=
  let x := s.spindle p
  x.xq.filterMap (fun o => match o with
    | .send o => o.handle.map (·.2)
    | .recv o => o.handle
    | .rsend o => o.handle
    | .rrecv o => o.handle
    | _ => none) ++ x.puts.map (·.2) ++
    (s.fabric.sending.filter (fun e => e.2.src == p.row)).filterMap (fun e => e.2.handle.map (·.2))

/-- An instruction of the transfer engine issued: it joins the queue, and the engine and the fabric go on. -/
def State.enqueue (s : State) (p : Site) (o : Xfer) : State :=
  let x := s.spindle p
  s.setSpindle p { x with xq := x.xq ++ [o] }

/-- The transfer engine's queue has room for an instruction (R70, R88). -/
def Spindle.xferRoom (x : Spindle) : Bool := decide (x.xq.length < 4)

/-- An instruction of the transfer engine: it waits at issue while its queue is full or a receive still has to write a hank it
names, and after it the engines and the fabric go on (R88). -/
def State.runXfer (s : State) (p : Site) (os : List Opd) (body : State → State) : State :=
  if (s.spindle p).xferRoom && s.issues p && (s.spindle p).hanksFree os then (s.runAt p body).flow else s

end Sys2Proof.Machine
end

