-- ==== Sys2Proof/Machine/SendRecv.lean ====
section
/-! DEFINITION. The send/receive class (R153 to R155): instructions that join the transfer engine's queue, and the
completion of a receive. -/

namespace Sys2Proof.Machine

/-- The handle a store reference uses, if any. -/
def State.refHandle (s : State) (p : Site) (r : SRef) : Option W32 :=
  if r.am = 1 then some ((s.spindle p).slot r.slot).handle else none

/-! ## SEND and RECV -/

/-- Fields of a send or receive that the loader refuses (R86, R153). -/
def State.sendBad (s : State) (p : Site) (vc : BitVec 2) (shape : Nat) (r : SRef) (isSend : Bool) : Option Nat :=
  if r.reserved then some 0x25
  else if isSend && !((s.shape shape).sx == p.x.val && (s.shape shape).sy == p.y.val) then some 0x2B
  else if !isSend && !(s.shape shape).covers p then some 0x2B
  else if vc = 1 then some 0x2E
  else none

/-- SEND (R154, R155). -/
def execSend (p : Site) (vc : BitVec 2) (shape : BitVec 12) (sr : BitVec 36) (length : BitVec 18) (queue : BitVec 3)
    (ecc : EccResult) (s : State) : Result :=
  match s.sendBad p vc shape.toNat (sref sr) true with
  | some c => .refused (.loaderRefuses c)
  | none =>
    done (s.runXfer p [] (fun t =>
      if length = 0 then t
      else match (t.spindle p).extent (sref sr) length.toNat with
        | .bad c => t.reject p c []
        | .ok l =>
          t.enqueue p (.send { vc := vc.toNat, shape := shape.toNat, line := l, length := length.toNat, ecc
                               handle := (t.refHandle p (sref sr)).map (fun h => (queue.toNat, h)) })))

/-- RECV (R154): waits for the next message under its shape entry. -/
def execRecv (p : Site) (vc : BitVec 2) (shape : BitVec 12) (sr : BitVec 36) (length : BitVec 18) (queue : BitVec 3)
    (s : State) : Result :=
  match s.sendBad p vc shape.toNat (sref sr) false with
  | some c => .refused (.loaderRefuses c)
  | none =>
    done (s.runXfer p [] (fun t =>
      if length = 0 then t
      else match (t.spindle p).extent (sref sr) length.toNat with
        | .bad c => t.reject p c []
        | .ok l =>
          t.enqueue p (.recv { shape := shape.toNat, line := l, length := length.toNat, queue := queue.toNat
                               handle := t.refHandle p (sref sr) })))

/-! ## Hanks -/

/-- Element width and whether scales follow, by LENGTH (R154). -/
def hankWidth (length : Nat) : Option (Nat × Bool) :=
  match length with
  | 256 => some (32, false) | 128 => some (16, false) | 66 => some (8, true) | 50 => some (6, true) | 34 => some (4, true)
  | _ => none

/-- Fields of SENDH and RECVH that the loader refuses (R86, R153, R154). -/
def State.sendhBad (s : State) (p : Site) (vc : BitVec 2) (shape : Nat) (hank : BitVec 5) (length : Nat) (isSend : Bool) :
    Option Nat :=
  match hankWidth length with
  | none => some 0x24
  | some (_, mx) =>
    if (opd hank).isAcc && mx then some 0x23
    else if (opd hank).isAcc && length == 128 then some 0x24
    else s.sendBad p vc shape (sref 0) isSend

/-- The lines of a hank in a width, as STORE writes them (R71, R154). -/
def View.lines (v : View) (w : Nat) (mx : Bool) : List Line :=
  (elemLines w v.elems ++ if mx then scaleLinesOf v.scales else []).map (fun l => { l with poison := v.poison })

/-- SENDH (R154). -/
def execSendh (p : Site) (vc : BitVec 2) (shape : BitVec 12) (hank : BitVec 5) (length : BitVec 18) (s : State) : Result :=
  match s.sendhBad p vc shape.toNat hank length.toNat true with
  | some c => .refused (.loaderRefuses c)
  | none =>
    done (s.runXfer p [opd hank] (fun t =>
      match hankWidth length.toNat with
      | none => t
      | some (w, mx) =>
        let t := t.readsOpd p (opd hank)
        t.enqueue p (.send { vc := vc.toNat, shape := shape.toNat, line := 0, length := length.toNat
                             hank := some ((t.view p (opd hank)).lines w mx) })))

/-- RECVH (R154). -/
def execRecvh (p : Site) (vc : BitVec 2) (shape : BitVec 12) (hank : BitVec 5) (length : BitVec 18) (s : State) : Result :=
  match s.sendhBad p vc shape.toNat hank length.toNat false with
  | some c => .refused (.loaderRefuses c)
  | none =>
    done (s.runXfer p [opd hank] (fun t =>
      (t.writesOpd p (opd hank)).enqueue p
        (.recv { shape := shape.toNat, line := 0, length := length.toNat, queue := 0, handle := none, hank := some hank })))

/-! ## Completion -/

/-- The lines of a message written into a hank, as LOAD writes them; poison in one of its flits poisons the hank (R74). -/
def State.putHank (s : State) (p : Site) (o : Opd) (ls : List Line) : State :=
  match hankWidth ls.length with
  | none => s
  | some (w, mx) =>
    s.writeOpd p o w (lineElems w (ls.take (8 * w))) (if mx then some (lineScales (ls.drop (8 * w))) else none)
      (ls.any (·.poison))

/-- The lines of a receive written: all of them poisoned where a flit it consumed was (R74), and those another engine used
meanwhile undefined (R89). -/
def State.putMessage (s : State) (p : Site) (line : Nat) (ls : List Line) (undef : List Nat) : State :=
  (s.putRegion p line ls (ls.any (·.poison))).blurLines p undef

/-- A receive whose last flit has come, at the head of its engine's queue. -/
def State.ready? (s : State) (p : Site) : Option RecvOp :=
  match (s.spindle p).xq.head? with
  | some (.recv o) => if o.length ≤ o.got.length then some o else none
  | _ => none

/-- A receive completed: its lines or its hank written, its message done at this destination, and its handle put on its
queue (R154, R155). -/
def State.complete (s : State) (p : Site) (o : RecvOp) : State :=
  let s := s.popXfer p.row
  let s := s.sawPoison p (o.got.any (·.poison))
  let s := match o.hank with
    | some h => s.putHank p (opd h) o.got
    | none => s.putMessage p o.line o.got o.undef
  let s := match o.id with
    | some i => s.written i p.row
    | none => s
  match o.handle with
  | some h => s.putHandle p.row o.queue h
  | none => s

/-- RECV_COMPLETE (R154, R155): the receive at the head of the engine's queue, once its last flit has come; the engine then
goes on. A held spindle's engine ejects nothing (R210). -/
def execRecvComplete (p : Site) (s : State) : Result :=
  done (s.ifUp (fun t =>
    match t.ready? p with
    | none => t
    | some o => if t.engineFree p.row then (t.complete p o).flow else t))

end Sys2Proof.Machine
end

