-- ==== Sys2Proof/Machine/Bobbin.lean ====
section
/-! DEFINITION. Bobbin slots and their headers (R383 to R393): the scan, taking and handing back, delivery of
inputs and writing of results. -/

namespace Sys2Proof.Machine

/-! ## Judging headers -/

/-- A slot is taken at present. -/
def State.isTaken (s : State) (slot : Nat) : Bool :=
  s.step.slots.any (fun t => t.slot == slot) || s.step.maskSlots.any (fun t => t.slot == slot)

/-- The first header check a slot fails, in the order KIND, LENGTH, STALE (R386, R389). -/
def State.headerFault (s : State) (slot : Nat) (b : BobbinRow) : Option Nat :=
  let tensor := s.hdr slot 28 4
  let mask := s.maskOf tensor
  let fixed := match mask with
    | some (_, m) => m.mode == 1
    | none => false
  let len := s.slotLen slot
  let maskLen := match mask with
    | some (_, m) => ceilDiv (m.rows * m.rowlen) 8
    | none => 0
  if s.hdr slot 12 2 ≠ b.kind ∨ (b.kind = bkMask ∧ !fixed) then some 7
  else if b.room < len ∨ ((b.kind = bkInput ∨ b.kind = bkEvalInput) ∧ b.dlines * 64 < len) ∨ (b.kind = bkMask ∧ len ≠ maskLen)
    then some 6
  else if b.kind ≠ bkEvalResult ∧ s.hdr slot 16 8 < s.stepCount then some 4
  else none

/-- The CRC of the payload is the header's. -/
def State.crcGood (s : State) (slot : Nat) : Bool :=
  (crc32c (memRead s.slow (s.slotAddr slot + 256) (s.slotLen slot))).toNat == s.hdr slot 40 4

/-- A slot taken: GENERATION advances (R389). -/
def State.takeSlot (s : State) (slot kind role : Nat) : State :=
  let s := (s.putHdr slot 4 4 ((s.hdr slot 4 4 + 1) % 2 ^ 32)).bump Obj.bobbinTaken 0 1
  let t : Taken := { slot, kind, role }
  if kind = bkMask then { s with step := { s.step with maskSlots := s.step.maskSlots ++ [t] } }
  else { s with step := { s.step with slots := s.step.slots ++ [t] } }

/-! ## The scan -/

/-- The slots the module owns and has not taken, ascending. -/
def State.ownedSlots (s : State) : List (Nat × BobbinRow) :=
  s.bobbins.filter (fun e => s.owner e.1 == 2 && !s.isTaken e.1)

/-- Slots whose headers fail handed back at once. -/
def State.judgeSlots (s : State) : List (Nat × BobbinRow) → State
  | [] => s
  | e :: es =>
    match s.headerFault e.1 e.2 with
    | some st => (s.handBack e.1 st).judgeSlots es
    | none => s.judgeSlots es

/-- The first of the slots whose CRC is good taken; those before it go back with STATUS CRC, those after it
with DUPLICATE where `dup` says so (R389). -/
def State.takeFirst (s : State) (kind role : Nat) (dup : Bool) (have_ : Bool) : List Nat → State
  | [] => s
  | n :: ns =>
    if have_ then (if dup then (s.handBack n 10).takeFirst kind role dup true ns else s)
    else if s.crcGood n then (s.takeSlot n kind role).takeFirst kind role dup true ns
    else (s.handBack n 5).takeFirst kind role dup false ns

/-- The index of the microbatch a boundary waits for. -/
def State.nextIndex (s : State) : Nat := if s.step.evaluating then s.step.evalIndex else s.mbIndex

/-- A role has its slot. -/
def State.hasRole (s : State) (kind role : Nat) : Bool := s.step.slots.any (fun t => t.kind == kind && t.role == role)

/-- One role's slots of the running step and index. -/
def State.scanRole (s : State) (kind role : Nat) : State :=
  let ns := (s.ownedSlots.filter (fun e => e.2.kind == kind && e.2.role == role)).filter (fun e =>
    kind == bkEvalResult || (s.hdr e.1 16 8 == s.stepCount && s.hdr e.1 24 4 == s.nextIndex))
  s.takeFirst kind role (kind != bkEvalResult) (s.hasRole kind role) (ns.map (·.1))

/-- The mask slots of the running step. -/
def State.scanMasks (s : State) : State :=
  let ns := s.ownedSlots.filter (fun e => e.2.kind == bkMask && s.hdr e.1 16 8 == s.stepCount)
  ns.foldl (fun t e => t.takeFirst bkMask (t.hdr e.1 28 4) false false [e.1]) s

/-- The roles the coming microbatch needs, as KIND and ROLE. -/
def State.neededRoles (s : State) : List (Nat × Nat) :=
  if s.step.evaluating then
    (s.roles bkEvalInput).map (fun r => (bkEvalInput, r)) ++ (s.roles bkEvalResult).map (fun r => (bkEvalResult, r))
  else (s.roles bkInput).map (fun r => (bkInput, r))

/-- The needed roles that lack a slot. -/
def State.lacking (s : State) : List (Nat × Nat) := s.neededRoles.filter (fun e => !s.hasRole e.1 e.2)

/-- BOBBIN_WAIT and the start of a wait (R250, R406). -/
def State.noteWait (s : State) : State :=
  match s.lacking with
  | [] => s.setObj Obj.bobbinWait 0 0xFFFFFFFF
  | ks =>
    let r := ks.foldl (fun (m : Nat × Nat) e => if e.2 < m.2 then e else m) (nth ks 0 (0, 0))
    let s := s.setObj Obj.bobbinWait 0 (r.2 + r.1 * 2 ^ 12)
    { s with step := { s.step with waitStart := s.step.waitStart.orElse (fun _ => some s.time.now) } }

/-- A wait for input ends, by the start of the microbatch or the end of the step: its grains count (R250, R406). -/
def State.endWait (s : State) : State :=
  let s := s.setObj Obj.bobbinWait 0 0xFFFFFFFF
  match s.step.waitStart with
  | none => s
  | some t =>
    let n := s.time.now - t
    let s := s.bump Obj.inputWaitTime 0 n
    { s with step := { s.step with waitStart := none, waited := s.step.waited + n } }

/-- One scan of the headers (R389). -/
def State.scan (s : State) : State :=
  let s := s.judgeSlots s.ownedSlots
  let s := s.neededRoles.foldl (fun t e => t.scanRole e.1 e.2) s
  s.scanMasks.noteWait

/-- The module stands at a microbatch boundary: stepping, no microbatch running, and one more to come. -/
def State.atBoundary (s : State) : Bool :=
  s.up && (s.mode == stRun || s.mode == stDrain) && !s.step.mbRunning && !s.step.noMore && s.dict.voteLost.isEmpty && !s.faults.stopped &&
    ((s.phase == 1 && decide (s.mbIndex < s.step.total)) || (s.phase == 6 && decide (s.step.evalIndex < s.step.evalTotal)))

/-- BOBBIN_SCAN (R389): at a microbatch boundary, and again while it waits. -/
def execBobbinScan (s : State) : Result := done (if s.atBoundary then s.scan else s)

/-! ## Delivery and results -/

/-- Bytes as lines, zero beyond them. -/
def bytesLines (n : Nat) (bs : List Byte) : List Line := natLines n (leNat bs)

/-- The lines of a payload; one that cannot be read is poisoned (R347). -/
def State.payloadLines (s : State) (a n : Nat) (bs : List Byte) : List Line :=
  (bytesLines n bs).mapIdx (fun i l => if s.unreadable true (a + 64 * i) then { l with poison := true } else l)

/-- An input delivered to its role's destinations as one message on VC2, by the back port at its shape's source (R384, R390,
R394). -/
def State.deliverInput (s : State) (t : Taken) : State :=
  let b := s.bobbin t.slot
  let a := s.slotAddr t.slot + 256
  let bs := memRead s.slow a (s.slotLen t.slot)
  let h := s.shape b.shape
  match backPort? (128 * h.sy + h.sx) with
  | none => s
  | some port => (s.checkRead true a bs.length).sendFrom port 2 b.shape (9216 + b.weft) (s.payloadLines a b.dlines bs)

/-- Every taken input of the microbatch delivered. -/
def State.deliverInputs (s : State) : State :=
  ((s.step.slots.filter (fun t => t.kind == bkInput || t.kind == bkEvalInput)).foldl State.deliverInput s).flow

/-- The bytes of a line; a poisoned line's are undefined. -/
def Line.bytes (l : Line) (seed i : Nat) : List Byte :=
  leBytes 64 (if l.poison then Config.freeLine seed i else l.data).toNat

/-- Bytes written to a result slot after those it has; those beyond the slot are discarded (R391). -/
def State.writeResult (s : State) (t : Taken) (bs : List Byte) : State :=
  let room := (s.bobbin t.slot).room - t.written
  let s := s.tierWrite true (s.slotAddr t.slot + 256 + t.written) (bs.take room)
  let t' := { t with written := t.written + (bs.take room).length, overflow := t.overflow || decide (room < bs.length) }
  { s with step := { s.step with slots := s.step.slots.map (fun u => if u.slot = t.slot then t' else u) } }

/-- The first message under a shape entry that has left whole by a back port: the port and the transmission. -/
def State.leftMessage (s : State) (shape : Nat) : Option (Nat × Nat) :=
  s.fabric.portOut.findSome? (fun e =>
    (e.2.find? (fun f => f.shape == shape && f.sb.last)).map (fun f => (e.1, f.id)))

/-- A message taken from behind a back port and written into a result slot. Its destination has then written it, so its SEND
completes and puts its handle (R155; DESIGN CHOICE, log entry 44: no RECV takes such a message, and R155 speaks of RECVs). -/
def State.takeMessage (s : State) (t : Taken) (port id : Nat) : State :=
  let q := getList s.fabric.portOut port
  let ls := (q.filter (fun f => f.id == id)).flatMap NetFlit.lines
  let bs := (ls.mapIdx (fun i l => l.bytes (s.free + 1) i)).flatten
  let s := { s with fabric := { s.fabric with
      portOut := putList s.fabric.portOut port (q.filter (fun f => f.id != id)) } }
  (((s.drew 1).writeResult t bs).written id (portSite port).row).flow

/-- EVAL_RESULT_WRITE (R391): the oldest message of the slot's role written into its payload. -/
def execEvalResultWrite (slot : BitVec 12) (s : State) : Result :=
  done (s.ifUp (fun s =>
    match s.step.slots.find? (fun t => t.slot == slot.toNat && t.kind == bkEvalResult) with
    | none => s
    | some t =>
      match s.leftMessage (s.bobbin t.slot).shape with
      | none => s
      | some (port, id) => s.takeMessage t port id))

/-- A result slot handed back (R391). -/
def State.handResult (s : State) (t : Taken) (abandoned : Bool) : State :=
  let s := (((s.putHdr t.slot 8 4 t.written).putHdr t.slot 16 8 s.stepCount).putHdr t.slot 24 4 s.step.evalIndex).putHdr t.slot 28 4 0
  let s := s.putHdr t.slot 40 4 (crc32c (memRead s.slow (s.slotAddr t.slot + 256) t.written)).toNat
  s.handBack t.slot (if abandoned then 3 else if t.overflow then 6 else 2)

/-- The slots of a microbatch that has ended handed back (R390, R391). -/
def State.returnSlots (s : State) (abandoned : Bool) : State :=
  let s := s.step.slots.foldl (fun u t =>
    if t.kind = bkEvalResult then u.handResult t abandoned else u.handBack t.slot 1) s
  { s with step := { s.step with slots := [] } }

/-- Every INPUT and MASK slot of the abandoned step handed back, taken or not (R392). -/
def State.abandonSlots (s : State) : State :=
  let ns := s.bobbins.filter (fun e => (e.2.kind == bkInput || e.2.kind == bkMask) && s.owner e.1 == 2 &&
    s.hdr e.1 16 8 == s.stepCount)
  let s := ns.foldl (fun t e => t.handBack e.1 3) s
  { s with step := { s.step with slots := [], maskSlots := [] } }

/-- The bytes of a slot's header that a host write leaves as they are: GENERATION, and the reserved ones (R6, R385, R387). -/
def keepsByte (i : Nat) : Bool := decide ((4 ≤ i ∧ i < 8) ∨ i = 14 ∨ i = 15 ∨ (48 ≤ i ∧ i < 256))

/-- A write of the host to BAR2: some header bytes of a declared slot keep their values (R6, R381, R387). -/
def State.writeWindow (s : State) (o : Nat) : List Byte → State
  | [] => s
  | b :: bs =>
    let keep := s.bobbins.any (fun e => decide (e.2.base * 65536 ≤ o) && keepsByte (o - e.2.base * 65536))
    let a := o / 2 ^ 29 * 2 ^ 39 + 0x7FE0000000 + o % 2 ^ 29
    let s := if keep ∨ 2 ^ 32 ≤ o then s else { s with slow := memPut s.slow a b }
    s.writeWindow (o + 1) bs

/-- The host port is up: an access proves it (R379, R382). -/
def State.hostUp (s : State) : State :=
  if s.host.linkUp then s
  else
    let lanes := if Config.freeBool s.free then 16 else 8
    let gen := if Config.freeBool (s.free + 1) then 6 else 5
    let s := (s.setObj Obj.hostLink 0 (gen + lanes * 2 ^ 8)).drew 2
    { s with host := { s.host with linkUp := true, enumerated := true } }

/-- The tiers are powered and tested from READY on (R463, R469). -/
def State.tiersReady (s : State) : Bool := decide (stReady ≤ s.mode)

/-- BOBBIN_WINDOW_WRITE (R387); before READY no memory serves the window (R469). -/
def execBobbinWindowWrite (offset : W32) (data : List Byte) (s : State) : Result :=
  done (s.ifUp (fun s => if s.tiersReady then s.hostUp.writeWindow offset.toNat data else s.hostUp))

end Sys2Proof.Machine
end

