-- ==== Sys2Proof/Machine/Convert.lean ====
section
/-! DEFINITION. The convert and random classes (R55 to R58, R62, R82, R83). -/

namespace Sys2Proof.Machine

/-- The exact values of an operand that CVT reads in a format; of A[a] it reads the exact value s + c, which R101 states for
CVT without regard to FIN (R49; DEDUCED, log entry 43). -/
def State.values (s : State) (p : Site) (o : Opd) (f : Nat) : List Val :=
  let v := s.view p o
  match o with
  | .a k => (((s.spindle p).acc k).pairs p k).map Pair.exact
  | _ =>
    if isMx f then
      List.zipWith (fun e x => mxValue f x (bits e.toNat 0 (elemBits f))) v.elems
        (v.scales.flatMap (fun x => List.replicate 32 x))
    else v.elems.map (fun e => decodeElem f (bits e.toNat 0 (elemBits f)))

/-- The rounding of element n: stochastic with the context's chunk, or to nearest even (R54, R55). -/
def State.rnd (s : State) (c : Ctx) (sr : Bool) (purpose n : Nat) : Rnd :=
  if sr then .sr (s.chunk c purpose n) else .rne

/-- A result of a conversion written to its operand; a CVT into A[a] sets c to +0 (R101). -/
def State.writeConverted (s : State) (p : Site) (o : Opd) (f : Nat) (r : Converted) (poison : Bool) : State :=
  let s := s.writeOpd p o (elemBits f) (r.codes.map (BitVec.ofNat 32)) (if isMx f then some r.scales else none) poison
  match o with
  | .a k => if poison then s else s.setAcc p k { (s.spindle p).acc k with c := List.replicate 4096 0 }
  | _ => s

/-- CVT's effect (R82). -/
def State.cvt (s : State) (p : Site) (fin fout : Nat) (src dst : Opd) (sr : Bool) (purpose ctx : Nat) : State :=
  let s := s.uses p [src] [dst]
  let bad := (s.view p src).poison
  let c := (s.spindle p).ctx ctx
  let r := convertAll fout ((s.values p src fin).mapIdx (fun n v => (v, s.rnd c sr purpose n)))
  let s := s.sawPoison p bad
  (s.writeConverted p dst fout r bad).countConv c.tid.toNat r.counts

/-- Fields of CVT that the loader refuses (R33, R62, R82, R86). -/
def cvtBad (fin fout : BitVec 4) (src dst : BitVec 5) (rm grad : Bool) (purpose : Byte) : Option Nat :=
  if !fmtOk fin.toNat || !fmtOk fout.toNat then some 0x20
  else if rm && !grad && !purposeOk purpose.toNat then some 0x21
  else if !cvtPairOk fin.toNat fout.toNat then some 0x23
  else if (isMx fin.toNat && (opd src).isAcc) || (isMx fout.toNat && (opd dst).isAcc) then some 0x23
  else if (opd dst).isAcc && fout != 0 then some 0x24
  else none

/-- CVT (R82): stochastic where GRAD or RM says so, with purpose SR under GRAD (R58). -/
def execCvt (p : Site) (fin fout : BitVec 4) (src dst : BitVec 5) (rm grad : Bool) (ctx : BitVec 2) (purpose : Byte)
    (s : State) : Result :=
  match cvtBad fin fout src dst rm grad purpose with
  | some c => .refused (.loaderRefuses c)
  | none =>
    done (s.runOn p [opd src, opd dst] (fun t =>
      t.cvt p fin.toNat fout.toNat (opd src) (opd dst) (rm || grad) (if grad then 1 else purpose.toNat) ctx.toNat))

/-- RCTX (R83): sets a random context slot. -/
def execRctx (p : Site) (slot : BitVec 2) (tr : Bool) (tid : W32) (ebase : BitVec 48) (estride : W32) (s : State) : Result :=
  done (s.runAt p (fun t =>
    let x := t.spindle p
    t.setSpindle p { x with ctxs := setNth x.ctxs slot.toNat { tid, ebase, estride, tr } }))

/-- A hank operand filled with binary32 values of the generator's chunks. -/
def State.fillChunks (s : State) (p : Site) (slot : Nat) (dst : Opd) (purpose : Nat) (f : Nat → W32) : State :=
  let c := (s.spindle p).ctx slot
  let s := s.uses p [] [dst]
  s.writeOpd p dst 32 ((List.range 4096).map (fun n => f (s.chunk c purpose n))) none false

/-- The binary32 value of a chunk, or of the chunk times 2^-16 (R83). -/
def chunkValue (mode : Bool) (c : Nat) : W32 := enc32 (.fin false c (if mode then -16 else 0))

/-- A reserved purpose code (R62). -/
def purposeBad (purpose : Byte) : Option Nat := if purposeOk purpose.toNat then none else some 0x21

/-- RDRAW (R83). -/
def execRdraw (p : Site) (slot : BitVec 2) (dst : BitVec 5) (purpose : Byte) (mode : Bool) (s : State) : Result :=
  match purposeBad purpose with
  | some c => .refused (.loaderRefuses c)
  | none => done (s.runOn p [opd dst] (fun t => t.fillChunks p slot.toNat (opd dst) purpose.toNat (chunkValue mode)))

/-- The keep mask of a chunk: 1.0 below the threshold, else +0 (R83). -/
def keepValue (thresh : Nat) (c : Nat) : W32 := if c < thresh then 0x3F800000 else 0

/-- RMASK (R83). -/
def execRmask (p : Site) (slot : BitVec 2) (dst : BitVec 5) (purpose : Byte) (thresh : W16) (s : State) : Result :=
  match purposeBad purpose with
  | some c => .refused (.loaderRefuses c)
  | none => done (s.runOn p [opd dst] (fun t => t.fillChunks p slot.toNat (opd dst) purpose.toNat (keepValue thresh.toNat)))

end Sys2Proof.Machine
end

