-- ==== Sys2Proof/Machine/Trans.lean ====
section
/-! DEFINITION. Correctly rounded transcendental functions (R116) by fixed-point series with `transP`
fraction bits, far below any rounding boundary a result can come near, with the exact cases apart. -/

namespace Sys2Proof.Machine

/-- Fraction bits of the fixed-point series. -/
abbrev transP : Nat := 512

/-- Sum over k from i of 1 / ((2k + 1) n^(2k + 1)), or with alternating signs, in fixed point; `t` is
1 / n^(2i + 1). -/
def atanhAux (alt : Bool) (n : Nat) : Nat → Nat → Nat → Bool → Int → Int
  | 0, _, _, _, acc => acc
  | fuel + 1, i, t, neg, acc =>
    let v : Int := (t / (2 * i + 1) : Nat)
    atanhAux alt n fuel (i + 1) (t / (n * n)) (alt != neg) (if neg then acc - v else acc + v)

/-- ln 2 = 2 atanh(1/3). -/
def ln2Fix : Int := 2 * atanhAux false 3 170 0 (2 ^ transP / 3) false 0

/-- Taylor series: sum of r^k / k! from the term t of index i. -/
def expAux (r : Int) : Nat → Nat → Int → Int → Int
  | 0, _, _, acc => acc
  | fuel + 1, i, t, acc =>
    expAux r fuel (i + 1) (t * r / 2 ^ transP / ((i : Int) + 1)) (acc + t)

/-- e^r in fixed point for r in [0, 1). -/
def expFix (r : Int) : Int := expAux r 110 0 (2 ^ transP) 0

/-- The fixed-point value of m * 2^e, signed. -/
def toFix (neg : Bool) (m : Nat) (e : Int) : Int :=
  let k := e + transP
  let v : Int := if 0 ≤ k then (m <<< k.toNat : Nat) else (m >>> (-k).toNat : Nat)
  if neg then -v else v

/-- 2^a (R116). Beyond 2^12 in magnitude the result is out of range either way. -/
def Val.exp2 : Val → Val
  | .nan => .nan
  | .inf neg => if neg then .fin false 0 0 else .inf false
  | .fin neg m e =>
    if m = 0 then .fin false 1 0
    else if 12 ≤ (Val.fin neg m e).log2 then (if neg then .fin false 1 (-3000) else .fin false 1 3000)
    else
      let a := toFix neg m e
      let n := a / 2 ^ transP
      let f := a % 2 ^ transP
      if f = 0 then .fin false 1 n
      else .fin false (expFix (f * ln2Fix / 2 ^ transP)).toNat (n - transP)

/-- e^a (R116). -/
def Val.exp : Val → Val
  | .nan => .nan
  | .inf neg => if neg then .fin false 0 0 else .inf false
  | .fin neg m e =>
    if m = 0 then .fin false 1 0
    else if 12 ≤ (Val.fin neg m e).log2 then (if neg then .fin false 1 (-3000) else .fin false 1 3000)
    else
      let a := toFix neg m e
      let n := a / ln2Fix
      .fin false (expFix (a - n * ln2Fix)).toNat (n - transP)

/-- Sum of z^(2k + 1) / (2k + 1) from index i, t = z^(2i + 1). -/
def logAux (z2 : Int) : Nat → Nat → Int → Int → Int
  | 0, _, _, acc => acc
  | fuel + 1, i, t, acc =>
    logAux z2 fuel (i + 1) (t * z2 / 2 ^ transP) (acc + t / (2 * (i : Int) + 1))

/-- ln of m / 2^(log2 m), in [1, 2), in fixed point. -/
def lnMant (m : Nat) : Int :=
  let one : Int := (2 ^ transP : Nat)
  let y : Int := (m <<< transP : Nat) / (2 ^ Nat.log2 m : Nat)
  let z := (y - one) * one / (y + one)
  2 * logAux (z * z / one) 170 0 z 0

/-- ln of a positive finite value in fixed point. -/
def lnFix (m : Nat) (e : Int) : Int := ((Nat.log2 m : Nat) + e) * ln2Fix + lnMant m

/-- ln a (R116). -/
def Val.ln : Val → Val
  | .nan => .nan
  | .inf neg => if neg then .nan else .inf false
  | .fin neg m e =>
    if m = 0 then .inf true
    else if neg then .nan
    else if m = 2 ^ Nat.log2 m ∧ (Nat.log2 m : Int) + e = 0 then .fin false 0 0
    else Val.ofInt (lnFix m e) (-transP)

/-- log2 a (R116). -/
def Val.logTwo : Val → Val
  | .nan => .nan
  | .inf neg => if neg then .nan else .inf false
  | .fin neg m e =>
    if m = 0 then .inf true
    else if neg then .nan
    else if m = 2 ^ Nat.log2 m then Val.ofInt ((Nat.log2 m : Nat) + e) 0
    else Val.ofInt (lnFix m e * (2 ^ transP : Nat) / ln2Fix) (-transP)

/-- 1 / sqrt a (R116). -/
def Val.rsqrt : Val → Val
  | .nan => .nan
  | .inf neg => if neg then .nan else .fin false 0 0
  | .fin neg m e =>
    if m = 0 then .inf false
    else if neg then .nan
    else
      let odd := (e % 2).toNat
      let mm := m <<< odd
      let sh := Nat.log2 mm + 64
      let r := isqrt (2 ^ (2 * sh) / mm)
      let st := if r * r * mm = 2 ^ (2 * sh) then 0 else 1
      .fin false (2 * r + st) (-((e - (odd : Int)) / 2) - (sh : Int) - 1)

/-- Sum of the cosine series from the term t of index i. -/
def cosAux (r2 : Int) : Nat → Nat → Int → Int → Int
  | 0, _, _, acc => acc
  | fuel + 1, i, t, acc =>
    cosAux r2 fuel (i + 1) (-(t * r2 / 2 ^ transP / ((2 * (i : Int) + 1) * (2 * i + 2)))) (acc + t)

/-- cos a of a finite value of magnitude at most 4 (R265). -/
def Val.cos : Val → Val
  | .fin _ m e =>
    let r := toFix false m e
    Val.ofInt (cosAux (r * r / 2 ^ transP) 100 0 (2 ^ transP) 0) (-transP)
  | _ => .nan

end Sys2Proof.Machine
end

