-- ==== Sys2Proof/Machine/Vector.lean ====
section
/-! DEFINITION. The vector class: chain descriptors, stages, reductions and the wide path (R109 to R122,
R124). A chain runs stage by stage over the whole hank. -/

namespace Sys2Proof.Machine

/-! ## Descriptors -/

/-- A stage word (R112). -/
structure Stage where
  sop : Nat
  ia : Nat
  ib : Nat
  tap : Bool
  sfmt : Nat
  purpose : Nat
  imm : W32
deriving DecidableEq, Repr

/-- The stage a word spells. -/
def stageOf (w : Nat) : Stage where
  sop := bits w 56 8
  ia := bits w 53 3
  ib := bits w 50 3
  tap := bitAt w 49
  sfmt := bits w 44 4
  purpose := bits w 36 8
  imm := BitVec.ofNat 32 w

/-- The chain header (R111). -/
structure Chain where
  fsrc : Nat
  fsrc2 : Nat
  fdst : Nat
  rop : Nat
  rbh : Opd
  cbh : Opd
  pair : Bool
  stages : List Stage
deriving DecidableEq, Repr

/-- The descriptor of two store lines with nst + 1 stages (R110). -/
def chainOf (data nst : Nat) : Chain :=
  let h := bits data 512 64
  { fsrc := bits h 60 4, fsrc2 := bits h 56 4, fdst := bits h 52 4, rop := bits h 48 4
    rbh := opd (BitVec.ofNat 5 (bits h 43 5)), cbh := opd (BitVec.ofNat 5 (bits h 38 5)), pair := bitAt h 37
    stages := (fields 64 (nst + 1) data).map stageOf }

/-- Which of the four vector opcodes. -/
inductive VOp where
  | chain | redRow | redCol | wide
deriving DecidableEq, Repr

/-- The stage operations of R114. -/
def sopOk (n : Nat) : Bool :=
  decide (n ≤ 0x0B) || decide (0x10 ≤ n ∧ n ≤ 0x16) || n == 0x20 || n == 0x28 || n == 0x29 || n == 0x30 || n == 0x31

/-- Stages that read operand a. -/
def readsA (n : Nat) : Bool := decide (n < 0x30)

/-- Stages that read operand b. -/
def readsB (n : Nat) : Bool := decide (1 ≤ n ∧ n ≤ 4) || decide (6 ≤ n ∧ n ≤ 0x0B) || n == 0x28

/-- A compare stage. -/
def isCmp (n : Nat) : Bool := decide (8 ≤ n ∧ n ≤ 0x0A)

/-- Draws per element of a stage (R121): a random stage, or a stochastic CVT to a narrower format. -/
def Stage.draws (t : Stage) (sr : Bool) : Nat :=
  if t.sop = 0x30 ∨ t.sop = 0x31 then 1 else if t.sop = 0x20 ∧ sr ∧ t.sfmt ≠ 0 then 1 else 0

/-- SEL without an earlier compare, or TAPV before any stage with TAP. A select that its stage does not read is not judged:
IB of a stage of one operand, and IA of VWIDE, whose operand a is always the pair (DESIGN CHOICE, log entry 43: R124 does
not say whether it is). -/
def orderBad (wide : Bool) : List Stage → Bool → Bool → Bool
  | [], _, _ => false
  | t :: ts, cmp, tap =>
    (t.sop == 0x0B && !cmp) || (!wide && readsA t.sop && t.ia == 7 && !tap) || (readsB t.sop && t.ib == 7 && !tap) ||
      orderBad wide ts (cmp || isCmp t.sop) (tap || t.tap)

/-- A stage VWIDE does not allow (R120). -/
def wideBad (t : Stage) : Bool := decide (3 < t.sop) || (t.sop != 0 && t.ib == 0)

/-- An invalid descriptor under cause 0x28 (R124). -/
def Chain.invalid (c : Chain) (op : VOp) (dst : BitVec 5) (sr : Bool) : Bool :=
  let isRed := op == .redRow || op == .redCol
  c.stages.any (fun t => !sopOk t.sop) || decide (7 ≤ c.rop) || (isRed != (c.rop != 0)) ||
    (c.fdst != 0 && (isRed || (op == .wide && c.pair))) || (op == .wide && c.pair && dst.toNat % 2 == 1) ||
    (op == .wide && c.stages.any wideBad) || orderBad (op == .wide) c.stages false false ||
    decide (1 < (c.stages.map (·.draws sr)).foldl (· + ·) 0 + (if sr && c.fdst != 0 then 1 else 0))

/-- The lowest cause for which the loader refuses a descriptor with its instruction (R33, R62, R86, R124,
R403). -/
def Chain.bad (c : Chain) (op : VOp) (src src2 dst : BitVec 5) (r : SRef) (sr : Bool) : Option Nat :=
  if !fmtOk c.fsrc || !fmtOk c.fsrc2 || !fmtOk c.fdst || c.stages.any (fun t => t.sop == 0x20 && !fmtOk t.sfmt) then
    some 0x20
  else if c.stages.any (fun t => (t.sop == 0x30 || t.sop == 0x31) && !purposeOk t.purpose) then some 0x21
  else if (isMx c.fsrc && (opd src).isAcc) || (isMx c.fsrc2 && (opd src2).isAcc) || (isMx c.fdst && (opd dst).isAcc) then
    some 0x23
  else if r.reserved then some 0x25
  else if r.am ≠ 0 ∨ r.lsel ≠ 0 then some 0x28
  else if c.invalid op dst sr then some 0x28
  else none

/-! ## Operands -/

/-- What a chain can select (R113). -/
structure Sources where
  src : List W32
  src2 : List W32
  rb : List W32
  cb0 : List W32
  cb1 : List W32
deriving DecidableEq, Repr

/-- An operand read in a format as binary32 values (R115). -/
def View.as32 (v : View) (f : Nat) : List W32 :=
  if isMx f then
    List.zipWith (fun e x => enc32 (mxValue f x (bits e.toNat 0 (elemBits f)))) v.elems
      (v.scales.flatMap (fun x => List.replicate 32 x))
  else v.elems.map (fun e => enc32 (decodeElem f (bits e.toNat 0 (elemBits f))))

/-- The row broadcast: element (i, 0) along each row. -/
def rowBroadcast (es : List W32) : List W32 := (chunks 64 65 es).flatMap (fun r => List.replicate 64 (nth r 0 0))

/-- Row k of a hank along each column. -/
def colBroadcast (k : Nat) (es : List W32) : List W32 :=
  (List.replicate 64 ((es.drop (64 * k)).take 64)).flatten

/-- A chain as it runs: the previous result, the tap, the predicate, and the CVT stages' counts. -/
structure ChainRun where
  prev : List W32
  tap : List W32
  pred : List Bool
  counts : Counts := {}
deriving DecidableEq, Repr

/-- The list a select names. -/
def Sources.sel (q : Sources) (r : ChainRun) (imm : W32) : Nat → List W32
  | 0 => r.prev
  | 1 => q.src
  | 2 => q.src2
  | 3 => List.replicate 4096 imm
  | 4 => q.rb
  | 5 => q.cb0
  | 6 => q.cb1
  | _ => r.tap

/-! ## Stage results -/

/-- MAX of R116: NaN if either is; +0 above -0. -/
def maxVal (a b : Val) : Val :=
  if a.isNan || b.isNan then .nan
  else if a.isZero && b.isZero then .fin (a.neg? && b.neg?) 0 0
  else if Val.lt a b then b else a

/-- MIN of R116. -/
def minVal (a b : Val) : Val :=
  if a.isNan || b.isNan then .nan
  else if a.isZero && b.isZero then .fin (a.neg? || b.neg?) 0 0
  else if Val.lt b a then b else a

/-- 1 / a (R116). -/
def rcpVal (a : Val) : Val := Val.div 40 (.fin false 1 0) a

/-- The result of a stage of one or two operands, exact before its rounding (R114, R116). -/
def stageVal (sop : Nat) (imm : W32) (a b : Val) : Val :=
  match sop with
  | 0x00 => a
  | 0x01 => Val.add a b
  | 0x02 => Val.sub a b
  | 0x03 => Val.mul a b
  | 0x04 => Val.add (Val.mul a b) (dec32 imm)
  | 0x05 => a.abs
  | 0x06 => maxVal a b
  | 0x07 => minVal a b
  | 0x10 => a.exp2
  | 0x11 => a.exp
  | 0x12 => a.logTwo
  | 0x13 => a.ln
  | 0x14 => rcpVal a
  | 0x15 => a.sqrt 30
  | 0x16 => a.rsqrt
  | 0x28 => if b.isZero then .fin false 0 0 else a
  | _ => a

/-- The predicate a compare sets (R114): false where a NaN takes part. -/
def cmpVal (sop : Nat) (a b : Val) : Bool :=
  match sop with
  | 0x08 => Val.lt b a
  | 0x09 => Val.lt b a || Val.eq a b
  | _ => Val.eq a b

/-- 1.0 or +0. -/
def one32 (b : Bool) : W32 := if b then 0x3F800000 else 0

/-- One stage over the hank. -/
def runStage (q : Sources) (rnd : List Rnd) (chunkOf : Nat → List Nat) (t : Stage) (r : ChainRun) : ChainRun :=
  let a := q.sel r t.imm t.ia
  let b := q.sel r t.imm t.ib
  let r' : ChainRun :=
    if isCmp t.sop then
      let ps := List.zipWith (fun x y => cmpVal t.sop (dec32 x) (dec32 y)) a b
      { r with prev := ps.map one32, pred := ps }
    else if t.sop = 0x0B then
      { r with prev := List.zipWith (fun p (xy : W32 × W32) => enc32 (dec32 (if p then xy.1 else xy.2))) r.pred (List.zip a b) }
    else if t.sop = 0x29 then
      { r with prev := a.mapIdx (fun n x =>
          if ((n % 64 : Nat) : Int) - ((n / 64 : Nat) : Int) ≤ t.imm.toInt then enc32 (dec32 x) else 0xFF800000) }
    else if t.sop = 0x30 then { r with prev := (chunkOf t.purpose).map (chunkValue true) }
    else if t.sop = 0x31 then { r with prev := (chunkOf t.purpose).map (keepValue (bits t.imm.toNat 0 16)) }
    else if t.sop = 0x20 then
      let c := convertAll t.sfmt (List.zip (a.map dec32) rnd)
      let vs := if isMx t.sfmt then
          List.zipWith (fun k x => enc32 (mxValue t.sfmt x k)) c.codes (c.scales.flatMap (fun x => List.replicate 32 x))
        else c.codes.map (fun k => enc32 (decodeElem t.sfmt k))
      { r with prev := vs, counts := r.counts.add c.counts }
    else
      { r with prev := List.zipWith (fun x y => enc32 (stageVal t.sop t.imm (dec32 x) (dec32 y))) a b }
  if t.tap then { r' with tap := r'.prev } else r'

/-- The stages of a chain in order. -/
def runStages (q : Sources) (rnd : List Rnd) (chunkOf : Nat → List Nat) (ts : List Stage) : ChainRun :=
  ts.foldl (fun r t => runStage q rnd chunkOf t r) { prev := q.src, tap := [], pred := [] }

/-! ## Reductions -/

/-- The result and ply of a reduction over values in order (R117, R118). MAX and MIN give NaN where a value is NaN, as the
stages of R116 do (DESIGN CHOICE, log entry 43: R117 does not say). -/
def reduce (rop : Nat) (vs : List W32) : Pair :=
  match rop with
  | 1 => vs.foldl Pair.addTerm {}
  | 2 => vs.foldl (fun q v => q.addExact (Val.mul (dec32 v) (dec32 v))) {}
  | 3 => ⟨enc32 ((vs.map dec32).foldl maxVal (.inf true)), 0⟩
  | 4 => ⟨enc32 ((vs.map dec32).foldl minVal (.inf false)), 0⟩
  | 5 => ⟨enc32 (.fin false (vs.filter (fun v => !isZero32 v)).length 0), 0⟩
  | _ => ⟨one32 (vs.any (fun v => !isFin32 v)), 0⟩

/-- VRED_ROW: value and ply in columns 0 and 1, every other element +0. -/
def reduceRows (rop : Nat) (es : List W32) : List W32 :=
  (chunks 64 65 es).flatMap (fun r => let q := reduce rop r; q.s :: q.c :: List.replicate 62 0)

/-- VRED_COL: value and ply in rows 0 and 1, every other element +0. -/
def reduceCols (rop : Nat) (es : List W32) : List W32 :=
  let qs := (chunks 64 65 (transpose64 0 es)).map (reduce rop)
  qs.map (·.s) ++ qs.map (·.c) ++ List.replicate 3968 0

/-! ## The wide path -/

/-- A pair times a binary32 value (R120). -/
def Pair.mulB (q : Pair) (b : W32) : Pair :=
  let h := mul32 q.s b
  if !isFin32 h then ⟨h, 0⟩
  else
    let l := enc32 (Val.sub (Val.mul (dec32 q.s) (dec32 b)) (dec32 h))
    ⟨h, add32 (mul32 q.c b) l⟩

/-- One stage of the wide path on one pair. -/
def wideStage (sop : Nat) (q : Pair) (b : W32) : Pair :=
  match sop with
  | 1 => q.addTerm b
  | 2 => q.addTerm (enc32 (dec32 b).negate)
  | 3 => q.mulB b
  | _ => q

/-- The wide path as it runs: pairs and the tapped pairs. -/
structure WideRun where
  prev : List Pair
  tap : List Pair
deriving DecidableEq, Repr

/-- One wide stage over the hank; TAPV reads the folded tap. -/
def runWide (q : Sources) (t : Stage) (r : WideRun) : WideRun :=
  let b := q.sel { prev := [], tap := r.tap.map Pair.fold, pred := [] } t.imm t.ib
  let v := if t.sop = 0 then r.prev else List.zipWith (wideStage t.sop) r.prev b
  if t.tap then { prev := v, tap := v } else { r with prev := v }

/-! ## The instructions -/

/-- A select's hanks enter the scoreboard and the poison rule only where a stage reads it: 1 SRC, 2 SRC2,
4 RBH, 5 and 6 CBH. PREV at stage 0 is SRC. -/
def selectsOf : Nat → List Stage → List Nat
  | _, [] => []
  | i, t :: ts =>
    (if readsA t.sop then [if t.ia = 0 ∧ i = 0 then 1 else t.ia] else []) ++
    (if readsB t.sop then [if t.ib = 0 ∧ i = 0 then 1 else t.ib] else []) ++ selectsOf (i + 1) ts

/-- The operands a chain reads; operand a of VWIDE is the pair that starts from SRC (R120). -/
def Chain.reads (c : Chain) (op : VOp) (src src2 : Opd) : List Opd :=
  let sel := if op == .wide then 1 :: (c.stages.filter (fun t => readsB t.sop)).map (·.ib) else selectsOf 0 c.stages
  (if sel.contains 1 then [src] else []) ++ (if sel.contains 2 then [src2] else []) ++
    (if sel.contains 4 then [c.rbh] else []) ++ (if sel.contains 5 || sel.contains 6 then [c.cbh] else [])

/-- An operand is poisoned. -/
def State.opdPoison (s : State) (p : Site) (o : Opd) : Bool := (s.view p o).poison

/-- The sources of a chain. -/
def State.sources (s : State) (p : Site) (c : Chain) (src src2 : Opd) : Sources :=
  let cb := (s.view p c.cbh).elems
  { src := (s.view p src).as32 c.fsrc, src2 := (s.view p src2).as32 c.fsrc2
    rb := rowBroadcast (s.view p c.rbh).elems, cb0 := colBroadcast 0 cb, cb1 := colBroadcast 1 cb }

/-- The pairs VWIDE starts from: the accumulator's whatever FSRC says, or (SRC, +0) (R120). -/
def State.widePairs (s : State) (p : Site) (c : Chain) (src : Opd) : List Pair :=
  match src with
  | .a k => ((s.spindle p).acc k).pairs p k
  | _ => ((s.view p src).as32 c.fsrc).map (fun v => ⟨v, 0⟩)

/-- The operand one above, for the second register of a pair. -/
def opdSucc (dst : BitVec 5) : Opd := opd (dst + 1)

/-- A binary32 value produced: a NaN is the canonical one (R35). -/
def canon32 (w : W32) : W32 := enc32 (dec32 w)

/-- Counts of binary32 values as written. -/
def counts32 (es : List W32) : Counts := { nonfinite := (es.filter (fun e => !isFin32 e)).length }

/-- The hanks a vector-class instruction writes, as far as its own fields name them. -/
def vectorDsts (op : VOp) (c : Chain) (dst : BitVec 5) : List Opd :=
  if op == .wide && c.pair then [opd dst, opdSucc dst] else [opd dst]

/-- The effect of a vector-class instruction with its descriptor (R115, R117, R120 to R122). A VWIDE with PAIR 0 rounds s + c
to FDST by the instruction's rounding whatever FDST is, stochastically under RM or GRAD also to FP32 (DESIGN CHOICE, log
entry 43). -/
def State.vector (s : State) (p : Site) (op : VOp) (c : Chain) (src src2 : Opd) (dst : BitVec 5) (ctx : Nat)
    (sr : Bool) : State :=
  let rs := c.reads op src src2
  let s := s.uses p rs (vectorDsts op c dst)
  let bad := rs.any (s.opdPoison p)
  let cx := (s.spindle p).ctx ctx
  let rnd := (List.range 4096).map (fun n => s.rnd cx sr 1 n)
  let chunkOf := fun purpose => (List.range 4096).map (fun n => s.chunk cx purpose n)
  let q := s.sources p c src src2
  let s := s.sawPoison p bad
  match op with
  | .wide =>
    let w := (c.stages.foldl (fun r t => runWide q t r) { prev := s.widePairs p c src, tap := [] }).prev
    if c.pair then
      let hi := w.map (fun q => canon32 q.s)
      let lo := w.map (fun q => canon32 q.c)
      let s := s.writeOpd p (opd dst) 32 hi none bad
      (s.writeOpd p (opdSucc dst) 32 lo none bad).countConv cx.tid.toNat ((counts32 hi).add (counts32 lo))
    else
      let r := convertAll c.fdst (List.zip (w.map Pair.exact) rnd)
      (s.writeOpd p (opd dst) (elemBits c.fdst) (r.codes.map (BitVec.ofNat 32))
        (if isMx c.fdst then some r.scales else none) bad).countConv cx.tid.toNat r.counts
  | .chain =>
    let run := runStages q rnd chunkOf c.stages
    let r := convertAll c.fdst (List.zip (run.prev.map dec32) rnd)
    (s.writeOpd p (opd dst) (elemBits c.fdst) (r.codes.map (BitVec.ofNat 32))
      (if isMx c.fdst then some r.scales else none) bad).countConv cx.tid.toNat (run.counts.add r.counts)
  | .redRow =>
    let run := runStages q rnd chunkOf c.stages
    let es := reduceRows c.rop run.prev
    (s.writeOpd p (opd dst) 32 es none bad).countConv cx.tid.toNat (run.counts.add (counts32 es))
  | .redCol =>
    let run := runStages q rnd chunkOf c.stages
    let es := reduceCols c.rop run.prev
    (s.writeOpd p (opd dst) 32 es none bad).countConv cx.tid.toNat (run.counts.add (counts32 es))

/-- A vector-class instruction: its descriptor's extent checked at issue (R102), the descriptor read with the store's error
check (R75) and judged as the loader judges it (R110, R124), and its effect. -/
def State.vectorAt (s : State) (p : Site) (op : VOp) (src src2 dst : BitVec 5) (nst : BitVec 3) (sr : BitVec 36)
    (ctx : BitVec 2) (grad rm : Bool) : Result :=
  if (sref sr).reserved then .refused (.loaderRefuses 0x25)
  else if (sref sr).am ≠ 0 ∨ (sref sr).lsel ≠ 0 then .refused (.loaderRefuses 0x28)
  else if !s.issues p then done s
  else
    match (s.spindle p).extent (sref sr) 2 with
    | .bad e => done (s.runOn p [opd dst] (fun t => t.reject p e [opd dst]))
    | .ok line =>
      let ls := (s.eccRead p .clean line 2).readCells p true line 2
      let c := chainOf (linesNat ls) nst.toNat
      let bad := ls.any (·.poison)
      if bad then
        done (s.runOn p [opd dst] (fun t =>
          ((((t.eccRead p .clean line 2).drew 1).uses p [] [opd dst]).sawPoison p true).poisonOpd p (opd dst)))
      else
        match c.bad op src src2 dst (sref sr) (grad || rm) with
        | some e => .refused (.loaderRefuses e)
        | none =>
          done (s.runOn p (c.reads op (opd src) (opd src2) ++ vectorDsts op c dst) (fun t =>
            ((t.eccRead p .clean line 2).drew 1).vector p op c (opd src) (opd src2) dst ctx.toNat (grad || rm)))

/-- VCHAIN (R110 to R116). -/
def execVchain (p : Site) (src src2 dst : BitVec 5) (nst : BitVec 3) (sr : BitVec 36) (ctx : BitVec 2) (grad rm : Bool)
    (s : State) : Result := s.vectorAt p .chain src src2 dst nst sr ctx grad rm

/-- VRED_ROW (R117). -/
def execVredRow (p : Site) (src src2 dst : BitVec 5) (nst : BitVec 3) (sr : BitVec 36) (ctx : BitVec 2) (grad rm : Bool)
    (s : State) : Result := s.vectorAt p .redRow src src2 dst nst sr ctx grad rm

/-- VRED_COL (R117). -/
def execVredCol (p : Site) (src src2 dst : BitVec 5) (nst : BitVec 3) (sr : BitVec 36) (ctx : BitVec 2) (grad rm : Bool)
    (s : State) : Result := s.vectorAt p .redCol src src2 dst nst sr ctx grad rm

/-- VWIDE (R120). -/
def execVwide (p : Site) (src src2 dst : BitVec 5) (nst : BitVec 3) (sr : BitVec 36) (ctx : BitVec 2) (grad rm : Bool)
    (s : State) : Result := s.vectorAt p .wide src src2 dst nst sr ctx grad rm

end Sys2Proof.Machine
end

