-- ==== Sys2Proof/Machine/Summary.lean ====
section
/-! DEFINITION. Summaries (R125 to R131, R134): a spindle's slots, the global results of a doff, and their arrival
at the bolt controllers. -/

namespace Sys2Proof.Machine

/-! ## A spindle's slots -/

/-- The operation of slot n in SUMMARY_PLAN (R126): 0 OFF, 1 SUM, 2 MAX, 3 MIN. -/
def State.planOp (s : State) (n : Nat) : Nat := bits (s.obj Obj.summaryPlan 0) (4 * n) 4

/-- The binary64 canonical NaN. -/
def nan64 : W64 := 0x7FF8000000000000

/-- Two values of a slot combined (R126). -/
def sumOp (op : Nat) (a b : W64) : W64 :=
  match op with
  | 1 => add64 a b
  | 2 => enc64 (maxVal (dec64 a) (dec64 b))
  | _ => enc64 (minVal (dec64 a) (dec64 b))

/-- A scalar stored in a slot, or combined with it (R125). -/
def SumSlot.take (x : SumSlot) (op : Nat) (v : W64) (poison : Bool) : SumSlot :=
  if op = 0 then x
  else
    { value := if x.written then sumOp op x.value v else v, written := true, poison := x.poison || poison }

/-- The scalar at an element of an operand (R49, R125): A reads RNE(s + c), a poisoned hank the canonical NaN. -/
def State.scalar (s : State) (p : Site) (o : Opd) (i : Nat) : W64 :=
  let v := s.view p o
  if v.poison then nan64
  else
    match o with
    | .a k => let a := (s.spindle p).acc k; enc64 (nth (a.pairs p k) i ⟨0, 0⟩).exact
    | _ => widen (nth v.elems i 0)

/-- COUNT + 1 consecutive scalars sent to slots 0 to COUNT. -/
def State.sendScalars (s : State) (p : Site) (o : Opd) (count first : Nat) : State :=
  let x := s.spindle p
  let bad := (s.view p o).poison
  let new := (List.range (count + 1)).foldl (fun (l : List SumSlot) n =>
    setNth l n ((nth l n {}).take (s.planOp n) (s.scalar p o (first + n)) bad)) x.sums
  (s.setSpindle p { x with sums := new }).sawPoison p bad

/-- SUMMARY_RANGE (R124). -/
def summaryBad (count : BitVec 3) (first : BitVec 12) : Option Nat :=
  if 4095 < first.toNat + count.toNat then some 0x29 else none

/-- SUMMARY (R125). -/
def execSummary (p : Site) (src : BitVec 5) (count : BitVec 3) (first : BitVec 12) (s : State) : Result :=
  match summaryBad count first with
  | some c => .refused (.loaderRefuses c)
  | none =>
    done (s.runOn p [opd src] (fun t =>
      (t.uses p [opd src] []).sendScalars p (opd src) count.toNat first.toNat))

/-! ## Global results -/

/-- A fold that skips empty operands; the fold of nothing is empty (R128). -/
def foldSlots (op : Nat) (l : List (Option W64)) : Option W64 :=
  (l.filterMap id).foldl (fun (acc : Option W64) v =>
    match acc with
    | none => some v
    | some a => some (sumOp op a v)) none

/-- The slot a logical spindle carries to the doff. -/
def State.carriedSlot (s : State) (n x y : Nat) : SumSlot :=
  let row := 128 * y + x
  if s.isAbsent row then {} else nth ((tget s.spindles row).getD {}).carried n {}

/-- A slot's contribution. -/
def SumSlot.give (x : SumSlot) : Option W64 := if x.written then some x.value else none

/-- The result of slot n over the wafer, in the order of logical coordinates (R128). -/
def State.foldWafer (s : State) (n : Nat) : Option W64 :=
  let op := s.planOp n
  foldSlots op ((List.range 48).map (fun b =>
    foldSlots op ((List.range 16).map (fun c =>
      foldSlots op ((List.range 12).map (fun j =>
        (s.carriedSlot n (16 * (b % 8) + c) (12 * (b / 8) + j)).give))))))

/-- A contribution to slot n was poisoned. -/
def State.poisonedSlot (s : State) (n : Nat) : Bool :=
  s.spindles.any (fun e => !s.isAbsent e.1 && let c := nth e.2.carried n {}; c.written && c.poison)

/-- What an empty slot reads as (R129). -/
def emptyValue (op : Nat) : W64 :=
  match op with
  | 2 => 0xFFF0000000000000
  | 3 => 0x7FF0000000000000
  | _ => 0

/-- The result of slot n: its value, EMPTY and POISON (R129). A slot whose plan operation is OFF gives +0 with EMPTY set, as
one that nothing contributes to (DESIGN CHOICE, log entry 43: R129 gives OFF no value). -/
def State.slotResult (s : State) (n : Nat) : W64 × Bool × Bool :=
  if s.planOp n = 0 then (0, true, false)
  else
    match s.foldWafer n with
    | none => (emptyValue (s.planOp n), true, false)
    | some v => if s.poisonedSlot n then (nan64, false, true) else (v, false, false)

/-- Eight flags as a byte, flag n in bit n. -/
def flagByte (l : List Bool) : Byte := BitVec.ofNat 8 (packFields 1 (l.map (·.toNat)))

/-- The global results of a doff (R128, R129). -/
def State.doffResult (s : State) (dseq : W16) : DoffResult :=
  let rs := (List.range 8).map s.slotResult
  { dseq, values := rs.map (·.1), empty := flagByte (rs.map (·.2.1)), poison := flagByte (rs.map (·.2.2)) }

/-- SUMMARY_LAST and SUMMARY_LAST_SEQ of a completed doff (R140). -/
def State.putSummary (s : State) (r : DoffResult) : State :=
  let s := (List.range 8).foldl (fun t n => t.setObj Obj.summaryLast n (nth r.values n 0).toNat) s
  s.setObj Obj.summaryLastSeq 0 (r.dseq.toNat + r.empty.toNat * 2 ^ 16 + r.poison.toNat * 2 ^ 24)

/-! ## The loss plan -/

/-- The integer a value truncates to toward zero (R135). -/
def Val.trunc : Val → Int
  | .fin neg m e =>
    let a : Nat := if 0 ≤ e then m <<< e.toNat else m >>> (-e).toNat
    if neg then -(a : Int) else a
  | _ => 0

/-- TOI64: truncated toward zero, saturated; NaN gives 0 (R135). -/
def toI64 (a : W64) : W64 :=
  match dec64 a with
  | .nan => 0
  | .inf neg => if neg then 0x8000000000000000 else 0x7FFFFFFFFFFFFFFF
  | v =>
    let i := v.trunc
    if 2 ^ 63 ≤ i then 0x7FFFFFFFFFFFFFFF
    else if i ≤ -(2 ^ 63) then 0x8000000000000000
    else BitVec.ofInt 64 i

/-- The step totals take the slots LOSS_PLAN names, at its doff, in a training microbatch, once per microbatch
(R257, R365). -/
def State.addLoss (s : State) (r : DoffResult) : State :=
  let w := s.obj Obj.lossPlan 0
  let k := s.mbIndex
  if s.step.evaluating ∨ bits w 0 16 ≠ r.dseq.toNat ∨ s.step.lossDone.contains k then s
  else
    let ls := bits w 16 3
    let ts := bits w 19 3
    let ns := bits w 22 3
    let off := fun n => r.empty.getLsbD n || r.poison.getLsbD n
    let bad := !(dec64 (nth r.values ns 0)).isZero || off ls || off ts
    let s := s.setObj Obj.lossLocal 0 (add64 (BitVec.ofNat 64 (s.obj Obj.lossLocal 0)) (nth r.values ls 0)).toNat
    let s := s.setObj Obj.tokensLocal 0 ((s.obj Obj.tokensLocal 0 + (toI64 (nth r.values ts 0)).toNat) % 2 ^ 64)
    { s with step := { s.step with lossDone := s.step.lossDone ++ [k], lossBad := s.step.lossBad || bad } }

/-! ## Arrival -/

/-- A bolt controller that has received the results (R133, R134): a read of SU_WAIT that waits for them returns. -/
def Bolt.takeResult (b : Bolt) (r : DoffResult) : Bolt :=
  { b with
    suDone := r.dseq, suFlags := BitVec.ofNat 16 (r.empty.toNat + r.poison.toNat * 2 ^ 8), suRes := r.values
    suBlocked := b.suBlocked && b.suWait != r.dseq }

/-- The results of one doff at every bolt controller, the same bits at each (R131). -/
def State.deliverSummary (s : State) (r : DoffResult) : State :=
  { s with
    bolts := (List.range 48).map (fun b => (b, (s.bolt b).takeResult r))
    fabric := { s.fabric with doneSeqs := s.fabric.doneSeqs ++ [r.dseq] } }

/-- SUMMARY_RESULTS_ARRIVE (R131): the oldest results on their way. -/
def execSummaryResultsArrive (s : State) : Result :=
  done (s.ifUp (fun s =>
    match s.fabric.results with
    | [] => s
    | r :: rs => ({ s with fabric := { s.fabric with results := rs } }).deliverSummary r))

end Sys2Proof.Machine
end

