-- ==== Sys2Proof/Machine/BoltUnit.lean ====
section
/-! DEFINITION. What a bolt program does beyond its integer core (R133 to R139): the summary wait, the binary64 unit,
decisions, restarts and traps. -/

namespace Sys2Proof.Machine

/-- An effect of a bolt program that runs and does not wait (R133). -/
def State.boltAt (s : State) (b : BoltNo) (f : Bolt → State → State) : State :=
  let x := s.bolt b.val
  if s.up && x.progRunning && !x.suBlocked then f x s else s

/-- A bolt controller's state changed. -/
def State.onBolt (s : State) (b : BoltNo) (f : Bolt → Bolt) : Result :=
  done (s.boltAt b (fun x t => t.setBolt b.val (f x)))

/-- SU_WAIT written and read (R133, R134): the read blocks until the doff's results have arrived. -/
def execSuWait (b : BoltNo) (dseq : W16) (s : State) : Result :=
  s.onBolt b (fun x => { x with suWait := dseq, suBlocked := !s.fabric.doneSeqs.contains dseq })

/-- The unit's operands and result. -/
def Bolt.f64 (x : Bolt) (a b r : W64) : Bolt := { x with f64A := a, f64B := b, f64Res := r }

/-- The unit's first operand and result; F64_B stays. -/
def Bolt.f64One (x : Bolt) (a r : W64) : Bolt := { x with f64A := a, f64Res := r }

/-- A truth value as an integer. -/
def boolWord (b : Bool) : W64 := BitVec.ofNat 64 b.toNat

/-- The result of an operation of F64_OP on the operands; a reserved one gives 0 (R135). -/
def f64Result (op : Nat) (a b : W64) : W64 :=
  match op with
  | 0x1 => add64 a b
  | 0x2 => sub64 a b
  | 0x3 => mul64 a b
  | 0x4 => div64 a b
  | 0x5 => sqrt64 a
  | 0x6 => enc64 (minVal (dec64 a) (dec64 b))
  | 0x7 => enc64 (maxVal (dec64 a) (dec64 b))
  | 0x8 => boolWord (Val.lt (dec64 a) (dec64 b))
  | 0x9 => boolWord (Val.eq (dec64 a) (dec64 b))
  | 0xA => boolWord (isFin64 a)
  | 0xB => toI64 a
  | 0xC => enc64 (Val.ofInt a.toInt 0)
  | _ => 0

/-- F64 ADD (R135). -/
def execF64Add (b : BoltNo) (x y : W64) (s : State) : Result := s.onBolt b (fun c => c.f64 x y (f64Result 0x1 x y))
/-- F64 SUB. -/
def execF64Sub (b : BoltNo) (x y : W64) (s : State) : Result := s.onBolt b (fun c => c.f64 x y (f64Result 0x2 x y))
/-- F64 MUL. -/
def execF64Mul (b : BoltNo) (x y : W64) (s : State) : Result := s.onBolt b (fun c => c.f64 x y (f64Result 0x3 x y))
/-- F64 DIV. -/
def execF64Div (b : BoltNo) (x y : W64) (s : State) : Result := s.onBolt b (fun c => c.f64 x y (f64Result 0x4 x y))
/-- F64 SQRT. -/
def execF64Sqrt (b : BoltNo) (x : W64) (s : State) : Result := s.onBolt b (fun c => c.f64One x (f64Result 0x5 x c.f64B))
/-- F64 MIN, as R116. -/
def execF64Min (b : BoltNo) (x y : W64) (s : State) : Result := s.onBolt b (fun c => c.f64 x y (f64Result 0x6 x y))
/-- F64 MAX, as R116. -/
def execF64Max (b : BoltNo) (x y : W64) (s : State) : Result := s.onBolt b (fun c => c.f64 x y (f64Result 0x7 x y))
/-- F64 CMPLT: false where either is NaN. -/
def execF64Cmplt (b : BoltNo) (x y : W64) (s : State) : Result := s.onBolt b (fun c => c.f64 x y (f64Result 0x8 x y))
/-- F64 CMPEQ. -/
def execF64Cmpeq (b : BoltNo) (x y : W64) (s : State) : Result := s.onBolt b (fun c => c.f64 x y (f64Result 0x9 x y))
/-- F64 ISFIN. -/
def execF64Isfin (b : BoltNo) (x : W64) (s : State) : Result := s.onBolt b (fun c => c.f64One x (f64Result 0xA x c.f64B))
/-- F64 TOI64. -/
def execF64Toi64 (b : BoltNo) (x : W64) (s : State) : Result := s.onBolt b (fun c => c.f64One x (f64Result 0xB x c.f64B))
/-- F64 FROMI64. -/
def execF64Fromi64 (b : BoltNo) (x : W64) (s : State) : Result := s.onBolt b (fun c => c.f64One x (f64Result 0xC x c.f64B))

/-- DEC_POST in the layout of R136. -/
def postWord (seq : W16) (word : W32) : W64 := BitVec.ofNat 64 (word.toNat + seq.toNat * 2 ^ 32)

/-- A decision posted (R136, R140, R200): the entry takes the word and the tag; B27's posts go to the Dudin dies. -/
def State.postDecision (s : State) (b : BoltNo) (x : Bolt) (seq : W16) (word : W32) : State :=
  let t := s.setBolt b.val { x with decLast := postWord seq word, decTable := tput x.decTable (seq.toNat % 64) (seq, word) }
  let t := t.setObj Obj.decisionLast b.val (postWord seq word).toNat
  if b.val = 27 then { t with streams := { t.streams with relayQueue := t.streams.relayQueue ++ [(seq, word)] } } else t

/-- DEC_POST (R136). -/
def execDecPost (b : BoltNo) (seq : W16) (word : W32) (s : State) : Result :=
  done (s.boltAt b (fun x t => t.postDecision b x seq word))

/-- A halted spindle restarted at instruction 0 (R133). -/
def Spindle.restart_ (x : Spindle) : Spindle := if x.halted then { x with halted := false, pc := 0, loops := [] } else x

/-- SP_START written (R133, R503): value 1 restarts every halted present spindle of the bolt while a microbatch runs, that is
until every present spindle is halted. -/
def State.startSpindles (s : State) (b : BoltNo) (value : W64) : State :=
  if value ≠ 1 ∨ !s.step.mbRunning ∨ s.allHalted then s
  else
    { s with spindles := s.spindles.map (fun e =>
        (e.1, if boltOf (e.1 % 128) (e.1 / 128) = b.val ∧ !s.isAbsent e.1 then e.2.restart_ else e.2)) }

/-- SP_START (R133, R503). -/
def execSpStart (b : BoltNo) (value : W64) (s : State) : Result := done (s.boltAt b (fun _ t => t.startSpindles b value))

/-- A trap (R139): the firmware stops the program and writes BOLT_PROG_TRAP. -/
def State.boltTrap (s : State) (b : BoltNo) (x : Bolt) (cause : Nat) (address : W32) : State :=
  (s.setBolt b.val { x with progRunning := false }).setObj Obj.boltProgTrap b.val (address.toNat + cause * 2 ^ 32)

/-- BOLT_PROGRAM_TRAP (R139). -/
def execBoltProgramTrap (b : BoltNo) (cause : Byte) (address : W32) (s : State) : Result :=
  done (s.boltAt b (fun x t => t.boltTrap b x cause.toNat address))

end Sys2Proof.Machine
end

