-- ==== Sys2Proof/Machine/Ecdsa.lean ====
section
/-! DEFINITION. ECDSA verification on brainpoolP384r1 with SHA-384 (R472, R478, R481). Keys and signatures are
little-endian integers (R471). The curve's constants are those of RFC 5639, which the manual names. -/

namespace Sys2Proof.Machine

/-- The field prime. -/
def ecP : Nat := 0x8cb91e82a3386d280f5d6f7e50e641df152f7109ed5456b412b1da197fb71123acd3a729901d1a71874700133107ec53
/-- The coefficient a. -/
def ecA : Nat := 0x7bc382c63d8c150c3c72080ace05afa0c2bea28e4fb22787139165efba91f90f8aa5814a503ad4eb04a8c7dd22ce2826
/-- The coefficient b. -/
def ecB : Nat := 0x04a8c7dd22ce28268b39b55416f0447c2fb77de107dcd2a62e880ea53eeb62d57cb4390295dbc9943ab78696fa504c11
/-- The order of the base point. -/
def ecN : Nat := 0x8cb91e82a3386d280f5d6f7e50e641df152f7109ed5456b31f166e6cac0425a7cf3ab6af6b7fc3103b883202e9046565
/-- The base point. -/
def ecG : Nat × Nat :=
  (0x1d1c64f068cf45ffa2a63a81b7c13f6b8847a3e77ef14fe3db7fcafe0cbd10e8e826e03436d646aaef87b2e247d4af1e,
   0x8abe1d7520f9c2a45cb1eb8e95cfd55262b70b29feec5864e19c054ff99129280e4646217791811142820341263c5315)

/-- x ^ e modulo m. -/
def powMod (m : Nat) : Nat → Nat → Nat → Nat → Nat
  | 0, acc, _, _ => acc
  | fuel + 1, acc, x, e => powMod m fuel (if e % 2 = 1 then acc * x % m else acc) (x * x % m) (e / 2)

/-- The inverse modulo a prime. -/
def invMod (m x : Nat) : Nat := powMod m 384 1 (x % m) (m - 2)

/-- A point of the curve; none is the point at infinity. -/
abbrev EcPoint := Option (Nat × Nat)

/-- A difference modulo the field prime. -/
def ecSub (a b : Nat) : Nat := (a + (ecP - b % ecP)) % ecP

/-- The third point of a line of slope l through a point, mirrored. -/
def ecChord (l x1 y1 x2 : Nat) : EcPoint :=
  let x := ecSub (ecSub (l * l % ecP) x1) x2
  some (x, ecSub (l * ecSub x1 x % ecP) y1)

/-- Point addition. -/
def ecAdd : EcPoint → EcPoint → EcPoint
  | none, q => q
  | p, none => p
  | some (x1, y1), some (x2, y2) =>
    if x1 = x2 then
      if (y1 + y2) % ecP = 0 then none
      else ecChord ((3 * x1 * x1 + ecA) * invMod ecP (2 * y1) % ecP) x1 y1 x1
    else ecChord (ecSub y2 y1 * invMod ecP (ecSub x2 x1) % ecP) x1 y1 x2

/-- k times a point. -/
def ecMul : Nat → EcPoint → Nat → EcPoint → EcPoint
  | 0, acc, _, _ => acc
  | fuel + 1, acc, k, p => ecMul fuel (if k % 2 = 1 then ecAdd acc p else acc) (k / 2) (ecAdd p p)

/-- A point of the curve other than infinity, its coordinates reduced. -/
def ecOn (x y : Nat) : Bool :=
  decide (x < ecP) && decide (y < ecP) && decide (y * y % ecP = (x * x * x + ecA * x + ecB) % ecP)

/-- A signature (r, s) over a digest verifies under a key: ECDSA of FIPS 186. -/
def ecVerify (digest : List Byte) (key sig : Nat × Nat) : Bool :=
  let r := sig.1
  let s := sig.2
  if !(ecOn key.1 key.2 && decide (0 < r ∧ r < ecN ∧ 0 < s ∧ s < ecN)) then false
  else
    let w := invMod ecN s
    let u := beNat digest * w % ecN
    let v := r * w % ecN
    match ecAdd (ecMul 384 none u (some ecG)) (ecMul 384 none v (some key)) with
    | none => false
    | some (x, _) => x % ecN == r

/-- A key or a signature: two little-endian 48-byte integers. -/
def pair384 (n : Nat) : Nat × Nat := (bits n 0 384, bits n 384 384)

/-- The hash a key is known by: the SHA-384 of its 96 bytes, as a number whose byte 0 is its lowest. -/
def keyHash (key : Nat) : Nat := digestNat (leBytes 96 key)

end Sys2Proof.Machine
end

