-- ==== Sys2Proof/Machine/Boundary.lean ====
section
/-! DEFINITION. Apply boundaries (R409 to R413), the checks and moves of residence changes (R227 to R231), and
the conditions checked at the STEP boundary (R283, R294, R296). -/

namespace Sys2Proof.Machine

/-! ## Boundaries in general -/

/-- Codes of R411. -/
abbrev apNow : Nat := 0
/-- ROUND. -/
abbrev apRound : Nat := 1
/-- FRAME. -/
abbrev apFrame : Nat := 2
/-- MICROBATCH. -/
abbrev apMicrobatch : Nat := 3
/-- STEP. -/
abbrev apStep : Nat := 4
/-- LOAD. -/
abbrev apLoad : Nat := 5

/-- A row belongs to an object of this access and boundary. -/
def keyIs (access apply : Nat) (k : Nat) : Bool :=
  match objInfo? (k / 2 ^ 20) with
  | some o => o.access == access && o.apply == apply
  | none => false

/-- The values stored by writes come into use (R409, RW). -/
def State.adopt (s : State) (apply : Nat) : State :=
  let mine := s.objs.filter (fun e => keyIs 1 apply e.1)
  let rest := s.dict.inUse.filter (fun e => !keyIs 1 apply e.1)
  { s with dict := { s.dict with inUse := mine.foldl (fun m e => tput m e.1 e.2) rest } }

/-- The pending writes of a boundary (R412). -/
def State.due (s : State) (apply : Nat) : List (Nat × Nat) := s.dict.pending.filter (fun e => keyIs 3 apply e.1)

/-- The pending writes of a boundary taken out of their buffers. -/
def State.takeDue (s : State) (apply : Nat) : State :=
  { s with dict := { s.dict with pending := s.dict.pending.filter (fun e => !keyIs 3 apply e.1) } }

/-- Values set by key. -/
def State.setKeys (s : State) (es : List (Nat × Nat)) : State :=
  es.foldl (fun t e => t.setObj (e.1 / 2 ^ 20) (e.1 % 2 ^ 20) e.2) s

/-- A boundary whose writes need no further check. -/
def State.applyPlain (s : State) (apply : Nat) : State :=
  ((s.takeDue apply).setKeys (s.due apply)).adopt apply

/-! ## Residence entries -/

/-- A declared region of a stack: base and limit in units of 4 KiB; 0 DESC, 1 WEIGHT, 2 STATE, 3 MASK (R218,
R248). -/
def region (tier k : Nat) : Nat × Nat := (bits tier (64 * k + 24) 24, bits tier (64 * k) 24)

/-- An extent in bytes lies in a region. -/
def inRegion (r : Nat × Nat) (a n : Nat) : Bool := decide (r.1 * 4096 ≤ a ∧ a + n ≤ r.2 * 4096)

/-- The extents of a shard's arrays: slow tier or not, first byte, bytes. -/
def Shard.spans (d : Shard) : List (Bool × Nat × Nat) :=
  ([Arr.work, .grad, .master, .m, .v, .avg].filter (fun a => d.count a != 0)).map (fun a =>
    let p := d.place a
    (p.1, p.2, d.padded a))

/-- An entry has one of the faults of R227 with cause 0x32; `tier` and `slow` are the rows of TIER_LAYOUT and
SLOW_LAYOUT. -/
def shardBad (tier slow : Nat → Nat) (w : Nat) : Bool :=
  let d := shardOf w
  decide (d.cls = 3) || decide (7 < d.rule) || decide (d.maskmode = 3) || decide (23 < d.home) || decide (bits w 0 2 ≠ 0) ||
    decide (4 ≤ d.state) || decide (d.rowlen = 0) || decide (2 ^ 20 < d.rowlen) || decide (2 ^ 20 < d.ecount) ||
    (d.avg && d.rule == 0) || (d.rule == 7 && d.ecount % d.rowlen != 0) ||
    !([Arr.work, .grad, .master, .m, .v, .avg].all (fun a =>
      let p := d.place a
      let n := d.padded a
      if n = 0 then true
      else if a = .work then inRegion (region (tier d.home) 1) (p.2 - d.home * 2 ^ 36) n
      else if p.1 then inRegion (0, slow d.weft) (p.2 - d.weft * 2 ^ 39) n
      else inRegion (region (tier d.home) 2) (p.2 - d.home * 2 ^ 36) n))

/-- Two extents share a byte. -/
def meet (a b : Bool × Nat × Nat) : Bool := a.1 == b.1 && decide (a.2.1 < b.2.1 + b.2.2 ∧ b.2.1 < a.2.1 + a.2.2)

/-- Two shards share an array byte or an element of one tensor (R227, cause 0x33). -/
def overlaps (d e : Shard) : Bool :=
  d.spans.any (fun a => e.spans.any (meet a)) ||
    (d.tensor == e.tensor && decide (d.efirst < e.efirst + e.ecount ∧ e.efirst < d.efirst + d.ecount))

/-- The bits of an entry that a write may change (R225). -/
def rwbMask : Nat :=
  (2 ^ 10 - 1) * 2 ^ 137 + 3 * 2 ^ 133 + (2 ^ 11 - 1) * 2 ^ 98 + (2 ^ 75 - 1) * 2 ^ 23

/-- The cause for which a buffered entry write is refused (R229). A shard that is not DONE and a changed field
that is not RWB have cause 0x32. -/
def State.entryCause (s : State) (i w : Nat) : Option Nat :=
  let old := s.obj Obj.residence i
  let d := shardOf w
  if (shardOf old).state ≠ shDone then some 0x32
  else if (old ^^^ w) &&& rwbMask ≠ old ^^^ w then some 0x32
  else if w ≠ 0 ∧ shardBad (s.obj Obj.tierLayout) (s.obj Obj.slowLayout) w then some 0x32
  else if d.ecount ≠ 0 ∧ s.shards.any (fun e => e.1 != i && overlaps d e.2) then some 0x33
  else if d.maskmode ≠ 0 ∧ d.cls = clsCompact then some 0x35
  else none

/-- A bfloat16 code converted exactly to binary32; a NaN becomes the canonical one (R35). -/
def widenCode (v : Nat) : Nat := if (dec32 (BitVec.ofNat 32 (v * 65536))).isNan then 0x7FC00000 else v * 65536

/-- Both rules keep this array in the same form: ADAFACTOR's V holds row and column values, any other V one value an element
(R222; log entry 48). -/
def sameForm (d n : Shard) (a : Arr) : Bool := a != .v || (d.rule == 7) == (n.rule == 7)

/-- The values a changed shard's array takes (R230); none where no data moves: an array that keeps its form and its place, G
that is there already, which the next step overwrites, and an array the new entry lacks. -/
def newValues (d n : Shard) (old : Arr → List Nat) (a : Arr) : Option (List Nat) :=
  if n.count a = 0 then none
  else if a = .master ∧ d.cls = clsCompact then some ((old .work).map widenCode)
  else if d.count a ≠ 0 ∧ sameForm d n a = true then
    (if a = .grad ∨ d.place a = n.place a then none else some (old a))
  else if a = .avg then some (old .work)
  else some (List.replicate (n.count a) 0)

/-- An accepted entry change: every old array read before any new one is written (R230). -/
def State.changeEntry (s : State) (i w : Nat) : State :=
  let d := s.shard i
  let n := shardOf w
  let old := fun a => s.readArr d a
  let vs := [Arr.work, .grad, .master, .m, .v, .avg].filterMap (fun a => (newValues d n old a).map (fun v => (a, v)))
  let s := vs.foldl (fun t e => t.writeArr n e.1 0 e.2) s
  (s.setObj Obj.residence i w).bump Obj.residenceChanges 0 1

/-- A refused entry change: fault 0xB604 and RESIDENCE_LAST_REFUSAL (R229). -/
def State.refuseEntry (s : State) (i cause : Nat) : State :=
  (s.setObj Obj.residenceLastRefusal 0 (cause + s.stepCount % 2 ^ 20 * 2 ^ 8 + i * 2 ^ 28)).fault 0xB604 0 0

/-- One buffered entry write. -/
def State.applyEntry (s : State) (i w : Nat) : State :=
  match s.entryCause i w with
  | some c => s.refuseEntry i c
  | none => s.changeEntry i w

/-- CLASS_PARAMS and RESIDENCE_USED from the table. -/
def State.countClasses (s : State) : State :=
  let es := s.shards
  let sum := fun c => ((es.filter (fun e => e.2.cls == c)).map (·.2.ecount)).foldl (· + ·) 0
  (((s.setObj Obj.classParams 0 (sum 0)).setObj Obj.classParams 1 (sum 1)).setObj Obj.classParams 2 (sum 2)).setObj
    Obj.residenceUsed 0 es.length

/-! ## Conditions of other objects -/

/-- A finite binary64 code. -/
def finite64 (n : Nat) : Bool := isFin64 (BitVec.ofNat 64 n)
/-- A finite binary32 code. -/
def finite32 (n : Nat) : Bool := isFin32 (BitVec.ofNat 32 n)

/-- A SCHEDULE row with a reserved field, a non-finite value, or DECAY 0 for a kind other than CONSTANT (R283). -/
def scheduleBad (w : Nat) : Bool :=
  decide (3 < bits w 0 32) || decide (bits w 96 32 ≠ 0) || !finite64 (bits w 128 64) || !finite64 (bits w 192 64) ||
    (decide (bits w 64 32 = 0) && decide (bits w 0 32 ≠ 0))

/-- A HYPER row with a reserved field or a non-finite value (R283). -/
def hyperBad (w : Nat) : Bool :=
  decide (16 ≤ bits w 0 32) || decide (bits w 288 224 ≠ 0) ||
    !((List.range 8).all (fun i => finite32 (bits w (32 * (i + 1)) 32)))

/-- The exponent E, as an integer. -/
def State.exp32 (s : State) (id : Nat) : Int := signed 32 (s.obj id 0)

/-- The sublists of a list, those with an earlier member first. -/
def subsets {α : Type} : List α → List (List α)
  | [] => [[]]
  | x :: xs => (subsets xs).map (x :: ·) ++ subsets xs

/-- The writes of a set of objects that wait for one boundary, taken as one transaction (R412): as many of them as leave
`ok` true; of equally many, those of the objects named earlier (log entry 49). -/
def State.applyTogether (s : State) (ok : State → Bool) (ids : List Nat) (es : List (Nat × Nat)) : State × List (Nat × Nat) :=
  let mine := ids.flatMap (fun id => es.filter (fun e => e.1 / 2 ^ 20 == id))
  let sets := (subsets mine).mergeSort (fun a b => decide (b.length ≤ a.length))
  match sets.find? (fun m => ok (s.setKeys m)) with
  | some m => (s.setKeys m, m)
  | none => (s, [])

/-- The limits of the loss scale are in order and E lies inside them (R294). -/
def State.scaleOk (s : State) : Bool :=
  decide (s.exp32 Obj.lsMinExp ≤ s.exp32 Obj.lsMaxExp ∧ s.exp32 Obj.lsMinExp ≤ s.exp32 Obj.lossScaleExp ∧
    s.exp32 Obj.lossScaleExp ≤ s.exp32 Obj.lsMaxExp)

/-- The pending writes of LOSS_SCALE_EXP and its limits, those that break the limits refused (R294). A write of E clears
LS_CLEAN_RUN. -/
def State.applyLossScale (s : State) (es : List (Nat × Nat)) : State :=
  let r := s.applyTogether State.scaleOk [Obj.lsMinExp, Obj.lsMaxExp, Obj.lossScaleExp] es
  if r.2.any (fun e => e.1 / 2 ^ 20 == Obj.lossScaleExp) then r.1.setObj Obj.lsCleanRun 0 0 else r.1

/-- The pending writes of STILL_UP and STILL_DOWN, those that would put STILL_DOWN above STILL_UP refused (R299). -/
def State.applyStill (s : State) (es : List (Nat × Nat)) : State :=
  (s.applyTogether (fun t => decide (t.obj Obj.stillDown 0 ≤ t.obj Obj.stillUp 0)) [Obj.stillUp, Obj.stillDown] es).1

/-- One write pending for the STEP boundary with the conditions of its object. -/
def State.applyStepWrite (s : State) (k v : Nat) : State :=
  let id := k / 2 ^ 20
  let row := k % 2 ^ 20
  if id = Obj.residence then s.applyEntry row v
  else if id = Obj.schedule then (if scheduleBad v then s.fault 0xB604 0 0x38 else s.setObj id row v)
  else if id = Obj.hyper then (if hyperBad v then s.fault 0xB604 0 0x38 else s.setObj id row v)
  else if id = Obj.compactExp then (if s.obj Obj.expMax 0 < v then s else s.setObj id row v)
  else if id = Obj.lossScaleExp ∨ id = Obj.lsMinExp ∨ id = Obj.lsMaxExp ∨ id = Obj.stillUp ∨ id = Obj.stillDown then s
  else s.setObj id row v

/-- Layers 0 to 4,095 that have a non-FROZEN shard. -/
def State.trainedLayers (s : State) : List Nat :=
  (((s.liveShards).map (·.2.layer)).filter (fun l => decide (l < 4096))).mergeSort.eraseDups

/-- The streak of a layer without a non-FROZEN shard is over: its counter is 0 (R290, R291). -/
def State.endStreaks (s : State) : State :=
  let ls := s.trainedLayers
  let t := (s.rowsOf Obj.zeroStreakCount).foldl (fun t e => if ls.contains e.1 then t else t.setObj Obj.zeroStreakCount e.1 0) s
  { t with streaks := s.streaks.filter ls.contains }

/-- The STEP boundary of R411: every write pending for it, with the conditions of R229, R283, R294, R296 and R299.
EXP_MAX is applied before the rows it limits. -/
def State.applyStep (s : State) : State :=
  let es := s.due apStep
  let s := s.takeDue apStep
  let first := es.filter (fun e => e.1 / 2 ^ 20 == Obj.expMax)
  let s := ((s.setKeys first).applyLossScale es).applyStill es
  let rest := es.filter (fun e => e.1 / 2 ^ 20 != Obj.expMax)
  let s := rest.foldl (fun t e => t.applyStepWrite e.1 e.2) s
  let s := if es.any (fun e => e.1 / 2 ^ 20 == Obj.residence) then
      ((s.countClasses.endStreaks).setObj Obj.residenceApplyTime 0 (Config.freeNat s.free % 2 ^ 64)).drew 1
    else s.setObj Obj.residenceApplyTime 0 0
  s.adopt apStep

end Sys2Proof.Machine
end

