-- ==== Sys2Proof/Machine/Watch.lean ====
section
/-! DEFINITION. The numerics watch at the STEP boundary: stones (R288, R289), zero streaks (R290, R291), the loss
scale (R292, R293) and the exponents of COMPACT layers (R296). -/

namespace Sys2Proof.Machine

/-- A record of a stone (R289). -/
def Stone.record (c : Stone) (step decision : Nat) : Nat :=
  decision + c.elements * 2 ^ 64 + c.still * 2 ^ 128 + c.nonfinite * 2 ^ 192 + c.saturations * 2 ^ 256 +
    c.flushes * 2 ^ 320 + c.zeros * 2 ^ 384 + step % 2 ^ 64 * 2 ^ 448

/-- Slot k's record written: row k of STONE_LAST, or STONE_UNWATCHED for 4,096. -/
def State.putStone (s : State) (k v : Nat) : State :=
  if k < 4096 then s.setObj Obj.stoneLast k v else s.setObj Obj.stoneUnwatched 0 v

/-- The slots that are not at their initial record with no running count: every slot after a step. -/
def State.copyStones (s : State) (step decision : Nat) : Nat → State
  | 0 => { s with stones := [] }
  | k + 1 => (s.putStone k ((s.stone k).record step decision)).copyStones step decision k

/-- The running stones copied with the tag and the decision, and cleared (R288). -/
def State.closeStones (s : State) (step decision : Nat) : State := s.copyStones step decision 4097

/-- One layer's zero streak after a committed step (R290, R291). -/
def State.zeroStreakLayer (s : State) (l : Nat) : State :=
  if s.step.nonZeroLayers.contains l then s.setObj Obj.zeroStreakCount l 0
  else
    let old := s.obj Obj.zeroStreakCount l
    let lim := s.used Obj.zeroStreakLimit 0
    let s := s.setObj Obj.zeroStreakCount l (satAdd 32 old 1)
    if lim ≤ satAdd 32 old 1 ∧ !s.streaks.contains l then
      ({ s with streaks := s.streaks ++ [l] }.setFlag Obj.zeroStreak (l / 64) (l % 64)).fault
        0xB620 0 l
    else s

/-- The zero streaks after a committed step. A layer whose counter returned to 0 may act again. -/
def State.zeroStreaks (s : State) : State :=
  let s := (s.trainedLayers).foldl State.zeroStreakLayer s
  { s with streaks := s.streaks.filter (fun l => s.obj Obj.zeroStreakCount l != 0) }

/-- E set. -/
def State.setExp (s : State) (e : Int) : State := s.setObj Obj.lossScaleExp 0 (unsigned 32 e)

/-- The loss-scale controller on a COMMIT (R293). -/
def State.scaleCommit (s : State) : State :=
  if s.obj Obj.lsEnable 0 = 0 then s
  else
    let n := satAdd 32 (s.obj Obj.lsCleanRun 0) 1
    let e := s.exp32 Obj.lossScaleExp
    if n < s.obj Obj.lsInterval 0 then s.setObj Obj.lsCleanRun 0 n
    else
      let s := s.setObj Obj.lsCleanRun 0 0
      if e = s.exp32 Obj.lsMaxExp then s else (s.setExp (e + 1)).bump Obj.lsDoublings 0 1

/-- The loss-scale controller on an ABANDON with this CAUSE byte: bit 1 GRAD, bit 2 LOSS (R293). -/
def State.scaleAbandon (s : State) (cause : Nat) : State :=
  if s.obj Obj.lsEnable 0 = 0 then s
  else
    let s := s.setObj Obj.lsCleanRun 0 0
    let e := s.exp32 Obj.lossScaleExp
    if !bitAt cause 1 && !bitAt cause 2 then s
    else if e = s.exp32 Obj.lsMinExp then (s.bump Obj.lsFloorHits 0 1).fault 0xB621 0 0
    else (s.setExp (e - 1)).bump Obj.lsHalvings 0 1

/-- One layer's exponent after a committed step (R296). -/
def State.exponentLayer (s : State) (l : Nat) : State :=
  let c := (tget s.step.compactCounts l).getD (0, 0)
  let still := c.1
  let elems := c.2
  let s := s.setObj Obj.layerStill l (min still (2 ^ 32 - 1) + min elems (2 ^ 32 - 1) * 2 ^ 32)
  let e := s.obj Obj.compactExp l
  if s.obj Obj.expEnable 0 = 0 then s
  else if s.obj Obj.stillUp 0 * elems < still * 10000 ∧ e < s.obj Obj.expMax 0 then s.setObj Obj.compactExp l (e + 1)
  else if still * 10000 < s.obj Obj.stillDown 0 * elems ∧ 0 < e then s.setObj Obj.compactExp l (e - 1)
  else s

/-- Layers with COMPACT shards. -/
def State.compactLayers (s : State) : List Nat :=
  ((((s.shards).filter (fun e => e.2.cls == clsCompact && e.2.rule != 0)).map (·.2.layer)).filter
    (fun l => decide (l < 4096))).mergeSort.eraseDups

/-- The exponents after a committed step. LAYER_STILL of a layer that no longer has such a shard counts none (R299). -/
def State.exponents (s : State) : State :=
  let ls := s.compactLayers
  let s := (s.rowsOf Obj.layerStill).foldl (fun t e => if ls.contains e.1 then t else t.setObj Obj.layerStill e.1 0) s
  ls.foldl State.exponentLayer s

/-- The store line of the loss scale in one spindle (R292). -/
def State.putScaleLine (s : State) (row : Nat) (x : Spindle) : Spindle :=
  let e := s.exp32 Obj.lossScaleExp
  let w := fun (i : Int) => (enc32 (.fin false 1 i)).toNat
  let l : Line := { data := BitVec.ofNat 512 (w e + w (-e) * 2 ^ 32), poison := false }
  let ls := tput x.store.lines (s.obj Obj.lsLine 0) l
  if s.isAbsent row then x else { x with store := { x.store with lines := ls } }

/-- 2^E and 2^-E written to the line LS_LINE names, in every logical spindle (R292). -/
def State.writeScaleLines (s : State) : State :=
  if s.obj Obj.lsLine 0 = 0xFFFFFFFF then s
  else
    { s with spindles := (List.range 9216).map (fun r => (r, s.putScaleLine r ((tget s.spindles r).getD {}))) }

end Sys2Proof.Machine
end

