-- ==== Sys2Proof/Machine/Update.lean ====
section
/-! DEFINITION. The update: step scalars (R265 to R267), update rules (R268 to R270), the journal (R271 to R274),
mask events (R235 to R238), repacking (R247) and the module digest (R277). -/

namespace Sys2Proof.Machine

/-! ## Step scalars -/

/-- binary64 1.0. -/
def one64 : W64 := 0x3FF0000000000000
/-- binary64 0.5. -/
def half64 : W64 := 0x3FE0000000000000
/-- The binary64 value nearest pi. -/
def pi64 : W64 := 0x400921FB54442D18

/-- The power by repeated squaring, lowest exponent bit first (R266). -/
def powAux : Nat → W64 → W64 → Nat → W64
  | 0, r, _, _ => r
  | fuel + 1, r, p, e =>
    if e = 0 then r
    else
      let r := if e % 2 = 1 then mul64 r p else r
      powAux fuel r (if e / 2 = 0 then p else mul64 p p) (e / 2)

/-- pow(b, e) of R266. -/
def pow64 (b : W64) (e : Nat) : W64 := powAux 64 one64 b e

/-- A binary64 field. -/
def f64At (w lo : Nat) : W64 := BitVec.ofNat 64 (bits w lo 64)
/-- Word i of a HYPER row as binary32. -/
def hyperWord (w i : Nat) : W32 := BitVec.ofNat 32 (bits w (32 * i) 32)

/-- s of R265 for a SCHEDULE row at step n. -/
def schedule (w n : Nat) : W64 :=
  let peak := f64At w 128
  let floor := f64At w 192
  let warm := bits w 32 32
  let dec := bits w 64 32
  let k := ofNat64 (min (n - warm) dec)
  let d := ofNat64 dec
  if n < warm then div64 (mul64 peak (ofNat64 (n + 1))) (ofNat64 warm)
  else
    match bits w 0 32 with
    | 0 => peak
    | 1 => sub64 peak (div64 (mul64 (sub64 peak floor) k) d)
    | 2 =>
      let c := enc64 (dec64 (div64 (mul64 pi64 k) d)).cos
      add64 floor (mul64 (mul64 (sub64 peak floor) half64) (add64 one64 c))
    | _ => mul64 peak (pow64 floor ((n - warm) / dec))

/-- The scalars of one HYPER row with its learning rate (R266). -/
def rowScalars (h : Nat) (lr : W64) (n : Nat) : RowScalars where
  lr := lr
  lr32 := narrow lr
  dfac := narrow (sub64 one64 (mul64 lr (widen (hyperWord h 2))))
  c1 := narrow (sub64 one64 (widen (hyperWord h 3)))
  c2 := narrow (sub64 one64 (widen (hyperWord h 4)))
  ca := narrow (sub64 one64 (widen (hyperWord h 8)))
  k1 := narrow (div64 one64 (sub64 one64 (pow64 (widen (hyperWord h 3)) (n + 1))))
  k2 := narrow (div64 one64 (sub64 one64 (pow64 (widen (hyperWord h 4)) (n + 1))))

/-- lr[h] of R265. -/
def State.learningRate (s : State) (h : Nat) : W64 :=
  let hy := s.obj Obj.hyper h
  mul64 (schedule (s.obj Obj.schedule (bits hy 0 4)) s.stepCount) (widen (hyperWord hy 1))

/-- The loss scale in force, 2^E. -/
def State.lossScale (s : State) : W64 := enc64 (.fin false 1 (s.exp32 Obj.lossScaleExp))

/-- gnorm, clip and gscale of R266 from a COMMIT payload. -/
def State.globalScalars (s : State) (payload : BitVec 512) : Scalars :=
  let n2 : W64 := BitVec.ofNat 64 (bits payload.toNat 320 64)
  let tokens := bits payload.toNat 192 64
  let gd : W64 := BitVec.ofNat 64 (s.obj Obj.gradDivisor 0)
  let cn : W64 := BitVec.ofNat 64 (s.obj Obj.clipNorm 0)
  let div := if Val.lt (.fin false 0 0) (dec64 gd) then gd else ofNat64 tokens
  let den := mul64 s.lossScale div
  let gnorm := div64 (sqrt64 n2) den
  let clip := if (dec64 cn).isZero then one64 else enc64 (minVal (dec64 one64) (dec64 (div64 cn gnorm)))
  { gnorm, clip, gscale := narrow (div64 clip den)
    rows := (List.range 256).map (fun h => rowScalars (s.obj Obj.hyper h) (s.learningRate h) s.stepCount) }

/-- The scalars of a shard's HSET row; lr32 and dfac of a COMPACT shard come from lr[h] × 2^e of its layer (R266, R295). -/
def State.shardScalars (s : State) (sc : Scalars) (d : Shard) : RowScalars :=
  let r := nth sc.rows d.hset {}
  if d.cls = clsCompact then
    let e := if d.layer < 4096 then s.obj Obj.compactExp d.layer else 0
    let q := rowScalars (s.obj Obj.hyper d.hset) (enc64 ((dec64 r.lr).scale e)) s.stepCount
    { r with lr32 := q.lr32, dfac := q.dfac }
  else r

/-! ## Rules -/

/-- The old arrays of a shard as binary32 words; w is W_master, or W_work widened (R268). -/
structure Olds where
  g : List W32
  w : List W32
  m : List W32
  v : List W32
deriving DecidableEq, Repr

/-- A list of numbers as binary32 words. -/
def words (vs : List Nat) : List W32 := vs.map (BitVec.ofNat 32)
/-- bfloat16 codes widened exactly. -/
def widen16 (vs : List Nat) : List W32 := vs.map (fun v => BitVec.ofNat 32 (v * 65536))

/-- An array as an update reads it: the manual gives no value to what stays unreadable after the retries, which is a free value
(R347; log entry 59). -/
def State.readOld (s : State) (d : Shard) (a : Arr) : List Nat :=
  let p := d.place a
  let vs := s.readArr d a
  if s.faults.readErrs.isEmpty then vs
  else vs.mapIdx (fun i v =>
    let b := p.2 + a.width * i
    if s.unreadable p.1 b then Config.freeNat (s.free + b) % 2 ^ (8 * a.width) else v)

/-- The reads of an update find the errors that stand in its arrays (R347). -/
def State.checkShard (s : State) (d : Shard) : State :=
  [Arr.grad, if d.cls = clsCompact then .work else .master, .m, .v, .avg].foldl (fun t a =>
    t.checkRead (d.place a).1 (d.place a).2 (d.count a * a.width)) s

/-- The old arrays of a shard. -/
def State.olds (s : State) (d : Shard) : Olds where
  g := words (s.readOld d .grad)
  w := if d.cls = clsCompact then widen16 (s.readOld d .work) else words (s.readOld d .master)
  m := words (s.readOld d .m)
  v := words (s.readOld d .v)

/-- What the rules use beside the element: B1, B2, EPS, WD of the row, its scalars, gscale and lrr. -/
structure Coef where
  b1 : W32
  b2 : W32
  eps : W32
  wd : W32
  eps1 : W32
  dclip : W32
  sc : RowScalars
  gscale : W32
  lrr : W32
deriving DecidableEq, Repr

/-- New weight, M and V of an element. -/
structure Elem where
  w : W32
  m : W32
  v : W32
deriving DecidableEq, Repr

/-- sign(c): +1, -1, +0 for a zero, the canonical NaN for a NaN (R268). -/
def sign32 (c : W32) : W32 :=
  match dec32 c with
  | .nan => 0x7FC00000
  | v => if v.isZero then 0 else if v.neg? then 0xBF800000 else 0x3F800000

/-- M and V of ADAMW and LAMB. -/
def Coef.moments (c : Coef) (g m v : W32) : W32 × W32 :=
  (add32 (mul32 c.b1 m) (mul32 c.sc.c1 g), add32 (mul32 c.b2 v) (mul32 c.sc.c2 (mul32 g g)))

/-- u of ADAMW (R268). -/
def Coef.adamU (c : Coef) (m v : W32) : W32 :=
  div32 (mul32 m c.sc.k1) (add32 (sqrt32 (mul32 v c.sc.k2)) c.eps)

/-- u of LAMB. -/
def Coef.lambU (c : Coef) (w m v : W32) : W32 := add32 (c.adamU m v) (mul32 c.wd w)

/-- w * dfac - lr32 * d. -/
def Coef.apply (c : Coef) (w d : W32) : W32 := sub32 (mul32 w c.sc.dfac) (mul32 c.sc.lr32 d)

/-- One element under the rules other than ADAFACTOR (R268). -/
def Coef.elem (c : Coef) (rule : Nat) (graw w m v : W32) : Elem :=
  let g := mul32 graw c.gscale
  match rule with
  | 1 => ⟨c.apply w g, m, v⟩
  | 2 => let m := add32 (mul32 c.b1 m) g; ⟨c.apply w m, m, v⟩
  | 3 => let m := add32 (mul32 c.b1 m) g; ⟨c.apply w (add32 g (mul32 c.b1 m)), m, v⟩
  | 4 => let q := c.moments g m v; ⟨c.apply w (c.adamU q.1 q.2), q.1, q.2⟩
  | 5 => let q := c.moments g m v; ⟨sub32 w (mul32 c.lrr (c.lambU w q.1 q.2)), q.1, q.2⟩
  | 6 =>
    let u := sign32 (add32 (mul32 c.b1 m) (mul32 c.sc.c1 g))
    ⟨c.apply w u, add32 (mul32 c.b2 m) (mul32 c.sc.c2 g), v⟩
  | _ => ⟨w, m, v⟩

/-- Elements combined over the lists; an array the rule lacks counts as +0 everywhere. -/
def Coef.elems (c : Coef) (rule : Nat) (o : Olds) : List Elem :=
  o.g.mapIdx (fun i g => c.elem rule g (nth o.w i 0) (nth o.m i 0) (nth o.v i 0))

/-- The mean of binary32 values summed in binary64 in order, divided, and rounded once (R269). -/
def mean64 (vs : List W32) (n : Nat) : W64 := div64 ((vs.map widen).foldl add64 0) (ofNat64 n)

/-- ADAFACTOR over a shard (R269): new weights, M, and the row and column values. -/
def Coef.adafactor (c : Coef) (rowlen : Nat) (o : Olds) : List W32 × List W32 × List W32 :=
  let g := o.g.map (fun x => mul32 x c.gscale)
  let r := if rowlen = 0 then 0 else g.length / rowlen
  let q := g.map (fun x => add32 (mul32 x x) c.eps1)
  let rows := chunks rowlen (r + 1) q
  let rs := rows.map (fun x => narrow (mean64 x rowlen))
  let cs := (List.range rowlen).map (fun j => narrow (mean64 (rows.map (fun x => nth x j 0)) r))
  let upd := fun (old new : W32) => add32 (mul32 c.b2 old) (mul32 c.sc.c2 new)
  let R := List.zipWith upd (o.v.take r) rs
  let C := List.zipWith upd (o.v.drop r) cs
  let rm := narrow (mean64 R r)
  let u := g.mapIdx (fun n x =>
    div32 x (sqrt32 (div32 (mul32 (nth R (n / rowlen) 0) (nth C (n % rowlen) 0)) rm)))
  let ss := (u.map (fun x => widen (mul32 x x))).foldl add64 0
  let ru := narrow (sqrt64 (div64 ss (ofNat64 (r * rowlen))))
  let k := enc32 (maxVal (.fin false 1 0) (dec32 (div32 ru c.dclip)))
  let u := u.map (fun x => div32 x k)
  let m := List.zipWith (fun old x => add32 (mul32 c.b1 old) (mul32 c.sc.c1 x)) o.m u
  (List.zipWith c.apply o.w m, m, R ++ C)

/-- The coefficients of a shard; lrr from lr[h] of its own HSET row, without the exponent of R295 (R267). -/
def State.coef (s : State) (sc : Scalars) (d : Shard) : Coef :=
  let h := s.obj Obj.hyper d.hset
  { b1 := hyperWord h 3, b2 := hyperWord h 4, eps := hyperWord h 5, wd := hyperWord h 2, eps1 := hyperWord h 6
    dclip := hyperWord h 7, sc := s.shardScalars sc d, gscale := sc.gscale, lrr := narrow (mul64 (nth sc.rows d.hset {}).lr ((tget sc.ratio d.tensor).getD one64)) }

/-! ## The pre-pass of LAMB (R267) -/

/-- Squares of binary32 values, exact, summed in binary64 in order. -/
def sumSquares (vs : List W32) : W64 := (vs.map (fun x => enc64 (Val.mul (dec32 x) (dec32 x)))).foldl add64 0

/-- The partials of one LAMB shard. -/
def State.lambPart (s : State) (sc : Scalars) (d : Shard) : W64 × W64 :=
  let c := s.coef sc d
  let o := s.olds d
  let us := o.g.mapIdx (fun i g =>
    let q := c.moments (mul32 g c.gscale) (nth o.m i 0) (nth o.v i 0)
    c.lambU (nth o.w i 0) q.1 q.2)
  (sumSquares o.w, sumSquares us)

/-- r of a tensor (R267). -/
def State.lambRatio (s : State) (sc : Scalars) (tensor : Nat) : W64 :=
  let es := s.shards.filter (fun e => e.2.tensor == tensor && e.2.rule == 5)
  let p := es.foldl (fun (a : W64 × W64) e => let q := s.lambPart sc e.2; (add64 a.1 q.1, add64 a.2 q.2)) (0, 0)
  let nw := sqrt64 p.1
  let nu := sqrt64 p.2
  if (dec64 nw).isZero || (dec64 nu).isZero then one64 else div64 nw nu

/-- Every scalar of the step from the COMMIT payload. -/
def State.stepScalars (s : State) (payload : BitVec 512) : Scalars :=
  let sc := s.globalScalars payload
  let ts := ((s.shards.filter (fun e => e.2.rule == 5)).map (·.2.tensor)).mergeSort.eraseDups
  { sc with ratio := ts.map (fun t => (t, s.lambRatio sc t)) }

/-! ## One shard -/

/-- What an update writes (R268 to R270). -/
structure News where
  master : List W32
  m : List W32
  v : List W32
  work : List Nat
  wv : List W32
  mask : List Bool
  still : Nat
  zeros : Nat
  nonfinite : Nat
  conv : Counts
  anyNonZero : Bool
deriving DecidableEq, Repr

/-- Elements at positions the mask keeps. -/
def keptOf {α : Type} (mask : List Bool) (l : List α) : List α := ((List.zip mask l).filter (·.1)).map (·.2)

/-- The new arrays of a shard. -/
def State.news (s : State) (sc : Scalars) (d : Shard) : News :=
  let c := s.coef sc d
  let o := s.olds d
  let es := if d.rule = 7 then [] else c.elems d.rule o
  let af := if d.rule = 7 then c.adafactor d.rowlen o else ([], [], [])
  let ws := if d.rule = 7 then af.1 else es.map (·.w)
  let mask := s.shardMask d ws
  let seed : W64 := BitVec.ofNat 64 (s.used Obj.runSeed 0)
  let rnd := fun n => if d.cls = clsCompact then
      Rnd.sr (twistChunk seed (BitVec.ofNat 32 d.tensor) s.stepCount 1 (d.efirst + n)) else Rnd.rne
  let cv := ws.mapIdx (fun n w => roundElem 1 (rnd n) (dec32 w))
  let work := List.zipWith (fun (k : Bool) (r : Rounded) => if k then r.code else 0) mask cv
  let newMaster := if d.cls = clsCompact then widen16 work else ws
  let oldMaster := o.w
  { master := newMaster
    m := if d.rule = 7 then af.2.1 else es.map (·.m)
    v := if d.rule = 7 then af.2.2 else es.map (·.v)
    work := work
    wv := List.zipWith (fun (k : Bool) w => if k then w else 0) mask newMaster
    mask := mask
    still := ((keptOf mask (List.zip newMaster oldMaster)).filter (fun p => p.1 == p.2)).length
    zeros := ((keptOf mask o.g).filter isZero32).length
    nonfinite := ((keptOf mask o.g).filter (fun x => !isFin32 x)).length +
      ((keptOf mask newMaster).filter (fun x => !isFin32 x)).length
    conv := countsOf (keptOf mask cv)
    anyNonZero := (keptOf mask o.g).any (fun x => !isZero32 x) }

/-- Averages updated from element lo on (R270). -/
def newAvgs (ca : W32) (olds : List Nat) (wv : List W32) : List Nat :=
  List.zipWith (fun a w =>
    let x : W32 := BitVec.ofNat 32 (a * 65536)
    (roundElem 1 .rne (dec32 (add32 x (mul32 ca (sub32 w x))))).code) olds wv

/-- The averages of a shard written from element k on; those below keep their values (R273). -/
def State.writeAvgs (s : State) (d : Shard) (ca : W32) (wv : List W32) (k n : Nat) : State :=
  s.writeArr d .avg k (((newAvgs ca (s.readArr d .avg) wv).take n).drop k)

/-- M and V written (R271 step 3). -/
def State.writeMoments (s : State) (d : Shard) (x : News) : State :=
  (s.writeArr d .m 0 ((x.m.map (·.toNat)).take (d.count .m))).writeArr d .v 0 ((x.v.map (·.toNat)).take (d.count .v))

/-- W_master, W_work and averages of the first n elements written, averages from element `from_` on (R271 step 5). -/
def State.writeWeights (s : State) (d : Shard) (ca : W32) (x : News) (from_ n : Nat) : State :=
  let s := (s.writeArr d .master 0 ((x.master.map (·.toNat)).take n)).writeArr d .work 0 (x.work.take n)
  s.writeAvgs d ca x.wv from_ n

/-! ## The journal -/

/-- First row of a die's journal slots in JOURNAL_SLOT: die s of a stack, 24 + w of a weft die (R284). -/
def journalRow (die j : Nat) : Nat := 8 * die + j

/-- Address of a journal slot in its tier (R218, R219). -/
def journalAddr (die j : Nat) : Bool × Nat :=
  if die < 24 then (false, die * 2 ^ 36 + 0xFFA000000 + j * 0xC00000)
  else (true, (die - 24) * 2 ^ 39 + 0x7FDA000000 + j * 0xC00000)

/-- A slot record (R284). -/
def slotRecord (valid : Bool) (entry gen mark : Nat) : Nat :=
  mark * 2 ^ 18 + gen * 2 ^ 29 + entry * 2 ^ 45 + valid.toNat * 2 ^ 63

/-- The lowest free slot of a die. -/
def State.freeSlot (s : State) (die : Nat) : Option Nat :=
  (List.range 8).find? (fun j => !bitAt (s.obj Obj.journalSlot (journalRow die j)) 63)

/-- The slot that holds an entry. -/
def State.slotOfEntry (s : State) (die entry : Nat) : Option Nat :=
  (List.range 8).find? (fun j =>
    let w := s.obj Obj.journalSlot (journalRow die j)
    bitAt w 63 && bits w 45 18 == entry)

/-- Bursts of 2 KiB, the first n of them, of writes made one after another: slow tier or not, address, bytes (R271). -/
def State.putBursts (s : State) (n : Nat) : List (Bool × Nat × List Byte) → State
  | [] => s
  | e :: es =>
    let k := ceilDiv e.2.2.length 2048
    if n < k then s.tierWrite e.1 e.2.1 (e.2.2.take (2048 * n)) else (s.tierWrite e.1 e.2.1 e.2.2).putBursts (n - k) es

/-- The writes of the old master, M and V to a slot: W_master (W_work of a COMPACT shard), M from byte 4 Mi, V from byte
8 Mi (R271 step 1; DESIGN CHOICE, log entry 15). -/
def State.oldWrites (s : State) (d : Shard) (j : Nat) : List (Bool × Nat × List Byte) :=
  let p := journalAddr d.die j
  [(if d.cls = clsCompact then Arr.work else .master, 0), (.m, 1), (.v, 2)].map (fun e =>
    (p.1, p.2 + e.2 * 2 ^ 22, (s.readArr d e.1).flatMap (leBytes e.1.width)))

/-- The old arrays copied to a slot. -/
def State.saveOld (s : State) (d : Shard) (j : Nat) : State :=
  (s.oldWrites d j).foldl (fun t e => t.tierWrite e.1 e.2.1 e.2.2) s

/-- The old arrays copied back from a slot (R273). -/
def State.restoreOld (s : State) (d : Shard) (j : Nat) : State :=
  let p := journalAddr d.die j
  let get := fun (t : State) (a : Arr) (k : Nat) =>
    t.writeArr d a 0 (readVals (s.tier p.1) (p.2 + k * 2 ^ 22) a.width (d.count a))
  get (get (get s (if d.cls = clsCompact then .work else .master) 0) .m 1) .v 2

/-- The shard's CRC of R277: entry, new GEN, master array as written. -/
def shardCrc (entry gen : Nat) (compact : Bool) (x : News) : W64 :=
  crc64 (leBytes 8 entry ++ leBytes 2 gen ++
    (if compact then x.work.flatMap (leBytes 2) else x.master.flatMap (fun w => leBytes 4 w.toNat)))

/-- Bands of a masked shard's stack part that are complete with this shard (R247). -/
def State.dueBands (s : State) (d : Shard) : List Nat :=
  match s.maskOf d.tensor with
  | none => []
  | some (_, m) =>
    if d.maskmode = 0 ∨ m.rowlen = 0 then []
    else
      let es := s.part d.tensor d.home
      let r := s.partRows d.tensor d.home m
      let isDone := fun (e : Nat × Shard) => s.step.updated.contains e.1 || e.2.rule == 0
      let rowBands := (List.range (ceilDiv r.2 64)).filter (fun b =>
        let lo := (r.1 + 64 * b) * m.rowlen
        let hi := lo + 64 * m.rowlen
        let meets := fun (e : Nat × Shard) => decide (e.2.efirst < hi ∧ lo < e.2.efirst + e.2.ecount)
        meets (0, d) && (es.filter meets).all isDone)
      let colBands := if es.all isDone then List.range (ceilDiv m.rowlen 64) else []
      (if m.rpack then rowBands.map (bandKey d.tensor d.home false) else []) ++
        (if m.cpack then colBands.map (bandKey d.tensor d.home true) else [])

/-- The bands a shard's new weights complete are to be repacked (R247). -/
def State.addBands (s : State) (d : Shard) : State :=
  let due := s.dueBands d
  { s with step := { s.step with repack := s.step.repack.filter (fun k => !due.contains k) ++ due } }

/-- The time of the last SLOW shard's completion (R275). -/
def State.slowDone (s : State) (d : Shard) : Nat :=
  if d.cls = clsSlow then s.time.now - s.step.commitTime else s.step.slowTime

/-- The end of a shard's update: STATE DONE, GEN advanced, slot cleared, CRC, counts and due bands (R271 steps 6
and 7, R277, R287, R290, R296). -/
def State.finishShard (s : State) (i : Nat) (d : Shard) (x : News) : State :=
  let gen := (d.gen + 1) % 2 ^ 16
  let s := (s.setShardState i shDone).setShardGen i gen
  let s := match s.slotOfEntry d.die i with
    | some j => s.setObj Obj.journalSlot (journalRow d.die j) 0
    | none => s
  let n := (x.mask.filter id).length
  let s := s.addStone d.tensor
    { zeros := x.zeros, flushes := x.conv.flush, saturations := x.conv.sat, nonfinite := x.nonfinite + x.conv.nonfinite
      still := x.still, elements := n }
  let old := (tget s.step.compactCounts d.layer).getD (0, 0)
  let cc := if d.cls = clsCompact then tput s.step.compactCounts d.layer (old.1 + x.still, old.2 + n) else s.step.compactCounts
  let nz := if x.anyNonZero then s.step.nonZeroLayers ++ [d.layer] else s.step.nonZeroLayers
  let s := { s with step := { s.step with
    updated := s.step.updated ++ [i], digest := s.step.digest ^^^ shardCrc i gen (d.cls == clsCompact) x
    compactCounts := cc, nonZeroLayers := nz, slowTime := s.slowDone d } }
  s.addBands d

/-- Steps 3 to 7 of R271, or their counterpart of R272, from STATE JOURNALED on; averages from block `mark`. -/
def State.runShard (s : State) (sc : Scalars) (i : Nat) (d : Shard) (mark : Nat) : State :=
  let x := s.news sc d
  let s := (s.writeMoments d x).writeWeights d (s.coef sc d).sc.ca x (1024 * mark) d.ecount
  (s.writeMask d x.mask).finishShard i d x

/-- AVGMARK of an entry's slot set. -/
def State.setMark (s : State) (d : Shard) (i mark : Nat) : State :=
  match s.slotOfEntry d.die i with
  | some j => s.setField Obj.journalSlot (journalRow d.die j) 18 11 mark
  | none => s

/-- Values of an array from element k on as a write, where the shard has the array. -/
def Shard.writes (d : Shard) (a : Arr) (k : Nat) (vs : List Nat) : List (Bool × Nat × List Byte) :=
  if d.count a = 0 then [] else [((d.place a).1, (d.place a).2 + a.width * k, vs.flatMap (leBytes a.width))]

/-- The writes of step 3, and those of block n of step 5 in their order (R271). -/
def News.momentWrites (x : News) (d : Shard) : List (Bool × Nat × List Byte) :=
  d.writes .m 0 ((x.m.map (·.toNat)).take (d.count .m)) ++ d.writes .v 0 ((x.v.map (·.toNat)).take (d.count .v))
/-- Block n: W_master, W_work, average. -/
def News.blockWrites (x : News) (d : Shard) (avgs : List Nat) (n : Nat) : List (Bool × Nat × List Byte) :=
  let cut := fun (l : List Nat) => (l.drop (1024 * n)).take 1024
  d.writes .master (1024 * n) (cut (x.master.map (·.toNat))) ++ d.writes .work (1024 * n) (cut x.work) ++
    d.writes .avg (1024 * n) (cut avgs)

/-- An update interrupted within a shard (R271, R272): what stands written at the stop. -/
def State.stopShard (s : State) (sc : Scalars) (i : Nat) (d : Shard) : UpdateStop → State
  | .copying _ => s
  | .inJournal => s
  | .journaled => if d.jrnl then s.setShardState i shJournaled else s
  | .moments =>
    let x := s.news sc d
    let t := s.writeMoments d x
    if d.jrnl then t.setShardState i shMoments else t
  | .inMoments n =>
    let t := s.putBursts n ((s.news sc d).momentWrites d)
    if d.jrnl then t.setShardState i shJournaled else t
  | .blocks n =>
    let x := s.news sc d
    let t := (s.writeMoments d x).writeWeights d (s.coef sc d).sc.ca x 0 (1024 * n)
    if d.jrnl then (t.setShardState i shMoments).setMark d i (min n (ceilDiv d.ecount 1024)) else t
  | .inBlock n k =>
    let x := s.news sc d
    let ca := (s.coef sc d).sc.ca
    let t := ((s.writeMoments d x).writeWeights d ca x 0 (1024 * n)).putBursts k
      (x.blockWrites d (newAvgs ca (s.readArr d .avg) x.wv) n)
    if d.jrnl then (t.setShardState i shMoments).setMark d i (min n (ceilDiv d.ecount 1024)) else t

/-- Steps 1 and 2 of R271, or STATE TORN (R272); none without a free slot. -/
def State.openShard (s : State) (i : Nat) (d : Shard) : Option State :=
  if d.jrnl then
    (s.freeSlot d.die).map (fun j =>
      (s.saveOld d j).setObj Obj.journalSlot (journalRow d.die j) (slotRecord true i d.gen 0))
  else some (s.setShardState i shTorn)

/-- Shards of a die under way: interrupted ones (R271). -/
def State.underWay (s : State) (die : Nat) : List (Nat × Shard) :=
  (s.liveShards.filter (fun e => e.2.die == die)).filter (fun e => e.2.state != shDone || (s.slotOfEntry die e.1).isSome)

/-- A shard whose HOME stack or WEFT die holds a lost unit: it is refilled after the update instead (R370). -/
def State.onLostDie (s : State) (d : Shard) : Bool :=
  s.faults.lost.any (fun e => e.1 == d.home || (d.cls == clsSlow && e.1 == 24 + d.weft))

/-- Bytes of staging a shard's update takes: G, W_master (W_work of a COMPACT shard), M and V (R271, R272; DEDUCED, log entry
50). -/
def Shard.staged (d : Shard) : Nat :=
  [Arr.grad, if d.cls = clsCompact then .work else .master, .m, .v].foldl (fun n a => n + d.count a * a.width) 0

/-- Bytes of staging of a die: 24 MiB of a Dudin die (R198); the manual gives a weft die's nowhere. -/
def stagingOf (die : Nat) : Nat := if die < 24 then 24 * 2 ^ 20 else Config.weftStaging

/-- The die's staging holds one more shard beside those under way; alone a shard always fits (R271). -/
def State.fits (s : State) (d : Shard) : Bool :=
  let es := s.underWay d.die
  es.isEmpty || decide ((es.map (·.2.staged)).foldl (· + ·) d.staged ≤ stagingOf d.die)

/-- The update of an entry may start: the scalars are there, the shard is DONE at its old GEN, not interrupted,
every lower entry of its die that a lost unit does not hold back has started, and fewer than eight are under way, with room
in staging (R264, R271, R370). -/
def State.canUpdate (s : State) (i : Nat) : Bool :=
  let d := s.shard i
  let started := fun (e : Nat × Shard) =>
    s.onLostDie e.2 || s.step.updated.contains e.1 || e.2.state != shDone || (s.slotOfEntry e.2.die e.1).isSome
  s.up && s.phase == 4 && !s.onLostDie d && d.ecount != 0 && d.rule != 0 && d.state == shDone && !s.step.updated.contains i &&
    (s.slotOfEntry d.die i).isNone && decide ((s.underWay d.die).length < 8) && s.fits d &&
    (s.liveShards.filter (fun e => e.2.die == d.die && decide (e.1 < i))).all started

/-- One shard's update, whole or interrupted. -/
def State.updateShard (s : State) (sc : Scalars) (i : Nat) (stop : Option UpdateStop) : State :=
  let d := s.shard i
  match s.openShard i d with
  | none => s
  | some t =>
    match stop with
    | none => t.runShard sc i d 0
    | some k =>
      match d.jrnl, k with
      | true, .copying n => s.putBursts n (((s.freeSlot d.die).map (s.oldWrites d)).getD [])
      | true, _ => t.stopShard sc i d k
      | false, .copying _ => s
      | false, .inJournal => s
      | false, _ => (t.stopShard sc i d k).fault 0xB412 0 0

/-- SHARD_UPDATE (R268 to R272). -/
def execShardUpdate (entry : BitVec 18) (stop : Option UpdateStop) (s : State) : Result :=
  done (match s.step.scalars with
    | none => s
    | some sc =>
      if s.canUpdate entry.toNat then
        (s.checkShard (s.shard entry.toNat)).updateShard sc entry.toNat stop
      else s)

/-- One slot of a die that resumes (R273). A redo writes its fault. -/
def State.redoSlot (s : State) (sc : Scalars) (die : Nat) (j : Nat) : State :=
  let w := s.obj Obj.journalSlot (journalRow die j)
  let i := bits w 45 18
  let d := s.shard i
  if !bitAt w 63 then s
  else if d.state = shJournaled ∨ d.state = shMoments then
    let t := ((s.restoreOld d j).setShardState i shJournaled).runShard sc i d (bits w 18 11)
    (t.bump Obj.journalRedos 0 1).fault (if die < 24 then 0x4411 else 0x6411) (if die < 24 then die else die - 24) 0
  else if d.state = shDone ∧ d.gen = (bits w 29 16 + 1) % 2 ^ 16 then s.setObj Obj.journalSlot (journalRow die j) 0
  else if d.state = shDone then (s.setObj Obj.journalSlot (journalRow die j) 0).updateShard sc i none
  else s

/-- JOURNAL_REDO (R273): a die resumes and treats each valid slot record. -/
def execJournalRedo (die : Fin 32) (s : State) : Result :=
  done (match s.step.scalars with
    | none => s
    | some sc => if s.up then (List.range 8).foldl (fun t j => t.redoSlot sc die.val j) s else s)

/-- BAND_REPACK (R247): a due band repacked, its conversions counted against its tensor (R243). -/
def execBandRepack (tensor : W32) (stack : StackNo) (column : Bool) (band : Nat) (s : State) : Result :=
  let key := bandKey tensor.toNat stack.val column band
  done (match s.maskOf tensor.toNat with
    | none => s
    | some (row, m) =>
      if s.up && s.step.repack.contains key then
        let r := s.repackBand row m stack.val column band
        let t := r.1.countConv tensor.toNat r.2
        { t with step := { t.step with repack := t.step.repack.filter (· != key) } }
      else s)

/-! ## FIXED masks -/

/-- Kept positions of a band of a FIXED mask as taken: rows lo to hi or columns lo to hi of a part. -/
def maskBandCount (bit : Nat → Nat → Bool) (r0 r1 c0 c1 : Nat) : Nat :=
  ((List.range (r1 - r0)).map (fun i => ((List.range (c1 - c0)).filter (fun j => bit (r0 + i) (c0 + j))).length)).foldl (· + ·) 0

/-- Segments R240 cuts for a band with these entry counts by slot. -/
def cutCount (ns : List Nat) : Nat :=
  (cutBand (ns.mapIdx (fun i n => (i, i, (List.range n).map (fun k => { k, slot := i, w := 0 : Kept })))) none).length

/-- A FIXED mask breaks R238 on one stack's part: a band above DBOUND/64 of its positions, or with more segments
than its reservation. -/
def maskRefused (m : MaskRow) (bit : Nat → Nat → Bool) (row0 rows : Nat) : Bool :=
  let rowBand := fun b =>
    let r0 := row0 + 64 * b
    let r1 := min (r0 + 64) (row0 + rows)
    let n := maskBandCount bit r0 r1 0 m.rowlen
    let cuts := (List.range (r1 - r0)).map (fun i => maskBandCount bit (r0 + i) (r0 + i + 1) 0 m.rowlen)
    decide (m.dbound * ((r1 - r0) * m.rowlen) < 64 * n) || (m.rpack && decide (m.rsegs < cutCount cuts))
  let colBand := fun b =>
    let c0 := 64 * b
    let c1 := min (c0 + 64) m.rowlen
    let n := maskBandCount bit row0 (row0 + rows) c0 c1
    let cuts := (List.range (c1 - c0)).map (fun j => maskBandCount bit row0 (row0 + rows) (c0 + j) (c0 + j + 1))
    decide (m.dbound * (rows * (c1 - c0)) < 64 * n) || (m.cpack && decide (m.csegs < cutCount cuts))
  (List.range (ceilDiv rows 64)).any rowBand || (List.range (ceilDiv m.rowlen 64)).any colBand

/-- The stacks that hold parts of a tensor. -/
def State.stacksOf (s : State) (tensor : Nat) : List Nat :=
  ((s.shards.filter (fun e => e.2.tensor == tensor)).map (·.2.home)).mergeSort.eraseDups

/-- One taken mask judged before the write-back (R238): a refused one goes back, with fault 0x4603 of the first
stack that refuses it. -/
def State.judgeMask (s : State) (t : Taken) : State :=
  match s.maskOf t.role with
  | none => s
  | some (_, m) =>
    let base := s.slotAddr t.slot + 256
    let bit := fun r c => memBit s.slow base (r * m.rowlen + c)
    match (s.stacksOf t.role).find? (fun k => let r := s.partRows t.role k m; maskRefused m bit r.1 r.2) with
    | none => s
    | some k =>
      let s := { s with step := { s.step with maskSlots := s.step.maskSlots.filter (fun u => u.slot != t.slot) } }
      ((s.handBack t.slot 8).bump Obj.maskRefusals 0 1).fault 0x4603 k 0

/-- Every taken mask judged. -/
def State.judgeMasks (s : State) : State := s.step.maskSlots.foldl State.judgeMask s

/-- The mask events of a completed update: MASK_LAST_EVENT and MASK_EVENTS, applied FIXED masks handed back
(R235, R248, R392). -/
def State.closeMasks (s : State) : State :=
  let n := s.stepCount
  let due := s.masks.filter (fun e => e.2.pruneAt n || (s.fixedSlot e.2.tensor).isSome)
  let t := due.foldl (fun u e => (u.setObj Obj.maskLastEvent e.1 (n % 2 ^ 32)).bump Obj.maskEvents 0 1) s
  let t := s.step.maskSlots.foldl (fun u k => u.handBack k.slot 1) t
  { t with step := { t.step with maskSlots := [] } }

end Sys2Proof.Machine
end

