-- ==== Sys2Proof/Machine/Vote.lean ====
section
/-! DEFINITION. The vote and the decision (R258 to R264, R325 to R328), and the digest's report and verdict (R277,
R278, R329 to R331). -/

namespace Sys2Proof.Machine

/-! ## The report -/

/-- MEMBERS of MEMBERSHIP. -/
def State.memberCount (s : State) : Nat := s.field Obj.membership 0 0 11

/-- A vote report (R258). Flags: bit 0 READY, 1 GRAD_OK, 2 LOSS_OK, 3 CONFIG_SAME. -/
structure Report512 where
  step : Nat
  config : Nat
  n2 : W64
  loss : W64
  tokens : Nat
  members : Nat
  flags : Nat
deriving DecidableEq, Repr

/-- A payload's fields. -/
def reportOf (w : BitVec 512) : Report512 where
  step := bits w.toNat 448 64
  config := bits w.toNat 384 64
  n2 := BitVec.ofNat 64 (bits w.toNat 320 64)
  loss := BitVec.ofNat 64 (bits w.toNat 256 64)
  tokens := bits w.toNat 192 64
  members := bits w.toNat 176 16
  flags := bits w.toNat 172 4

/-- A report as a payload. -/
def Report512.word (r : Report512) : Nat :=
  r.flags % 16 * 2 ^ 172 + r.members % 2 ^ 16 * 2 ^ 176 + r.tokens % 2 ^ 64 * 2 ^ 192 + r.loss.toNat * 2 ^ 256 +
    r.n2.toNat * 2 ^ 320 + r.config % 2 ^ 64 * 2 ^ 384 + r.step % 2 ^ 64 * 2 ^ 448

/-- The bytes CONFIG_DIGEST is formed over (R259). -/
def State.configBytes (s : State) : List Byte :=
  leBytes 8 s.stepCount ++ leBytes 8 (s.used Obj.runSeed 0) ++ leBytes 4 (s.obj Obj.stepMicrobatches 0) ++
    leBytes 8 (s.obj Obj.clipNorm 0) ++ leBytes 8 (s.obj Obj.gradDivisor 0) ++
    (List.range 16).flatMap (fun k => leBytes 32 (s.obj Obj.schedule k)) ++
    (List.range 256).flatMap (fun h => leBytes 64 (s.obj Obj.hyper h)) ++
    leBytes 4 (s.obj Obj.lossScaleExp 0) ++ leBytes 8 (s.obj Obj.loadedId 0)

/-- CONFIG_DIGEST of the step running. -/
def State.configDigest (s : State) : W64 := crc64 s.configBytes

/-- This module's own report (R258, R259). -/
def State.ownReport (s : State) : Report512 :=
  let loss : W64 := BitVec.ofNat 64 (s.obj Obj.lossLocal 0)
  let gradOk := isFin64 s.step.n2 && !s.step.poisoned && !s.step.tainted
  let lossOk := isFin64 loss && !s.step.lossBad
  { step := s.stepCount, config := s.obj Obj.configDigest 0, n2 := s.step.n2, loss, tokens := s.obj Obj.tokensLocal 0
    members := 1, flags := s.step.exchangeEnded.toNat + 2 * gradOk.toNat + 4 * lossOk.toNat + 8 }

/-- agg := received + own (R258): the first module's STEP and CONFIG stay, and CONFIG_SAME falls where they
differ. -/
def Report512.add (r o : Report512) : Report512 :=
  let same := r.step == o.step && r.config == o.config
  { r with
    n2 := add64 r.n2 o.n2, loss := add64 r.loss o.loss, tokens := (r.tokens + o.tokens) % 2 ^ 64
    members := r.members + o.members
    flags := (r.flags &&& o.flags) &&& (if same then 15 else 7) }

/-- The branches of a report this module waits for: from ports 0 to 2, from ports 3 to 5 (R325). -/
def State.branches (s : State) : Bool × Bool :=
  let k := s.linePos s.myPos
  let h := s.linePos s.head
  let n := s.line.length
  (decide (h ≤ k ∧ k + 1 < n), decide (k ≤ h ∧ 0 < k))

/-- A chain head waits for the aggregate of the next higher chain (R325). -/
def State.waitsColumn (s : State) : Bool := s.isChainHead && decide (s.myChain + 1 < s.gridC)

/-- Every aggregate this module waits for is there. -/
def State.haveAggregates (s : State) : Bool :=
  (!s.branches.1 || s.step.voteNext.isSome) && (!s.branches.2 || s.step.votePrev.isSome) &&
    (!s.waitsColumn || s.step.voteColumn.isSome)

/-- The aggregate with this module's own values: the branch on ports 0 to 2, then the one on ports 3 to 5, then its
own; a chain head adds its chain to the column's (R258, R325). -/
def State.aggregate (s : State) : Report512 :=
  let own := s.ownReport
  let chain := match s.branches.1, s.step.voteNext, s.branches.2, s.step.votePrev with
    | true, some a, true, some b => ((reportOf a).add (reportOf b)).add own
    | true, some a, _, _ => (reportOf a).add own
    | _, _, true, some b => (reportOf b).add own
    | _, _, _, _ => own
  match s.waitsColumn, s.step.voteColumn with
  | true, some c => (reportOf c).add chain
  | _, _ => chain

/-! ## The decision -/

/-- GRAD_DIVISOR is 0: the divisor is the token count (R260). -/
def State.tokenDivisor (s : State) : Bool := (dec64 (BitVec.ofNat 64 (s.obj Obj.gradDivisor 0))).isZero

/-- The CAUSE byte of a refused aggregate; 0 where it is good (R260). -/
def State.causeOf (s : State) (r : Report512) : Nat :=
  let notReady := !bitAt r.flags 0 || r.members != s.memberCount
  let grad := !bitAt r.flags 1 || !isFin64 r.n2
  let loss := !bitAt r.flags 2 || !isFin64 r.loss
  notReady.toNat + 2 * grad.toNat + 4 * loss.toNat + 8 * (!bitAt r.flags 3).toNat + 16 * s.step.memberChange.toNat +
    32 * (s.tokenDivisor && r.tokens == 0).toNat

/-- A decision payload (R260). -/
def decisionWord (step decision cause members : Nat) (r : Report512) : BitVec 512 :=
  BitVec.ofNat 512 (r.tokens % 2 ^ 64 * 2 ^ 192 + r.loss.toNat * 2 ^ 256 + r.n2.toNat * 2 ^ 320 + members % 2 ^ 16 * 2 ^ 416 +
    cause % 256 * 2 ^ 432 + decision * 2 ^ 440 + step % 2 ^ 64 * 2 ^ 448)

/-- DECISION of a payload. -/
def decisionOf (w : BitVec 512) : Nat := bits w.toNat 440 8
/-- CAUSE of a payload. -/
def causeByte (w : BitVec 512) : Nat := bits w.toNat 432 8

/-- COMMIT acted on: the update begins (R265, R266, R274). -/
def State.commitStep (s : State) (w : BitVec 512) : State :=
  let s := s.setPhase 4
  let s := { s with step := { s.step with commitTime := s.time.now, scalars := some (s.stepScalars w), slowTime := 0 } }
  s.judgeMasks

/-- ABANDON acted on: the step stops at once where its exchange has not ended or the wafer still runs, and the module goes to
the STEP boundary (R261, R263). A wait for input ends with the step (R250). -/
def State.abandonStep (s : State) (w : BitVec 512) : State :=
  let s := (if s.step.mbRunning || !s.step.exchangeEnded then s.haltWafer else s).endWait
  let s := (s.bump Obj.stepsAbandoned 0 1).fault 0xB410 0 (causeByte w)
  ({ s with step := { s.step with noMore := true, partials := [] } }).setPhase 7

/-- STEP of a payload. -/
def stepOf (w : BitVec 512) : Nat := bits w.toNat 448 64

/-- A decision taken for the open step; a second copy changes nothing. -/
def State.takeDecision (s : State) (w : BitVec 512) : State :=
  if s.step.decision.isSome ∨ stepOf w ≠ s.stepCount then s
  else
    let s := { s with step := { s.step with decision := some w, decisionEpoch := s.epoch }
                      link := { s.link with decided := true, queries := 0 } }
    if decisionOf w = 1 then s.commitStep w else if decisionOf w = 2 then s.abandonStep w else s

/-- The grid head's decision sent along the decision path and taken (R260, R326). -/
def State.decide_ (s : State) (w : BitVec 512) : State :=
  (s.sendDecisionPath (s.frame tyCommit 0 w.toNat 64)).takeDecision w

/-- ABANDON with MEMBER_LOST, without waiting for reports (R261, R262). -/
def State.decideLost (s : State) : State :=
  let r := s.ownReport
  s.decide_ (decisionWord s.stepCount 2 16 s.memberCount { r with n2 := 0, loss := 0, tokens := 0 })

/-- The open step can still be decided: stepping, before the decision, and no boundary. -/
def State.undecided (s : State) : Bool := s.step.decision.isNone && (s.phase == 1 || s.phase == 2 || s.phase == 3)

/-- Every configured module has joined: its own and the received JOINs (R314). -/
def State.allJoined (s : State) : Bool := decide (s.gridP * s.gridC ≤ s.link.joined.length + 1)

/-- The grid head decides on the aggregate it holds (R260); the first step after LOAD only once every module has joined
(R314). -/
def State.headDecides (s : State) : State :=
  if !s.link.decided && !s.allJoined then s
  else
    let r := s.aggregate
    let c := s.causeOf r
    s.decide_ (decisionWord s.stepCount (if c = 0 then 1 else 2) c r.members r)

/-- The report sent, or the step decided at the grid head, once everything it needs is there (R258). -/
def State.tryVote (s : State) : State :=
  if !(s.link.member && s.undecided && s.phase == 3 && s.step.exchangeEnded && !s.step.voteSent && s.haveAggregates) then s
  else if s.isGridHead then s.headDecides
  else
    let s := s.sendVotePath (s.frame tyVote 0 s.aggregate.word 64)
    { s with step := { s.step with voteSent := true } }

/-- VOTE_REPORT_SEND (R258). -/
def execVoteReportSend (s : State) : Result := done (s.ifUp State.tryVote)

/-- VOTE_FRAME (R258, R260): the aggregate is kept for this module's own report; the grid head decides once its
own values are there. -/
def execVoteFrame (port : PortNo) (hdr : FrameHdr) (payload : BitVec 512) (s : State) : Result :=
  done (s.ifUp (fun s => s.accept port.val hdr tyVote (fun t =>
    let st := t.step
    let t := match neighbourOf port.val with
      | .next => { t with step := { st with voteNext := some payload } }
      | .prev => { t with step := { st with votePrev := some payload } }
      | .columnHigh => { t with step := { st with voteColumn := some payload } }
      | .columnLow => t
    if t.isGridHead then t.tryVote else t)))

/-- Every grid sum of the step has reached a joining module (R341). -/
def State.sumsComplete (s : State) : Bool :=
  s.planLayers.all (fun l => (List.range (s.blocks l).length).all (fun b => s.link.gridSums.contains (blockKey l b)))

/-- CTRL JOIN: the module's place in bytes 0 and 1, the image identifier in bytes 8 to 15 (log entry 11). -/
def State.joinFrame (s : State) (chain pos image : Nat) : OutFrame :=
  s.ctrl 7 (peerPayload chain pos + image % 2 ^ 64 * 2 ^ 64) 16

/-- A joining module tells its neighbours that it begins a copy, by a JOIN of its own over each live direction: chain neighbours
that are members become its sources, and column partners in STANDBY begin theirs (R339, R340; DESIGN CHOICE, log entry 54). -/
def State.announce (s : State) : State :=
  let f := s.joinFrame s.myChain s.myPos (s.obj Obj.loadedId 0)
  ([Neighbour.next, .prev, .columnLow, .columnHigh].filter (fun n => (s.livePort n).isSome)).foldl (fun t n => t.sendTo n f) s

/-- The copy of a re-weave starts again in the next step (R341, R342). -/
def State.restartCopy (s : State) : State :=
  let n := s.field Obj.reweaveStatus 0 16 16
  let s := { s with link := { s.link with copied := [], gridSums := [] }, step := {} }
  (((s.setObj Obj.reweaveStatus 0 (1 + min (n + 1) 0xFFFF * 2 ^ 16)).fault 0xB433 0 0).setPhase 0).announce

/-- A decision at a joining module (R341): COMMIT starts its own update once the copy and the grid sums are complete, and
shows an incomplete copy that the sources have entered UPDATE. -/
def State.joinerDecision (s : State) (w : BitVec 512) : State :=
  let ph := s.field Obj.reweaveStatus 0 0 4
  if ph = 3 ∧ (decisionOf w ≠ 1 ∨ s.sumsComplete = true) then
    let s := if decisionOf w = 1 then s.setField Obj.reweaveStatus 0 0 4 4 else s
    s.takeDecision w
  else if decisionOf w = 1 ∧ (ph = 2 ∨ ph = 3) then s.restartCopy
  else s

/-- A decision for a step that has not begun here: the step after a committed one, or the next attempt at an abandoned one,
which the grid head can abandon for a lost member before this module begins it (R261, R326). -/
def State.isEarly (s : State) (w : BitVec 512) : Bool :=
  match s.step.decision with
  | none => !s.undecided && stepOf w == s.stepCount
  | some d =>
    (decisionOf d == 1 && stepOf w == stepOf d + 1) || (decisionOf d == 2 && stepOf w == stepOf d && s.step.decisionEpoch != s.epoch)

/-- A decision that reaches a member: a first copy is sent on and acted upon, or kept until its step begins; a second copy is
discarded (R326). -/
def State.hearDecision (s : State) (p : Nat) (w : BitVec 512) : State :=
  let on := fun (t : State) => t.forwardDecision p (t.frame tyCommit 0 w.toNat 64)
  if s.undecided && stepOf w == s.stepCount then (on s).takeDecision w
  else if s.isEarly w && s.link.early.isNone then on { s with link := { s.link with early := some w } }
  else s

/-- COMMIT_FRAME (R260, R261, R326): forwarded and acted upon; a second copy is discarded. -/
def execCommitFrame (port : PortNo) (hdr : FrameHdr) (payload : BitVec 512) (s : State) : Result :=
  done (s.ifUp (fun s => s.accept port.val hdr tyCommit (fun t =>
    if t.link.reweaving then t.joinerDecision payload
    else if t.link.member then t.hearDecision port.val payload
    else t)))

/-- A query not yet answered in this membership epoch; a second copy is discarded (R326). -/
def State.newQuery (s : State) : Bool := s.link.member && s.link.asked != some s.epoch

/-- DECISION_QUERY (R262, R326): a first copy is answered with the decision held for the open step, and forwarded along the
decision path; a neighbour that lacks a decision gets it. -/
def execDecisionQuery (port : PortNo) (hdr : FrameHdr) (s : State) : Result :=
  done (s.ifUp (fun s => s.accept port.val hdr tyCtrl (fun t =>
    if !t.newQuery then t
    else
      let t := { t with link := { t.link with asked := some t.epoch } }
      let t := t.forwardDecision port.val (t.ctrl 5 0 0)
      let body := match t.step.decision with
        | some w => 1 + w.toNat * 2 ^ 64
        | none => 0
      let t := t.sendVotePath (t.ctrl 6 body 72)
      match t.step.decision with
      | some w => t.sendTo (neighbourOf port.val) (t.frame tyCommit 0 w.toNat 64)
      | none => t)))

/-- An answer at the new grid head: a COMMIT is sent on unchanged; once every member has answered without one, ABANDON with
MEMBER_LOST is decided (R262). -/
def State.headAnswer (s : State) (held : Option (BitVec 512)) : State :=
  match held.filter (fun w => decisionOf w == 1) with
  | some w => if s.undecided then s.decide_ w else s
  | none =>
    let n := s.link.queries - 1
    let t := { s with link := { s.link with queries := n } }
    if s.link.queries = 1 ∧ t.undecided = true then t.decideLost else t

/-- DECISION_ANSWER (R262): passed on towards the grid head, which acts on it. -/
def execDecisionAnswer (port : PortNo) (hdr : FrameHdr) (held : Option (BitVec 512)) (s : State) : Result :=
  done (s.ifUp (fun s => s.accept port.val hdr tyCtrl (fun t =>
    if !t.link.member then t
    else if t.isGridHead then t.headAnswer held
    else
      t.sendVotePath (t.ctrl 6 (match held with
        | some w => 1 + w.toNat * 2 ^ 64
        | none => 0) 72))))

/-! ## The digest -/

/-- An entry of a DIGEST report list (R329). -/
def digestEntry (digest : W64) (pace pos : Nat) : BitVec 128 :=
  BitVec.ofNat 128 (pos % 256 + pace % 2 ^ 56 * 2 ^ 8 + digest.toNat * 2 ^ 64)

/-- The entries this module waits for from its own side of the chain, and the head from both. -/
def State.entriesAwaited (s : State) : Nat :=
  let k := s.linePos s.myPos
  let n := s.line.length
  if s.isChainHead then n - 1 else if s.linePos s.head < k then n - 1 - k else k

/-- The digest held by more than half of n positions. -/
def majorityDigest (n : Nat) (es : List (BitVec 128)) : Option W64 :=
  ((es.map (fun e => BitVec.ofNat 64 (bits e.toNat 64 64))).find? (fun (d : W64) =>
    decide (n < 2 * (es.filter (fun e => BitVec.ofNat 64 (bits e.toNat 64 64) == d)).length)))

/-- The positions whose digest differs from the majority, as a map. -/
def differing (m : Option W64) (es : List (BitVec 128)) : Nat :=
  match m with
  | none => 0
  | some d => es.foldl (fun acc e =>
      let p := bits e.toNat 0 8
      if bits e.toNat 64 64 ≠ d.toNat ∧ 1 ≤ p ∧ p ≤ 32 then setBit acc (p - 1) true else acc) 0

/-- The median pace, the lower middle value of an even count; a joiner's pace is not counted (R330, R341). -/
def State.medianPace (s : State) (es : List (BitVec 128)) : Nat :=
  let ps := (es.filter (fun e => bitAt s.liveMap (bits e.toNat 0 8 - 1))).map (fun e => bits e.toNat 8 56)
  nth ps.mergeSort ((ps.length - 1) / 2) 0

/-- A verdict's payload: the median pace and the map, then a mark and the digest; the mark is 0 for SPLIT (log
entry 11). -/
def verdictPayload (m : Option W64) (map median : Nat) : Nat :=
  median % 2 ^ 56 + (map % 2 ^ 32) * 2 ^ 64 +
    match m with
    | none => 0
    | some d => 2 ^ 96 + d.toNat * 2 ^ 128

/-- SLOW_STEPS and SLOW from this module's pace and the median (R331). -/
def State.judgePace (s : State) (median : Nat) : State :=
  let s := s.setObj Obj.paceMedian 0 median
  let pace := s.obj Obj.paceLast 0
  if s.used Obj.slowRatio 0 * median < 100 * pace then
    let n := min (s.field Obj.chainStatus 0 16 16 + 1) 0xFFFF
    let s := s.setField Obj.chainStatus 0 16 16 n
    if n = s.used Obj.slowWindow 0 ∧ !bitAt (s.obj Obj.chainStatus 0) 5 then (s.setFlag Obj.chainStatus 0 5).fault 0xB630 0 0 else s
  else s.setField Obj.chainStatus 0 16 16 0

/-- A divergent module (R278): marked, recorded, to leave and re-weave at the STEP boundary. -/
def State.diverge (s : State) : State :=
  let s := (s.setFlag Obj.chainStatus 0 6).fault 0xB413 0 0
  { s with step := { s.step with divergent := true, leaveAsked := true, divergeSeq := s.lastSeq } }

/-- A SPLIT digest: every module stops at the STEP boundary in PAUSED (R278). -/
def State.split (s : State) : State :=
  let s := s.fault 0xB414 0 0
  { s with step := { s.step with mustPause := true } }

/-- The phase after the digest: evaluation where this step has one, else the boundary (R279). -/
def State.afterDigest (s : State) : State :=
  let w := s.obj Obj.evalControl 0
  let every := bits w 16 12
  let count := bits w 0 16
  if s.phase ≠ 5 then s
  else if 0 < count ∧ 0 < every ∧ s.stepCount % every = 0 then
    ({ s with step := { s.step with evaluating := true, evalIndex := 0, evalTotal := count } }).setPhase 6
  else s.setPhase 7

/-- A verdict taken by a member (R278, R330). -/
def State.takeVerdict (s : State) (m : Option W64) (map median : Nat) : State :=
  if s.step.verdictSeen then s
  else
    let s := { s with step := { s.step with verdictSeen := true } }
    let s := match m with
      | none => s.split
      | some _ => if bitAt map (s.myPos - 1) then s.diverge else s
    (s.judgePace median).afterDigest

/-- A position whose module has re-woven with its chain's majority digest: noted by the grid head, and reported to it by the other
chain heads with a JOIN down the column (R342; DESIGN CHOICE, log entry 54). -/
def State.reportRewoven (s : State) (p : Peer) : State :=
  if s.isGridHead then { s with link := { s.link with rewoven := s.link.rewoven ++ [p] } }
  else s.sendVotePath (s.joinFrame p.1 p.2 (s.obj Obj.loadedId 0))

/-- The chain head's verdict once it holds one entry per live position (R329, R330). -/
def State.verdict (s : State) : State :=
  let es := s.link.digestList
  let own := es.filter (fun e => bitAt s.liveMap (bits e.toNat 0 8 - 1))
  let m := majorityDigest own.length own
  let map := differing m es
  let median := s.medianPace es
  let f := s.frame tyDigest (2 ^ 56) (verdictPayload m map median) 24
  let s := (s.sendOut .next f).sendOut .prev f
  let good := es.filter (fun (e : BitVec 128) => m == some (BitVec.ofNat 64 (bits e.toNat 64 64)) && !bitAt s.liveMap (bits e.toNat 0 8 - 1))
  let back : List Peer := good.map (fun (e : BitVec 128) => (s.myChain, bits e.toNat 0 8))
  let s := back.foldl State.reportRewoven { s with link := { s.link with digestList := [] } }
  s.takeVerdict m map median

/-- The report list passed on, or judged at the chain head, once the module's own entry and those it waits for are
there (R329). -/
def State.tryDigest (s : State) : State :=
  let mine := s.link.digestList.filter (fun e => bitAt s.liveMap (bits e.toNat 0 8 - 1))
  if !s.step.digestSent || s.step.verdictSeen || decide (mine.length < s.entriesAwaited + 1) then s
  else if s.isChainHead then s.verdict
  else
    let es := s.link.digestList
    let f := s.frame tyDigest 0 (packFields 128 (es.map (·.toNat))) (16 * es.length)
    let s := { s with link := { s.link with digestList := [] } }
    match s.towardsHead with
    | some n => s.sendTo n f
    | none => s

/-- The module's own entry formed and sent (R329). -/
def State.sendDigest (s : State) : State :=
  let e := digestEntry s.step.digest (s.obj Obj.paceLast 0) s.myPos
  let s := { s with step := { s.step with digestSent := true }
                    link := { s.link with digestList := s.link.digestList ++ [e] } }
  if s.link.reweaving then
    let n : Neighbour := if (s.livePort .prev).isSome then .prev else .next
    let f := s.frame tyDigest 0 e.toNat 16
    (({ s with link := { s.link with digestList := [] } }).setField Obj.reweaveStatus 0 0 4 5).sendTo n f
  else s.tryDigest

/-- DIGEST_REPORT (R329). -/
def execDigestReport (port : PortNo) (hdr : FrameHdr) (entries : List (BitVec 128)) (s : State) : Result :=
  done (s.ifUp (fun s => s.accept port.val hdr tyDigest (fun t =>
    if !t.link.member then t
    else
      let known := t.link.digestList
      let new := entries.filter (fun e => !known.any (fun k => bits k.toNat 0 8 == bits e.toNat 0 8))
      ({ t with link := { t.link with digestList := known ++ new } }).tryDigest)))

/-- The verdict at a module that re-weaves: it proves the copy, or starts it again (R342). -/
def State.joinerVerdict (s : State) (map : Nat) : State :=
  if s.phase ≠ 5 then s
  else if bitAt map (s.myPos - 1) then s.restartCopy
  else s.setPhase 7

/-- DIGEST_VERDICT (R278, R330, R342): forwarded along the decision path of the chain and acted upon. -/
def execDigestVerdict (port : PortNo) (hdr : FrameHdr) (majority : Option W64) (map : W32) (median : BitVec 56) (s : State) :
    Result :=
  done (s.ifUp (fun s => s.accept port.val hdr tyDigest (fun t =>
    if t.link.reweaving then t.joinerVerdict map.toNat
    else if !t.link.member ∨ t.step.verdictSeen then t
    else
      let f := t.frame tyDigest (2 ^ 56) (verdictPayload majority map.toNat median.toNat) 24
      let t := match neighbourOf port.val with
        | .prev => t.sendOut .next f
        | .next => t.sendOut .prev f
        | _ => t
      t.takeVerdict majority map.toNat median.toNat)))

/-! ## The end of the update -/

/-- Every non-empty, non-FROZEN shard has been updated, and every due band repacked (R274). -/
def State.updateDone (s : State) : Bool :=
  (s.liveShards).all (fun e => s.step.updated.contains e.1 && e.2.state == shDone) && s.step.repack.isEmpty &&
    (s.rowsOf Obj.journalSlot).all (fun e => !bitAt e.2 63)

/-- UPDATE_COMPLETE (R235, R274, R275, R329): the masks close, STEP_COUNT advances, the digest is sent. -/
def execUpdateComplete (s : State) : Result :=
  done (s.ifUp (fun s =>
    if !(s.phase == 4 && s.updateDone) then s
    else
      let s := s.closeMasks
      let s := (s.setObj Obj.stepCount 0 (s.stepCount + 1)).setObj Obj.updateTime 0 (s.time.now - s.step.commitTime)
      let s := (s.setObj Obj.slowUpdateTime 0 s.step.slowTime).setObj Obj.digestLast 0 s.step.digest.toNat
      (s.setPhase 5).sendDigest))

end Sys2Proof.Machine
end

