-- ==== Sys2Proof/Machine/Membership.lean ====
section
/-! DEFINITION. Membership (R314 to R319, R327, R328, R342): losses, leaves, the new L, joins and admission. -/

namespace Sys2Proof.Machine

/-! ## The shape of L -/

/-- MEMBERSHIP with L, the epoch and MEMBERS (R343). -/
def State.setMembership (s : State) (live epoch : Nat) : State :=
  s.setObj Obj.membership 0 (popcount 32 live * s.gridC % 2 ^ 11 + epoch % 2 ^ 16 * 2 ^ 16 + live % 2 ^ 32 * 2 ^ 32)

/-- The run of a map that begins at a position, in ascending cyclic order. -/
def runFrom (P map p : Nat) : List Nat := (cyclicFrom P P p).takeWhile (fun q => bitAt map (q - 1))

/-- The runs of a map with a gap. -/
def runsOf (P map : Nat) : List (List Nat) :=
  ((cyclicFrom P P 1).filter (fun p => bitAt map (p - 1) && !bitAt map (prevPos P p - 1))).map (runFrom P map)

/-- The lowest position of a run. -/
def runLow (r : List Nat) : Nat := r.foldl min 33

/-- The positions as a map. -/
def mapOf (ps : List Nat) : Nat := ps.foldl (fun m p => setBit m (p - 1) true) 0

/-- The run the grid keeps: the longest, and of equal ones that with the lowest position (R318). -/
def keepRun (P map : Nat) : Nat :=
  match runsOf P map with
  | [] => map
  | r :: rs => mapOf (rs.foldl (fun a b => if a.length < b.length ∨ (a.length = b.length ∧ runLow b < runLow a) then b else a) r)

/-- L without a position. -/
def State.without (s : State) (pos : Nat) : Nat := keepRun s.gridP (setBit s.liveMap (pos - 1) false)

/-- The lowest position of a map. -/
def headOf (map : Nat) : Nat := nth (positionsOf map) 0 0

/-! ## Taking a membership -/

/-- The survivors of a lost module go on (R374). -/
def State.survivorsGo (s : State) : State :=
  match s.faults.dropSince with
  | none => s
  | some t =>
    let s := s.recovered 4 t (s.rootOfLevel lvPeer)
    { s with faults := { s.faults with dropSince := none } }

/-- A decision that came before its step began is acted on (R326). -/
def State.takeEarly (s : State) : State :=
  match s.link.early with
  | none => s
  | some w =>
    let s := { s with link := { s.link with early := none } }
    if stepOf w = s.stepCount then s.takeDecision w else s

/-- A step begins: its own state is fresh, G starts over, CONFIG_DIGEST is that of the step (R250, R259). Blocks and a decision
that arrived for it before stay. -/
def State.beginStep (s : State) : State :=
  let s := s.survivorsGo
  let m := s.obj Obj.stepMicrobatches 0
  let early := s.step.partials.filter (fun e => decide (s.stepTag ≤ e.1 / 2 ^ 51))
  let s := { s with step := { total := m, partials := early } }
  let s := (s.setPhase 1).setMb 0
  let s := { s with faults := { s.faults with coreBase := s.time.core } }
  (s.setObj Obj.configDigest 0 s.configDigest.toNat).takeEarly

/-- The module is put out of the membership by the new L (R317); the cause is the latest record about a peer (R345; DEDUCED, log
entry 55). -/
def State.putOut (s : State) : State :=
  let s := if s.step.mbRunning then s.haltWafer else s
  let s := (s.setMember false).fault 0xB431 0 (s.rootOfLevel lvPeer)
  (s.setMode stStandby s.lastSeq).setPhase 0

/-- A re-woven module admitted (R342). -/
def State.admitted (s : State) : State :=
  let s := (s.setMember true).setField Obj.reweaveStatus 0 0 4 6
  let s := s.recovered 6 s.faults.stopTime (s.rootSeq (unitId lvModule 0))
  let s := { s with link := { s.link with reweaving := false, copied := [], gridSums := [] } }
  let s := s.setMode stRun 0
  let s := s.setField Obj.chainStatus 0 6 1 0
  if s.phase = 7 then s
  else if bitAt (s.obj Obj.stepControl 0) 0 then s.beginStep else s.setPhase 0

/-- The chain neighbours of a position that are in a map. -/
def sourcesOf (P map pos : Nat) : List Nat := [prevPos P pos, nextPos P pos].filter (fun q => q != pos && bitAt map (q - 1))

/-- A joining module under a new L without it: a copy whose source has left starts again (R319). -/
def State.joinerStays (s : State) (old live : Nat) : State :=
  if decide (2 ≤ s.field Obj.reweaveStatus 0 0 4) && !(sourcesOf s.gridP old s.myPos).all (fun q => bitAt live (q - 1)) then
    s.restartCopy
  else s

/-- Copies go on only to joiners beside a line end (R340, R342). -/
def State.keepSupply (s : State) : State :=
  let beyond := fun (x : Supply) =>
    let q := if x.next then nextPos s.gridP s.myPos else prevPos s.gridP s.myPos
    s.link.member && !bitAt s.liveMap (q - 1)
  { s with link := { s.link with supply := s.link.supply.filter beyond } }

/-- A new L and epoch taken (R317). -/
def State.takeMembership (s : State) (live epoch : Nat) : State :=
  let old := s.liveMap
  let s := s.setMembership live epoch
  let s := { s with link := { s.link with recorded := [], lostNeighbours := [] } }
  let inL := decide (0 < s.myPos) && bitAt live (s.myPos - 1)
  let s :=
    if s.link.member && !inL then s.putOut
    else if s.link.reweaving then (if inL then s.admitted else s.joinerStays old live)
    else if live != old && s.undecided then { s with step := { s.step with memberChange := true } }
    else s
  s.keepSupply

/-- CTRL MEMBERSHIP: L in bytes 0 to 3 and the epoch in bytes 4 and 5 (log entry 11). -/
def State.membershipFrame (s : State) (live epoch : Nat) : OutFrame :=
  s.ctrl 4 (live % 2 ^ 32 + epoch % 2 ^ 16 * 2 ^ 32) 8

/-- The grid head gives the grid a new L under the next epoch (R317, R342). It sends along the decision path that the new L
makes; where the new L puts it out itself, along the old one. -/
def State.newMembership (s : State) (live : Nat) : State :=
  let e := (s.epoch + 1) % 2 ^ 16
  let f := s.membershipFrame live e
  if bitAt live (s.myPos - 1) then (s.takeMembership live e).sendDecisionPath f
  else (s.sendDecisionPath f).takeMembership live e

/-! ## Losses -/

/-- A loss recorded once in a membership epoch; later copies are folded (R357, R359). -/
def State.recordLoss (s : State) (reporter : UnitId) (chain pos code : Nat) : State :=
  if s.link.recorded.contains (chain, pos) then (s.bump Obj.faultReports 0 1).bump Obj.faultFolded 0 1
  else
    let s := { s with link := { s.link with recorded := s.link.recorded ++ [(chain, pos)] }
                      faults := { s.faults with dropSince := s.faults.dropSince.or (some (s.time.now - 5000)) } }
    s.report reporter (unitId lvPeer (chain * 2 ^ 8 + pos)) code 0

/-- The new grid head asks every other member for the decision it holds; alone it decides (R262). -/
def State.askDecision (s : State) : State :=
  let n := s.memberCount - 1
  if n = 0 then s.decideLost
  else
    let s := s.sendDecisionPath (s.ctrl 5 0 0)
    { s with link := { s.link with queries := n } }

/-- L with losses learned of. Of two neighbours in a chain that each claim the other lost, both answer: only the link is lost,
and the higher position goes (R315; log entry 56). -/
def State.withLosses (s : State) (ps : List (Nat × Bool)) : Nat :=
  let spared := fun (p : Nat × Bool) => !p.2 && ps.any (fun q =>
    !q.2 && decide (p.1 < q.1) && (q.1 == nextPos s.gridP p.1 || q.1 == prevPos s.gridP p.1))
  (ps.filter (fun p => !spared p)).foldl (fun m p => keepRun s.gridP (setBit m (p.1 - 1) false)) s.liveMap

/-- The grid head acts on a loss: before the decision at once, after it at the next STEP boundary (R261, R262,
R319). `newHead` says that the old grid head is lost with it: the new one first asks for decisions, and asks again where a
further loss finds queries out. -/
def State.applyLoss (s : State) (pos : Nat) (sure newHead : Bool) : State :=
  let live := s.withLosses [(pos, sure)]
  if s.undecided then
    if newHead || decide (0 < s.link.queries) then (s.newMembership live).askDecision
    else if bitAt live (s.myPos - 1) then (s.newMembership live).decideLost
    else s.decideLost.newMembership live
  else if s.stepping then
    let s := { s with link := { s.link with pendingLoss := s.link.pendingLoss ++ [(pos, sure)] } }
    match newHead, s.step.decision with
    | true, some w => s.sendDecisionPath (s.frame tyCommit 0 w.toNat 64)
    | _, _ => s
  else s.newMembership live

/-- A neighbour in its chain, over a live port, of a position beside it. -/
def State.answers (s : State) (chain pos : Nat) : Bool :=
  chain == s.myChain &&
    ((pos == nextPos s.gridP s.myPos && (s.livePort .next).isSome && !s.link.lostNeighbours.contains .next) ||
      (pos == prevPos s.gridP s.myPos && (s.livePort .prev).isSome && !s.link.lostNeighbours.contains .prev))

/-- The neighbour that a module named in MEMBER_LOST cannot reach: the other end of the link that is lost (R315). -/
def State.unreached (s : State) : Option Nat :=
  if s.link.lostNeighbours.contains .next || (s.livePort .next).isNone then some (nextPos s.gridP s.myPos)
  else if s.link.lostNeighbours.contains .prev || (s.livePort .prev).isNone then some (prevPos s.gridP s.myPos)
  else none

/-- The position that a claim of loss puts out: the claimed one, but the higher of the two ends of a lost chain link where the
claim came along the chain and the claimed module is known to answer: it is this module, or this module reaches it (R315; log
entry 56). -/
def State.lostEnd (s : State) (from_ : Option Nat) (chain pos kind : Nat) : Nat :=
  let alongChain := match from_ with
    | some p => decide (p < 6)
    | none => false
  if kind ≠ 2 ∨ !alongChain = true then pos
  else if chain = s.myChain ∧ pos = s.myPos then max pos (s.unreached.getD 0)
  else if s.answers chain pos then
    max pos (if pos = nextPos s.gridP s.myPos then nextPos s.gridP pos else prevPos s.gridP pos)
  else pos

/-- A lost position learned of (R317, R327): the grid head acts on it; so does the module that the remaining L makes grid head,
where the grid head is the module lost. Every other module sends it on: as its own where it found the loss, else as it came. -/
def State.positionLost (s : State) (from_ : Option Nat) (chain pos kind : Nat) : State :=
  let pos := s.lostEnd from_ chain pos kind
  let sure := kind != 2
  if pos = 0 ∨ !bitAt s.liveMap (pos - 1) then s
  else if s.isGridHead then s.applyLoss pos sure false
  else if s.link.member && s.myChain == 0 && chain == 0 && pos == s.head && s.myPos == headOf (s.without pos) then
    s.applyLoss pos sure true
  else
    let f := s.ctrl kind (peerPayload chain pos) 8
    match from_ with
    | some p => s.passLoss p f
    | none => s.sendLoss f

/-- A neighbour's chain index and position. -/
def State.peerAt (s : State) (n : Neighbour) : Nat × Nat :=
  match n with
  | .next => (s.myChain, nextPos s.gridP s.myPos)
  | .prev => (s.myChain, prevPos s.gridP s.myPos)
  | .columnLow => ((s.myChain + s.gridC - 1) % max 1 s.gridC, s.myPos)
  | .columnHigh => ((s.myChain + 1) % max 1 s.gridC, s.myPos)

/-- The neighbour is a live module of the grid, not yet declared lost. -/
def State.hasPeer (s : State) (n : Neighbour) : Bool :=
  let p := s.peerAt n
  s.link.member && bitAt s.liveMap (p.2 - 1) && decide (0 < p.2) && !s.link.lostNeighbours.contains n &&
    match n with
    | .next => decide (1 < s.gridP)
    | .prev => decide (1 < s.gridP)
    | _ => decide (1 < s.gridC)

/-- No chain neighbour that is in L can be reached. -/
def State.cutOff (s : State) : Bool :=
  decide (1 < s.live.length) && !s.hasPeer .next && !s.hasPeer .prev

/-- A module that reaches no chain neighbour removes itself (R315). LEFT_MEMBERSHIP has the record of the lost peer as its cause,
and waits for it where its report group is open (R345, R357). -/
def State.removeSelf (s : State) (peer : UnitId) : State :=
  let s := (if s.step.mbRunning then s.haltWafer else s).setMember false
  if s.inOpenGroup peer then
    let o : Owed := { unit := peer, code := 0, detail := 0, hard := false, own := false, leave := true, start := s.time.now }
    ({ s with faults := { s.faults with owed := s.faults.owed ++ [o] } }.setModePending stRecover).setPhase 0
  else
    let s := s.fault 0xB431 0 (s.rootSeq peer)
    (s.setMode stRecover s.lastSeq).setPhase 0

/-- PEER_LOST (R315, R328). -/
def execPeerLost (n : Neighbour) (s : State) : Result :=
  done (s.ifUp (fun s =>
    if !s.hasPeer n then s
    else
      let p := s.peerAt n
      let s := s.recordLoss (unitId lvModule 0) p.1 p.2 0xC401
      let s := { s with link := { s.link with lostNeighbours := s.link.lostNeighbours ++ [n] } }
      if s.cutOff then s.removeSelf (unitId lvPeer (p.1 * 2 ^ 8 + p.2))
      else s.positionLost none p.1 p.2 2))

/-- The peer that sent a frame. -/
def hdrPeer (h : FrameHdr) : UnitId := unitId lvPeer (h.srcChain.toNat * 2 ^ 8 + h.srcPos.toNat)

/-- MEMBER_LOST or LEAVE received over a link: recorded once, acted on or passed on; later copies are folded (R317, R328,
R359). -/
def State.heardLoss (s : State) (p : Nat) (hdr : FrameHdr) (chain pos kind : Nat) : State :=
  if !s.link.member then s
  else
    let t := s.recordLoss (hdrPeer hdr) chain pos 0xC302
    if s.link.recorded.contains (chain, pos) then t else t.positionLost (some p) chain pos kind

/-- MEMBER_LOST (R317, R328). -/
def execMemberLost (port : PortNo) (hdr : FrameHdr) (chain : BitVec 5) (position : BitVec 6) (s : State) : Result :=
  done (s.ifUp (fun s => s.accept port.val hdr tyCtrl (fun t => t.heardLoss port.val hdr chain.toNat position.toNat 2)))

/-- LEAVE (R316, R317, R328). -/
def execLeave (port : PortNo) (hdr : FrameHdr) (chain : BitVec 5) (position : BitVec 6) (s : State) : Result :=
  done (s.ifUp (fun s => s.accept port.val hdr tyCtrl (fun t => t.heardLoss port.val hdr chain.toNat position.toNat 3)))

/-- A MEMBERSHIP frame passed on in the direction it travels by a module outside L: to the next module in the gap, over a live
port (log entry 53). -/
def State.passGap (s : State) (p : Nat) (f : OutFrame) : State :=
  let on := fun (n : Neighbour) => if (s.livePort n).isSome && !bitAt s.liveMap (s.posAt n - 1) then s.sendTo n f else s
  match neighbourOf p with
  | .prev => on .next
  | .next => on .prev
  | _ => s

/-- MEMBERSHIP (R317, R326): taken and sent on along the decision path; an epoch already held is discarded. A module outside
the membership notes it too. -/
def execMembership (port : PortNo) (hdr : FrameHdr) (live : W32) (epoch : W16) (s : State) : Result :=
  done (s.ifUp (fun s => s.accept port.val hdr tyCtrl (fun t =>
    if !epochOlder t.epoch epoch.toNat then t
    else
      let f := t.membershipFrame live.toNat epoch.toNat
      if bitAt live.toNat (t.myPos - 1) then (t.takeMembership live.toNat epoch.toNat).forwardDecision port.val f
      else if t.link.member then (t.forwardDecision port.val f).takeMembership live.toNat epoch.toNat
      else (t.takeMembership live.toNat epoch.toNat).passGap port.val f)))

/-! ## A re-weave begins -/

/-- REWEAVE_STATUS's phase. -/
def State.weavePhase (s : State) : Nat := s.field Obj.reweaveStatus 0 0 4

/-- A member beside this module in its chain, over a live port (R339). -/
def State.memberBeside (s : State) : Bool :=
  [Neighbour.next, .prev].any (fun n =>
    let p := s.posAt n
    decide (1 < s.gridP ∧ 0 < p) && p != s.myPos && bitAt s.liveMap (p - 1) && (s.livePort n).isSome)

/-- What a module needs to re-weave (R339): the program, its place outside L, and a member beside it. -/
def State.canWeave (s : State) : Bool :=
  (s.mode == stRecover || s.mode == stStandby) && !s.link.member && s.prog.loaded && !s.prog.unrunnable && s.memberBeside

/-- A re-weave begins: RECOVER, waiting for a source (R339, R438). -/
def State.beginWeave (s : State) : State :=
  let s := { s with
    link := { s.link with reweaving := true, copied := [], gridSums := [] }
    faults := { s.faults with stopTime := s.time.now }
    step := {} }
  let s := (s.setObj Obj.reweaveStatus 0 1).setPhase 0
  (if s.mode = stRecover then s else s.setMode stRecover 0).announce

/-! ## Joining -/

/-- The module sends its JOIN to the grid head. -/
def State.sendJoin (s : State) : State :=
  let s := { s with link := { s.link with joinSent := true } }
  if s.isGridHead then s else s.sendVotePath (s.joinFrame s.myChain s.myPos (s.obj Obj.loadedId 0))

/-- The direction from this module towards another, along the paths by which its JOIN came here. -/
def State.wayTo (s : State) (chain pos : Nat) : Option Neighbour :=
  if chain ≠ s.myChain then (if s.isChainHead ∧ s.myChain < chain then some .columnHigh else none)
  else if s.linePos s.myPos < s.linePos pos then some .next
  else if s.linePos pos < s.linePos s.myPos then some .prev
  else none

/-- A refusal sent or passed on to the module it names: the JOIN with the grid head's image identifier (log entry 28). -/
def State.sendRefusal (s : State) (chain pos image : Nat) : State :=
  match s.wayTo chain pos with
  | some n => s.sendTo n (s.joinFrame chain pos image)
  | none => s

/-- A JOIN at the grid head: noted as one of the first membership, or as the report of a position in another chain that has
re-woven; one with another image is refused, which the joining module learns by the grid head's own JOIN (R314, R342; log
entries 28 and 54). -/
def State.headJoin (s : State) (chain pos image : Nat) : State :=
  if image ≠ s.obj Obj.loadedId 0 then s.sendRefusal chain pos (s.obj Obj.loadedId 0)
  else
    let l := s.link
    if bitAt s.liveMap (pos - 1) then { s with link := { l with joined := if l.joined.contains (chain, pos) then l.joined else l.joined ++ [(chain, pos)] } }
    else { s with link := { l with rewoven := if l.rewoven.contains (chain, pos) then l.rewoven else l.rewoven ++ [(chain, pos)] } }

/-- This module's JOIN was refused (R314). -/
def State.joinRefused (s : State) : State :=
  let s := (s.setMember false).fault 0xB636 0 0
  if s.mode = stStandby then s else (s.setMode stStandby s.lastSeq).setPhase 0

/-- A module outside L beside this member announces its copy: this member supplies it, from the start (R340, R341). -/
def State.addSupply (s : State) (next : Bool) : State :=
  { s with link := { s.link with supply := s.link.supply.filter (fun x => x.next != next) ++ [{ next := next, step := s.stepCount }] } }

/-- A JOIN at a member (R314, R342): from a joiner beside it, the beginning of a copy; from the side of the head, a refusal on its
way; from elsewhere, on its way to the grid head. -/
def State.memberJoin (s : State) (p chain pos image : Nat) : State :=
  let n := neighbourOf p
  if p < 6 ∧ s.posAt n = pos ∧ chain = s.myChain ∧ !bitAt s.liveMap (pos - 1) = true then
    (if image = s.obj Obj.loadedId 0 then s.addSupply (n == .next) else s)
  else if s.myChain = 0 ∧ s.myPos = s.head then s.headJoin chain pos image
  else if s.fromHead p then s.sendRefusal chain pos image
  else s.sendVotePath (s.joinFrame chain pos image)

/-- A module outside L learns that a module at its position in another chain re-weaves, and begins too (R339). -/
def State.partnerJoins (s : State) (p chain pos : Nat) : State :=
  if 6 ≤ p ∧ pos = s.myPos ∧ chain ≠ s.myChain ∧ s.mode = stStandby ∧ !bitAt s.liveMap (pos - 1) = true ∧ s.link.reweaving = false ∧
      s.canWeave = true then s.beginWeave
  else s

/-- JOIN (R314, R339, R340, R342). A module that holds the image sends JOINs on before it runs, as the first membership after
LOAD is the full grid. -/
def execJoin (port : PortNo) (hdr : FrameHdr) (chain : BitVec 5) (position : BitVec 6) (imageId : W64) (s : State) : Result :=
  done (s.ifUp (fun s => s.accept port.val hdr tyCtrl (fun t =>
    let c := chain.toNat
    let p := position.toNat
    let id := imageId.toNat
    if c = t.myChain ∧ p = t.myPos then (if id = t.obj Obj.loadedId 0 then t else t.joinRefused)
    else if t.link.member || t.mode == stLoaded then t.memberJoin port.val c p id
    else t.partnerJoins port.val c p)))

/-! ## At the STEP boundary -/

/-- The losses learned after the decision applied by the grid head (R319). -/
def State.applyPendingLoss (s : State) : State :=
  match s.link.pendingLoss with
  | [] => s
  | ps =>
    let s := { s with link := { s.link with pendingLoss := [] } }
    s.newMembership (s.withLosses ps)

/-- A position may be admitted: every chain's module there has re-woven, and it stands beside L, of which no source of its copy has
just left (R319, R339, R342). `old` is L before the losses of this boundary. -/
def State.admissible (s : State) (old pos : Nat) : Bool :=
  !bitAt s.liveMap (pos - 1) &&
    (List.range s.gridC).all (fun c => s.link.rewoven.contains (c, pos)) &&
    !(sourcesOf s.gridP s.liveMap pos).isEmpty && (sourcesOf s.gridP old pos).all (fun q => bitAt s.liveMap (q - 1))

/-- The positions that have re-woven in the step just ended admitted by the grid head (R342). -/
def State.admitJoined (s : State) (old : Nat) : State :=
  let ps := (cyclicFrom s.gridP s.gridP 1).filter (s.admissible old)
  let s' := { s with link := { s.link with rewoven := [] } }
  if ps.isEmpty || !s.isGridHead then s'
  else s'.newMembership (ps.foldl (fun m p => setBit m (p - 1) true) s.liveMap)

/-- A module that was asked to leave does so: LEAVE, STANDBY; a divergent one goes on to re-weave in RECOVER, if it can (R316, R330,
R339, R438). -/
def State.leaveNow (s : State) : State :=
  let div := s.step.divergent
  let s := s.leaveGrid (if div then s.step.divergeSeq else 0)
  let s := { s with step := { s.step with leaveAsked := false } }
  if div then
    let s := s.setMode stRecover s.lastSeq
    if s.canWeave then s.beginWeave else s
  else s

end Sys2Proof.Machine
end

