-- ==== Sys2Proof/Machine/TimeBase.lean ====
section
/-! DEFINITION. Chain time (R332 to R338, R436): the time master and parents, TIME frames, marks, and the copy of
CHAIN_TIME in the bolt controllers. -/

namespace Sys2Proof.Machine

/-! ## Master and parent -/

/-- Values of TIME_STATE [3:0] (R343). -/
abbrev tsFree : Nat := 0
/-- LOCKING. -/
abbrev tsLocking : Nat := 1
/-- LOCKED. -/
abbrev tsLocked : Nat := 2
/-- HOLDOVER. -/
abbrev tsHoldover : Nat := 3
/-- MASTER. -/
abbrev tsMaster : Nat := 4

/-- The time master: TIME_MASTER while its position is in L, else the grid head (R332, R338). -/
def State.timeMaster (s : State) : Nat × Nat :=
  let p := s.field Obj.timeMaster 0 0 8
  if 0 < p ∧ bitAt s.liveMap (p - 1) then (s.field Obj.timeMaster 0 8 8, p) else (0, s.head)

/-- This module is the time master: named, outside any membership, or alone (R338). -/
def State.isTimeMaster (s : State) : Bool :=
  !s.link.member || s.alone || s.timeMaster == (s.myChain, s.myPos)

/-- Hops upwards and downwards between two numbers of a ring of n. -/
def ringHops (n a b : Nat) : Nat × Nat := ((b + n - a) % max 1 n, (a + n - b) % max 1 n)

/-- The neighbours one hop closer to the master, the preferred one first, and the hops along the chain (R332). -/
def State.chainWay (s : State) (pos : Nat) : List Neighbour × Nat :=
  if s.closed then
    let h := ringHops s.gridP s.myPos pos
    if h.1 < h.2 then ([.next, .prev], h.1) else ([.prev, .next], h.2)
  else
    let a := s.linePos s.myPos
    let b := s.linePos pos
    if a < b then ([.next], b - a) else ([.prev], a - b)

/-- The same along the column, port 6 on a tie. -/
def State.columnWay (s : State) (chain : Nat) : List Neighbour × Nat :=
  let h := ringHops s.gridC s.myChain chain
  if h.1 < h.2 then ([.columnHigh, .columnLow], h.1) else ([.columnLow, .columnHigh], h.2)

/-- The time parent's port and the hops to the master (R332). -/
def State.timeParent (s : State) : Option Nat × Nat :=
  let m := s.timeMaster
  let col := s.columnWay m.1
  if s.myPos = m.2 then (col.1.findSome? s.livePort, col.2)
  else
    let way := s.chainWay m.2
    (way.1.findSome? s.livePort, way.2 + (if m.1 = s.myChain then 0 else col.2))

/-- TIME_STATE's state field. -/
def State.timeState (s : State) : Nat := s.field Obj.timeState 0 0 4

/-- TIME_STATE set. -/
def State.setTimeState (s : State) (hops parent state : Nat) : State :=
  s.setObj Obj.timeState 0 (state + parent % 16 * 2 ^ 4 + min hops 255 * 2 ^ 8)

/-- The state of the time base as the membership and the ports stand (R332, R338): HOLDOVER with its fault when every path
to the master is lost; a new master goes on from its own counter. -/
def State.checkTime (s : State) : State :=
  let old := s.timeState
  if s.isTimeMaster then
    (if s.obj Obj.timeState 0 = tsMaster + 0xF0 then s
    else ({ s with time := { s.time with slew := 0 } }).setTimeState 0 15 tsMaster)
  else
    match s.timeParent with
    | (some p, h) =>
      let st := if old = tsLocked then tsLocked else tsLocking
      let s := s.setTimeState h p st
      if old = tsLocked ∨ old = tsLocking then s else { s with time := { s.time with good := 0 } }
    | (none, h) =>
      let s' := s.setTimeState h 15 tsHoldover
      if old = tsHoldover then s' else s'.fault 0xB434 0 0

/-! ## TIME frames -/

/-- The signed difference of two stamps. -/
def stampDiff (a b : W64) : Int := (a - b).toInt

/-- The own time in sixteenths of a grain, the counter's own and those since its latest grain, as a stamp (R333). -/
def State.stamp (s : State) (frac : Nat) : W64 := BitVec.ofNat 64 (s.time.now * 16 + s.time.frac + frac % 16)

/-- One-way delay and offset in sixteenths of a grain (R334). -/
def timeOffset (tA rA tB rB : W64) : Int × Int :=
  let d := Int.tdiv (stampDiff rB tA - stampDiff tB rA) 2
  (d, stampDiff rB (tB + BitVec.ofInt 64 d))

/-- An offset acted on before LOCKED: stepped forward or held still, whole grains (R334). -/
def State.stepTime (s : State) (offset : Int) : State :=
  let t := s.time
  if offset ≤ -16 then { s with time := { t with now := t.now + offset.natAbs / 16, good := 0 } }
  else if 16 ≤ offset then { s with time := { t with still := offset.natAbs / 16, good := 0 } }
  else { s with time := { t with good := t.good + 1 } }

/-- An offset measured against the parent (R334). -/
def State.takeOffset (s : State) (offset : Int) : State :=
  let s := s.setObj Obj.timeOffset 0 (unsigned 32 offset)
  if s.timeState = tsLocked then
    (if 1024 ≤ offset.natAbs then
      (({ s with time := { s.time with slew := 0, good := 0 } }).setField Obj.timeState 0 0 4 tsLocking).stepTime offset
    else { s with time := { s.time with slew := -offset } })
  else
    let s := s.stepTime offset
    if 16 ≤ s.time.good then s.setField Obj.timeState 0 0 4 tsLocked else s

/-- TIME_FRAME (R309, R333, R334): one that fails its CRC is dropped; the stamps of every other are kept for the next
frame sent, and those from the parent set the time. Echoes of 0 say that the peer has had no frame yet (DESIGN CHOICE,
log entry 36). -/
def execTimeFrame (port : PortNo) (crcOk : Bool) (tx echoTx echoRx : W64) (frac : BitVec 4) (s : State) : Result :=
  done (s.ifUp (fun s =>
    if !s.receives port.val then s
    else if !crcOk then s.bump Obj.linkCrcErrors port.val 1
    else
      let rB := s.stamp frac.toNat
      let q := s.port port.val
      let s := (s.setPort port.val { q with echoTx := tx, echoRx := rB }).checkTime
      if s.isTimeMaster || s.timeParent.1 != some port.val || (echoTx == 0 && echoRx == 0) then s
      else
        let r := timeOffset echoTx echoRx tx rB
        (s.setObj Obj.linkDelay port.val (unsigned 32 r.1)).takeOffset r.2))

/-- TIME_FRAME_SEND (R333): the stamps of a live port's next TIME frame. The sixteenths of a grain of TX are a free value
(log entry 36). -/
def execTimeFrameSend (port : PortNo) (s : State) : Result :=
  done (s.ifUp (fun s =>
    let s := s.checkTime
    if !s.receives port.val then s
    else
      let q := s.port port.val
      let body := (s.stamp (Config.freeNat s.free)).toNat + q.echoTx.toNat * 2 ^ 64 + q.echoRx.toNat * 2 ^ 128
      (s.drew 1).sendPlain port.val (s.frame tyTime 0 body 24)))

/-! ## Marks -/

/-- The whole second at or after a chain time. -/
def nextSecond (t : Nat) : Nat := ceilDiv t grainsPerSecond * grainsPerSecond

/-- The distance of a chain time from the nearest whole second, in grains. -/
def secondError (t : Nat) : Int :=
  let r := t % grainsPerSecond
  if 2 * r ≤ grainsPerSecond then (r : Int) else (r : Int) - (grainsPerSecond : Int)

/-- MARK_IN (R337, R498): an edge within 10 µs of the one before is ignored. A time master with TIME_SOURCE 2 steps to a
whole second at the first edge, and slews afterwards. -/
def execMarkIn (s : State) : Result :=
  done (s.ifUp (fun s =>
    let near := match s.pins.lastMark with
      | none => false
      | some t => decide (s.time.now < t + 2500)
    if near then s
    else
      let follow := s.isTimeMaster && s.obj Obj.timeSource 0 == 2
      let s :=
        if follow && !s.time.aligned then { s with time := { s.time with now := nextSecond s.time.now, aligned := true } }
        else if follow then { s with time := { s.time with slew := -16 * secondError s.time.now } }
        else s
      ({ s with pins := { s.pins with lastMark := some s.time.now } }).setObj Obj.markInTime 0 (s.time.now % 2 ^ 64)))

/-- MARK_OUT_PULSE (R336): a pulse of 100 µs begins at a whole second, or at the start of the UPDATE phase. -/
def execMarkOutPulse (s : State) : Result :=
  done (s.ifUp (fun s =>
    let mode := s.obj Obj.markOutMode 0
    let due := (mode == 1 && s.time.now % grainsPerSecond == 0) ||
      (mode == 2 && s.phase == 4 && s.time.now == s.step.commitTime)
    if due && s.mode != stBoot then { s with pins := { s.pins with markOut := true, markFall := s.time.now + 25000 } } else s))

/-- CHAIN_TIME_REFRESH (R436): the copy of CHAIN_TIME in each powered bolt controller. -/
def execChainTimeRefresh (s : State) : Result :=
  done (s.ifUp (fun s =>
    { s with bolts := (List.range 48).map (fun b =>
        let x := s.bolt b
        (b, if s.field Obj.boltState b 0 4 = 0 then { x with chainTimeCopy := BitVec.ofNat 64 s.time.now } else x)) }))

end Sys2Proof.Machine
end

