-- ==== Sys2Proof/Machine/LinkOps.lean ====
section
/-! DEFINITION. Link ports (R300, R301, R309 to R311, R495): training, HELLO, lanes, acknowledgement and cables. -/

namespace Sys2Proof.Machine

/-! ## Training -/

/-- Link training runs from READY on (R463, R469). -/
def State.linksTrain (s : State) : Bool := decide (stReady ≤ s.mode)

/-- A port the cabling of R300 leaves unconnected. -/
def State.unusedPort (s : State) (p : Nat) : Bool := if p < 6 then s.gridP ≤ 1 else s.gridC ≤ 1

/-- The lanes of a port that are not retired, as a map. -/
def State.goodLanes (s : State) (p : Nat) : Nat :=
  (List.range 4).foldl (fun m l => if s.faults.retired.any (sameUnit (unitId lvLane (8 * p + l))) then m else setBit m l true) 0

/-- A port starts from nothing: its sequence numbers, buffers and peer (DESIGN CHOICE, log entry 37). -/
def State.freshPort (s : State) (p : Nat) : State :=
  let q := s.port p
  s.setPort p { cable := q.cable }

/-- A port trains anew where it has a cable and the grid uses it. -/
def State.trainPort (s : State) (p : Nat) : State :=
  if s.portState p = lkRetired then s
  else
    let s := (s.freshPort p).setObj Obj.linkState p 0
    if s.unusedPort p then s.setPortState p lkUnused
    else if (s.port p).cable && s.linksTrain && s.goodLanes p != 0 then s.setPortState p lkTraining
    else s

/-- A chain object written with the value it holds: the ports that are not used for what their peer reported are tried again
(R301). -/
def State.retryMiswired (s : State) : State :=
  ((List.range 8).filter (fun p => s.portState p == lkMiswired)).foldl State.trainPort s |>.checkTime

/-- Every link port trains anew (R305). -/
def State.retrainAll (s : State) : State := ((List.range 8).foldl State.trainPort s).checkTime

/-- CTRL HELLO: chain, position, port, P and C, a byte each (DESIGN CHOICE, log entry 11). -/
def State.helloFrame (s : State) (p : Nat) : OutFrame :=
  s.ctrl 1 (packFields 8 [s.myChain, s.myPos, p, s.gridP, s.gridC]) 8

/-- PORT_TRAINED (R301): the port has trained on its lanes and sends HELLO. -/
def execPortTrained (port : PortNo) (s : State) : Result :=
  done (s.ifUp (fun s =>
    let p := port.val
    if s.portState p = lkTraining then
      let s := (s.setField Obj.linkState p 4 4 (s.goodLanes p)).setPortState p lkHello
      s.sendOn p (s.helloFrame p)
    else s))

/-- What the peer of a port must report: chain, position and port (R300). -/
def State.peerOf (s : State) (p : Nat) : Nat × Nat × Nat :=
  let n := s.peerAt (neighbourOf p)
  (n.1, n.2, if p < 3 then p + 3 else if p < 6 then p - 3 else if p = 6 then 7 else 6)

/-- A HELLO taken: the port is up, or not used (R301). -/
def State.takeHello (s : State) (p chain pos peerPort P C : Nat) : State :=
  let s := s.setObj Obj.linkState p
    (s.obj Obj.linkState p % 2 ^ 8 + peerPort % 8 * 2 ^ 18 + pos % 64 * 2 ^ 21 + chain % 32 * 2 ^ 27)
  if P ≠ s.gridP ∨ C ≠ s.gridC then (s.setPortState p lkMiswired).fault 0x8604 p 0
  else if s.unusedPort p ∨ (chain, pos, peerPort) ≠ s.peerOf p then (s.setPortState p lkMiswired).fault 0x8603 p 0
  else (s.setPortState p lkUp).pump p

/-- HELLO (R301). -/
def execHello (port : PortNo) (hdr : FrameHdr) (chain : BitVec 5) (position : BitVec 6) (peerPort : BitVec 3)
    (positions chains : BitVec 6) (s : State) : Result :=
  done (s.ifUp (fun s => s.accept port.val hdr tyCtrl (fun t =>
    (t.takeHello port.val chain.toNat position.toNat peerPort.toNat positions.toNat chains.toNat).checkTime)))

/-! ## Acknowledgement -/

/-- IDLE (R309, R310): unsequenced; its header brings acknowledgements, credits and NAK. -/
def execIdle (port : PortNo) (hdr : FrameHdr) (s : State) : Result :=
  done (s.ifUp (fun s => if s.receives port.val then s.takeHeader port.val hdr else s))

/-- LINK_ACK_TIMEOUT (R309): every outstanding frame is sent again. -/
def execLinkAckTimeout (port : PortNo) (s : State) : Result :=
  done (s.ifUp (fun s => if s.receives port.val then s.replay port.val else s))

/-- FRAME_DISCARDED (R308, R309): counted where the CRC or the TYPE is bad, and NAK goes out in the next header. -/
def execFrameDiscarded (port : PortNo) (reason : DiscardReason) (s : State) : Result :=
  done (s.ifUp (fun s =>
    if !s.receives port.val then s
    else
      let s := if reason = .sequence then s else s.bump Obj.linkCrcErrors port.val 1
      s.setPort port.val { s.port port.val with nakNext := true }))

/-! ## Lanes -/

/-- The header of a frame that the command names without one: next in sequence, acknowledging and returning nothing (DESIGN
CHOICE, log entry 57). -/
def State.plainHdr (s : State) (p : Nat) : FrameHdr :=
  let q := s.port p
  let peer := s.obj Obj.linkState p
  { poison := false, nak := false, txseq := q.rxNext, ackseq := ((q.unacked.head?).map (·.1)).getD q.txNext, ccred := 0, bcred := 0
    srcPos := BitVec.ofNat 6 (bits peer 21 6), srcChain := BitVec.ofNat 5 (bits peer 27 5), srcPort := BitVec.ofNat 3 (bits peer 18 3)
    step := BitVec.ofNat 48 s.stepCount, mepoch := BitVec.ofNat 16 s.epoch }

/-- LANE_RETIRE (R308, R309, R311): a sequenced frame in which the peer retires a lane; this end agrees and retrains on the
remaining lanes. -/
def execLaneRetire (port : PortNo) (lane : Fin 4) (s : State) : Result :=
  done (s.ifUp (fun s => s.accept port.val (s.plainHdr port.val) tyCtrl (fun t => (t.retireLane port.val lane.val false).checkTime)))

/-- LANE_FEC_WINDOW (R311, R343): a window over the limit is one occurrence of the lane. The codewords are those corrected and not
correctable since the lane's window before that was over the limit, the windows between them included (log entry 57). -/
def execLaneFecWindow (port : PortNo) (lane : Fin 4) (corrected uncorrectable : Nat) (s : State) : Result :=
  done (s.ifUp (fun s =>
    let s := (s.bump Obj.linkFecCorrected port.val corrected).bump Obj.linkFecUncorr port.val uncorrectable
    s.occurrence (unitId lvLane (8 * port.val + lane.val))))

/-- LANE_LOSS_OF_LOCK (R311, R349): the lane is retired at once. -/
def execLaneLossOfLock (port : PortNo) (lane : Fin 4) (s : State) : Result :=
  done (s.ifUp (fun s => (s.retireLane port.val lane.val true).checkTime))

/-- LANE_RETRAIN_DONE (R301, R311, R374): the port is up again, says HELLO, and sends its unacknowledged frames again. -/
def execLaneRetrainDone (port : PortNo) (s : State) : Result :=
  done (s.ifUp (fun s =>
    let p := port.val
    if s.portState p ≠ lkRetraining then s
    else
      let q := s.port p
      let start := q.leftUp.getD s.time.now
      let root := s.rootSeq (unitId lvLane (8 * p + nth q.retiring 0 0))
      let q1 := s.putOnLine p q.unacked { q with leftUp := none, retiring := [] }
      let s := ((s.setPort p q1).setPortState p lkUp).bump Obj.linkFramesTx p q.unacked.length
      let s := s.recovered 1 start root
      (s.sendOn p (s.helloFrame p)).checkTime))

/-! ## Cables -/

/-- LINK_CABLE_CONNECT (R495): the port trains. -/
def execLinkCableConnect (port : PortNo) (s : State) : Result :=
  let q := s.port port.val
  let s := s.setPort port.val { q with cable := true }
  done (s.ifUp (fun s => if q.cable then s else s.trainPort port.val))

/-- LINK_CABLE_REMOVE (R495): the port is lost. -/
def execLinkCableRemove (port : PortNo) (s : State) : Result :=
  let q := s.port port.val
  let s := s.setPort port.val { q with cable := false }
  done (s.ifUp (fun s =>
    let p := port.val
    if s.portState p = lkRetired ∨ s.portState p = lkUnused then s else ((s.setObj Obj.linkState p 0)).checkTime))

end Sys2Proof.Machine
end

