-- ==== Sys2Proof/Machine/Control.lean ====
section
/-! DEFINITION. The control class (R76, R77, R84, R136). -/

namespace Sys2Proof.Machine

/-- A jump or branch target inside the code region and inside the innermost active loop body (R86, cause
0x26). -/
def Spindle.targetOk (x : Spindle) (t : Int) : Bool :=
  decide (0 ≤ t ∧ t < 4 * x.codeLines) &&
    match x.loops.getLast? with
    | none => true
    | some f => decide ((f.first : Int) ≤ t ∧ t ≤ f.last)

/-- NOP (R77). -/
def execNop (p : Site) (s : State) : Result := done (s.runAt p id)

/-- The spindle halts (R77). -/
def State.haltAt (s : State) (p : Site) : State := s.setSpindle p { s.spindle p with halted := true }

/-- HALT (R77): the program ends; the spindle idles until its bolt controller restarts it. -/
def execHalt (p : Site) (s : State) : Result :=
  done (if s.issues p then (s.issued p).haltAt p else s)

/-- Program order has passed the last instruction of the code region (R76). -/
def State.pastCode (s : State) (p : Site) : Bool :=
  let x := s.spindle p
  s.up && s.prog.loaded && !s.isAbsent p.row && !s.isHeld p && !x.halted && x.atDoff.isNone &&
    decide (4 * x.codeLines ≤ x.pc)

/-- CODE_REGION_END (R76): the spindle halts as at HALT, with no fault. -/
def execCodeRegionEnd (p : Site) (s : State) : Result :=
  done (if s.pastCode p then s.haltAt p else s)

/-- A loop entered: its frame pushed inside the active ones. -/
def State.enterLoop (s : State) (p : Site) (count body : Nat) : State :=
  let x := s.spindle p
  s.setSpindle p { x with
    pc := x.pc + 1, loops := x.loops ++ [{ first := x.pc + 1, last := x.pc + body, count := count, iter := 0 }] }

/-- The body lies inside the code region and inside the enclosing body, and at most three loops are active
(R86, cause 0x26). -/
def Spindle.loopOk (x : Spindle) (body : Nat) : Bool :=
  decide (x.loops.length < 4) && decide (x.pc + body < 4 * x.codeLines) &&
    match x.loops.getLast? with
    | none => true
    | some f => decide (x.pc + body ≤ f.last)

/-- LOOP (R84): COUNT 0 skips the body, BODY 0 is a no-op. -/
def execLoop (p : Site) (count : BitVec 20) (body : BitVec 16) (s : State) : Result :=
  if !s.issues p then done s
  else if body = 0 then done (s.runAt p id)
  else if !(s.spindle p).loopOk body.toNat then .refused (.loaderRefuses 0x26)
  else if count = 0 then
    let t := s.issued p
    done (t.setSpindle p ((t.spindle p).goto ((t.spindle p).pc + body.toNat + 1)))
  else done ((s.issued p).enterLoop p count.toNat body.toNat)

/-- JUMP (R84): OFFSET instructions from this one. -/
def execJump (p : Site) (offset : BitVec 20) (s : State) : Result :=
  if !s.issues p then done s
  else
    let x := s.spindle p
    let t : Int := x.pc + offset.toInt
    if !x.targetOk t then .refused (.loaderRefuses 0x26)
    else
      let s := s.issued p
      done (s.setSpindle p { s.spindle p with pc := t.toNat })

/-- The decision word of SEQ in a bolt's decision table, where the entry carries that tag (R136). -/
def Bolt.decision (b : Bolt) (seq : W16) : Option W32 :=
  match tget b.decTable (seq.toNat % 64) with
  | some (tag, w) => if tag = seq then some w else none
  | none => none

/-- BRANCH_G (R136): waits for the entry's tag, then branches by OFFSET if the bit is 1. -/
def execBranchG (p : Site) (seq : W16) (bit : BitVec 5) (offset : BitVec 20) (s : State) : Result :=
  if !s.issues p then done s
  else
    let x := s.spindle p
    let t : Int := x.pc + offset.toInt
    if !x.targetOk t then .refused (.loaderRefuses 0x26)
    else
      match (s.bolt (boltOf p.x.val p.y.val)).decision seq with
      | none => done s
      | some w =>
        let s := s.issued p
        if w.getLsbD bit.toNat then done (s.setSpindle p { s.spindle p with pc := t.toNat })
        else done (s.advance p)

/-- DRAIN (R77): waits until every engine of the spindle is idle. -/
def execDrain (p : Site) (s : State) : Result :=
  done (if s.enginesIdle p then
    s.runAt p (fun t => t.setSpindle p (t.spindle p).quiet) else s)

end Sys2Proof.Machine
end

