-- ==== Sys2Proof/Machine/Reduce.lean ====
section
/-! DEFINITION. The reduce class and the routers' combination (R157 to R163). -/

namespace Sys2Proof.Machine

/-! ## Instructions of the transfer engine -/

/-- Fields of RDECL that the loader refuses (R86, R159). -/
def rdeclBad (p : Site) (out : BitVec 3) : Option Nat :=
  if 5 ≤ out.toNat then some 0x25
  else if out = 4 then none
  else if (meshNext p out.toNat).isNone && (edgePort p out.toNat).isNone then some 0x2D
  else none

/-- RIDs of the RDECLs in the transfer engine's queue. -/
def Spindle.declaring (x : Spindle) : List Nat :=
  x.xq.filterMap (fun o => match o with
    | .rdecl d => some d.rid
    | _ => none)

/-- An RDECL may issue: fewer than sixteen declarations are active or about to be, and its RID is not one of them (R157). -/
def Spindle.mayDeclare (x : Spindle) (rid : Nat) : Bool :=
  decide (x.router.decls.length + x.declaring.length < 16) && (x.router.decl rid).isNone && !x.declaring.contains rid

/-- RDECL (R157): waits at issue while sixteen are active or the RID is. -/
def execRdecl (p : Site) (rid : W16) (inputs : BitVec 5) (out : BitVec 3) (twin : Bool) (length : BitVec 18) (s : State) :
    Result :=
  match rdeclBad p out with
  | some c => .refused (.loaderRefuses c)
  | none =>
    if length = 0 ∨ inputs = 0 then done (s.runXfer p [] id)
    else if !(s.spindle p).mayDeclare rid.toNat then done s
    else
      done (s.runXfer p [] (fun t =>
        t.enqueue p (.rdecl { rid := rid.toNat, inputs, out := out.toNat, twin, lines := length.toNat })))

/-- RSEND (R160): waits at issue until its RID is active at its router. -/
def execRsend (p : Site) (rid : W16) (sr : BitVec 36) (length : BitVec 18) (ecc : EccResult) (s : State) : Result :=
  if (sref sr).reserved then .refused (.loaderRefuses 0x25)
  else if length = 0 then done (s.runXfer p [] id)
  else if ((s.spindle p).router.decl rid.toNat).isNone then done s
  else
    done (s.runXfer p [] (fun t =>
      match (t.spindle p).extent (sref sr) length.toNat with
      | .bad c => t.reject p c []
      | .ok l =>
        t.enqueue p (.rsend { rid := rid.toNat, line := l, length := length.toNat, handle := t.refHandle p (sref sr), ecc })))

/-- RRECV (R160). -/
def execRrecv (p : Site) (rid : W16) (sr : BitVec 36) (length : BitVec 18) (s : State) : Result :=
  if (sref sr).reserved then .refused (.loaderRefuses 0x25)
  else
    done (s.runXfer p [] (fun t =>
      if length = 0 then t
      else match (t.spindle p).extent (sref sr) length.toNat with
        | .bad c => t.reject p c []
        | .ok l =>
          t.enqueue p (.rrecv { rid := rid.toNat, line := l, length := length.toNat, handle := t.refHandle p (sref sr) })))

/-! ## Combination -/

/-- Words as pairs (s, c). -/
def toPairs : List W32 → List Pair
  | s :: c :: r => ⟨s, c⟩ :: toPairs r
  | _ => []

/-- Pairs as words. -/
def fromPairs (ps : List Pair) : List W32 := ps.flatMap (fun q => [q.s, q.c])

/-- Two inputs combined: one binary32 addition an element, or the pair rule (R158). -/
def combine2 (twin : Bool) (a b : List W32) : List W32 :=
  if twin then fromPairs (List.zipWith Pair.addPair (toPairs a) (toPairs b)) else List.zipWith add32 a b

/-- The flits of one index combined in the order west, north, east, south, local (R158). -/
def combineAll (twin : Bool) : List Flit → Flit
  | [] => {}
  | f :: fs =>
    { words := fs.foldl (fun a g => combine2 twin a g.words) f.words
      poison := f.poison || fs.any (·.poison) }

/-- The inputs a declaration lists, in order. -/
def Decl.listed (d : Decl) : List Nat := (List.range 5).filter d.takes

/-- The next flit of every listed input; none where one still misses its own. -/
def Decl.heads (d : Decl) : Option (List Flit) :=
  let hs := d.listed.map (fun i => (nth d.inq i []).head?)
  if hs.all (·.isSome) then some (hs.filterMap id) else none

/-- The declaration after one combination. -/
def Decl.pop (d : Decl) : Decl :=
  { d with sent := d.sent + 1, late := false, inq := d.inq.mapIdx (fun i q => if d.takes i then q.drop 1 else q) }

/-- A result flit that leaves by an edge port (R159). -/
def State.toEdge (s : State) (port rid : Nat) (f : Flit) (twin last : Bool) : State :=
  let q := (tget s.fabric.edge port).getD []
  { s with fabric := { s.fabric with edge := tput s.fabric.edge port (q ++ [{ rid, flit := f, twin, last }]) } }

/-- An RRECV whose last line has come: its lines written, and the instruction done (R74, R160). -/
def State.completeRrecv (s : State) (p : Site) (o : RrecvOp) : State :=
  ((s.popXfer p.row).sawPoison p (o.got.any (·.poison))).putMessage p o.line o.got o.undef

/-- A local result flit taken by the RRECV of its RID at the head of the engine's queue. It leaves its declaration only then,
so a result that no RRECV takes waits there, and the declaration stays active (R157, R160; DEDUCED, log entry 44). -/
def State.takeResult (s : State) (p : Site) (rid : Nat) (f : Flit) : Option State :=
  match (s.spindle p).xq.head? with
  | some (.rrecv o) =>
    if o.rid == rid && s.engineFree p.row then
      let o := { o with got := (o.got ++ f.lines).take o.length }
      some (if o.length ≤ o.got.length then s.completeRrecv p o else s.setHead p.row (.rrecv o))
    else none
  | _ => none

/-- A result flit as it stands in a skid buffer of the next router (R143). -/
def Decl.netFlit (d : Decl) (n born : Nat) (f : Flit) (last : Bool) : NetFlit :=
  { sb := { vc := 1, kind := 2, dx := n % 128, dy := n / 128, tag := d.rid, first := d.sent == 0, last, poison := f.poison
            twin := d.twin, seq := d.sent % 4096, budget := 0 }
    words := f.words, id := 0, shape := 0, born, late := true }

/-- A result flit given to the next router; a frozen one takes it into the skid buffer of the input, as long as it will have
a place for it (R161, R212). -/
def State.giveResult (s : State) (row port : Nat) (d : Decl) (f : Flit) (last : Bool) : Option State :=
  let r := (s.at row).router
  if s.heldAt row then
    (r.unskid.arrive d.rid port f).map (fun _ =>
      let r := r.take true port (d.netFlit row s.fabric.cycles f last)
      (s.setRouterAt row r).setObj Obj.skidPeak 0 (max (s.obj Obj.skidPeak 0) (getList r.skid port).length))
  else (r.arrive d.rid port f).map (s.setRouterAt row)

/-- Where the result flit of a declaration goes; none while it has no room there (R159). -/
def State.forwardResult (s : State) (p : Site) (d : Decl) (f : Flit) (last : Bool) : Option State :=
  if d.out = 4 then s.takeResult p d.rid f
  else
    match meshNext p d.out with
    | some row => s.giveResult row (opposite d.out) d f last
    | none =>
      match edgePort p d.out with
      | none => none
      | some port => (s.passPort port 1 1 last [1]).map (fun t => t.toEdge port d.rid f d.twin last)

/-- A router of a site replaced. -/
def State.setRouter (s : State) (p : Site) (r : Router) : State :=
  let x := s.spindle p
  s.setSpindle p { x with router := r }

/-- The declaration replaced after its combination; retired when its last result flit has left (R157). -/
def State.stepDecl (s : State) (p : Site) (d : Decl) : State :=
  let r := (s.spindle p).router
  let d' := d.pop
  let ds := if d'.flits ≤ d'.sent then r.decls.filter (fun e => e.rid != d.rid)
    else r.decls.map (fun e => if e.rid = d.rid then d' else e)
  s.setRouter p { r with decls := ds }

/-- REDUCTION_COMBINE (R158, R159): flit n of every listed input combined and sent on, after which the engines and the fabric
go on; a held router forwards nothing (R210). The cycles a flit waited are timing (log entry 4). -/
def execReductionCombine (p : Site) (rid : W16) (s : State) : Result :=
  done (s.ifUp (fun t =>
    match if t.isHeld p then none else (t.spindle p).router.decl rid.toNat with
    | none => t
    | some d => match d.heads with
      | none => t
      | some fs =>
        let last := decide (d.flits ≤ d.sent + 1)
        match (t.stepDecl p d).forwardResult p d (combineAll d.twin fs) last with
        | none => t
        | some u => (u.bumpFree Obj.reductionWait 0).flow))

end Sys2Proof.Machine
end

