-- ==== Sys2Proof/Machine/Shuttle.lean ====
section
/-! DEFINITION. The shuttle class: handles, slots and queues (R166 to R170). -/

namespace Sys2Proof.Machine

/-- A handle formed (R166). -/
def mkHandle (buf : Nat) (gen : BitVec 4) (length : Nat) : W32 :=
  BitVec.ofNat 32 (buf % 256 + gen.toNat * 2 ^ 8 + length % 2 ^ 18 * 2 ^ 12)

/-- No issued, unfinished instruction names the buffer (R168). -/
def State.bufferFree (s : State) (p : Site) (buf : Nat) : Bool :=
  (s.handlesInUse p).all (fun h => handleBuf h != buf)

/-- A handle slot set or made invalid. -/
def State.setSlot (s : State) (p : Site) (k : Nat) (v : Slot) : State :=
  let x := s.spindle p
  s.setSpindle p { x with slots := setNth x.slots k v }

/-- QMAKE (R167): LENGTH 0 is a no-op; a LENGTH above the buffer's size is rejected. -/
def execQmake (p : Site) (slot : BitVec 3) (buf : Byte) (length : BitVec 18) (s : State) : Result :=
  done (s.runAt p (fun t =>
    let b := (t.spindle p).buf buf.toNat
    if length = 0 then t
    else if b.size < length.toNat then t.reject p .extent []
    else t.setSlot p slot.toNat { handle := mkHandle buf.toNat b.gen length.toNat, valid := true }))

/-- QPUT (R167 to R170): waits for the buffer's users and for a place in the queue. -/
def execQput (p : Site) (queue slot : BitVec 3) (s : State) : Result :=
  let x := s.spindle p
  let h := (x.slot slot.toNat).handle
  done (if !x.slotLive slot.toNat then s.runAt p (fun t => t.reject p .handleGen [])
    else if !s.bufferFree p (handleBuf h) then s
    else if 16 ≤ (nth x.queues queue.toNat []).length then s
    else s.runAt p (fun t =>
      let y := t.spindle p
      t.setSpindle p { y with queues := setNth y.queues queue.toNat (nth y.queues queue.toNat [] ++ [h]) }))

/-- QGET (R167, R169): waits while the queue is empty; a place freed lets a waiting handle in, and its engine go on. -/
def execQget (p : Site) (queue slot : BitVec 3) (s : State) : Result :=
  match nth (s.spindle p).queues queue.toNat [] with
  | [] => done s
  | h :: r =>
    done (s.runAt p (fun t =>
      let y := t.spindle p
      (t.setSpindle p
        { y with
          queues := setNth y.queues queue.toNat r
          slots := setNth y.slots slot.toNat { handle := h, valid := true } }.settle).flow))

/-- The streams of a spindle that hold the buffer give it back to their pools, each release reported to its
stream engine by a flit on VC0 (R182; log entry 41). -/
def State.releasePool (s : State) (p : Site) (buf : Nat) : State :=
  let x := s.spindle p
  let hit := x.streams.filter (fun e => e.busy.contains buf)
  let s := s.setSpindle p { x with streams := x.streams.map (fun e => { e with busy := e.busy.erase buf }) }
  hit.foldl (fun t e =>
    match tget t.streams.engines e.stream with
    | none => t
    | some g =>
      let g := { g with releases := tput g.releases p.row ((tget g.releases p.row).getD 0 + 1) }
      ({ t with streams := { t.streams with engines := tput t.streams.engines e.stream g } }).bump Obj.fabricFlits 0 1) s

/-- QREL's effect (R167). -/
def State.releaseBuffer (s : State) (p : Site) (k buf : Nat) : State :=
  let x := s.spindle p
  let b := x.buf buf
  let s := s.setSpindle p { x with bufs := tput x.bufs buf { b with gen := b.gen + 1 } }
  let sl := x.slot k
  (s.setSlot p k { sl with valid := false }).releasePool p buf

/-- QREL (R167, R168, R170). -/
def execQrel (p : Site) (slot : BitVec 3) (s : State) : Result :=
  let x := s.spindle p
  let buf := handleBuf (x.slot slot.toNat).handle
  done (if !x.slotLive slot.toNat then s.runAt p (fun t => t.reject p .handleGen [])
    else if !s.bufferFree p buf then s
    else s.runAt p (fun t => (t.releaseBuffer p slot.toNat buf).flow))

end Sys2Proof.Machine
end

