-- ==== Sys2Proof/Machine/Stream.lean ====
section
/-! DEFINITION. Weight streaming and run-ahead (R179 to R207): the stream table, descriptors, the stream
engines, leas and their arrival, decisions and mask reports. -/

namespace Sys2Proof.Machine

/-! ## The stream table -/

/-- A stream-table entry (R179). -/
structure StreamRow where
  port : Nat
  shape : Nat
  pred : Nat
  mrid : Nat
  dbase : Nat
deriving DecidableEq, Repr

/-- A 128-bit entry. -/
def streamRow (w : Nat) : StreamRow where
  port := bits w 119 9
  shape := bits w 107 12
  pred := bits w 105 2
  mrid := bits w 89 16
  dbase := bits w 24 40

/-- The entry of a stream id; none for an empty or reserved id. -/
def State.streamRow? (s : State) (id : Nat) : Option StreamRow := (tget s.prog.streams id).map (fun w => streamRow w.toNat)

/-- The Dudin die that runs a stream (R180). -/
def StreamRow.die (r : StreamRow) : Nat := stackOfPort r.port

/-- The streams of a die that run and have not sent END, each with its engine. -/
def State.running (s : State) (die : Nat) : List (Nat × StreamEng) :=
  s.streams.engines.filter (fun e => e.2.running && !e.2.ended &&
    ((s.streamRow? e.1).map (fun r => r.die == die)).getD false)

/-! ## Opening and closing at a spindle -/

/-- Fields of SOPEN that the loader refuses (R179). -/
def State.sopenBad (s : State) (p : Site) (id first count : Nat) : Bool :=
  match s.streamRow? id with
  | none => true
  | some r => !(s.shape r.shape).covers p || decide (256 < first + count)

/-- SOPEN (R181). -/
def execSopen (p : Site) (stream : W16) (queue : BitVec 3) (bufFirst bufCount : Byte) (s : State) : Result :=
  if s.sopenBad p stream.toNat bufFirst.toNat bufCount.toNat then .refused (.loaderRefuses 0x31)
  else
    done (s.runXfer p [] (fun t =>
      if bufCount = 0 then t
      else t.enqueue p (.sopen stream.toNat queue.toNat bufFirst.toNat bufCount.toNat)))

/-- SCLOSE (R184): waits at issue for the END lea. -/
def execSclose (p : Site) (stream : W16) (s : State) : Result :=
  if (s.streamRow? stream.toNat).isNone then .refused (.loaderRefuses 0x31)
  else
    match (s.spindle p).stream? stream.toNat with
    | none => done s
    | some e => done (if e.ended then s.runXfer p [] (fun t => t.enqueue p (.sclose stream.toNat)) else s)

/-! ## Descriptors -/

/-- A descriptor (R189). A BRANCH reads its fields from LAYER and TENSOR. -/
structure Desc where
  dkind : Nat
  stream : Nat
  format : Nat
  sfmt : Nat
  maskmode : Nat
  orient : Bool
  merge : Bool
  layer : Nat
  tensor : Nat
  brow : Nat
  bcol : Nat
  src : Nat
  lines : Nat
  group : Nat
  srclines : Nat
deriving DecidableEq, Repr

/-- A 256-bit descriptor. -/
def descOf (w : Nat) : Desc where
  dkind := bits w 252 4
  stream := bits w 236 16
  format := bits w 232 4
  sfmt := bits w 228 4
  maskmode := bits w 226 2
  orient := bitAt w 225
  merge := bitAt w 224
  layer := bits w 208 16
  tensor := bits w 176 32
  brow := bits w 160 16
  bcol := bits w 144 16
  src := bits w 104 40
  lines := bits w 93 11
  group := bits w 77 16
  srclines := bits w 61 16

/-- BIT of a BRANCH. -/
def Desc.bit (d : Desc) : Nat := bits d.tensor 27 5
/-- PREDICT of a BRANCH. -/
def Desc.predict (d : Desc) : Bool := bitAt d.tensor 26
/-- OFFSET of a BRANCH. -/
def Desc.offset (d : Desc) : Int := signed 18 (bits d.tensor 8 18)

/-- The descriptor at a byte address of a stack. -/
def State.desc (s : State) (stack a : Nat) : Desc := descOf (memNat s.fast (stack * 2 ^ 36 + a % 2 ^ 36) 32)

/-- The descriptor k descriptors away. -/
def descAt (a : Nat) (k : Int) : Nat := unsigned 36 ((a : Int) + 32 * k)

/-- Lines of a hank in a format, element and scale lines (R71, R186). -/
def deliveredLines (f : Nat) : Nat := hankLines f + scaleLines f

/-- The hank check of a dense descriptor fails (R193). -/
def Desc.misshaped (d : Desc) : Bool :=
  d.maskmode == 0 &&
    (!fmtOk d.sfmt || !fmtOk d.format || d.srclines % hankLines d.sfmt != 0 ||
      d.lines != d.srclines / hankLines d.sfmt * deliveredLines d.format)

/-- The first check of R193 that a FETCH-kind descriptor fails. -/
def State.descFault (s : State) (stack limit : Nat) (d : Desc) : Option Nat :=
  if !inRegion (region (s.obj Obj.tierLayout stack) 1) d.src (64 * d.srclines) && d.srclines != 0 then some 0x4502
  else if limit < 1 + d.lines then some 0x4501
  else if d.misshaped then some 0x4504
  else none

/-- Two descriptors agree as merging asks (R192). -/
def Desc.agrees (d e : Desc) : Bool :=
  d.dkind == 0 && e.dkind == 0 && d.merge && e.merge && d.stream == e.stream && d.layer == e.layer &&
    d.tensor == e.tensor && d.format == e.format && d.sfmt == e.sfmt && d.maskmode == e.maskmode && d.orient == e.orient

/-- The descriptors merged after one that stands at an address, with the payload lines so far (R192). -/
def State.mergeAfter (s : State) (stack limit : Nat) : Nat → Desc → Nat → Nat → List Desc
  | 0, _, _, _ => []
  | fuel + 1, d, a, total =>
    let e := s.desc stack (a + 32)
    if d.agrees e && e.src == d.src + 64 * d.srclines && decide (total + e.lines ≤ min 1024 (limit - 1)) &&
        (s.descFault stack limit e).isNone then
      e :: s.mergeAfter stack limit fuel e (a + 32) (total + e.lines)
    else []

/-- The descriptors of the lea that begins with one at an address, itself first; at most 1,024 (R185, R192). -/
def State.leaDescs (s : State) (stack limit : Nat) (d : Desc) (a : Nat) : List Desc :=
  if d.dkind = 0 ∧ (s.descFault stack limit d).isNone then d :: s.mergeAfter stack limit 1023 d a d.lines else [d]

/-- Payload lines of a lea's descriptors together. -/
def totalLines (ds : List Desc) : Nat := (ds.map (·.lines)).foldl (· + ·) 0

/-! ## Starting -/

/-- The largest payload of any lea of a descriptor list: the leas that start at the addresses to visit, and
all that follow them by order or BRANCH (R195). -/
def State.maxPayload (s : State) (stack id limit : Nat) : Nat → List Nat → List Nat → Nat → Nat
  | 0, _, _, m => m
  | _, [], _, m => m
  | fuel + 1, a :: todo, seen, m =>
    if seen.contains a then s.maxPayload stack id limit fuel todo seen m
    else
      let d := s.desc stack a
      if 4 ≤ d.dkind ∨ d.stream ≠ id then s.maxPayload stack id limit fuel todo (a :: seen) m
      else if d.dkind = 3 then
        s.maxPayload stack id limit fuel (descAt a 1 :: descAt a d.offset :: todo) (a :: seen) m
      else
        let ds := s.leaDescs stack limit d a
        let n := if (s.descFault stack limit d).isSome then 0 else totalLines ds
        s.maxPayload stack id limit fuel (descAt a ds.length :: todo) (a :: seen) (max m n)

/-- Descriptors the DESC region of a stack can hold; each is visited at most once more than it is named. -/
def State.descCount (s : State) (stack : Nat) : Nat :=
  let r := region (s.obj Obj.tierLayout stack) 0
  4 * 128 * (r.2 - r.1) + 4

/-- PAD (R195). -/
def padCycles (depth lmax : Nat) : Nat := min 8192 ((depth - 1) * (1 + ceilDiv lmax 2))

/-- A stream started: depth and buffer limit from the reports, credits, padding, reading from DBASE (R181,
R182, R195). -/
def State.startStream (s : State) (id : Nat) (r : StreamRow) (g : StreamEng) : State :=
  let depth := g.opened.foldl (fun m o => min m o.2.1) 256
  let limit := g.opened.foldl (fun m o => min m o.2.2) (2 ^ 18)
  let lmax := s.maxPayload r.die id limit (s.descCount r.die) [r.dbase] [] 0
  s.setEngine id { g with
    running := true, depth := depth, bufLimit := limit, credits := depth, pad := padCycles depth lmax
    dptr := r.dbase, stopped := false, seq := 0, leas := [], leaving := 0, epochs := [], releases := [] }

/-- STREAM_START (R181, R191): every destination has reported and fewer than 64 streams run on the die. -/
def execStreamStart (stream : W16) (s : State) : Result :=
  done (s.ifUp (fun s =>
    match s.streamRow? stream.toNat, tget s.streams.engines stream.toNat with
    | some r, some g =>
      if g.running || g.ended then s
      else if !((s.shape r.shape).dests.all (fun d => g.opened.any (fun o => o.1 == d))) then s
      else if 64 ≤ (s.running r.die).length then s
      else s.startStream stream.toNat r g
    | _, _ => s))

/-! ## Reports and predictions -/

/-- A group is active in a report: beyond its elements, poisoned, or non-zero, a NaN included (R203). -/
def MaskRep.active (m : MaskRep) (g : Nat) : Bool :=
  m.poison || decide (m.values.length ≤ g) || (nth m.values g 0).toNat % 2 ^ 31 != 0

/-- The latest report under a stream's MRID. -/
def State.latest (s : State) (r : StreamRow) : Option MaskRep := tget s.streams.reports (65536 * r.port + r.mrid)

/-- The report that selects a stream's groups, once it is known (R198, R206). -/
def State.selection (s : State) (r : StreamRow) (g : StreamEng) : Option MaskRep :=
  if r.pred = 3 then s.latest r else g.passReport

/-- The predictor (R206): every group active without a report. -/
def State.predicts (s : State) (r : StreamRow) (group : Nat) : Bool := ((s.latest r).map (·.active group)).getD true

/-- A new epoch of a die: its number, 1 to 255 in turn. -/
def State.nextEpoch (s : State) (die : Nat) : Nat := ((tget s.streams.lastEpoch die).getD 0) % 255 + 1

/-- An epoch opened by a stream (R199). -/
def State.openEpoch (s : State) (die : Nat) (g : StreamEng) (branch : Option (W16 × Nat × Bool × Nat)) : State × StreamEng :=
  let n := s.nextEpoch die
  ({ s with streams := { s.streams with lastEpoch := tput s.streams.lastEpoch die n } },
   { g with epochs := g.epochs ++ [{ number := n, branch }] })

/-- The newest unresolved epoch; 0 when there is none. -/
def StreamEng.newest (g : StreamEng) : Nat := ((g.epochs.getLast?).map (·.number)).getD 0

/-! ## Reading descriptors -/

/-- Descriptors a lea keeps in flight (R191): an END lea that follows a rejected descriptor has none of its own. -/
def Lea.descs (l : Lea) : Nat := if l.kind = .fin then l.parts.length else max 1 l.parts.length

/-- Flits of a stream that wait to enter the mesh by its port. -/
def State.entering (s : State) (id port : Nat) : Nat :=
  ((getList s.fabric.portIn (4 * port + 2)).filter (fun f => f.sb.tag == id)).length

/-- Descriptors a stream keeps in flight: those of its leas, and of a lea not yet injected in full (R191). -/
def State.flightOf (s : State) (id port : Nat) (g : StreamEng) : Nat :=
  (g.leas.map Lea.descs).sum + if s.entering id port = 0 then 0 else g.leaving

/-- Descriptors of a die in flight. -/
def State.inFlight (s : State) (die : Nat) : Nat :=
  (s.streams.engines.map (fun e =>
    match s.streamRow? e.1 with
    | some r => if r.die = die then s.flightOf e.1 r.port e.2 else 0
    | none => 0)).sum

/-- A lea that lies at or before the confirmed point (R198). -/
def Lea.confirmed (l : Lea) : Bool := l.depends.isEmpty && l.active.isSome

/-- Leas beyond the confirmed point. -/
def StreamEng.beyond (g : StreamEng) : Nat := (g.leas.dropWhile Lea.confirmed).length

/-- Lines of staging a lea takes. -/
def Lea.staged (l : Lea) : Nat := if l.skip || l.kind == .fin then 0 else if l.predicted || l.makeup then l.paylen else 0

/-- A stream's share of the staging memory in lines (R198). -/
def State.stagingShare (s : State) (die : Nat) : Nat := 24 * 2 ^ 20 / 64 / max 1 (s.running die).length

/-- The lea of a FETCH-kind descriptor before its epoch and selection are known. -/
def leaOf (ds : List Desc) (d : Desc) (depends : List Nat) (epoch : Nat) : Lea where
  kind := if d.dkind = 0 then .data else .group
  layer := BitVec.ofNat 16 d.layer
  tensor := BitVec.ofNat 32 d.tensor
  brow := BitVec.ofNat 16 d.brow
  bcol := BitVec.ofNat 16 d.bcol
  format := BitVec.ofNat 4 d.format
  sfmt := BitVec.ofNat 4 d.sfmt
  maskmode := BitVec.ofNat 2 d.maskmode
  orient := d.orient
  paylen := totalLines ds
  parts := ds.map (fun e => (e.lines, e.src, e.srclines))
  group := if d.dkind = 0 then 0 else BitVec.ofNat 16 d.group
  epoch := epoch
  depends := depends

/-- The lea that takes a rejected descriptor's place (R193). -/
def Lea.rejected (l : Lea) (code : Nat) : Lea :=
  { l with kind := .reject, code := code, paylen := 0, parts := l.parts.take 1, poison := true, fetched := true }

/-- A group's lea once its selection is known and no prediction was made of it (R204). -/
def Lea.selected (l : Lea) (act : Bool) : Lea := { l with active := some act, skip := !act }

/-- Leas appended to a stream, with the descriptors they took: the pointer moves on and DESC_PEAK follows. -/
def State.takeLeas (s : State) (id die : Nat) (g : StreamEng) (ls : List Lea) (next : Nat) : State :=
  let n := (ls.filter (fun l => l.kind != .fin)).length
  let s := s.setEngine id { g with leas := g.leas ++ ls, credits := g.credits - n, dptr := next }
  s.setObj Obj.descPeak die (max (s.obj Obj.descPeak die) (s.inFlight die))

/-- A FETCH-kind descriptor taken: rejected, or with what R192 merges after it. -/
def State.takeFetch (s : State) (id : Nat) (r : StreamRow) (g : StreamEng) (d : Desc) (sel : Option Bool) : State :=
  let ds := s.leaDescs r.die g.bufLimit d g.dptr
  let l := leaOf ds d (g.epochs.map (·.number)) g.newest
  match s.descFault r.die g.bufLimit d with
  | some code =>
    let l := { l.rejected code with active := sel.map (fun _ => true) }
    (s.bump Obj.streamRejects r.die 1).takeLeas id r.die g [l] (descAt g.dptr 1)
  | none =>
    let l := match sel with
      | some act => l.selected act
      | none => { l with active := none, predicted := s.predicts r d.group }
    (s.bump Obj.streamMerged r.die (ds.length - 1)).takeLeas id r.die g [l] (descAt g.dptr ds.length)

/-- The engine may take one more lea of so many payload lines and descriptors (R182, R191, R198). -/
def State.mayTake (s : State) (id : Nat) (r : StreamRow) (g : StreamEng) (lines descs : Nat) : Bool :=
  decide (0 < g.credits) && decide (s.inFlight r.die + descs ≤ 2048) && decide (g.beyond < 64) &&
    decide ((g.leas.map Lea.staged).sum + 2 * s.entering id r.port + lines ≤ s.stagingShare r.die)

/-- A FETCH-kind descriptor read: FETCH, or FETCH_GROUP and FETCH_EXPERT by their selection or prediction
(R198, R199). -/
def State.readFetch (s : State) (id : Nat) (r : StreamRow) (g : StreamEng) (d : Desc) : State :=
  let ds := s.leaDescs r.die g.bufLimit d g.dptr
  if d.lines = 0 then s.setEngine id { g with dptr := descAt g.dptr 1 }
  else if !s.mayTake id r g (totalLines ds) ds.length then s
  else if d.dkind = 0 then s.takeFetch id r g d (some true)
  else
    match s.selection r g with
    | some rep => s.takeFetch id r g d (some (rep.active d.group))
    | none =>
      if r.pred = 0 ∨ r.pred = 3 then s
      else if 16 ≤ g.epochs.length then s
      else
        let t := s.openEpoch r.die g none
        t.1.takeFetch id r t.2 d none

/-- A BRANCH read: followed by its decision, or by PREDICT under a new epoch (R199, R200). -/
def State.readBranch (s : State) (id : Nat) (r : StreamRow) (g : StreamEng) (d : Desc) : State :=
  let seq := BitVec.ofNat 16 d.layer
  let far := descAt g.dptr d.offset
  let near := descAt g.dptr 1
  match tget s.streams.relayed seq.toNat with
  | some w => s.setEngine id { g with dptr := if w.getLsbD d.bit then far else near }
  | none =>
    if 16 ≤ g.epochs.length then s
    else
      let t := s.openEpoch r.die g (some (seq, d.bit, d.predict, if d.predict then near else far))
      t.1.setEngine id { t.2 with dptr := if d.predict then far else near }

/-- The END lea; one that an END descriptor asks for keeps that descriptor in flight. -/
def endLea (g : StreamEng) (descs : Nat) : Lea :=
  { kind := .fin, fetched := true, depends := g.epochs.map (·.number), parts := List.replicate descs (0, 0, 0) }

/-- A descriptor with a reserved DKIND or another stream's id (R190). -/
def State.readBad (s : State) (id : Nat) (r : StreamRow) (g : StreamEng) : State :=
  if g.credits = 0 ∨ 64 ≤ g.beyond then s
  else
    let l : Lea := { kind := .badKind, poison := true, fetched := true, depends := g.epochs.map (·.number) }
    s.takeLeas id r.die { g with stopped := true } [l, endLea g 0] g.dptr

/-- The next descriptor of a running stream read; none while the die holds 2,048 in flight (R191). -/
def State.readDesc (s : State) (id : Nat) (r : StreamRow) (g : StreamEng) : State :=
  let d := s.desc r.die g.dptr
  if 2048 ≤ s.inFlight r.die then s
  else if 4 < d.dkind ∨ d.stream ≠ id then s.readBad id r g
  else if d.dkind = 4 then
    (if 64 ≤ g.beyond then s else s.takeLeas id r.die { g with stopped := true } [endLea g 1] g.dptr)
  else if d.dkind = 3 then s.readBranch id r g d
  else s.readFetch id r g d

/-- DESCRIPTOR_READ (R189 to R193, R198, R199): where the engine may not read on, it waits. -/
def execDescriptorRead (stream : W16) (s : State) : Result :=
  done (s.ifUp (fun s =>
    let g := s.engine stream.toNat
    match s.streamRow? stream.toNat with
    | none => s
    | some r => if g.running && !g.ended && !g.stopped then s.readDesc stream.toNat r g else s))

/-! ## Fetching -/

/-- A 64-byte line of a stack's fast tier; `bad` says that this read found it uncorrectable. -/
def State.fastLine (s : State) (a : Nat) (bad : Bool) : Line :=
  { data := BitVec.ofNat 512 (memNat s.fast a 64), poison := bad || s.fastPoison.contains (a / 64) }

/-- n lines of a stack from a byte address; `bad` lists the uncorrectable ones by place. -/
def State.fastLines (s : State) (a n : Nat) (bad : List Nat) : List Line :=
  (List.range n).map (fun i => s.fastLine (a + 64 * i) (bad.contains i))

/-- The elements of a delivered hank from those of a stored one (R187). -/
def orientElems (orient : Bool) (es : List W32) : List W32 := if orient then transpose64 0 es else es

/-- A stored format that a dense lea may have, and the formats it may be delivered in (R187). -/
def streamPairOk (sfmt fmt : Nat) : Bool :=
  (sfmt == 0 && (decide (fmt ≤ 2) || isMx fmt)) || (sfmt == 1 && (fmt == 1 || fmt == 2 || isMx fmt))

/-- One dense hank converted: its delivered lines and what the conversion counts (R187). A pair the loader
refuses has no stated result: its lines are undefined. A delivery with FORMAT equal to SFMT copies the elements' bits, and an
infinity or NaN among them counts nothing (DESIGN CHOICE, log entry 43: R57 does not say whether it is a conversion). -/
def convertHank (sfmt fmt : Nat) (orient : Bool) (seed base : Nat) (ls : List Line) : List Line × Counts :=
  let es := orientElems orient (lineElems (elemBits sfmt) ls)
  if !streamPairOk sfmt fmt then
    ((List.range (deliveredLines fmt)).map (fun i => { data := Config.freeLine seed (base + i), poison := false }), {})
  else if sfmt = fmt then (elemLines (elemBits fmt) es, {})
  else
    let c := convertAll fmt (es.map (fun e => (decodeElem sfmt e.toNat, Rnd.rne)))
    let scales := if isMx fmt then scaleLinesOf c.scales else []
    (elemLines (elemBits fmt) (c.codes.map (BitVec.ofNat 32)) ++ scales, c.counts)

/-- A stored dense hank delivered: whole and poisoned where it was converted and a line of it is poisoned,
line by line where it was not (R187, R207). -/
def deliverHank (sfmt fmt : Nat) (orient : Bool) (seed base : Nat) (ls : List Line) : List Line × Counts :=
  if sfmt = fmt ∧ !orient ∧ streamPairOk sfmt fmt then (ls, {})
  else if ls.any (·.poison) then (poisonedLines seed base (deliveredLines fmt), {})
  else convertHank sfmt fmt orient seed base ls

/-- Evaluation microbatches read averages (R281). -/
def State.readsAverages (s : State) : Bool := s.step.evaluating && bitAt (s.obj Obj.evalControl 0) 28

/-- Where a dense fetch of an evaluation microbatch is redirected: the same offset of the average array of the
FAST or COMPACT shard whose W_work holds the source (R281). -/
def State.averageOf (s : State) (a n : Nat) : Option Nat :=
  (s.shards.find? (fun e => e.2.avg && e.2.cls != clsSlow && decide ((e.2.place .work).2 ≤ a ∧
    a + n ≤ (e.2.place .work).2 + e.2.padded .work))).map (fun e => (e.2.place .avg).2 + (a - (e.2.place .work).2))

/-- The address a part is read from. -/
def State.partAddr (s : State) (die : Nat) (l : Lea) (part : Nat × Nat × Nat) : Nat :=
  let a := die * 2 ^ 36 + part.2.1 % 2 ^ 36
  if l.maskmode = 0 ∧ s.readsAverages then (s.averageOf a (64 * part.2.2)).getD a else a

/-- A part of a lea is read from an average (R281). -/
def State.readsAvg (s : State) (die : Nat) (l : Lea) (part : Nat × Nat × Nat) : Bool :=
  s.readsAverages && s.partAddr die l part != die * 2 ^ 36 + part.2.1 % 2 ^ 36

/-- The sources of a lea that has been injected noted for EVAL_MIXED (R281). -/
def State.noteSources (s : State) (l : Lea) : State :=
  { s with step := { s.step with
      evalAvg := s.step.evalAvg || l.readAvg
      evalLive := s.step.evalLive || l.readLive } }

/-- One part of a lea read: its payload lines and its counts (R187). Of a packed segment the payload is what follows its
header, whose SEGLINES gives the length (R246). -/
def State.fetchPart (s : State) (die : Nat) (l : Lea) (seed base : Nat) (bad : List Nat) (part : Nat × Nat × Nat) :
    List Line × Counts :=
  let src := s.fastLines (s.partAddr die l part) part.2.2 bad
  if l.maskmode = 0 then
    let per := hankLines l.sfmt.toNat
    let hs := (chunks per (part.2.2 + 1) src).mapIdx (fun i ls =>
      deliverHank l.sfmt.toNat l.format.toNat l.orient seed (base + 2048 * i) ls)
    (hs.flatMap (·.1), hs.foldl (fun c h => c.add h.2) {})
  else
    let h := nth src 0 { data := 0, poison := false }
    if h.poison then (poisonedLines seed base part.1, {})
    else ((src.drop 1).take (min part.1 (bits h.data.toNat 16 12 - 1)), {})

/-- The places of `bad` that lie in [lo, lo + n), from lo. -/
def within (bad : List Nat) (lo n : Nat) : List Nat :=
  (bad.filter (fun i => decide (lo ≤ i ∧ i < lo + n))).map (· - lo)

/-- Every part of a lea read, in order. -/
def State.fetchParts (s : State) (die : Nat) (l : Lea) (seed : Nat) (bad : List Nat) (off k : Nat) :
    List (Nat × Nat × Nat) → List (List Line × Counts)
  | [] => []
  | p :: ps =>
    s.fetchPart die l seed (2 ^ 20 * k) (within bad off p.2.2) p :: s.fetchParts die l seed bad (off + p.2.2) (k + 1) ps

/-- The byte addresses of a lea's source lines in the fast tier. -/
def State.lineAddrs (s : State) (die : Nat) (l : Lea) : List Nat :=
  l.parts.flatMap (fun p => (List.range p.2.2).map (fun i => s.partAddr die l p + 64 * i))

/-- The channels of n retried reads of a lea, which the command does not name: free choices among its lines (R347; log entry 4). -/
def retriedChannels (seed die : Nat) (addrs : List Nat) (n : Nat) : List Nat :=
  (List.range n).map (fun i => channelOf die (nth addrs (Config.freeNat (seed + i) % max 1 addrs.length) 0))

/-- Reads delivered poisoned: one record and one occurrence each at their channel (R347, R377). -/
def State.readPoison (s : State) (die : Nat) (addrs : List Nat) : State :=
  addrs.foldl (fun t a =>
    (t.fault 0x5402 (channelOf die a) 0).occurrence (unitId lvChannel (channelOf die a))) s

/-- A lea's fetch: its payload complete in staging. -/
def State.fetchLea (s : State) (id die i : Nat) (l : Lea) (retries : Nat) (bad : List Nat) : State :=
  let addrs := s.lineAddrs die l
  let stuck := (List.range addrs.length).filter (fun k => s.unreadable false (nth addrs k 0))
  let rs := s.fetchParts die l (s.free + 1) (bad ++ stuck) 0 0 l.parts
  let payload := rs.flatMap (·.1)
  let counts : Counts := rs.foldl (fun c r => Counts.add c r.2) {}
  let l' := { l with
    fetched := true, payload := payload, paylen := payload.length, poison := payload.any (·.poison)
    segcount := if l.maskmode = 0 then 0 else l.parts.length
    epoch := if l.confirmed then 0 else l.epoch
    flush := counts.flush, sat := counts.sat, nonfinite := counts.nonfinite
    readAvg := l.parts.any (s.readsAvg die l)
    readLive := s.readsAverages && l.parts.any (fun p => !s.readsAvg die l p) }
  let g := s.engine id
  let chans := retriedChannels (s.free + 1) die addrs retries
  let s := (s.drew (1 + retries)).setEngine id { g with leas := setNth g.leas i l' }
  let s := chans.foldl (fun t c => t.retried (unitId lvChannel c) 0x5101 1) s
  (addrs.foldl (fun t a => t.checkRead false a 64) s).readPoison die (bad.filterMap (fun k => addrs[k]?))

/-- A lea that is due a fetch: not fetched, and predicted, selected, or made up. -/
def Lea.wantsFetch (l : Lea) : Bool := !l.fetched && !l.skip && (l.predicted || l.makeup)

/-- LEA_FETCH (R182, R187, R207): the first lea of the stream that is due one. -/
def execLeaFetch (stream : W16) (retries : Nat) (bad : List Nat) (s : State) : Result :=
  done (s.ifUp (fun s =>
    let g := s.engine stream.toNat
    match s.streamRow? stream.toNat, g.leas.findIdx? Lea.wantsFetch with
    | some r, some i =>
      match g.leas[i]? with
      | some l => s.fetchLea stream.toNat r.die i l retries bad
      | none => s
    | _, _ => s))

/-! ## Injection -/

/-- The header without its CRC (R185); its reserved bits are 0 (log entry 26). -/
def Lea.headerBits (l : Lea) (stream seq : Nat) : Nat :=
  let data := l.kind == .data || l.kind == .group
  l.group.toNat * 2 ^ 274 +
    (if l.kind == .fin then 0 else max 1 l.parts.length) * 2 ^ 290 + l.paylen % 2048 * 2 ^ 301 +
    (if data && !l.skip then l.segcount else 0) % 65536 * 2 ^ 312 + l.orient.toNat * 2 ^ 329 + l.maskmode.toNat * 2 ^ 330 +
    l.format.toNat * 2 ^ 332 + l.bcol.toNat * 2 ^ 336 + l.brow.toNat * 2 ^ 352 + l.tensor.toNat * 2 ^ 368 +
    l.layer.toNat * 2 ^ 400 + (l.kind == .fin).toNat * 2 ^ 420 + l.makeup.toNat * 2 ^ 421 + l.skip.toNat * 2 ^ 422 +
    l.poison.toNat * 2 ^ 423 + (if l.skip || l.makeup then 0 else l.epoch) % 256 * 2 ^ 424 + stream % 65536 * 2 ^ 432 +
    seq % 2 ^ 32 * 2 ^ 448

/-- The 64-byte header: CRC-32C of bytes 0 to 59 above them. -/
def Lea.header (l : Lea) (stream seq : Nat) : BitVec 512 :=
  let b := l.headerBits stream seq
  BitVec.ofNat 512 (b + (crc32c (leBytes 60 b)).toNat * 2 ^ 480)

/-- The flits of a lea: its header alone in the first, bytes 64 to 127 of which are 0, and its payload, which a SKIP does not
send (R185, R204). -/
def Lea.flits (l : Lea) (header : BitVec 512) : List Flit :=
  { words := Line.words { data := header } ++ List.replicate 16 0 } :: if l.skip then [] else toFlits l.payload

/-- What a rejected descriptor's confirmation writes (R190, R193). -/
def State.leaFaults (s : State) (die : Nat) (l : Lea) : State :=
  match l.kind with
  | .reject => (s.fault l.code die 0).taint
  | .badKind => (s.fault 0x4505 die 0).taint
  | _ => s

/-- What the die does once a lea is on its way: its conversions counted against its tensor, its sources noted, a poisoned
payload counted (R187, R202, R207, R281). -/
def State.leaSent (s : State) (die : Nat) (l : Lea) : State :=
  if l.skip then s
  else
    let s := (s.noteSources l).countConv l.tensor.toNat ⟨l.flush, l.sat, l.nonfinite⟩
    if l.payload.any (·.poison) then s.bump Obj.streamPoisoned die 1 else s

/-- The first lea of a stream put before its port on VC2. -/
def State.injectLea (s : State) (id : Nat) (r : StreamRow) (g : StreamEng) (l : Lea) : State :=
  let fs := s.netFlits 2 3 id r.shape s.fabric.nextMsg true (l.flits (l.header id g.seq))
  let k := 4 * r.port + 2
  let s := { s with fabric := { s.fabric with
      portIn := putList s.fabric.portIn k (getList s.fabric.portIn k ++ fs), nextMsg := s.fabric.nextMsg + 1 } }
  let s := s.setEngine id
    { g with leas := g.leas.drop 1, leaving := l.descs, seq := g.seq + 1, ended := g.ended || l.kind == .fin }
  (((s.bump Obj.streamLeas r.die 1).leaSent r.die l).leaFaults r.die l).flow

/-- A lea can leave: confirmed, and complete where it carries a payload (R201). -/
def Lea.ready (l : Lea) : Bool := l.confirmed && (l.fetched || l.skip)

/-- LEA_INJECT (R201, R204): in descriptor order, after the lea before it on the same port has entered the fabric; a held port
injects nothing (R211). -/
def execLeaInject (stream : W16) (s : State) : Result :=
  done (s.ifUp (fun s =>
    let g := s.engine stream.toNat
    match s.streamRow? stream.toNat, g.leas with
    | some r, l :: _ =>
      if l.ready && !s.isHeld (siteOfPort r.port) && (getList s.fabric.portIn (4 * r.port + 2)).isEmpty then
        s.injectLea stream.toNat r g l
      else s
    | _, _ => s))

/-- CREDIT_RETURN (R182): every destination has released a buffer. -/
def execCreditReturn (stream : W16) (s : State) : Result :=
  done (s.ifUp (fun s =>
    let g := s.engine stream.toNat
    match s.streamRow? stream.toNat with
    | none => s
    | some r =>
      let ds := (s.shape r.shape).dests
      if g.running && !ds.isEmpty && ds.all (fun d => decide (0 < (tget g.releases d).getD 0)) then
        s.setEngine stream.toNat { g with
          credits := g.credits + 1
          releases := ds.foldl (fun m d => tput m d ((tget m d).getD 0 - 1)) g.releases }
      else s))

/-! ## Arrival -/

/-- The checks of R188 against a buffer's size. -/
def headerGood (h : BitVec 512) (id expect size : Nat) : Bool :=
  let n := h.toNat
  bits n 480 32 == (crc32c (leBytes 60 n)).toNat && bits n 432 16 == id && bits n 448 32 == expect % 2 ^ 32 &&
    fmtOk (bits n 332 4) && bits n 330 2 != 3 && decide (1 + bits n 301 11 ≤ size)

/-- The header of a lea that has come, from its first flit. -/
def SpStream.header (e : SpStream) : BitVec 512 :=
  match e.inbox.flatMap NetFlit.lines with
  | [] => 0
  | h :: _ => h.data

/-- The lines a lea brings: its header, and its payload as its flits carry it (R185). -/
def SpStream.lines (e : SpStream) : List Line :=
  { data := e.header } :: (e.inbox.drop 1).flatMap NetFlit.lines

/-- The lines of zero bytes that a SKIP lea stands for (R183, R204). -/
def zeroLines (h : BitVec 512) : List Line :=
  if bitAt h.toNat 422 then List.replicate (bits h.toNat 301 11) { data := 0, poison := false } else []

/-- Lines written each with its own poison bit; the bits of a poisoned line are undefined (R74). -/
def State.putEach (s : State) (p : Site) (line : Nat) (ls : List Line) : State :=
  (s.writeLines p line (ls.mapIdx (fun i l =>
    if l.poison then { data := Config.freeLine (s.free + 1) (p.row * 2 ^ 20 + line + i), poison := true } else l))).drew 1

/-- A lea written into buffer b, its handle on the queue (R183). One that fails a check has every line poisoned, and only the
lines that arrived (R188). -/
def State.writeLea (s : State) (p : Site) (e : SpStream) (b : Nat) : State :=
  let buf := (s.spindle p).buf b
  let good := headerGood e.header e.stream e.expect buf.size
  let ls := if good then e.lines ++ zeroLines e.header else e.lines.take buf.size
  let s := if good then s.putEach p buf.base ls else s.putRegion p buf.base ls true
  let s := s.setStream p { e with busy := e.busy ++ [b], expect := e.expect + 1, inbox := [] }
  let s := s.putHandle p.row e.queue (mkHandle b buf.gen ls.length)
  if good then s
  else (s.bump Obj.leaHeaderErrors 0 1).fault 0x1406 (s.siteUnit p.x.val p.y.val) 0

/-- LEA_ARRIVE (R183, R184, R188): the lea whose last flit has come; its engine and the fabric then go on. A held spindle's
engine ejects nothing, and one that waits for a full queue goes no further (R169, R210). -/
def execLeaArrive (p : Site) (stream : W16) (s : State) : Result :=
  done (s.ifUp (fun s =>
    match (s.spindle p).stream? stream.toNat with
    | none => s
    | some e =>
      if !s.engineFree p.row || !e.inbox.any (·.sb.last) then s
      else if bitAt e.header.toNat 420 then
        (s.setStream p { e with ended := true, expect := e.expect + 1, inbox := [] }).flow
      else
        match e.free? with
        | none => s
        | some b => (s.writeLea p e b).flow))

/-! ## Decisions -/

/-- An epoch found right: nothing depends on it any more (R200). -/
def StreamEng.confirm (g : StreamEng) (n : Nat) : StreamEng :=
  { g with
    epochs := g.epochs.filter (fun e => e.number != n)
    leas := g.leas.map (fun l => { l with depends := l.depends.erase n }) }

/-- The leas that depend on an epoch. -/
def StreamEng.under (g : StreamEng) (n : Nat) : List Lea := g.leas.filter (fun l => l.depends.contains n)

/-- An epoch found wrong: it and every later one squashed, their credits given back, reading resumed at the
other target (R200, R201). -/
def StreamEng.squash (g : StreamEng) (n other : Nat) : StreamEng :=
  { g with
    credits := g.credits + ((g.under n).filter (fun l => l.kind != .fin)).length
    epochs := g.epochs.takeWhile (fun e => e.number != n)
    leas := g.leas.filter (fun l => !l.depends.contains n)
    dptr := other, stopped := false }

/-- A stream's BRANCHes on one decision resolved in order. -/
def State.resolveStream (s : State) (id die : Nat) (seq : W16) (w : W32) : Nat → State
  | 0 => s
  | fuel + 1 =>
    let g := s.engine id
    match g.epochs.find? (fun e => (e.branch.map (·.1)) == some seq) with
    | some { number := n, branch := some (_, bit, predict, other) } =>
      if w.getLsbD bit = predict then (s.setEngine id (g.confirm n)).resolveStream id die seq w fuel
      else
        let dropped := ((g.under n).filter (fun l => l.fetched && (l.kind == .data || l.kind == .group))).length
        ((s.setEngine id (g.squash n other)).bump Obj.specSquashed die dropped).resolveStream id die seq w fuel
    | _ => s

/-- DECISION_RELAY (R200): the oldest decision of B27 reaches every Dudin die. -/
def execDecisionRelay (s : State) : Result :=
  done (s.ifUp (fun s =>
    match s.streams.relayQueue with
    | [] => s
    | (seq, w) :: rest =>
      let t := { s with streams := { s.streams with relayQueue := rest, relayed := tput s.streams.relayed seq.toNat w } }
      t.streams.engines.foldl (fun u e =>
        match u.streamRow? e.1 with
        | some r => u.resolveStream e.1 r.die seq w 17
        | none => u) t))

/-! ## Mask reports -/

/-- The flits of the first complete result of one of these RIDs at a port, and the port's queue without
them. -/
def takeReport (rids : List Nat) (q : List EdgeFlit) : Option (List EdgeFlit × List EdgeFlit) :=
  match q.find? (fun f => f.last && rids.contains f.rid) with
  | none => none
  | some f =>
    let i := (q.findIdx? (fun e => e.last && e.rid == f.rid)).getD 0
    let head := q.take (i + 1)
    some (head.filter (fun e => e.rid == f.rid), head.filter (fun e => e.rid != f.rid) ++ q.drop (i + 1))

/-- The elements of a report: binary32 values, or pairs folded (R203). -/
def reportValues (fs : List EdgeFlit) : List W32 :=
  let twin := fs.any (·.twin)
  let ws := fs.flatMap (·.flit.words)
  if twin then (toPairs ws).map Pair.fold else ws

/-- One lea compared with the report (R205): what it becomes, and which of the four cases it was. -/
def Lea.judge (l : Lea) (rep : MaskRep) : Lea × Option (Bool × Bool) :=
  if l.active.isSome then (l, none)
  else if l.kind == .reject then ({ l with active := some true }, none)
  else
    let act := rep.active l.group.toNat
    ({ l with active := some act, skip := !act, fetched := l.fetched && act, makeup := act && !l.predicted
              payload := if act then l.payload else [], poison := l.poison && act
              paylen := if act then l.paylen else (l.parts.map (·.1)).foldl (· + ·) 0 },
     some (l.predicted, act))

/-- A stream's predictions judged by a report: its mask epochs are resolved (R199, R205). -/
def State.judgeStream (s : State) (id die : Nat) (rep : MaskRep) : State :=
  let g := s.engine id
  let masks := (g.epochs.filter (fun e => e.branch.isNone)).map (·.number)
  let js := g.leas.map (fun l => l.judge rep)
  let count := fun (c : Bool × Bool) => (js.filter (fun j => j.2 == some c)).length
  let g' := { g with
    leas := js.map (fun j => { j.1 with depends := j.1.depends.filter (fun n => !masks.contains n) })
    epochs := g.epochs.filter (fun e => e.branch.isSome)
    passReport := some rep }
  let s := s.setEngine id g'
  let s := s.bump Obj.predHits die (count (true, true) + count (false, false))
  let s := s.bump Obj.predWasted die (count (true, false))
  let s := s.bump Obj.specSquashed die (count (true, false))
  s.bump Obj.predMakeup die (count (false, true))

/-- Streams with this MRID on a port. -/
def State.maskStreams (s : State) (port : Nat) : List (Nat × StreamRow) :=
  (s.prog.streams.map (fun e => (e.1, streamRow e.2.toNat))).filter (fun e => e.2.port == port && e.2.mrid != 0xFFFF)

/-- MASK_REPORT (R203, R205): the oldest complete result under an MRID of the port's streams. -/
def execMaskReport (port : EdgeNo) (s : State) : Result :=
  done (s.ifUp (fun s =>
    let ms := s.maskStreams port.val
    match takeReport (ms.map (·.2.mrid)) ((tget s.fabric.edge port.val).getD []) with
    | none => s
    | some (fs, rest) =>
      let rid := (nth (fs.map (·.rid)) 0 0)
      let rep : MaskRep := { values := reportValues fs, poison := fs.any (·.flit.poison) }
      let die := stackOfPort port.val
      let s := { s with fabric := { s.fabric with edge := putList s.fabric.edge port.val rest } }
      let s := { s with streams := { s.streams with reports := tput s.streams.reports (65536 * port.val + rid) rep } }
      let s := if rep.poison then s.bump Obj.streamPoisoned die 1 else s
      (ms.filter (fun e => e.2.mrid == rid)).foldl (fun t e =>
        let g := t.engine e.1
        if e.2.pred = 3 ∨ g.ended ∨ g.passReport.isSome ∨ (tget t.streams.engines e.1).isNone then t
        else t.judgeStream e.1 die rep) s))

end Sys2Proof.Machine
end

