-- ==== Sys2Proof/Machine/Hold.lean ====
section
/-! DEFINITION. The hold (R208 to R215): raising it, its arrival and release at a site, the divisor change of a
throttle hold, and the attribution of lateness. -/

namespace Sys2Proof.Machine

/-- Origin kinds of HOLD_LAST (R217). -/
abbrev hoDudin : Nat := 0
/-- A weft die. -/
abbrev hoWeft : Nat := 1
/-- A link port. -/
abbrev hoPort : Nat := 2
/-- A logical spindle. -/
abbrev hoSpindle : Nat := 3
/-- The clock. -/
abbrev hoClock : Nat := 4

/-- Countdown of a raise in CORE cycles (R209). -/
abbrev holdCycles : Nat := 512

/-- The hold raised by a source (R208): 0 late lea, 1 back-port transfer, 2 link retry, 3 throttle; at its entry sites, into
which it takes `cost` cycles (R209). -/
def State.raiseHold (s : State) (kind number source : Nat) (entry : List Nat) (cost : Nat) : State :=
  let s := s.bump Obj.holdCount 0 1
  let r : HoldRaise := { kind, number, source, at_ := s.time.core, entry, cost }
  { s with hold := { s.hold with raises := s.hold.raises ++ [r] } }

/-- The back-port sites of a weft die (R164). -/
def backSites (w : Nat) : List Nat := (List.range 4).map (fun k => (portSite (352 + 4 * w + k)).row)

/-- The site of B27 above the service die (R208). -/
def serviceRow : Nat := 128 * (36 + Config.serviceSite.2.val) + (48 + Config.serviceSite.1.val)

/-! ## The wave of a raise -/

/-- Cycles the hold takes from one site to another: one a hop, four across a bolt boundary (R209). -/
def waveCycles (a b : Nat) : Nat :=
  let ax := a % 128
  let ay := a / 128
  let bx := b % 128
  let by_ := b / 128
  (max ax bx - min ax bx) + (max ay by_ - min ay by_) + 3 * (crossings 16 ax bx + crossings 12 ay by_)

/-- The count with which a raise reaches a site: 512 less the cycles from its nearest entry site (R209). -/
def HoldRaise.countAt (r : HoldRaise) (row : Nat) : Nat :=
  holdCycles - (r.cost + r.entry.foldl (fun m e => min m (waveCycles e row)) 512)

/-- The raise has reached a site. -/
def HoldRaise.has (r : HoldRaise) (row : Nat) : Bool := r.reached.testBit row

/-- The raise comes next to a site: it enters there, or it has reached a neighbour. -/
def HoldRaise.comesTo (r : HoldRaise) (p : Site) : Bool :=
  !r.has p.row && (r.entry.contains p.row || [0, 1, 2, 3].any (fun d => (meshNext p d).any r.has))

/-- The raise has reached every site of the wafer. -/
def HoldRaise.whole (r : HoldRaise) : Bool := r.reached == 2 ^ 9216 - 1

/-- The object and row that collect an origin's lateness. -/
def lateRow (kind number : Nat) : Nat × Nat :=
  if kind = hoDudin then (Obj.lateDudin, number)
  else if kind = hoWeft then (Obj.lateWeft, number)
  else if kind = hoPort then (Obj.latePort, number)
  else if kind = hoSpindle then (Obj.lateSpindle, number)
  else (Obj.lateClock, 0)

/-- One raise attributed, against the release scheduled before it (R215). -/
def State.attribute (s : State) (r : HoldRaise) : State :=
  let release := r.at_ + holdCycles
  let moved := release - max r.at_ s.hold.releaseAt
  let row := lateRow r.kind r.number
  let s := (s.bump row.1 row.2 moved).bump Obj.holdCycles 0 moved
  let s := s.setObj Obj.holdLast 0 (moved % 2 ^ 32 + r.source * 2 ^ 32 + r.number % 2 ^ 16 * 2 ^ 40 + r.kind * 2 ^ 56)
  { s with hold := { s.hold with releaseAt := max release s.hold.releaseAt } }

/-- Every raise attributed once the last held site has released. -/
def State.settleHold (s : State) : State :=
  let rs := s.hold.raises
  let s := rs.foldl State.attribute { s with hold := { s.hold with raises := [], releaseAt := 0 } }
  { s with hold := { s.hold with releaseAt := 0 } }

/-- SKID_PEAK after a router has frozen: at most 40 flits entered a skid buffer, how many is timing (R178, R212;
log entry 4). -/
def State.skid (s : State) : State :=
  (s.setObj Obj.skidPeak 0 (max (s.obj Obj.skidPeak 0) (Config.freeNat s.free % 41))).drew 1

/-- A site held with a count, or the larger one it has (R209, R213); the spindle issues nothing in the cycles that follow. -/
def State.holdSite (s : State) (p : Site) (count : Nat) : State :=
  let k := max count ((tget s.hold.counts p.row).getD 0)
  let s := { s.skid with hold := { s.hold with counts := tput s.hold.counts p.row k } }
  s.setSpindle p { s.spindle p with nowWrote := none }

/-- HOLD_ARRIVE (R209, R210, R212, R213): a raise that has come next to the site reaches it, with the count its way leaves. -/
def execHoldArrive (p : Site) (count : Fin 513) (s : State) : Result :=
  done (s.ifUp (fun s =>
    match s.hold.raises.findIdx? (fun r => r.comesTo p && r.countAt p.row == count.val) with
    | none => s
    | some i =>
      let rs := s.hold.raises.mapIdx (fun k r => if k = i then { r with reached := r.reached ||| 2 ^ p.row } else r)
      ({ s with hold := { s.hold with raises := rs } }).holdSite p count.val))

/-- The divisor in force from now on (R214, R445, R456): every bolt takes it; a slowdown lowers the setpoints after it. -/
def State.takeDiv (s : State) : State :=
  match s.hold.newDiv with
  | none => s
  | some d =>
    let slower := decide (s.obj Obj.coreDiv 0 < d)
    let s := (s.setObj Obj.coreDiv 0 d).bump Obj.throttleChanges 0 1
    { s with hold := { s.hold with newDiv := none }
             power := { s.power with vsetDiv := d, allClear := 0, settling := slower } }

/-- DIVISOR_CHANGE (R214): once the counts of the held sites have reached 256. -/
def execDivisorChange (s : State) : Result :=
  done (s.ifUp (fun s =>
    if !s.hold.counts.isEmpty && s.hold.counts.all (fun e => decide (e.2 ≤ 256)) then s.takeDiv else s))

/-- Every held site released at once: each router gives its skid contents back to its buffers before anything else moves
(R21, R212). -/
def State.releaseAll (s : State) : State :=
  let s := s.hold.counts.foldl (fun t e => t.setRouterAt e.1 (t.at e.1).router.unskid) s
  { s with hold := { s.hold with counts := [] } }

/-- The hold has run out at every site: each raise has reached the whole wafer, and every count is 0 (R21, R209). -/
def Hold.over (h : Hold) : Bool := h.raises.all HoldRaise.whole && h.counts.all (fun e => e.2 == 0)

/-- HOLD_RELEASE (R21, R209, R212, R214): all sites go on together; a divisor change not seen before has been made by then. -/
def execHoldRelease (p : Site) (s : State) : Result :=
  done (s.ifUp (fun s =>
    if s.isHeld p && s.hold.over then s.takeDiv.releaseAll.settleHold.flow else s))

/-- WEFT_INJECT_LATE (R313). -/
def execWeftInjectLate (w : WeftNo) (s : State) : Result := done (s.ifUp (fun s => s.raiseHold hoWeft w.val 1 (backSites w.val) 1))

/-- REPLAY_BOUND_EXPIRY (R313). -/
def execReplayBoundExpiry (port : PortNo) (s : State) : Result := done (s.ifUp (fun s => s.raiseHold hoPort port.val 2 (backSites port.val) 1))

/-- INPUT_DELIVERY_LATE (R394). -/
def execInputDeliveryLate (w : WeftNo) (s : State) : Result := done (s.ifUp (fun s => s.raiseHold hoWeft w.val 1 (backSites w.val) 1))

/-- EVAL_RESULT_LATE (R394). -/
def execEvalResultLate (w : WeftNo) (s : State) : Result := done (s.ifUp (fun s => s.raiseHold hoWeft w.val 1 (backSites w.val) 1))

/-- A lea that can be late: confirmed, and neither SKIP, END nor in a rejected descriptor's place (R196). -/
def Lea.canBeLate (l : Lea) : Bool := (l.kind == .data || l.kind == .group) && !l.skip && l.confirmed

/-- LEA_LATE (R196, R208, R215): attributed to the die while the lea's data are not complete, else to the spindle that
withheld credit, if any. A due cycle does not pass while the stream's port is held (R210). -/
def execLeaLate (stream : W16) (blocker : Option Site) (s : State) : Result :=
  done (s.ifUp (fun s =>
    match s.streamRow? stream.toNat, (s.engine stream.toNat).leas.find? Lea.canBeLate with
    | some r, some l =>
      let site := siteOfPort r.port
      if s.isHeld site then s
      else
        match blocker with
        | some p =>
          if l.fetched then s.raiseHold hoSpindle p.row 0 [site.row] 1 else s.raiseHold hoDudin r.die 0 [site.row] 1
        | none => s.raiseHold hoDudin r.die 0 [site.row] 1
    | _, _ => s))

end Sys2Proof.Machine
end

