-- ==== Sys2Proof/Machine/FabricOps.lean ====
section
/-! DEFINITION. The fabric's flit bounds (R151), the gradient adder (R251 to R253) and the arbiters (R174 to
R177). -/

namespace Sys2Proof.Machine

/-! ## Late flits -/

/-- The first flit of a list that is not yet counted late marked so. -/
def markFlit : List NetFlit → Option (List NetFlit)
  | [] => none
  | f :: fs => if f.late then (markFlit fs).map (f :: ·) else some ({ f with late := true } :: fs)

/-- The next result flit of a declaration, all of whose inputs have come, marked late (R150). -/
def markDecl : List Decl → Option (List Decl)
  | [] => none
  | d :: ds => if d.late || d.heads.isNone then (markDecl ds).map (d :: ·) else some ({ d with late := true } :: ds)

/-- A flit of a channel at a router marked late. -/
def Router.markLate (r : Router) (vc : Nat) : Option Router :=
  match [0, 1, 2, 3, 4, 5].findSome? (fun i => (markFlit (getList r.bufs (4 * i + vc))).map (fun l => (4 * i + vc, l))) with
  | some (k, l) => some { r with bufs := tput r.bufs k l }
  | none => if vc = 1 then (markDecl r.decls).map (fun ds => { r with decls := ds }) else none

/-- A flit of a channel that no hold stops marked late. -/
def State.markLate (s : State) (vc : Nat) : Option State :=
  s.spindles.findSome? (fun e =>
    if s.heldAt e.1 then none else (e.2.router.markLate vc).map (fun r => s.setRouterAt e.1 r))

/-- FLIT_LATE (R151): the BUDGET of a flit in the fabric reaches 0 before its ejection; it is counted once. -/
def execFlitLate (vc : BitVec 2) (s : State) : Result :=
  done (s.ifUp (fun s =>
    match s.markLate vc.toNat with
    | none => s
    | some t => t.bump Obj.fabricLate vc.toNat 1))

/-! ## The gradient adder -/

/-- The byte of G that holds an element of a tensor; none where no shard that trains has it. -/
def State.gradAddr (s : State) (tensor e : Nat) : Option Nat :=
  (s.liveShards.find? (fun d => d.2.tensor == tensor && decide (d.2.efirst ≤ e ∧ e < d.2.efirst + d.2.ecount))).map
    (fun d => (d.2.place .grad).2 + 4 * (e - d.2.efirst))

/-- One value added into G, or written without reading it in microbatch 0 (R30, R253). -/
def State.addG (s : State) (a : Nat) (x : W32) : State :=
  let v := if s.mbIndex = 0 then x else add32 (BitVec.ofNat 32 (memNat s.fast a 4)) x
  s.tierWrite false a (leBytes 4 v.toNat)

/-- One arriving element at a row (R251, R253, R365): discarded while a replay still has to skip, counted, and
added where it lies within ECOUNT. -/
def State.gradElem (s : State) (i : Nat) (r : GradRow) (x : W32) : State :=
  let skip := (tget s.step.gradSkip i).getD 0
  if 0 < skip then { s with step := { s.step with gradSkip := tput s.step.gradSkip i (skip - 1) } }
  else
    let n := (tget s.step.gradCount i).getD 0
    let s := { s with step := { s.step with gradCount := tput s.step.gradCount i (n + 1) } }
    if n < r.ecount then
      match s.gradAddr r.tensor (r.efirst + n) with
      | some a => s.addG a x
      | none => s
    else s

/-- The elements a flit brings: binary32 values, or pairs folded (R49, R251). -/
def EdgeFlit.values (f : EdgeFlit) : List W32 := if f.twin then (toPairs f.flit.words).map Pair.fold else f.flit.words

/-- A flit at every row of its RID and port. -/
def State.gradFlit (s : State) (port : Nat) (f : EdgeFlit) : State :=
  let s := if f.flit.poison then s.poisonStep else s
  (s.gradRows.filter (fun r => r.2.rid == f.rid && r.2.port == port)).foldl (fun t r =>
    f.values.foldl (fun u x => u.gradElem r.1 r.2 x) t) s

/-- GRADIENT_ADD (R251 to R253): the oldest flit at the port that is no mask report; in an evaluation the
result is discarded and counted. -/
def execGradientAdd (port : EdgeNo) (s : State) : Result :=
  done (s.ifUp (fun s =>
    let q := (tget s.fabric.edge port.val).getD []
    let masks := (s.maskStreams port.val).map (·.2.mrid)
    match q.find? (fun f => !masks.contains f.rid) with
    | none => s
    | some f =>
      let s := { s with fabric := { s.fabric with edge := putList s.fabric.edge port.val (q.erase f) } }
      if s.step.evaluating then (if f.last then s.bump Obj.evalGradDropped 0 1 else s)
      else s.gradFlit port.val f))

/-! ## Arbiters -/

/-- ARBITER_DECISION (R174, R175, R177): at a break point, with the requesters that ask. -/
def execArbiterDecision (kind : Fin 6) (inst : Nat) (requests : List (Fin 6 × Nat)) (s : State) : Result :=
  done (s.ifUp (fun s => s.decideArb kind.val inst (requests.map (fun r => (r.1.val, r.2)))))

/-- The unit fenced on a bite, with the code of its record (R175, R176, R377). Instances: channel 64 * stack + k;
port 2 * p + direction, back ports from 352; device 4 * weft + d; link port; bolt. -/
def State.bitten (s : State) (kind inst : Nat) (holder : Option (Nat × Nat)) : Option (UnitId × Nat) :=
  match kind with
  | 0 => some (unitId lvChannel (inst / 64 * 2 ^ 8 + inst % 64), 0x5240)
  | 1 =>
    let p := inst / 2
    some (if p < 352 then unitId lvWafer (2 ^ 28 + p) else unitId lvWafer (2 * 2 ^ 28 + (p - 352)), 0x3240)
  | 2 => some (unitId lvSlowdev inst, 0x9240)
  | 3 => some (unitId lvPort inst, 0x8240)
  | 4 => holder.map (fun h => (unitId lvSpindle (s.siteUnit (h.2 % 128) (h.2 / 128)), 0x1240))
  | _ => none

/-- A link port fenced on a bite. -/
def State.fencePort (s : State) (p : Nat) : State :=
  if s.portState p = lkRetired then s else s.retirePort p

/-- The grant watchdog of an instance is stopped: that of an edge or back port whose site is held (R210). -/
def State.watchHeld (s : State) (kind inst : Nat) : Bool := kind == 1 && s.heldAt (portSite (inst / 2)).row

/-- GRANT_WATCHDOG (R176): a holder has kept its grant too long; the resource is free again, its unit is fenced, and one entry
is written. A dictionary transaction is abandoned. -/
def execGrantWatchdog (kind : Fin 6) (inst : Nat) (s : State) : Result :=
  done (s.ifUp (fun s =>
    let a := s.arbiter kind.val inst
    if a.holder.isNone || s.watchHeld kind.val inst then s
    else
      let s := (s.setArbiter kind.val inst { a with holder := none, passed := 0 }).bump Obj.grantWatchdogBites 0 1
      match s.bitten kind.val inst a.holder with
      | none => s
      | some (u, code) =>
        if s.isRetired u then s.retireRecord code u.unit.toNat 0 true 0
        else if kind = 3 then (s.fencePort inst).retireRecord code u.unit.toNat 0 true 0
        else if kind = 4 then (s.retire u .watchdog).retireRecord code u.unit.toNat 0 true 0
        else s.retire u .watchdog))

end Sys2Proof.Machine
end

