-- ==== Sys2Proof/Machine/Phase.lean ====
section
/-! DEFINITION. The phases of a step (R249, R250): the start and end of a microbatch (R503, R253, R331, R391), the
STEP boundary (R228, R288, R293, R316, R319, R342), the hold policy (R216), and running and stopping (R276). -/

namespace Sys2Proof.Machine

/-! ## The start of a microbatch -/

/-- A present logical spindle started at instruction 0 (R503). -/
def Spindle.begin_ (x : Spindle) : Spindle :=
  { x with halted := false, pc := 0, loops := [], atDoff := none, arrived := none, inFlight := [] }

/-- Every present logical spindle started. -/
def State.beginSpindles (s : State) : State :=
  { s with spindles := (List.range 9216).map (fun r =>
      let x := (tget s.spindles r).getD {}
      (r, if s.isAbsent r then x else x.begin_)) }

/-- STEP_INFO (R133). -/
def State.stepInfo (s : State) : W64 :=
  BitVec.ofNat 64 (s.stepCount % 2 ^ 32 + s.nextIndex % 2 ^ 16 * 2 ^ 32 + s.step.evaluating.toNat * 2 ^ 48)

/-- A bolt's program started at code address 0 where it has one (R503). -/
def Bolt.begin_ (b : Bolt) (up : Bool) (info : W64) : Bolt :=
  { b with progRunning := up && decide (0 < b.codeLen), suBlocked := false, pc := 0, resv := none, stepInfo := info }

/-- Every bolt program started. -/
def State.beginBolts (s : State) : State :=
  { s with bolts := (List.range 48).map (fun b =>
      (b, (s.bolt b).begin_ (s.field Obj.boltState b 0 4 == 0) s.stepInfo)) }

/-- The wafer set going: spindles, bolt programs, inputs, watchdog (R173, R390, R503). Results still on their way
to the bolt controllers have arrived by then (R131); a bolt program waits for doffs of its own microbatch (DEDUCED,
log entry 30). -/
def State.launch (s : State) : State :=
  let s := s.fabric.results.foldl State.deliverSummary s
  let s := (s.beginSpindles.beginBolts).deliverInputs
  let f : Fabric := { s.fabric with watchdog := 0, watchdogOn := true, results := [], doneSeqs := [] }
  let t : Streams := { s.streams with engines := [] }
  { s with fabric := f, streams := t, step := { s.step with mbRunning := true } }

/-- The first microbatch of a step starts (R292, R331); until then LOSS_LOCAL and TOKENS_LOCAL hold the sums of the step
before (R297). -/
def State.firstMb (s : State) : State :=
  if s.phase = 1 ∧ s.mbIndex = 0 then
    let s := ((s.setObj Obj.lossLocal 0 0).setObj Obj.tokensLocal 0 0).writeScaleLines
    { s with step := { s.step with mbStart := s.time.now } }
  else s

/-- Everything a microbatch needs before it starts is there: its slots, every refill, and before microbatch 0 the
fences of the STEP boundary (R250, R366, R370). -/
def State.mayStart (s : State) : Bool :=
  s.atBoundary && s.lacking.isEmpty && s.faults.lost.isEmpty && !s.prog.halted173 &&
    (s.phase != 1 || s.mbIndex != 0 || s.faults.dueFence.isEmpty)

/-- MICROBATCH_START (R250, R411, R503). -/
def execMicrobatchStart (s : State) : Result :=
  done (if s.mayStart then
    let s := (s.endWait.applyPlain apMicrobatch).firstMb
    let s := { s with step := { s.step with gradCount := [], gradSkip := [], evalAvg := false, evalLive := false } }
    s.launch
  else s)

/-! ## The end of a microbatch -/

/-- The element counts of the gradient target rows checked (R253). -/
def State.checkGrads (s : State) : State :=
  s.gradRows.foldl (fun t e =>
    if (tget t.step.gradCount e.1).getD 0 = e.2.ecount then t
    else (t.fault 0x4503 (stackOfPort e.2.port) 0).taint) s

/-- The flits outside the ports without the leas of which none has entered the mesh: they are staged still (R503). -/
def Fabric.unstaged (f : Fabric) : SMap (List NetFlit) :=
  f.portIn.filter (fun e => !(e.2.head?).any (fun x => x.sb.kind == 3 && x.sb.first))

/-- Open streams are abandoned, and the watchdog stops (R503). -/
def State.settleWafer (s : State) : State :=
  { s with
    spindles := s.spindles.map (fun e => (e.1, { e.2 with streams := [] }))
    streams := { s.streams with engines := [] }
    fabric := { s.fabric with watchdogOn := false, watchdog := 0, portIn := s.fabric.unstaged }
    step := { s.step with mbRunning := false } }

/-- A training microbatch has ended (R249, R253, R331). -/
def State.endTraining (s : State) : State :=
  let s := s.checkGrads.returnSlots false
  if s.mbIndex + 1 < s.step.total then s.setMb (s.mbIndex + 1)
  else
    let s := s.setObj Obj.paceLast 0 (s.time.now - s.step.mbStart - s.step.waited)
    s.setPhase (if s.step.exchangeEnded then 3 else 2)

/-- The evaluation is over: the module goes to the STEP boundary. -/
def State.endEvaluation (s : State) : State :=
  ({ s with step := { s.step with evaluating := false } }).setPhase 7

/-- An evaluation microbatch has ended (R279, R281, R391). -/
def State.endEval (s : State) : State :=
  let s := if s.step.evalAvg && s.step.evalLive then s.bump Obj.evalMixed 0 1 else s
  let s := s.returnSlots false
  let s := { s with step := { s.step with evalIndex := s.step.evalIndex + 1 } }
  if s.step.evalIndex < s.step.evalTotal then s else s.endEvaluation

/-- MICROBATCH_END (R253, R331, R390, R391, R503). -/
def execMicrobatchEnd (s : State) : Result :=
  done (s.ifUp (fun s =>
    if s.step.mbRunning && s.allHalted then
      let s := s.settleWafer
      if s.step.evaluating then s.endEval else s.endTraining
    else s))

/-! ## The hold policy -/

/-- The lateness of every spindle and Dudin die so far, by object key. -/
def State.lateness (s : State) : SMap Nat :=
  s.objs.filter (fun e => e.1 / 2 ^ 20 == Obj.lateDudin || e.1 / 2 ^ 20 == Obj.lateSpindle)

/-- A unit's lateness in a map. -/
def lateOf (m : SMap Nat) (k : Nat) : Nat := (tget m k).getD 0

/-- The lateness of the step just ended, and its CORE cycles, added to the window. -/
def State.pushWindow (s : State) : State :=
  let now := s.lateness
  let d : SMap Nat := now.map (fun e => (e.1, e.2 - lateOf s.faults.lateBase e.1))
  let w := ((s.time.core - s.faults.coreBase, d) :: s.faults.window).take (s.used Obj.holdPolicyWindow 0)
  { s with faults := { s.faults with window := w, lateBase := now, coreBase := s.time.core } }

/-- The units whose share of the window exceeds HOLD_POLICY_SHARE, in hundredths of a per cent. -/
def State.policyUnits (s : State) : List Nat :=
  let share := s.used Obj.holdPolicyShare 0
  let cycles := (s.faults.window.map (·.1)).foldl (· + ·) 0
  if share = 0 then []
  else ((s.faults.window.flatMap (fun e => e.2.map (·.1))).mergeSort.eraseDups).filter (fun k =>
    decide (share * cycles < 10000 * (s.faults.window.map (fun e => lateOf e.2 k)).foldl (· + ·) 0))

/-- A unit fenced as a policy fault; its history starts over (R216). -/
def State.policyFence (s : State) (k : Nat) : State :=
  let row := k % 2 ^ 20
  let w := s.faults.window.map (fun e => (e.1, e.2.filter (fun c => c.1 != k)))
  let s := { s with faults := { s.faults with window := w } }
  let s := s.bump Obj.holdPolicyFences 0 1
  if k / 2 ^ 20 = Obj.lateDudin then (s.fault 0x4601 row 0).retire (unitId lvDudin row) .policy
  else s.retire (unitId lvSpindle (s.siteUnit (row % 128) (row / 128))) .policy

/-- The hold policy at the end of a step (R216). -/
def State.holdPolicy (s : State) : State :=
  let s := s.pushWindow
  s.policyUnits.foldl State.policyFence s

/-! ## The STEP boundary -/

/-- The step running was committed. -/
def State.committed (s : State) : Bool :=
  match s.step.decision with
  | some w => decisionOf w == 1
  | none => false

/-- STEP_RESULT of the step just ended (R284). The manual leaves gnorm, clip and lr[0] open after an ABANDON: free
values. -/
def State.putStepResult (s : State) : State :=
  let w : BitVec 512 := s.step.decision.getD 0
  let com := s.committed
  let sc := s.step.scalars
  let pick := fun (k : Nat) (f : Scalars → W64) => match sc with
    | some x => (f x).toNat
    | none => Config.freeNat (s.free + k) % 2 ^ 64
  let v := bits w.toNat 416 16 * 2 ^ 32 + causeByte w * 2 ^ 48 + decisionOf w * 2 ^ 56 +
    (if com then s.step.digest.toNat else 0) * 2 ^ 64 + pick 2 (fun x => (nth x.rows 0 {}).lr) * 2 ^ 128 +
    pick 1 (·.clip) * 2 ^ 192 + pick 0 (·.gnorm) * 2 ^ 256 + bits w.toNat 192 64 * 2 ^ 320 +
    bits w.toNat 256 64 * 2 ^ 384 + bits w.toNat 448 64 * 2 ^ 448
  (s.setObj Obj.stepResult 0 v).drew 3

/-- What the watch and the bobbins do at the boundary of a committed or abandoned step (R288, R290, R293, R296,
R392). -/
def State.closeStep (s : State) : State :=
  let w : BitVec 512 := s.step.decision.getD 0
  let s := s.putStepResult
  if s.committed then
    ((s.scaleCommit.closeStones (s.stepCount - 1) 1).zeroStreaks).exponents
  else ((s.scaleAbandon (causeByte w)).closeStones s.stepCount 2).abandonSlots

/-- Units permanent by recurrence retired (R351). -/
def State.retireDue (s : State) : State :=
  let us := s.faults.dueRetire
  us.foldl (fun t u => t.retire u .recurrence) { s with faults := { s.faults with dueRetire := [] } }

/-- The membership changes of a boundary, and the leave that was asked for (R316, R319, R342). -/
def State.boundaryMembers (s : State) : State :=
  let old := s.liveMap
  let s := s.applyPendingLoss
  let s := if s.link.member then s.admitJoined old else s
  if s.step.leaveAsked && (s.mode == stRun || s.mode == stDrain) then s.leaveNow else s

/-- What the module does after the boundary: PAUSED, IDLE or the next step (R173, R276, R278). -/
def State.nextStep (s : State) (abandoned : Bool) : State :=
  let c := s.obj Obj.stepControl 0
  let stop := bitAt c 1
  let s := if stop then s.setField Obj.stepControl 0 1 1 0 else s
  if stop || s.step.mustPause || (abandoned && bitAt c 2) then s.setPhase 8
  else if bitAt c 0 then s.beginStep
  else s.setPhase 0

/-- The STEP boundary at a joining module that is not yet admitted: its state follows the step, and it waits for the next
step's grid sums (R341, R342). -/
def State.joinerBoundary (s : State) : State :=
  let s := s.closeStep.applyStep
  let s := { s with step := {}, link := { s.link with gridSums := [] } }
  (s.setField Obj.reweaveStatus 0 0 4 3).setPhase 0

/-- STEP_BOUNDARY (R228, R249, R276). -/
def execStepBoundary (s : State) : Result :=
  done (s.ifUp (fun s =>
    if s.phase == 7 && s.dict.voteLost.isEmpty then
      let abandoned := !s.committed
      if s.link.reweaving then s.joinerBoundary
      else
        let s := ((s.closeStep.applyStep).retireDue).holdPolicy
        let s := s.boundaryMembers
        if s.phase = 7 then s.nextStep abandoned else s
    else s))

/-! ## STEP_CONTROL -/

/-- Status codes of R430 that the module's own actions give. -/
abbrev stOk : Nat := 0
/-- ACCESS. -/
abbrev stAccess : Nat := 3
/-- RANGE. -/
abbrev stRange : Nat := 4
/-- LENGTH. -/
abbrev stLength : Nat := 5
/-- STATE. -/
abbrev stState : Nat := 8

/-- Stepping starts or resumes: the STEP boundary of R411, then microbatch 0 of the step (R276). It is held while a
voted object is lost (R416). -/
def State.startStepping (s : State) : State :=
  if !s.dict.voteLost.isEmpty then { s with step := { s.step with startHeld := true } }
  else
    let s := { s with step := { s.step with startHeld := false } }
    let s := s.applyStep
    if s.step.leaveAsked then s.leaveNow else s.beginStep

/-- RUN written as 1 (R276, R314, R371, R438): refused while a program is halted under R173, or can no longer run. -/
def State.writeRun (s : State) : State × Nat :=
  if s.prog.halted173 || s.prog.unrunnable then (s, stState)
  else
    let s := s.setField Obj.stepControl 0 0 1 1
    if s.mode = stLoaded then
      ((((s.setMode stRun 0).setMember true).sendJoin).startStepping, stOk)
    else if (s.mode = stRun ∨ s.mode = stDrain) ∧ (s.phase = 0 ∨ s.phase = 8) then
      ((if s.link.joinSent || s.mode == stDrain then s else (s.setMember true).sendJoin).startStepping, stOk)
    else (s, stOk)

end Sys2Proof.Machine
end

