-- ==== Sys2Proof/Machine/Doff.lean ====
section
/-! DEFINITION. The doff (R20, R127, R171 to R173): issue, arrival, completion and the watchdog. -/

namespace Sys2Proof.Machine

/-- DOFF (R171): at issue the spindle begins to wait. -/
def execDoff (p : Site) (dseq : W16) (s : State) : Result :=
  done (s.runAt p (fun t => t.setSpindle p { t.spindle p with atDoff := some dseq }))

/-- Earlier instructions are finished, the spindle's streams closed and its router's reductions retired (R171). -/
def State.mayArrive (s : State) (p : Site) : Bool :=
  let x := s.spindle p
  s.up && !s.isHeld p && x.atDoff.isSome && x.arrived.isNone && s.enginesIdle p && x.streams.isEmpty &&
    x.router.decls.isEmpty

/-- DOFF_ARRIVE (R127, R171): the spindle's slots travel with the doff and return to unwritten. -/
def execDoffArrive (p : Site) (s : State) : Result :=
  done (if s.mayArrive p then
    let x := s.spindle p
    s.setSpindle p { x.quiet with arrived := x.atDoff, carried := x.sums, sums := List.replicate 8 {} }
  else s)

/-! ## The consequences of R173 -/

/-- UNIT of the doff tree (R356). -/
abbrev doffUnit : Nat := 3 * 2 ^ 28

/-- The program is halted, the step poisoned and without further microbatches; the module enters the exchange or ends
the evaluation, and stops at the STEP boundary (R173). -/
def State.imbalance (s : State) : State :=
  let ev := s.step.evaluating
  let s := s.haltWafer.poisonStep
  let p : Prog := { s.prog with halted173 := true }
  let s := { s with prog := p, step := { s.step with mustPause := true, noMore := true } }
  if ev then (s.returnSlots true).endEvaluation else s.enterExchange

/-! ## Completion -/

/-- The logical rows that are present and have arrived, with their DSEQ; none where one is missing (R20). -/
def State.arrivals (s : State) : Option (List Nat) :=
  (List.range 9216).foldr (fun r acc =>
    match acc with
    | none => none
    | some l =>
      if s.isAbsent r then some l
      else
        match ((tget s.spindles r).getD {}).arrived with
        | none => none
        | some d => some (d.toNat :: l)) (some [])

/-- A spindle released by the doff's completion. -/
def Spindle.release (x : Spindle) : Spindle :=
  { x with atDoff := none, arrived := none, carried := List.replicate 8 {} }

/-- A replay that has completed as many doffs as the stopped attempt has reached the point of the stop (R374). -/
def State.reachStop (s : State) : State :=
  let n := s.faults.doffsAtStop
  if n = 0 then s
  else
    let s := { s with faults := { s.faults with doffsAtStop := n - 1 } }
    if n = 1 then s.recovered 2 s.faults.stopTime s.faults.recRoot else s

/-- A doff completed: DOFF_LAST, DOFF_COUNT, the watchdog, the global results and the step totals (R128, R172, R173,
R257). -/
def State.completeDoff (s : State) (dseq : W16) : State :=
  let r := s.doffResult dseq
  let s := ((s.setObj Obj.doffLast 0 dseq.toNat).bump Obj.doffCount 0 1).putSummary r
  let s := (s.addLoss r).reachStop
  { s with
    spindles := s.spindles.map (fun e => (e.1, e.2.release))
    fabric := { s.fabric with watchdog := 0, results := s.fabric.results ++ [r] } }

/-- The root's judgement of the arrivals (R172). -/
def State.judgeDoff (s : State) : State :=
  match s.arrivals with
  | none => s
  | some [] => s
  | some (d :: ds) =>
    let lo := ds.foldl min d
    let hi := ds.foldl max d
    if lo = hi then s.completeDoff (BitVec.ofNat 16 d)
    else (s.fault 0x3502 doffUnit (lo + hi * 2 ^ 16)).imbalance

/-- DOFF_COMPLETE (R172): the root completes the doff once every present spindle has arrived; a hold lengthens it
(R21). -/
def execDoffComplete (s : State) : Result :=
  done (s.ifUp (fun s => if s.step.mbRunning && s.hold.counts.isEmpty then s.judgeDoff else s))

/-! ## The watchdog -/

/-- The missing rows (R173): while some spindle has arrived those that have not; else those not halted. -/
def State.missing (s : State) : List Nat :=
  let some_ := s.spindles.any (fun e => !s.isAbsent e.1 && e.2.arrived.isSome)
  (List.range 9216).filter (fun r =>
    let x := (tget s.spindles r).getD {}
    !s.isAbsent r && (if some_ then x.arrived.isNone else !x.halted))

/-- A row of DOFF_MISSING (R178): the DSEQ others have arrived with, or 0xFFFF, and the coordinate. -/
def missingRow (dseq r : Nat) : Nat := dseq * 2 ^ 16 + r / 128 * 2 ^ 8 + r % 128

/-- DOFF_MISSING and DOFF_MISSING_COUNT. Where spindles have arrived with different DSEQs the rows show the lowest (DESIGN
CHOICE, log entry 43: R173 does not say which). -/
def State.putMissing (s : State) (ms : List Nat) : State :=
  let ds := s.spindles.filterMap (fun e => if s.isAbsent e.1 then none else e.2.arrived.map (·.toNat))
  let d := match ds with
    | [] => 0xFFFF
    | a :: l => l.foldl min a
  let s := (List.range 16).foldl (fun t i =>
    t.setObj Obj.doffMissing i (match ms[i]? with
      | some r => missingRow d r
      | none => 0xFFFFFFFF)) s
  s.setObj Obj.doffMissingCount 0 ms.length

/-- A spindle that does not answer the probe: a report of the doff tree, and a hard indicator of its site (R173, R349,
R357). -/
def State.noAnswer (s : State) (p : Site) : State :=
  let u := s.siteId p
  (s.report (unitId lvWafer doffUnit) u 0x1401 0).retire u .hard

/-- DOFF_WATCHDOG_EXPIRY (R173). -/
def execDoffWatchdogExpiry (unanswered : List Site) (s : State) : Result :=
  done (s.ifUp (fun s =>
    if !(s.step.mbRunning && s.fabric.watchdogOn && s.hold.counts.isEmpty) then s
    else
      let ms := s.missing
      let dead := unanswered.filter (fun p => ms.contains p.row)
      if ms.isEmpty then s
      else if dead.isEmpty then ((s.putMissing ms).fault 0x3501 doffUnit 0).imbalance
      else dead.foldl State.noAnswer s))

end Sys2Proof.Machine
end

