-- ==== Sys2Proof/Machine/Image.lean ====
section
/-! DEFINITION. Program images (R398 to R402): header, directory, sections, identifiers, and the loader's checks of
steps 1 to 5 (R403). A check answers the cause and the directory index of the first failure. -/

namespace Sys2Proof.Machine

/-! ## Bytes -/

/-- n bytes from address a of cells with rising addresses. -/
def sliceFrom : Mem → Nat → Nat → List Byte
  | [], _, n => List.replicate n 0
  | (k, v) :: m, a, n =>
    if k < a then sliceFrom m a n
    else if k < a + n then List.replicate (k - a) 0 ++ v :: sliceFrom m (k + 1) (n - (k - a) - 1)
    else List.replicate n 0

/-- n bytes of a list from byte a. -/
def cut {α : Type} (l : List α) (a n : Nat) : List α := (l.drop a).take n

/-- The little-endian number in n bytes from byte a. -/
def numAt (l : List Byte) (a n : Nat) : Nat := leNat (cut l a n)

/-- Rows of w bytes as numbers. -/
def rowNums (w : Nat) (l : List Byte) : List Nat := (chunks w l.length l).map leNat

/-! ## Header and directory -/

/-- A section: its directory fields (R399) and its bytes. -/
structure Sect where
  typ : Nat
  idx : Nat
  off : Nat
  len : Nat
  crc : Nat
  reserved : Bool
  bytes : List Byte := []
deriving DecidableEq, Repr

/-- Section types (R399). -/
abbrev scGlobal : Nat := 0x0001
/-- SITE_MAP. -/
abbrev scSiteMap : Nat := 0x0002
/-- BOLT. -/
abbrev scBolt : Nat := 0x0010
/-- CONST. -/
abbrev scConst : Nat := 0x0011
/-- SHAPES. -/
abbrev scShapes : Nat := 0x0020
/-- STREAMS. -/
abbrev scStreams : Nat := 0x0021
/-- DESC. -/
abbrev scDesc : Nat := 0x0022
/-- GRAD_TARGETS. -/
abbrev scGrads : Nat := 0x0023
/-- RESIDENCE. -/
abbrev scResidence : Nat := 0x0030
/-- MASKS. -/
abbrev scMasks : Nat := 0x0031
/-- BOBBINS. -/
abbrev scBobbins : Nat := 0x0032
/-- RELOCS. -/
abbrev scRelocs : Nat := 0x0040
/-- OBJECT_INIT. -/
abbrev scInit : Nat := 0x0050
/-- TIER_DATA. -/
abbrev scTier : Nat := 0x0060
/-- SIGNATURE. -/
abbrev scSign : Nat := 0x00F0

/-- A directory entry's fields. -/
def sectOf (w : Nat) : Sect where
  typ := bits w 0 16
  idx := bits w 16 16
  off := bits w 64 64
  len := bits w 128 64
  crc := bits w 192 32
  reserved := decide (bits w 32 32 ≠ 0 ∨ bits w 224 32 ≠ 0)

/-- An image: its header as a number, its sections in directory order, and the absent sites as one number (R399). -/
structure Img where
  head : Nat
  sects : List Sect
  absent : Nat := 0
deriving DecidableEq, Repr

/-- MAGIC. -/
def imgMagic : Nat := 0x31474D4952424F54
/-- TOTAL_LENGTH. -/
def Img.total (i : Img) : Nat := bits i.head 448 64
/-- DIR_OFFSET. -/
def Img.dirOff (i : Img) : Nat := bits i.head 416 32
/-- SECTION_COUNT. -/
def Img.count (i : Img) : Nat := bits i.head 400 16
/-- MIN_REV. -/
def Img.minRev (i : Img) : Nat := bits i.head 392 8
/-- REDUCED. -/
def Img.reduced (i : Img) : Bool := bitAt i.head 385
/-- SIGNED. -/
def Img.signed (i : Img) : Bool := bitAt i.head 384
/-- IMAGE_ID. -/
def Img.id_ (i : Img) : Nat := bits i.head 320 64

/-- The section of a type and index with its directory index. -/
def Img.sect? (i : Img) (typ idx : Nat) : Option (Nat × Sect) :=
  (i.sects.mapIdx (fun k s => (k, s))).find? (fun e => e.2.typ == typ && e.2.idx == idx)

/-- The bytes of a section; none is empty. -/
def Img.bytes (i : Img) (typ idx : Nat) : List Byte := ((i.sect? typ idx).map (·.2.bytes)).getD []

/-- The directory index of a section; 0 where it is missing. -/
def Img.at_ (i : Img) (typ idx : Nat) : Nat := ((i.sect? typ idx).map (·.1)).getD 0

/-- An image read from a store: the header, and the directory where it lies within the store's 8 GiB. -/
def readImg (m : Mem) : Img :=
  let head := leNat (sliceFrom m 0 128)
  let dir := sliceFrom m (bits head 416 32) (32 * bits head 400 16)
  { head, sects := (rowNums 32 dir).map sectOf }

/-- The absent sites taken from SITE_MAP. -/
def Img.mapped (i : Img) : Img := { i with absent := leNat (i.bytes scSiteMap 0) }

/-- The sections with their bytes. -/
def Img.fill (m : Mem) (i : Img) : Img :=
  ({ i with sects := i.sects.map (fun s => { s with bytes := sliceFrom m s.off s.len }) } : Img).mapped

/-! ## Step 1 -/

/-- A refusal: cause and directory index. -/
abbrev Cause := Option (Nat × Nat)

/-- The first refusal of a list of checks. -/
def firstCause (l : List Cause) : Cause := l.findSome? id

/-- A check with its cause. -/
def causeIf (b : Bool) (cause idx : Nat) : Cause := if b then some (cause, idx) else none

/-- Two extents share a byte. -/
def extentsMeet (a m b n : Nat) : Bool := decide (a < b + n ∧ b < a + m)

/-- A section is misplaced: OFFSET, the end, the header, the directory, or an earlier section (R399). -/
def Img.misplaced (i : Img) (k : Nat) (s : Sect) : Bool :=
  decide (s.off % 64 ≠ 0) || decide (i.total < s.off + s.len) || extentsMeet s.off s.len 0 128 ||
    extentsMeet s.off s.len i.dirOff (32 * i.count) ||
    (i.sects.take k).any (fun t => extentsMeet s.off s.len t.off t.len)

/-- Placement (cause 0x12). -/
def Img.checkPlaces (i : Img) : Cause :=
  firstCause
    (causeIf (decide (2 ^ 33 < i.total ∨ i.total < 128 ∨ i.dirOff < 128 ∨ i.total < i.dirOff + 32 * i.count)) 0x12 0 ::
      i.sects.mapIdx (fun k s => causeIf (i.misplaced k s) 0x12 k))

/-- Reserved header bits are 0. -/
def Img.headReserved (i : Img) : Bool :=
  decide (bits i.head 80 112 ≠ 0 ∨ bits i.head 386 6 ≠ 0 ∨ bits i.head 512 480 ≠ 0)

/-- Types that take an INDEX, with its largest value; others take 0; none for a reserved type. -/
def indexLimit (t : Nat) : Option Nat :=
  if t = scBolt ∨ t = scConst then some 47
  else if t = scDesc then some 23
  else if t = scTier then some 31
  else if [scGlobal, scSiteMap, scShapes, scStreams, scGrads, scResidence, scMasks, scBobbins, scRelocs, scInit,
      scSign].contains t then some 0
  else none

/-- A table section's row bytes and largest number of rows. -/
def tableRows (t : Nat) : Option (Nat × Nat) :=
  if t = scShapes then some (8, 4096)
  else if t = scStreams then some (16, 8192)
  else if t = scGrads then some (16, 8192)
  else if t = scResidence then some (32, 262144)
  else if t = scMasks then some (32, 4096)
  else if t = scBobbins then some (16, 4096)
  else if t = scRelocs then some (16, 2 ^ 33)
  else none

/-- Records of a header of `hd` bytes and a body whose length the header gives, padded: the headers' bytes and bodies, and
whether the section ends with a record's end. -/
def recordsOf (hd pad : Nat) (len : List Byte → Nat) : Nat → List Byte → List (List Byte × List Byte) × Bool
  | 0, l => ([], l.isEmpty)
  | fuel + 1, l =>
    if l.isEmpty then ([], true)
    else
      let h := l.take hd
      let n := len h
      let whole := hd + ceilDiv n pad * pad
      if h.length < hd ∨ l.length < whole then ([], false)
      else
        let r := recordsOf hd pad len fuel (l.drop whole)
        ((h, cut l hd n) :: r.1, r.2)

/-- CONST records. -/
def constRecords (l : List Byte) : List (List Byte × List Byte) × Bool :=
  recordsOf 16 64 (fun h => 64 * numAt h 8 4) l.length l
/-- OBJECT_INIT records. -/
def initRecords (l : List Byte) : List (List Byte × List Byte) × Bool := recordsOf 16 8 (fun h => numAt h 8 4) l.length l
/-- TIER_DATA records. -/
def tierRecords (l : List Byte) : List (List Byte × List Byte) × Bool := recordsOf 16 64 (fun h => numAt h 8 8) l.length l

/-- One spindle entry of a BOLT section (R400): record offset, CODE_LINES, BUFFERS. -/
structure SpEntry where
  off : Nat
  lines : Nat
  bufs : Nat
  reserved : Bool
deriving DecidableEq, Repr

/-- Entry n of a BOLT section. -/
def spEntry (l : List Byte) (n : Nat) : SpEntry :=
  let w := numAt l (16 * n) 16
  { off := bits w 0 32, lines := bits w 32 16, bufs := bits w 48 16, reserved := decide (bits w 64 64 ≠ 0) }

/-- The row of spindle n of a bolt (R400). -/
def entryRow (b n : Nat) : Nat := 128 * (12 * (b / 8) + n / 16) + 16 * (b % 8) + n % 16

/-- Bytes of a BOLT section before its code. -/
abbrev boltHead : Nat := 192 * 16 + 8

/-- A spindle entry that is no well-formed record of its section (R400). -/
def SpEntry.broken (e : SpEntry) (size : Nat) : Bool :=
  e.reserved || decide (256 < e.bufs) || decide (size < e.off + 64 * e.lines + 8 * e.bufs)

/-- A BOLT section's structure. -/
def Img.boltBroken (i : Img) (b : Nat) (l : List Byte) : Bool :=
  decide (l.length < boltHead) || decide (l.length < boltHead + numAt l 3072 4 + numAt l 3076 4) ||
    (List.range 192).any (fun n => !bitAt i.absent (entryRow b n) && (spEntry l n).broken l.length)

/-- A CONST section's structure: a record with reserved bits, a spindle beyond 191, or lines beyond the store. -/
def constBroken (l : List Byte) : Bool :=
  let r := constRecords l
  !r.2 || r.1.any (fun e => decide (numAt e.1 2 2 ≠ 0 ∨ numAt e.1 12 4 ≠ 0 ∨ 192 ≤ numAt e.1 0 2 ∨
    98304 < numAt e.1 4 4 + numAt e.1 8 4))

/-- An OBJECT_INIT section's structure. -/
def initBroken (l : List Byte) : Bool :=
  let r := initRecords l
  !r.2 || r.1.any (fun e => decide (numAt e.1 3 1 ≠ 0 ∨ numAt e.1 12 4 ≠ 0))

/-- A TIER_DATA section's structure: a record beyond its tier. -/
def tierBroken (unit : Nat) (l : List Byte) : Bool :=
  let r := tierRecords l
  !r.2 || r.1.any (fun e => decide ((if unit < 24 then 2 ^ 36 else 2 ^ 39) < numAt e.1 0 8 + numAt e.1 8 8))

/-- GLOBAL's structure: its length and reserved bits (R248, R400). -/
def globalBroken (l : List Byte) : Bool :=
  decide (l.length < 852) || decide (l.length ≠ 852 + 4 * numAt l 848 4) || decide (numAt l 12 4 ≠ 0) ||
    (rowNums 8 (cut l 16 768)).any (fun w => decide (2 ^ 48 ≤ w))

/-- A section's length or structure is wrong for its type. -/
def Img.broken (i : Img) (s : Sect) : Bool :=
  match tableRows s.typ with
  | some (w, n) => decide (s.bytes.length % w ≠ 0) || decide (n * w < s.bytes.length)
  | none =>
    if s.typ = scGlobal then globalBroken s.bytes
    else if s.typ = scSiteMap then decide (s.bytes.length ≠ 1152)
    else if s.typ = scBolt then i.boltBroken s.idx s.bytes
    else if s.typ = scConst then constBroken s.bytes
    else if s.typ = scInit then initBroken s.bytes
    else if s.typ = scTier then tierBroken s.idx s.bytes
    else false

/-- A section is invalid (cause 0x14): reserved bits, its type, INDEX, a repetition, or its structure. -/
def Img.invalid (i : Img) (k : Nat) (s : Sect) : Bool :=
  s.reserved ||
    (match indexLimit s.typ with
      | none => true
      | some n => decide (n < s.idx)) ||
    (i.sects.take k).any (fun t => t.typ == s.typ && t.idx == s.idx) ||
    (s.typ == scSiteMap && !i.reduced) || i.broken s

/-- A bolt has a present site. -/
def Img.boltPresent (i : Img) (b : Nat) : Bool := (List.range 192).any (fun n => !bitAt i.absent (entryRow b n))

/-- Types, presence, repetition, lengths and INDEX values (cause 0x14). -/
def Img.checkSections (i : Img) : Cause :=
  firstCause
    (causeIf (i.headReserved || decide (i.count = 0 ∨ 4096 < i.count)) 0x14 0 ::
      i.sects.mapIdx (fun k s => causeIf (i.invalid k s) 0x14 k) ++
      [causeIf ((i.sect? scGlobal 0).isNone || (i.reduced && (i.sect? scSiteMap 0).isNone) ||
        (List.range 48).any (fun b => i.boltPresent b && (i.sect? scBolt b).isNone)) 0x14 0])

/-- Step 1 of R403 on the store the image lies in. The header and directory are judged before a section is read. -/
def Img.step1 (m : Mem) (i : Img) : Cause :=
  let pre := firstCause [
    causeIf (decide (bits i.head 0 64 ≠ imgMagic ∨ bits i.head 64 16 ≠ 1)) 0x10 0,
    causeIf ((crc32c (sliceFrom m 0 124)).toNat != bits i.head 992 32) 0x11 0,
    i.checkPlaces]
  match pre with
  | some c => some c
  | none =>
    let f := i.fill m
    match firstCause (f.sects.mapIdx (fun k s => causeIf ((crc32c s.bytes).toNat != s.crc) 0x11 k)) with
    | some c => some c
    | none => f.checkSections

/-! ## Steps 2 to 4 -/

/-- The bytes R401's digest covers. -/
def Img.digestBytes (i : Img) : List Byte := (i.sects.filter (fun s => s.typ != scSign)).flatMap (·.bytes)

/-- The 48-byte digest of R401. -/
def Img.digest (i : Img) : List Byte := sha384 i.digestBytes

/-- LOADED_ID (R401). -/
def loadedId (imageId : Nat) (patches : List Nat) : Nat :=
  leNat ((sha384 (leBytes 8 imageId ++ patches.flatMap (leBytes 8))).take 8)

/-- KEY of a SIGNATURE section (R478). -/
def signKey (w : Nat) : Nat := bits w 128 768

/-- The signature check fails (R478, R479) against OWNER_KEY_HASH and IMAGE_SIGN_REQUIRED. -/
def Img.signBad (i : Img) (headBytes : List Byte) (owner : Nat) (required : Bool) : Bool :=
  match i.sect? scSign 0 with
  | none => i.signed || required
  | some (k, s) =>
    let w := leNat s.bytes
    decide (s.bytes.length ≠ 256) || decide (k + 1 ≠ i.sects.length) ||
      decide (bits w 0 64 ≠ 0x314753474D495754 ∨ bits w 64 16 ≠ 1) || decide (owner = 0) ||
      decide (keyHash (signKey w) ≠ owner) ||
      !ecVerify (sha384 (headBytes ++ i.digest)) (pair384 (signKey w)) (pair384 (bits w 896 768)) ||
      (required && !i.signed)

/-! ## Step 5 -/

/-- A relocation record's fields (R402). -/
structure Reloc where
  sect : Nat
  kind : Nat
  src : Nat
  unit : Nat
  width : Nat
  scale : Bool
  reserved : Bool
  bit : Nat
deriving DecidableEq, Repr

/-- A 128-bit record. -/
def relocOf (w : Nat) : Reloc where
  sect := bits w 116 12
  kind := bits w 112 4
  src := bits w 108 4
  unit := bits w 103 5
  width := bits w 97 6 + 1
  scale := bitAt w 96
  reserved := decide (bits w 64 32 ≠ 0)
  bit := bits w 0 64

/-- A region's base in bytes, from GLOBAL (R400, R402); SLOW begins at 0. -/
def regionBase (g : List Byte) (src unit : Nat) : Nat := if src = 4 then 0 else bits (numAt g (16 + 32 * unit + 8 * src) 8) 24 24 * 4096

/-- A record's fields are out of range. -/
def Reloc.bad (r : Reloc) : Bool :=
  r.reserved || !(r.kind == 1 || r.kind == 2) ||
    (r.kind == 1 && (decide (4 < r.src) || (r.src == 4 && decide (7 < r.unit)) || (r.src != 4 && decide (23 < r.unit))))

/-- Bytes with a field replaced. -/
def putField (l : List Byte) (bit width v : Nat) : List Byte :=
  let a := bit / 8
  let n := (bit % 8 + width + 7) / 8
  let w := numAt l a n
  l.take a ++ leBytes n (setBits w (bit % 8) width v) ++ l.drop (a + n)

/-- A field of bytes. -/
def getField (l : List Byte) (bit width : Nat) : Nat := bits (numAt l (bit / 8) ((bit % 8 + width + 7) / 8)) (bit % 8) width

/-- The new value of a record's field; none where it overflows. -/
def Reloc.value (r : Reloc) (g : List Byte) (patches : List Nat) (old : Nat) : Option Nat :=
  if r.kind = 2 then some (nth patches r.src 0 % 2 ^ r.width)
  else
    let base := regionBase g r.src r.unit
    let v := old + if r.scale then base / 4096 else base
    if v < 2 ^ r.width then some v else none

/-- The records applied in order; none where one is refused (cause 0x16). `g` is GLOBAL as stored. -/
def Img.relocate (g : List Byte) (patches : List Nat) (done_ : List Reloc) : List Reloc → Img → Option Img
  | [], i => some i
  | r :: rs, i =>
    match i.sects[r.sect]? with
    | none => none
    | some s =>
      if r.bad || s.typ == scSign || decide (8 * s.bytes.length < r.bit + r.width) ||
          done_.any (fun q => q.sect == r.sect && extentsMeet r.bit r.width q.bit q.width) then none
      else
        match r.value g patches (getField s.bytes r.bit r.width) with
        | none => none
        | some v =>
          let s' : Sect := { s with bytes := putField s.bytes r.bit r.width v }
          Img.relocate g patches (done_ ++ [r]) rs { i with sects := i.sects.set r.sect s' }

/-- The image with its relocation records applied. -/
def Img.relocated (i : Img) (patches : List Nat) : Option Img :=
  (Img.relocate (i.bytes scGlobal 0) patches [] ((rowNums 16 (i.bytes scRelocs 0)).map relocOf) i).map Img.mapped

/-! ## What a checked image declares -/

/-- The non-empty rows of a table section. -/
def Img.rows (i : Img) (typ w : Nat) : List (Nat × Nat) :=
  ((rowNums w (i.bytes typ 0)).mapIdx (fun k v => (k, v))).filter (fun e => e.2 != 0)

/-- A table section as a table of bit vectors. -/
def Img.table (i : Img) (typ w : Nat) (n : Nat) : SMap (BitVec n) := (i.rows typ w).map (fun e => (e.1, BitVec.ofNat n e.2))

/-- SUMMARY_PLAN, LOSS_PLAN and LS_LINE: word k of GLOBAL. -/
def Img.globalWord (i : Img) (k : Nat) : Nat := numAt (i.bytes scGlobal 0) (4 * k) 4

/-- A TIER_LAYOUT row. -/
def Img.tierRow (i : Img) (s : Nat) : Nat := numAt (i.bytes scGlobal 0) (16 + 32 * s) 32
/-- A SLOW_LAYOUT row. -/
def Img.slowRow (i : Img) (w : Nat) : Nat := numAt (i.bytes scGlobal 0) (784 + 8 * w) 8

/-- The exchange plan: layer and DSEQ. -/
def Img.plan (i : Img) : List (W16 × W16) :=
  (rowNums 4 ((i.bytes scGlobal 0).drop 852)).map (fun w => (BitVec.ofNat 16 w, BitVec.ofNat 16 (w / 2 ^ 16)))

/-- The program tables an image declares (R399). -/
def Img.prog (i : Img) : Prog where
  loaded := true
  absent := i.absent
  shapes := ((rowNums 8 (i.bytes scShapes 0)).mapIdx (fun k v => (k, BitVec.ofNat 64 v)))
  streams := i.table scStreams 16 128
  grads := i.table scGrads 16 128
  bobbins := i.table scBobbins 16 128
  exchange := i.plan

end Sys2Proof.Machine
end

