-- ==== Sys2Proof/Machine/Matrix.lean ====
section
/-! DEFINITION. The matrix class (R80, R91 to R99, R239 to R245). -/

namespace Sys2Proof.Machine

/-- A hank operand's rows as element codes of a format with the two scales of each row. -/
structure RowView where
  codes : List Nat
  x0 : Byte
  x1 : Byte
deriving DecidableEq, Repr

/-- The rows of an operand read in a format. -/
def View.rows (v : View) (f : Nat) : List RowView :=
  let es := chunks 64 65 (v.elems.map (fun e => bits e.toNat 0 (elemBits f)))
  let xs := if isMx f then chunks 2 65 v.scales else es.map (fun _ => [])
  List.zipWith (fun e x => { codes := e, x0 := nth x 0 0, x1 := nth x 1 0 }) es xs

/-- The terms of one row against another, added to a pair in K order (R92). -/
def mmaElem (fa fb : Nat) (acc : Pair) (a b : RowView) : Pair :=
  let ps := List.zip a.codes b.codes
  if isMx fa then
    (acc.addExact (blockTerm fa fb a.x0 b.x0 (ps.take 32))).addExact (blockTerm fa fb a.x1 b.x1 (ps.drop 32))
  else ps.foldl (fun q p => q.addTerm (denseTerm fa p.1 p.2)) acc

/-- The whole product: element (i, j) from row i of the first operand and row j of the second. -/
def mmaAll (fa fb : Nat) (accs : List Pair) (as bs : List RowView) : List Pair :=
  (List.zipWith (fun (q : List Pair) a => List.zipWith (fun c b => mmaElem fa fb c a b) q bs)
    (chunks 64 65 accs) as).flatten

/-- Terms per element of one MMA (R91). -/
def mmaTerms (fa : Nat) : Nat := if isMx fa then 2 else 64

/-- Cell cycles of one MMA (R91). -/
def mmaCycles (fa fb : Nat) : Nat :=
  if fa = 0 then 256 else if fa ≤ 2 then 64 else if fa = 7 ∧ fb = 7 then 16 else 32

/-- The pairs an accumulation continues from: zero in overwrite mode (R47, R92). -/
def State.startPairs (s : State) (p : Site) (k : Nat) (acc : Bool) : List Pair :=
  if acc then ((s.spindle p).acc k).pairs p k else List.replicate 4096 {}

/-- The accumulator the counter continues from: counter 0 and LONG clear in overwrite mode. -/
def Acc.start (a : Acc) (acc : Bool) : Acc := if acc then a else { a with count := 0, long := false }

/-- A result written to an accumulator: pairs, or undefined bits where it is poisoned; n terms counted. -/
def State.storePairs (s : State) (p : Site) (k n : Nat) (a : Acc) (qs : List Pair) (poison : Bool) : State :=
  let a := if poison then { a with s := [], c := [], seed := s.free + 1, poison := true }
    else { a with s := qs.map (·.s), c := qs.map (·.c), poison := false }
  (s.drew 1).putAcc p k n a

/-- The read-out of an accumulator (R94): folded, or the pair to ROD and ROD + 1. -/
def State.readOut (s : State) (p : Site) (ro : BitVec 2) (k rod : Nat) : State :=
  let a := (s.spindle p).acc k
  let qs := a.pairs p k
  if ro = 1 then s.writeOpd p (.h rod) 32 (qs.map Pair.fold) none a.poison
  else if ro = 2 then
    (s.writeOpd p (.h rod) 32 (qs.map (·.s)) none a.poison).writeOpd p (.h (rod + 1)) 32 (qs.map (·.c)) none a.poison
  else s

/-- The hanks a read-out writes. -/
def readOutDsts (ro : BitVec 2) (rod : Nat) : List Opd :=
  if ro = 1 then [.h rod] else if ro = 2 then [.h rod, .h (rod + 1)] else []

/-- RO and ROD that the loader refuses (R86): an odd pair base, a reserved RO. -/
def readOutBad (ro : BitVec 2) (rod : BitVec 4) : Option Nat :=
  if ro = 2 ∧ rod.toNat % 2 = 1 then some 0x24 else if ro = 3 then some 0x25 else none

/-- Fields of MMA that the loader refuses (R33, R86, R91). -/
def mmaBad (ro : BitVec 2) (fa fb : BitVec 4) (opa opb : BitVec 5) (rod : BitVec 4) : Option Nat :=
  if !fmtOk fa.toNat || !fmtOk fb.toNat then some 0x20
  else if !mmaPairOk fa.toNat fb.toNat then some 0x23
  else if (isMx fa.toNat && (opd opa).isAcc) || (isMx fb.toNat && (opd opb).isAcc) then some 0x23
  else readOutBad ro rod

/-- MMA's effect (R92, R94). -/
def State.mma (s : State) (p : Site) (acc : Bool) (ro : BitVec 2) (fa fb k : Nat) (a b : Opd) (rod : Nat) : State :=
  let s := (s.writesAcc p k true acc).uses p [a, b] (readOutDsts ro rod)
  let va := s.view p a
  let vb := s.view p b
  let old := (s.spindle p).acc k
  let bad := va.poison || vb.poison || (acc && old.poison)
  let s := s.sawPoison p bad
  let qs := mmaAll fa fb (s.startPairs p k acc) (va.rows fa) (vb.rows fb)
  let s := s.storePairs p k (mmaTerms fa) (old.start acc) qs bad
  (s.bump Obj.spindleCellBusy p.row (mmaCycles fa fb)).readOut p ro k rod

/-- MMA (R92 to R94). -/
def execMma (p : Site) (acc : Bool) (ro : BitVec 2) (fa fb : BitVec 4) (accd : BitVec 3) (opa opb : BitVec 5)
    (rod : BitVec 4) (s : State) : Result :=
  match mmaBad ro fa fb opa opb rod with
  | some c => .refused (.loaderRefuses c)
  | none =>
    done (s.runOn p (.a accd.toNat :: opd opa :: opd opb :: readOutDsts ro rod.toNat) (fun t => t.mma p acc ro fa.toNat fb.toNat accd.toNat (opd opa) (opd opb) rod.toNat))

/-! ## Compressed-weight mode -/

/-- An entry of a packed segment (R243): K, slot, element code. -/
structure Entry where
  k : Nat
  slot : Nat
  code : Nat
deriving DecidableEq, Repr

/-- NNZ of a segment header (R244). -/
def segNnz (hdr : Nat) : Nat := bits hdr 0 16
/-- SEGLINES of a segment header. -/
def segLines (hdr : Nat) : Nat := bits hdr 16 12

/-- The entries of a segment held in a bit string, with elements of w bits (R242, R243). -/
def segEntries (w data nnz : Nat) : List Entry :=
  let idx := fields 32 nnz (data >>> (5 * 512))
  let val := fields w nnz (data >>> ((5 + ceilDiv (32 * nnz) 512) * 512))
  List.zipWith (fun i v => { k := bits i 0 22, slot := bits i 22 6, code := v }) idx val

/-- The (block, slot) pairs that have entries, ascending: the order of the scale array (R243). -/
def segPairs (es : List Entry) : List Nat :=
  (es.map (fun e => e.k / 32 * 64 + e.slot)).mergeSort.eraseDups

/-- The scale byte of an entry's (block, slot) pair. -/
def segScale (w data nnz : Nat) (pairs : List Nat) (e : Entry) : Byte :=
  let base := (5 + ceilDiv (32 * nnz) 512 + ceilDiv (w * nnz) 512) * 512
  let n := (pairs.findIdx? (· == e.k / 32 * 64 + e.slot)).getD 0
  BitVec.ofNat 8 (bits data (base + 8 * n) 8)

/-- Entries of one (block, slot) pair grouped, each group with its scale, in segment order of the pairs. -/
def segGroups (w data nnz : Nat) (es inWin : List Entry) : List (List Entry × Byte) :=
  let pairs := segPairs es
  (segPairs inWin).map (fun q =>
    let g := inWin.filter (fun e => e.k / 32 * 64 + e.slot == q)
    (g, match g with | [] => 0 | e :: _ => segScale w data nnz pairs e))

/-- The activation at position k of the window for accumulator row i: its code and its block's scale. -/
def winAt (rows : List (List RowView)) (kbase i k : Nat) : Nat × Byte :=
  let off := k - 64 * kbase
  let r := nth (nth rows (off / 64) []) i { codes := [], x0 := 0, x1 := 0 }
  (nth r.codes (off % 64) 0, if off % 64 < 32 then r.x0 else r.x1)

/-- Element n of a row of pairs changed. -/
def addAt (qs : List Pair) (n : Nat) (f : Pair → Pair) : List Pair := setNth qs n (f (nth qs n {}))

/-- One accumulator row of MMA_PACKED: dense entries in segment order, or MX groups by block (R97). -/
def packedRow (fa fb : Nat) (rows : List (List RowView)) (kbase i : Nat) (es : List Entry)
    (gs : List (List Entry × Byte)) (qs : List Pair) : List Pair :=
  if isMx fb then
    gs.foldl (fun q g =>
      match g.1 with
      | [] => q
      | e :: _ =>
        let ps := g.1.map (fun e => ((winAt rows kbase i e.k).1, e.code))
        addAt q e.slot (fun c => c.addExact (blockTerm fa fb (winAt rows kbase i e.k).2 g.2 ps))) qs
  else
    es.foldl (fun q e => addAt q e.slot (fun c => c.addTerm (denseTerm fa (winAt rows kbase i e.k).1 e.code))) qs

/-- Fields of MMA_PACKED that the loader refuses (R33, R86, R91). -/
def packedBad (ro : BitVec 2) (fa fb : BitVec 4) (opa : BitVec 5) (rod nh : BitVec 4) (r : SRef) : Option Nat :=
  if !fmtOk fa.toNat || !fmtOk fb.toNat then some 0x20
  else if !mmaPairOk fa.toNat fb.toNat then some 0x23
  else if (opd opa).isAcc || decide (15 < opa.toNat + nh.toNat) then some 0x24
  else match readOutBad ro rod with
    | some c => some c
    | none => if r.reserved then some 0x25 else none

/-- MACs per cell per cycle of R91 in quarters. -/
def macQuarters (fa fb : Nat) : Nat :=
  if fa = 0 then 1 else if fa ≤ 2 then 4 else if fa = 7 ∧ fb = 7 then 16 else 8

/-- MMA_PACKED's effect on a segment at a store line (R97 to R99, R245). Cells are busy for at most
2 + ceil(5 nw / 256 r) cycles; the number within that bound is a free value. -/
def State.mmaPacked (s : State) (p : Site) (acc : Bool) (ro : BitVec 2) (fa fb k opa rod nh kbase line slen : Nat)
    (direct : Bool) (ecc : EccResult) : State :=
  let s := (s.eccRead p ecc line slen).uses p ((List.range (nh + 1)).map (fun r => .h (opa + r))) (readOutDsts ro rod)
  let ls := s.readCells p direct line slen
  let s := s.drew 1
  let data := linesNat ls
  let nnz := segNnz data
  let short := decide (slen < segLines data)
  let regs := (List.range (nh + 1)).map (fun r => s.view p (.h (opa + r)))
  let old := (s.spindle p).acc k
  let bad := (ls.take (max 1 (segLines data))).any (·.poison) || regs.any (·.poison) || (acc && old.poison)
  let w := elemBits fb
  let es := segEntries w data nnz
  let win := es.filter (fun e => decide (64 * kbase ≤ e.k ∧ e.k < 64 * kbase + 64 * (nh + 1)))
  let rows := regs.map (fun v => v.rows fa)
  let gs := if isMx fb then segGroups w data nnz es win else []
  let s := (s.sawPoison p bad).writesAcc p k true acc
  let qs := (List.zipWith (fun (q : List Pair) i => packedRow fa fb rows kbase i win gs q)
    (chunks 64 65 (s.startPairs p k acc)) (List.range 64)).flatten
  let n := win.length
  let s := s.storePairs p k n (old.start acc) qs (bad || short)
  let s := s.bump Obj.spindleNonzeros p.row n
  let bound := 2 + ceilDiv (20 * n) (256 * macQuarters fa fb)
  let s := (s.bump Obj.spindleCellBusy p.row (Config.freeNat s.free % (bound + 1))).drew 1
  s.readOut p ro k rod

/-- MMA_PACKED (R97); SLEN 0 is a no-op (R80). -/
def execMmaPacked (p : Site) (acc : Bool) (ro : BitVec 2) (fa fb : BitVec 4) (accd : BitVec 3) (opa : BitVec 5)
    (rod nh : BitVec 4) (kbase : W16) (sr : BitVec 36) (slen : BitVec 12) (ecc : EccResult) (s : State) : Result :=
  match packedBad ro fa fb opa rod nh (sref sr) with
  | some c => .refused (.loaderRefuses c)
  | none =>
    let win := (List.range (nh.toNat + 1)).map (fun r => Opd.h (opa.toNat + r))
    done (s.runOn p (.a accd.toNat :: win ++ readOutDsts ro rod.toNat) (fun t =>
      if slen = 0 then t
      else match (t.spindle p).extent (sref sr) slen.toNat with
        | .bad c => t.reject p c (.a accd.toNat :: readOutDsts ro rod.toNat)
        | .ok line =>
          t.mmaPacked p acc ro fa.toNat fb.toNat accd.toNat opa.toNat rod.toNat nh.toNat kbase.toNat line slen.toNat
            (sref sr).direct ecc))

/-! ## Accumulator operations -/

/-- ACC_OUT (R95): RO 0b00 is a no-op. -/
def execAccOut (p : Site) (ro : BitVec 2) (accd : BitVec 3) (rod : BitVec 4) (s : State) : Result :=
  match readOutBad ro rod with
  | some c => .refused (.loaderRefuses c)
  | none =>
    done (s.runOn p (if ro = 0 then [] else .a accd.toNat :: readOutDsts ro rod.toNat) (fun t =>
      if ro = 0 then t
      else
        let t := t.uses p [.a accd.toNat] (readOutDsts ro rod.toNat)
        (t.sawPoison p ((t.spindle p).acc accd.toNat).poison).readOut p ro accd.toNat rod.toNat))

/-- ACC_ZERO (R95): the pair (+0, +0), counter 0, LONG and poison clear; 4 cell cycles. -/
def execAccZero (p : Site) (accd : BitVec 3) (s : State) : Result :=
  done (s.runOn p [.a accd.toNat] (fun t =>
    let t := t.writesAcc p accd.toNat true false
    let a : Acc := { s := List.replicate 4096 0, c := List.replicate 4096 0 }
    (t.setAcc p accd.toNat a).bump Obj.spindleCellBusy p.row 4))

/-- ACC_ADDPAIR's effect (R95): the pair of two hank registers added to every element. -/
def State.addPairs (s : State) (p : Site) (k h : Nat) : State :=
  let s := s.uses p [.h h, .h (h + 1)] []
  let vs := s.view p (.h h)
  let vc := s.view p (.h (h + 1))
  let old := (s.spindle p).acc k
  let bad := vs.poison || vc.poison || old.poison
  let s := (s.sawPoison p bad).writesAcc p k true false
  let qs := List.zipWith Pair.addPair (old.pairs p k) (List.zipWith (fun a b => ⟨a, b⟩) vs.elems vc.elems)
  (s.storePairs p k 1 old qs bad).bump Obj.spindleCellBusy p.row 4

/-- OPA of ACC_ADDPAIR must be an even register (R86). -/
def addpairBad (opa : BitVec 5) : Option Nat := if (opd opa).isAcc ∨ opa.toNat % 2 = 1 then some 0x24 else none

/-- ACC_ADDPAIR (R95). -/
def execAccAddpair (p : Site) (accd : BitVec 3) (opa : BitVec 5) (s : State) : Result :=
  match addpairBad opa with
  | some c => .refused (.loaderRefuses c)
  | none =>
    done (s.runOn p [.a accd.toNat, .h opa.toNat, .h (opa.toNat + 1)] (fun t => t.addPairs p accd.toNat opa.toNat))

end Sys2Proof.Machine
end

