-- ==== Sys2Proof/Machine/CodeCheck.lean ====
section
/-! DEFINITION. The loader's checks of code (R33, R62, R76 to R86, R124, R146, R153, R159, R179): every instruction of a
present spindle, with its descriptor and the shape of its loops. -/

namespace Sys2Proof.Machine

/-! ## One instruction by itself -/

/-- The cause of a vector-class instruction, with its descriptor among the constants of its spindle; one whose
descriptor is no constant is refused with 0x28 (DEDUCED, log entry 31). -/
def vectorCause (lines : SMap (BitVec 512)) (op : VOp) (src src2 dst : BitVec 5) (nst : BitVec 3) (ref : BitVec 36)
    (sr : Bool) : Option Nat :=
  let r := sref ref
  if r.reserved then some 0x25
  else if r.am ≠ 0 ∨ r.lsel ≠ 0 then some 0x28
  else
    match tget lines r.base, tget lines (r.base + 1) with
    | some a, some b => (chainOf (a.toNat + b.toNat * 2 ^ 512) nst.toNat).bad op src src2 dst r sr
    | _, _ => some 0x28

/-- A cause where a reference is reserved. -/
def refCause (ref : BitVec 36) : Option Nat := if (sref ref).reserved then some 0x25 else none

/-- The lowest cause for which the loader refuses an instruction of a site, its place in the program apart: by the same checks
as the meanings make (R33, R62, R86, R124, R153, R154, R159, R179). -/
def State.instrCause (s : State) (p : Site) (lines : SMap (BitVec 512)) : Instr → Option Nat
  | .mma _ _ ro fa fb _ opa opb rod => mmaBad ro fa fb opa opb rod
  | .mmaPacked _ _ ro fa fb _ opa rod nh _ ref _ _ => packedBad ro fa fb opa rod nh (sref ref)
  | .accOut _ ro _ rod => readOutBad ro rod
  | .accAddpair _ _ opa => addpairBad opa
  | .vchain _ src src2 dst nst ref _ grad rm => vectorCause lines .chain src src2 dst nst ref (grad || rm)
  | .vredRow _ src src2 dst nst ref _ grad rm => vectorCause lines .redRow src src2 dst nst ref (grad || rm)
  | .vredCol _ src src2 dst nst ref _ grad rm => vectorCause lines .redCol src src2 dst nst ref (grad || rm)
  | .vwide _ src src2 dst nst ref _ grad rm => vectorCause lines .wide src src2 dst nst ref (grad || rm)
  | .load _ fmt hd ref ssc _ => moveBad fmt hd (sref ref) (sref ssc)
  | .store _ fmt hd ref ssc => moveBad fmt hd (sref ref) (sref ssc)
  | .loadT _ fmt _ ref _ => loadTBad fmt (sref ref)
  | .copy _ fmt hd hsrc => copyBad fmt hd hsrc
  | .cvt _ fin fout src dst rm grad _ purpose => cvtBad fin fout src dst rm grad purpose
  | .rdraw _ _ _ purpose _ => purposeBad purpose
  | .rmask _ _ _ purpose _ => purposeBad purpose
  | .sopen _ stream _ first count => if s.sopenBad p stream.toNat first.toNat count.toNat then some 0x31 else none
  | .sclose _ stream => if (s.streamRow? stream.toNat).isNone then some 0x31 else none
  | .send _ vc shape ref _ _ _ => s.sendBad p vc shape.toNat (sref ref) true
  | .recv _ vc shape ref _ _ => s.sendBad p vc shape.toNat (sref ref) false
  | .sendh _ vc shape hank length => s.sendhBad p vc shape.toNat hank length.toNat true
  | .recvh _ vc shape hank length => s.sendhBad p vc shape.toNat hank length.toNat false
  | .rdecl _ _ _ out _ _ => rdeclBad p out
  | .rsend _ _ ref _ _ => refCause ref
  | .rrecv _ _ ref _ => refCause ref
  | .summary _ _ count first => summaryBad count first
  | _ => none

/-- The lowest cause for which an instruction word is refused: a reserved opcode, or what its fields break (R77, R86). -/
def State.wordCause (s : State) (p : Site) (lines : SMap (BitVec 512)) (w : Nat) : Option Nat :=
  match Instr.ofWord p w with
  | none => some 0x22
  | some i => s.instrCause p lines i

/-! ## The shape of a program -/

/-- The loops of a program: first and last instruction of each body. -/
def loopsOf (is_ : List (Option Instr)) : List (Nat × Nat) :=
  (is_.mapIdx (fun k i => (k, i))).filterMap (fun e =>
    match e.2 with
    | some (.loop _ _ body) => if body = 0 then none else some (e.1 + 1, e.1 + body.toNat)
    | _ => none)

/-- A loop body holds an instruction. -/
def inBody (b : Nat × Nat) (i : Int) : Bool := decide ((b.1 : Int) ≤ i ∧ i ≤ b.2)

/-- A jump or branch target outside the region or across a loop boundary. -/
def targetBad (n : Nat) (loops : List (Nat × Nat)) (i : Nat) (t : Int) : Bool :=
  decide (t < 0 ∨ (n : Int) ≤ t) || loops.any (fun b => inBody b i != inBody b t)

/-- CONTROL_SHAPE of instruction k of a program of n (R86, cause 0x26). -/
def shapeBad (n : Nat) (loops : List (Nat × Nat)) (k : Nat) : Option Instr → Bool
  | some (.loop _ _ body) =>
    body != 0 && (decide (n ≤ k + body.toNat) || decide (4 ≤ (loops.filter (fun b => inBody b k)).length) ||
      loops.any (fun b => inBody b k && !inBody b (k + body.toNat)))
  | some (.jump _ offset) => targetBad n loops k (k + offset.toInt)
  | some (.branchG _ _ _ offset) => targetBad n loops k (k + offset.toInt)
  | _ => false

/-- The lower of two causes. -/
def lowest : Option Nat → Option Nat → Option Nat
  | none, b => b
  | a, none => a
  | some a, some b => some (min a b)

/-- The cause of the first faulty instruction of a program. -/
def State.programCause (s : State) (p : Site) (lines : SMap (BitVec 512)) (ws : List Nat) : Option Nat :=
  let is_ := ws.map (Instr.ofWord p)
  let loops := loopsOf is_
  (ws.mapIdx (fun k w => (k, w))).findSome? (fun e =>
    lowest (s.wordCause p lines e.2) (if shapeBad ws.length loops e.1 (Instr.ofWord p e.2) then some 0x26 else none))

/-! ## A bolt section -/

/-- The code of a spindle's entry. -/
def SpEntry.words (e : SpEntry) (l : List Byte) : List Nat := rowNums 16 (cut l e.off (64 * e.lines))

/-- The constant lines of spindle n of a bolt, by line. -/
def Img.constLines (i : Img) (b n : Nat) : SMap (BitVec 512) :=
  (((constRecords (i.bytes scConst b)).1).filter (fun e => numAt e.1 0 2 == n)).foldl (fun m e =>
    ((rowNums 64 e.2).mapIdx (fun k v => (numAt e.1 4 4 + k, v))).foldl (fun m f => tput m f.1 (BitVec.ofNat 512 f.2)) m) []

/-- The present spindles of a bolt, ascending. -/
def Img.present (i : Img) (b : Nat) : List Nat := (List.range 192).filter (fun n => !bitAt i.absent (entryRow b n))

/-- A buffer that a spindle declares reaches beyond its store (R31, R106). -/
def SpEntry.buffersBad (e : SpEntry) (l : List Byte) : Bool :=
  (List.range e.bufs).any (fun k =>
    let a := e.off + 64 * e.lines + 8 * k
    decide (storeLines < numAt l a 4 + numAt l (a + 4) 4))

/-- The cause of one spindle of a bolt: a buffer outside its store, CODE_LINES (0x27), then its instructions. R31 and R106
refuse such a buffer and name no cause; 0x14 SECTION_INVALID is taken (DESIGN CHOICE, log entry 46). -/
def State.spindleCause (s : State) (i : Img) (b n : Nat) (l : List Byte) : Option Nat :=
  let e := spEntry l n
  if e.buffersBad l then some 0x14
  else if e.lines = 0 ∨ 16384 < e.lines then some 0x27
  else s.programCause (siteRow (entryRow b n)) (i.constLines b n) (e.words l)

/-- The cause of a BOLT section: its spindles in order, then the size of its bolt program (R132, cause 0x2A). -/
def State.boltCause (s : State) (i : Img) (b : Nat) (l : List Byte) : Option Nat :=
  match (i.present b).findSome? (fun n => s.spindleCause i b n l) with
  | some c => some c
  | none => if 2 ^ 18 < numAt l 3072 4 ∨ 2 ^ 18 < numAt l 3076 4 then some 0x2A else none

/-- The shape entry that a send or receive names. -/
def Instr.shape? : Instr → Option Nat
  | .send _ _ shape _ _ _ _ => some shape.toNat
  | .recv _ _ shape _ _ _ => some shape.toNat
  | .sendh _ _ shape _ _ => some shape.toNat
  | .recvh _ _ shape _ _ => some shape.toNat
  | _ => none

/-- The instructions of spindle n of a bolt. -/
def Img.instrs (i : Img) (b n : Nat) : List Instr :=
  let l := i.bytes scBolt b
  ((spEntry l n).words l).filterMap (Instr.ofWord (siteRow (entryRow b n)))

/-- The shape entries named by the send and receive instructions of a bolt. -/
def Img.boltShapes (i : Img) (b : Nat) : List Nat :=
  (i.present b).flatMap (fun n => (i.instrs b n).filterMap Instr.shape?)

end Sys2Proof.Machine
end

