-- ==== Sys2Proof/Machine/Values.lean ====
section
/-! DEFINITION. What an object's type and range allow a write to hold (R408, R410 and the object tables), and the
reserved bits a write leaves out (R6). -/

namespace Sys2Proof.Machine

/-- Bits that ARB_PRIO keeps: three for each class a kind has (R175, R177). -/
def arbMask (row : Nat) : Nat := packFields 4 (List.replicate (nth [6, 4, 5, 4, 2, 5] row 0) 7)

/-- Bits of a row that are not reserved (R6). SCHEDULE and HYPER are judged whole under R283, and LOAD_WINDOW under
R396. -/
def rowMask (id row : Nat) : Nat :=
  let all := 2 ^ objBits id - 1
  if id = Obj.arbPrio then arbMask row
  else if id = Obj.evalControl then 2 ^ 29 - 1
  else if id = Obj.monitorCfg then 2 ^ 65 - 1
  else if id = Obj.boltProgTrap then 2 ^ 40 - 1
  else if id = Obj.dictCursor then all - 0xFF
  else if id = Obj.clearOnUnload then 0x0F
  else if id = Obj.loadWindow then all - (2 ^ 45 - 1) * 2 ^ 10
  else if id = Obj.residence then all - 3
  else if id = Obj.stepControl ∨ id = Obj.dictWindowCtl ∨ id = Obj.loadControl then 7
  else if id = Obj.reweaveControl ∨ id = Obj.fwControl then 3
  else if id = Obj.attestControl ∨ id = Obj.selftestControl then 1
  else all

/-- Smallest and largest value of an unsigned object with a range. -/
def unsignedRange (id : Nat) : Option (Nat × Nat) :=
  if id = Obj.doffWatchdog then some (0x10000, 0xFFFFFFFF)
  else if id = Obj.grantWatchdog then some (0x1000, 0x40000000)
  else if id = Obj.holdPolicyShare then some (0, 10000)
  else if id = Obj.holdPolicyWindow then some (1, 10000)
  else if id = Obj.stepMicrobatches then some (1, 65535)
  else if id = Obj.zeroStreakLimit then some (1, 65535)
  else if id = Obj.lsInterval then some (1, 1000000)
  else if id = Obj.expMax then some (0, 8)
  else if id = Obj.timeSource ∨ id = Obj.markOutMode then some (0, 2)
  else if id = Obj.chainAddress then some (0, 0)
  else if id = Obj.chainIndex then some (0, 31)
  else if id = Obj.chainPositions ∨ id = Obj.gridChains then some (1, 32)
  else if id = Obj.slowRatio then some (101, 1000)
  else if id = Obj.slowWindow then some (1, 10000)
  else if id = Obj.replayBound then some (1024, 1048576)
  else if id = Obj.faultPermRecur then some (1, 255)
  else if id = Obj.faultPermWindow then some (1, 86400)
  else if id = Obj.plcaNodeCount then some (5, 40)
  else if id = Obj.powerLimit then some (5000, 30000)
  else if id = Obj.clockRef ∨ id = Obj.startupTest then some (0, 1)
  else none

/-- LOAD_WINDOW with a reserved TARGET, or a UNIT or BASE out of range (R396). -/
def windowBad (v : Nat) : Bool :=
  let unit := bits v 55 5
  let base := bits v 0 10
  match bits v 60 4 with
  | 0 => decide (unit ≠ 0 ∨ 7 < base)
  | 1 => decide (23 < unit ∨ 63 < base)
  | 2 => decide (7 < unit ∨ 511 < base)
  | _ => true

/-- A value outside its object's range or type (R408, R410). -/
def valueBad (id v : Nat) : Bool :=
  (match unsignedRange id with
    | some (lo, hi) => decide (v < lo ∨ hi < v)
    | none => false) ||
  (((objInfo? id).map (·.typ)).getD 0 == 9 && decide (1 < v)) ||
  (decide (id = Obj.lsMinExp ∨ id = Obj.lsMaxExp) && decide (signed 32 v < -126 ∨ 127 < signed 32 v)) ||
  (id == Obj.evalControl && bits v 16 12 == 0) ||
  (id == Obj.divCap && !([4, 5, 6, 8, 16].contains v)) ||
  (id == Obj.loadWindow && windowBad v)

/-- A value refused by a range that another object gives: STILL_DOWN above STILL_UP, as it stands or waits to be applied
(R299). -/
def State.valueBad (s : State) (id v : Nat) : Bool :=
  Machine.valueBad id v ||
    (id == Obj.stillDown && decide ((tget s.dict.pending (Obj.stillUp * 2 ^ 20)).getD (s.obj Obj.stillUp 0) < v))

/-- The object is a CTL32 (R414). -/
def isCtl (id : Nat) : Bool := ((objInfo? id).map (·.typ)).getD 0 == 10

/-- The value a CTL32 holds after a masked write (R414). -/
def ctlValue (old w : Nat) : Nat :=
  let m := bits w 16 16
  (old &&& (0xFFFF - m)) ||| (bits w 0 16 &&& m)

/-- Action bits written as 1 under their mask (R414). -/
def ctlActs (w : Nat) : Nat := bits w 0 16 &&& bits w 16 16

end Sys2Proof.Machine
end

