-- ==== Sys2Proof/Machine/Loader.lean ====
section
/-! DEFINITION. The contents checks of the loader (R403 step 6): regions, plans, shapes and routes, streams and their
descriptors, gradient targets, residence, masks, bobbins, object values, the map of lost bolts and the spare area. They
are judged on the state as the image would lay it out. -/

namespace Sys2Proof.Machine

/-! ## The image laid out -/

/-- An object without rows that differ from its default. -/
def State.clearRows (s : State) (id : Nat) : State := { s with objs := s.objs.filter (fun e => e.1 / 2 ^ 20 != id) }

/-- The rows of an object replaced. -/
def State.putRows (s : State) (id : Nat) (rows : List (Nat × Nat)) : State :=
  rows.foldl (fun t e => t.setObj id e.1 e.2) (s.clearRows id)

/-- The layout, residence and plan objects as an image gives them; every shard DONE at GEN 0 (R404 step 5). -/
def State.putLayout (s : State) (i : Img) : State :=
  let s := s.putRows Obj.tierLayout ((List.range 24).map (fun k => (k, i.tierRow k)))
  let s := s.putRows Obj.slowLayout ((List.range 8).map (fun k => (k, i.slowRow k)))
  let s := s.putRows Obj.residence ((i.rows scResidence 32).map (fun e => (e.1, setBits (setBits e.2 130 3 0) 114 16 0)))
  let s := s.putRows Obj.maskTable (i.rows scMasks 32)
  ((s.setObj Obj.summaryPlan 0 (i.globalWord 0)).setObj Obj.lossPlan 0 (i.globalWord 1)).setObj Obj.lsLine 0 (i.globalWord 2)

/-- Byte address of a stack's DESC region in the fast tier. -/
def Img.descBase (i : Img) (k : Nat) : Nat := k * 2 ^ 36 + (region (i.tierRow k) 0).1 * 4096

/-- The DESC and TIER_DATA sections written to the tiers (R404 step 4). -/
def State.putTiers (s : State) (i : Img) : State :=
  i.sects.foldl (fun t e =>
    if e.typ = scDesc then t.tierWrite false (i.descBase e.idx) e.bytes
    else if e.typ = scTier then
      let slow := decide (24 ≤ e.idx)
      let base := if slow then (e.idx - 24) * 2 ^ 39 else e.idx * 2 ^ 36
      (tierRecords e.bytes).1.foldl (fun u r => u.tierWrite slow (base + numAt r.1 0 8) r.2) t
    else t) s

/-- The state as an image would lay it out, for judging. -/
def State.laidOut (s : State) (i : Img) : State := ({ s with prog := i.prog }.putLayout i).putTiers i

/-! ## GLOBAL and SITE_MAP -/

/-- The regions of a stack break R218: below their base, overlapping, or reaching the journal. -/
def regionsBad (tier : Nat) : Bool :=
  let rs := (List.range 4).map (region tier)
  rs.any (fun r => decide (r.2 < r.1 ∨ 0xFFA000 < r.2)) ||
    (List.range 4).any (fun a => (List.range a).any (fun b =>
      let p := nth rs a (0, 0)
      let q := nth rs b (0, 0)
      decide (p.1 < p.2 ∧ q.1 < q.2 ∧ p.1 < q.2 ∧ q.1 < p.2)))

/-- The layers of the exchange plan are not exactly those with a shard that trains, each once (R254). -/
def State.planBad (s : State) (i : Img) : Bool :=
  let ls := i.plan.map (fun e => e.1.toNat)
  let want := (s.liveShards.map (·.2.layer)).eraseDups
  decide (ls.eraseDups.length ≠ ls.length) || ls.any (fun l => !want.contains l) || want.any (fun l => !ls.contains l)

/-- The largest CODE_LINES of the present spindles. -/
def Img.codeMax (i : Img) : Nat :=
  ((List.range 48).flatMap (fun b => (i.present b).map (fun n => (spEntry (i.bytes scBolt b) n).lines))).foldl max 0

/-- The lowest cause of GLOBAL (R126, R218, R219, R254, R283, R292). -/
def State.globalCause (s : State) (i : Img) : Option Nat :=
  let ls := i.globalWord 2
  if (fields 4 8 (i.globalWord 0)).any (fun o => decide (3 < o)) then some 0x28
  else if (List.range 24).any (fun k => regionsBad (i.tierRow k)) || (List.range 8).any (fun w => decide (0x7FDA000 < i.slowRow w)) then
    some 0x36
  else if 2 ^ 25 ≤ i.globalWord 1 || s.planBad i then some 0x38
  else if ls ≠ 0xFFFFFFFF ∧ (ls < i.codeMax ∨ 98303 < ls) then some 0x39
  else none

/-- A lost bolt whose sites are not all marked absent (R373, R466, cause 0x1A). -/
def State.siteMapLost (s : State) (i : Img) : Bool :=
  (List.range 48).any (fun b => s.field Obj.boltState b 0 4 != 0 && i.boltPresent b)

/-! ## Shapes and routes -/

/-- SHAPE_INVALID of an entry by itself (R153). -/
def shapeInvalid (w : Nat) : Bool :=
  let h := shapeOf w
  decide (w % 2 ^ 19 ≠ 0 ∨ h.x1 < h.x0 ∨ h.y1 < h.y0 ∨ 71 < h.sy ∨ 71 < h.y1) ||
    (h.skind == 0 && decide (h.x0 ≠ h.x1 ∨ h.y0 ≠ h.y1)) || (h.skind == 1 && h.y0 != h.y1) || (h.skind == 2 && h.x0 != h.x1)

/-- A site lies on the tree of a shape under its ORDER (R145, R156). -/
def Shape.passes (h : Shape) (x y : Nat) : Bool :=
  let xs := decide (min h.sx h.x0 ≤ x ∧ x ≤ max h.sx h.x1)
  let ys := decide (min h.sy h.y0 ≤ y ∧ y ≤ max h.sy h.y1)
  if h.yx then (x == h.sx && ys) || (decide (h.y0 ≤ y ∧ y ≤ h.y1) && xs)
  else (y == h.sy && xs) || (decide (h.x0 ≤ x ∧ x ≤ h.x1) && ys)

/-- The shape entries in use (R146). -/
def State.usedShapes (s : State) (i : Img) : List Nat :=
  ((s.prog.streams.map (fun e => (streamRow e.2.toNat).shape)) ++
    ((s.bobbins.filter (fun e => e.2.kind != bkMask)).map (·.2.shape)) ++
    (List.range 48).flatMap i.boltShapes).mergeSort.eraseDups

/-- The lowest cause of one shape entry. -/
def State.shapeCause (s : State) (used : List Nat) (n : Nat) : Option Nat :=
  let w := ((tget s.prog.shapes n).map (·.toNat)).getD 0
  let h := shapeOf w
  let gone := (List.range 9216).filter (bitAt s.prog.absent)
  if shapeInvalid w then some 0x2B
  else if !used.contains n then none
  else if gone.any (fun r => h.covers (siteRow r)) then some 0x2C
  else if gone.any (fun r => h.passes (r % 128) (r / 128)) then some 0x2D
  else none

/-- The cause of SHAPES: its entries, and those in use that it omits. -/
def State.shapesCause (s : State) (i : Img) : Option Nat :=
  let used := s.usedShapes i
  ((List.range s.prog.shapes.length ++ used.filter (fun n => decide (s.prog.shapes.length ≤ n)))).findSome? (s.shapeCause used)

/-! ## Streams -/

/-- An opening that an instruction declares: stream, first buffer, number of buffers. -/
def Instr.opening? : Instr → Option (Nat × Nat × Nat)
  | .sopen _ stream _ first count => if count = 0 then none else some (stream.toNat, first.toNat, count.toNat)
  | _ => none

/-- The openings that the programs of a bolt declare: stream, number of buffers, smallest buffer. -/
def Img.opens (i : Img) (b : Nat) : List (Nat × Nat × Nat) :=
  let l := i.bytes scBolt b
  (i.present b).flatMap (fun n =>
    let e := spEntry l n
    let size := fun k => if k < e.bufs then numAt l (e.off + 64 * e.lines + 8 * k + 4) 4 else 0
    ((i.instrs b n).filterMap Instr.opening?).map (fun o =>
      (o.1, o.2.2, (List.range o.2.2).foldl (fun m k => min m (size (o.2.1 + k))) (2 ^ 18))))

/-- STREAM_INVALID of an entry (R179). -/
def State.streamBad (s : State) (w : Nat) : Bool :=
  let r := streamRow w
  let h := s.shape r.shape
  let p := siteOfPort r.port
  decide (351 < r.port ∨ r.dbase % 32 ≠ 0 ∨ bits w 64 25 ≠ 0 ∨ bits w 0 24 ≠ 0 ∨ (r.pred ≠ 0 ∧ r.mrid = 0xFFFF) ∨
    h.sx ≠ p.x.val ∨ h.sy ≠ p.y.val)

/-- The padding of a stream from its declared openings is below PAD_MIN (R194, R195). -/
def State.depthBad (s : State) (opens : List (Nat × Nat × Nat)) (id : Nat) (r : StreamRow) : Bool :=
  let os := opens.filter (fun o => o.1 == id)
  let depth := os.foldl (fun m o => min m o.2.1) 256
  let limit := os.foldl (fun m o => min m o.2.2) (2 ^ 18)
  !os.isEmpty && decide (padCycles depth (s.maxPayload r.die id limit (s.descCount r.die) [r.dbase] [] 0) < 2048)

/-- Bits a descriptor of a kind may use (R189). -/
def descMask (kind : Nat) : Nat :=
  let head := (2 ^ 20 - 1) * 2 ^ 236
  if kind = 3 then head + (2 ^ 16 - 1) * 2 ^ 208 + (2 ^ 24 - 1) * 2 ^ 184
  else if kind = 4 then head
  else if kind = 0 then head + (2 ^ 143 - 1) * 2 ^ 93 + (2 ^ 16 - 1) * 2 ^ 61
  else head + (2 ^ 175 - 1) * 2 ^ 61

/-- The lowest cause of a descriptor read by a stream (R33, R187, R194). -/
def descCause (id : Nat) (group : Bool) (w : Nat) : Option Nat :=
  let d := descOf w
  let fetch := decide (d.dkind < 3)
  let pair := if d.maskmode = 0 then streamPairOk d.sfmt d.format else d.sfmt == d.format && d.orient == (d.maskmode == 2)
  if fetch && !(fmtOk d.format && fmtOk d.sfmt) then some 0x20
  else if fetch && decide (d.maskmode ≠ 3) && !pair then some 0x23
  else if 4 < d.dkind || d.stream != id || w &&& descMask d.dkind != w ||
      (fetch && (d.maskmode == 3 || decide (1024 < d.lines) || d.src % 64 != 0 || d.misshaped)) ||
      (fetch && d.dkind != 0 && !group) then some 0x2F
  else none

/-- The faults of a stream's descriptors found so far, and the descriptors looked at. -/
abbrev Walk := List (Nat × Nat) × List Nat

/-- The descriptors that can follow one. -/
def Desc.next (d : Desc) (k : Nat) : List Int :=
  if d.dkind = 4 then [] else if d.dkind = 3 then [(k : Int) + 1, (k : Int) + d.offset] else [(k : Int) + 1]

/-- The faulty descriptors of a list of n from descriptor k on, with their causes; `path` leads to it, newest first. A target
outside the list, and a path that comes back to itself and so never meets an END, are faults of the descriptor that leads
there (R194). The first number bounds the length of a path. -/
def State.walk (s : State) (base n id : Nat) (group : Bool) : Nat → List Nat → Int → Walk → Walk
  | 0, _, _, a => a
  | fuel + 1, path, t, a =>
    let from_ := path.headD 0
    if t < 0 ∨ (n : Int) ≤ t then ((from_, 0x2F) :: a.1, a.2)
    else
      let k := t.toNat
      if path.contains k then ((from_, 0x2F) :: a.1, a.2)
      else if a.2.contains k then a
      else
        let w := memNat s.fast (base + 32 * k) 32
        match descCause id group w with
        | some c => ((k, c) :: a.1, k :: a.2)
        | none =>
          let r := ((descOf w).next k).foldl (fun b u => s.walk base n id group fuel (k :: path) u b) a
          (r.1, k :: r.2)

/-- The faulty descriptors that one stream reads; it starts inside the list of its stack (R194). -/
def State.streamFaults (s : State) (i : Img) (e : Nat × BitVec 128) : List (Nat × Nat) :=
  let r := streamRow e.2.toNat
  let base := i.descBase r.die
  let n := (i.bytes scDesc r.die).length / 32
  let a := r.die * 2 ^ 36 + r.dbase
  if a < base ∨ base + 32 * n ≤ a ∨ (a - base) % 32 ≠ 0 then [(0, 0x2F)]
  else (s.walk base n e.1 (r.mrid != 0xFFFF) (n + 1) [] (((a - base) / 32 : Nat) : Int) ([], [])).1

/-- The cause of STREAMS. The padding is judged where every descriptor of the stream is valid: a faulty one produces
no lea, and is reported at DESC (DEDUCED, log entry 39). -/
def State.streamsCause (s : State) (i : Img) : Option Nat :=
  let opens := (List.range 48).flatMap i.opens
  s.prog.streams.findSome? (fun e =>
    if s.streamBad e.2.toNat then some 0x31
    else if (s.streamFaults i e).isEmpty && s.depthBad opens e.1 (streamRow e.2.toNat) then some 0x30 else none)

/-- The first faulty descriptor of a stack. -/
def State.descsCause (s : State) (i : Img) (stack : Nat) : Option Nat :=
  let faults := (s.prog.streams.filter (fun e => (streamRow e.2.toNat).die == stack)).flatMap (s.streamFaults i)
  (faults.foldl (fun (m : Option (Nat × Nat)) f =>
    match m with
    | none => some f
    | some g => if f.1 < g.1 ∨ (f.1 = g.1 ∧ f.2 < g.2) then some f else some g) none).map (·.2)

/-! ## Residence, gradients and masks -/

/-- Elements that two ranges share. -/
def common (a n b m : Nat) : Nat := min (a + n) (b + m) - max a b

/-- The lowest cause of a residence entry (R224, R227). -/
def State.shardCause (s : State) (i w : Nat) : Option Nat :=
  let d := shardOf w
  if shardBad (s.obj Obj.tierLayout) (s.obj Obj.slowLayout) w then some 0x32
  else if d.ecount = 0 then none
  else if s.shards.any (fun e => e.1 != i && overlaps d e.2) then some 0x33
  else
    let before := s.shards.filter (fun e => decide (e.1 < i))
    if 16384 ≤ (before.filter (fun e => e.2.home == d.home)).length then some 0x34
    else if d.cls = clsSlow ∧ 32768 ≤ (before.filter (fun e => e.2.cls == clsSlow && e.2.weft == d.weft)).length then some 0x34
    else none

/-- How far the intervals cover a range without a gap from p on. -/
def coveredTo (ivs : List (Nat × Nat)) : Nat → Nat → Nat
  | 0, p => p
  | n + 1, p =>
    let q := ivs.foldl (fun q iv => if iv.1 ≤ q then max q iv.2 else q) p
    if q = p then p else coveredTo ivs n q

/-- A gradient target row breaks R252. -/
def State.gradBad (s : State) (i : Nat) (r : GradRow) : Bool :=
  let stack := stackOfPort r.port
  let good := s.liveShards.filter (fun e => e.2.tensor == r.tensor && e.2.home == stack)
  let ivs := good.map (fun e => (e.2.efirst, e.2.efirst + e.2.ecount))
  decide (r.ecount = 0 ∨ 351 < r.port ∨ coveredTo ivs ivs.length r.efirst < r.efirst + r.ecount) ||
    s.gradRows.any (fun e => e.1 != i && e.2.tensor == r.tensor && common e.2.efirst e.2.ecount r.efirst r.ecount != 0) ||
    s.prog.streams.any (fun e => let q := streamRow e.2.toNat; q.mrid != 0xFFFF && q.mrid == r.rid && q.port == r.port)

/-- GRAD_TARGET_INVALID: a row at fault, or an element of a shard that trains covered by none (R252). -/
def State.gradsBad (s : State) : Bool :=
  s.gradRows.any (fun e => s.gradBad e.1 e.2) || s.liveShards.any (fun e =>
    ((s.gradRows.filter (fun r => r.2.tensor == e.2.tensor)).map (fun r =>
      common e.2.efirst e.2.ecount r.2.efirst r.2.ecount)).foldl (· + ·) 0 != e.2.ecount)

/-- Segments reserved for a packed band of n/64 entries at most (R241). -/
def segBound (n : Nat) : Nat := 2 * ceilDiv n (64 * 4096) - 1

/-- Entries of a band of n positions in 64ths: k of each 64 (R236, R241). -/
abbrev bandShare (n k : Nat) : Nat := n * k

/-- The reservations of a mask entry for a part of p rows fall short of the segments its bands may need (R241): a row band of
64 rows, and a column band, whose count under PRUNE R236 gives as p times k. -/
def MaskRow.segsBad (m : MaskRow) (p : Nat) : Bool :=
  decide (m.rsegs < segBound (bandShare (min 64 p * m.rowlen) m.dbound)) ||
    decide (m.csegs < segBound (bandShare (p * if m.mode = 2 then 64 else min 64 m.rowlen) m.dbound))

/-- MASK_INVALID of a used entry (R232, R233, R241). -/
def State.maskBad (s : State) (i : Nat) (m : MaskRow) : Bool :=
  let es := s.shards.filter (fun e => e.2.tensor == m.tensor)
  let parts := (s.stacksOf m.tensor).map (fun k => (k, s.partRows m.tensor k m))
  m.rowlen == 0 ||
    s.masks.any (fun e => e.1 != i && e.2.tensor == m.tensor) ||
    es.any (fun e => e.2.maskmode != m.mode || e.2.rowlen != m.rowlen || e.2.cls == clsCompact ||
      e.2.efirst % max 1 m.rowlen != 0 || e.2.ecount % max 1 m.rowlen != 0 ||
      (m.mode == 2 && (m.rowlen % 8 != 0 || (e.2.ecount / max 1 m.rowlen) % 8 != 0))) ||
    parts.any (fun p =>
      let got := ((s.part m.tensor p.1).map (·.2.ecount)).foldl (· + ·) 0
      got != p.2.2 * m.rowlen) ||
    (decide (32 < m.dbound) && (m.rpack || m.cpack)) ||
    parts.any (fun p => m.segsBad p.2.2)

/-- A reserved value in an entry of the mask table that is not empty, used or not (R232, R399). -/
def maskReserved (w : Nat) : Bool :=
  let m := maskRow w
  decide (w % 16 ≠ 0 ∨ m.mode = 3 ∨ m.dbound = 0 ∨ 64 < m.dbound)

/-- The lowest cause of the mask table, and of masked shards without an entry. -/
def State.masksCause (s : State) : Option Nat :=
  match (s.rowsOf Obj.maskTable).findSome? (fun e =>
    let m := maskRow e.2
    if !fmtOk m.pfmt then some 0x20
    else if maskReserved e.2 || (m.mode != 0 && s.maskBad e.1 m) then some 0x35 else none) with
  | some c => some c
  | none => if s.shards.any (fun e => e.2.maskmode != 0 && (s.maskOf e.2.tensor).isNone) then some 0x35 else none

/-! ## Bobbins and objects -/

/-- BOBBIN_INVALID of an entry (R383, R384). -/
def State.bobbinBad (s : State) (n w : Nat) : Bool :=
  let b := bobbinRow w
  let flow := b.kind == bkInput || b.kind == bkEvalInput
  let h := s.shape b.shape
  let backs := (List.range 4).map (fun k => backSite (4 * b.weft + k))
  b.kind != 0 && (decide (4 < b.kind ∨ b.size = 0 ∨ 1024 < b.size ∨ 65536 < b.base + b.size ∨ bits w 64 18 ≠ 0 ∨ bits w 0 32 ≠ 0) ||
    decide (b.base / 8192 ≠ (b.base + b.size - 1) / 8192) ||
    (flow && decide (b.dlines = 0 ∨ 98304 < b.dlines)) || (!flow && b.dlines != 0) ||
    (b.kind == bkMask && decide (b.role ≠ 0 ∨ b.shape ≠ 0)) ||
    s.bobbins.any (fun e => e.1 != n && common e.2.base e.2.size b.base b.size != 0) ||
    (b.kind != bkMask && s.bobbins.any (fun e => e.2.kind == b.kind && e.2.role == b.role &&
      (e.2.shape != b.shape || e.2.dlines != b.dlines || e.2.weft != b.weft))) ||
    (flow && !backs.contains (h.sx, h.sy)) ||
    (b.kind == bkEvalResult && !(h.skind == 0 && h.x0 == h.x1 && h.y0 == h.y1 && backs.contains (h.x0, h.y0))))

/-- The object, row and value of an OBJECT_INIT record. -/
def initOf (r : List Byte × List Byte) : Nat × Nat × Nat := (numAt r.1 0 2 * 256 + numAt r.1 2 1, numAt r.1 4 4, leNat r.2)

/-- The lowest cause of an OBJECT_INIT record (R283, R403). -/
def State.initCause (s : State) (r : List Byte × List Byte) : Option Nat :=
  let (id, row, v) := initOf r
  match objInfo? id with
  | none => some 0x19
  | some o =>
    if (o.access ≠ 1 ∧ o.access ≠ 3) ∨ o.rows ≤ row ∨ r.2.length ≠ o.rowBytes ∨ s.valueBad id v then some 0x19
    else if id = Obj.residence ∧ shardBad (s.obj Obj.tierLayout) (s.obj Obj.slowLayout) v then some 0x19
    else if (id = Obj.schedule ∧ scheduleBad v) ∨ (id = Obj.hyper ∧ hyperBad v) then some 0x38
    else none

/-! ## The spare area -/

/-- The redirections of a die made anew for the regions in force; none where the spare area is too small (R467). -/
def State.redirectDie (s : State) (die : Nat) : Option State :=
  let map := s.retiredMap die
  if map = 0 then some s
  else
    let s0 := if die < 24 then s.setObj Obj.channelRetired die 0 else s.setField Obj.slowdevRetired 0 (4 * (die - 24)) 4 0
    let s0 := { s0 with faults := { s0.faults with redirect := tdel s0.faults.redirect die } }
    ((List.range 64).filter (bitAt map)).foldl (fun (m : Option State) k => m.bind (fun t => (t.redirect die k).map (·.1))) (some s0)

/-- The redirections of every die. -/
def State.redirectAll (s : State) : Option State :=
  (List.range 32).foldl (fun (m : Option State) die => m.bind (fun t => t.redirectDie die)) (some s)

/-! ## All contents -/

/-- The cause of a section by type and index, judged on the laid-out state. -/
def State.sectCause (s : State) (i : Img) (typ idx : Nat) : Option Nat :=
  if typ = scGlobal then s.globalCause i
  else if typ = scSiteMap then (if s.siteMapLost i then some 0x1A else none)
  else if typ = scBolt then s.boltCause i idx (i.bytes scBolt idx)
  else if typ = scShapes then s.shapesCause i
  else if typ = scStreams then s.streamsCause i
  else if typ = scDesc then s.descsCause i idx
  else if typ = scGrads then (if s.gradsBad then some 0x37 else none)
  else if typ = scResidence then (i.rows scResidence 32).findSome? (fun e => s.shardCause e.1 e.2)
  else if typ = scMasks then s.masksCause
  else if typ = scBobbins then (if s.prog.bobbins.any (fun e => s.bobbinBad e.1 e.2.toNat) then some 0x3A else none)
  else if typ = scInit then (initRecords (i.bytes scInit 0)).1.findSome? s.initCause
  else none

/-- The sections whose checks hold even where the image lacks them. -/
def impliedSects : List (Nat × Nat) :=
  [(scSiteMap, 0), (scShapes, 0), (scStreams, 0), (scGrads, 0), (scResidence, 0), (scMasks, 0), (scBobbins, 0)] ++
    (List.range 24).map (fun k => (scDesc, k))

/-- Step 6 of R403: sections in directory order, then what the image lacks, with index 0, and the spare area. -/
def State.checkContents (s : State) (i : Img) : Cause :=
  let t := s.laidOut i
  firstCause (i.sects.mapIdx (fun k e => (t.sectCause i e.typ e.idx).map (fun c => (c, k))) ++
    (impliedSects.filter (fun e => (i.sect? e.1 e.2).isNone)).map (fun e => (t.sectCause i e.1 e.2).map (fun c => (c, 0))) ++
    [causeIf t.redirectAll.isNone 0x1B 0])

end Sys2Proof.Machine
end

