-- ==== Sys2Proof/Machine/Load.lean ====
section
/-! DEFINITION. Loading (R403, R404), restarting (R405, R362) and unloading a program (R405, R484), and the measurement
registers (R476). Each action answers the state after it and the status of the write that asked for it. -/

namespace Sys2Proof.Machine

/-! ## Measurements -/

/-- A measurement register extended (R476). -/
def State.extend (s : State) (k : Nat) (data : List Byte) : State :=
  s.setObj Obj.measurement k (leNat (sha384 (leBytes 48 (s.obj Obj.measurement k) ++ data)))

/-- The patch values in use. -/
def State.patches (s : State) : List Nat := (List.range 16).map (s.obj Obj.patchValues)

/-! ## Spindles and bolts from an image -/

/-- An unpoisoned line of these bits. -/
def cleanLine (v : Nat) : Line := { data := BitVec.ofNat 512 v, poison := false }

/-- The code and constants of spindle n of a bolt over store lines. -/
def Img.lines (i : Img) (b n : Nat) (ls : SMap Line) : SMap Line :=
  let l := i.bytes scBolt b
  let e := spEntry l n
  let ls := putLines ls 0 ((rowNums 64 (cut l e.off (64 * e.lines))).map cleanLine)
  (i.constLines b n).foldl (fun m c => tput m c.1 { data := c.2, poison := false }) ls

/-- The buffer table of spindle n of a bolt, generations 0 (R166, R400). -/
def Img.bufTable (i : Img) (b n : Nat) : SMap Buffer :=
  let l := i.bytes scBolt b
  let e := spEntry l n
  (List.range e.bufs).map (fun k =>
    let a := e.off + 64 * e.lines + 8 * k
    (k, { base := numAt l a 4, size := numAt l (a + 4) 4, gen := 0 }))

/-- A spindle's bolt and its place in the bolt. -/
def boltPlace (row : Nat) : Nat × Nat :=
  let x := row % 128
  let y := row / 128
  (boltOf x y, 16 * (y % 12) + x % 16)

/-- What a replay sets in every spindle (R362): accumulators zero, hanks undefined, queues, slots, generations, loops,
contexts and summary slots cleared. -/
def Spindle.renewed (x : Spindle) (seed : Nat) : Spindle :=
  { x with
    halted := true, pc := 0, loops := []
    hanks := List.replicate 16 { seed := seed }
    accs := List.replicate 8 { s := List.replicate 4096 0, c := List.replicate 4096 0 }
    bufs := x.bufs.map (fun e => (e.1, { e.2 with gen := 0 }))
    slots := List.replicate 8 {}, queues := List.replicate 8 [], ctxs := List.replicate 4 {}
    sums := List.replicate 8 {}, carried := List.replicate 8 {}
    xq := [], puts := [], stored := [], fresh := [], streams := [], inFlight := [], justWrote := none, nowWrote := none
    atDoff := none, arrived := none, router := {} }

/-- The store, buffer table and code region of a spindle rewritten from an image. -/
def Spindle.rewritten (x : Spindle) (i : Img) (row : Nat) (st : Store) : Spindle :=
  let (b, n) := boltPlace row
  { x with
    codeLines := (spEntry (i.bytes scBolt b) n).lines
    bufs := i.bufTable b n
    store := { st with lines := i.lines b n st.lines } }

/-- A spindle as a load leaves it: code, constants and buffer table, every other bit undefined (R404 step 2). The manual
does not say what a load leaves in the registers: hanks and accumulators are undefined and the rest is as R362 sets it
(DESIGN CHOICE, log entry 33). -/
def Img.spindle (i : Img) (row seed : Nat) : Spindle :=
  if bitAt i.absent row then {}
  else
    let x : Spindle := ({} : Spindle).renewed seed
    let x : Spindle := { x with accs := List.replicate 8 { seed := seed } }
    x.rewritten i row { seed := seed }

/-- A bolt controller with its program loaded and its decision table clear (R136, R404 step 3). -/
def Img.bolt (i : Img) (b : Nat) (x : Bolt) : Bolt :=
  let l := i.bytes scBolt b
  let code := numAt l 3072 4
  let data := numAt l 3076 4
  { x with
    progRunning := false, suBlocked := false, decTable := []
    codeLen := code, dataLen := data
    code := memWrite [] 0 (cut l boltHead code), data := memWrite [] 0 (cut l (boltHead + code) data) }

/-- Every bolt program loaded. -/
def State.loadBolts (s : State) (i : Img) : State :=
  { s with bolts := (List.range 48).map (fun b => (b, i.bolt b (s.bolt b))) }

/-! ## Checking -/

/-- Steps 1 to 6 of R403 on the image in a store: the refusal, or the image with its records applied. -/
def State.judge (s : State) (m : Mem) : Sum (Nat × Nat) Img :=
  let i := readImg m
  match Img.step1 m i with
  | some c => .inl c
  | none =>
    let i := i.fill m
    if leNat (i.digest.take 8) ≠ i.id_ then .inl (0x13, 0)
    else if s.obj Obj.moduleRev 0 < i.minRev then .inl (0x15, 0)
    else if i.signBad (sliceFrom m 0 124) (s.obj Obj.ownerKeyHash 0) (s.obj Obj.imageSignRequired 0 == 1) then
      .inl (0x17, i.at_ scSign 0)
    else
      match i.relocated s.patches with
      | none => .inl (0x16, i.at_ scRelocs 0)
      | some r =>
        match s.checkContents r with
        | some c => .inl c
        | none => .inr r

/-- LOAD_STATUS with a refusal (R406). -/
def State.refuseLoad (s : State) (cause idx : Nat) : State :=
  s.setObj Obj.loadStatus 0 (5 + idx % 2 ^ 12 * 2 ^ 12 + cause * 2 ^ 24)

/-- The outcome in LOAD_STATUS. -/
def State.setLoadStatus (s : State) (v : Nat) : State := s.setField Obj.loadStatus 0 0 4 v

/-! ## Placing -/

/-- The memories CLEAR_ON_UNLOAD selects written with zeros (R484). -/
def State.clearMemories (s : State) : State :=
  let m := s.obj Obj.clearOnUnload 0
  let wipe := fun (x : Spindle) => { x with store := { lines := [], zeroed := true } }
  let s := if bitAt m 0 then { s with spindles := (List.range 9216).map (fun r => (r, wipe ((tget s.spindles r).getD {}))) } else s
  let s := if bitAt m 1 then { s with fast := [], fastPoison := [] } else s
  let s := if bitAt m 2 then { s with slow := [] } else s
  if bitAt m 3 then { s with host := { s.host with staging := [], retained := [] } } else s

/-- Every object that resets at LOAD at its default, with no write pending for it (R404 step 7, R413). -/
def State.resetAtLoad (s : State) : State :=
  let stays := fun (k : Nat) => !((objInfo? (k / 2 ^ 20)).map (·.loadReset)).getD false
  { s with
    objs := s.objs.filter (fun e => stays e.1)
    stones := [], streaks := []
    dict := { s.dict with
      pending := s.dict.pending.filter (fun e => stays e.1)
      inUse := s.dict.inUse.filter (fun e => stays e.1) } }

/-- The OBJECT_INIT values stored (R399, R404 step 7); a CTL32 takes its value as a masked write, without its actions. -/
def State.initObjects (s : State) (i : Img) : State :=
  (initRecords (i.bytes scInit 0)).1.foldl (fun t r =>
    let (id, row, v) := initOf r
    let v := if isCtl id then ctlValue (t.obj id row) v else v
    t.setObj id row (v &&& rowMask id row)) s

/-- Every declared slot header at its reset value (R385, R404 step 6). -/
def State.resetSlots (s : State) : State :=
  s.bobbins.foldl (fun t e => { t with slow := memWrite t.slow (t.slotAddr e.1) (leBytes 256 1) }) s

/-- The membership after LOAD: the full configured grid under epoch 0 (R314; DESIGN CHOICE, log entry 34). -/
def State.fullGrid (s : State) : State :=
  let s := s.setMembership (2 ^ s.gridP - 1) 0
  { s with link := { s.link with
      joined := [], joinSent := false, decided := false, early := none, asked := none, supply := [], pendingLoss := [], lostNeighbours := [], recorded := [], reweaving := false
      copied := [], gridSums := [], rewoven := [], queries := 0, digestList := [] } }

/-- The program set going afresh: nothing of the old one's wafer, step and streams remains (R404 step 1). -/
def State.freshProgram (s : State) : State :=
  let s := s.haltWafer
  { s with
    step := { leaveAsked := s.step.leaveAsked }, streams := {}, hold := {}
    fabric := { s.fabric with doneSeqs := [], arbiters := s.fabric.arbiters }
    faults := { s.faults with stopped := false, lost := [], moved := [], window := [], lateBase := [], coreBase := s.time.core } }

/-- The tables, tiers, spindles and bolts of a checked image (R404 steps 2 to 6). -/
def State.placeProgram (s : State) (i : Img) : State :=
  let seed := s.free + 1
  let s := { s with prog := i.prog, spindles := (List.range 9216).map (fun r => (r, i.spindle r seed)) }
  let s := ((s.drew 1).loadBolts i).putTiers i
  (s.clearRows Obj.journalSlot).resetSlots

/-- The objects of an accepted load (R404 step 7): reset, pending LOAD writes, the image's tables, OBJECT_INIT. -/
def State.placeObjects (s : State) (i : Img) : State :=
  let s := s.resetAtLoad
  let s := (s.takeDue apLoad).setKeys (s.due apLoad)
  let s := ((s.putLayout i).initObjects i).adopt apLoad
  let s := (s.redirectAll).getD s
  s.countClasses.writeScaleLines

/-- Identifiers, measurements, the retained copy and the states after a load (R401, R404 step 8, R476). -/
def State.finishLoad (s : State) (staged : Mem) (i : Img) (digest : List Byte) : State :=
  let s := (s.setObj Obj.imageId 0 i.id_).setObj Obj.loadedId 0 (loadedId i.id_ s.patches)
  let key := if i.signed then leBytes 96 (signKey (leNat (i.bytes scSign 0))) else []
  let s := ((s.setObj Obj.measurement 4 0).setObj Obj.measurement 5 0).extend 4 (digest ++ key)
  let s := s.extend 5 (s.patches.flatMap (leBytes 8))
  let s := { s with host := { s.host with retained := staged.filter (fun c => decide (c.1 < i.total)) } }
  let s := ((s.setField Obj.stepControl 0 0 1 0).setObj Obj.stepStatus 0 0).setLoadStatus 4
  let s := (s.setObj Obj.loadTime 0 (Config.freeNat s.free % 2 ^ 64)).drew 1
  let s := s.fullGrid
  if s.mode = stReady ∨ s.mode = stStandby then s.setMode stLoaded 0 else s

/-- An accepted load (R404). -/
def State.acceptLoad (s : State) (i : Img) : State :=
  let staged := s.host.staging
  let digest := ((readImg staged).fill staged).digest
  let s := s.freshProgram
  let s := if s.prog.loaded then s.clearMemories else s
  ((s.placeProgram i).placeObjects i).finishLoad staged i digest

/-- A load may be asked for (R403); an unload likewise (R405). -/
def State.loadable (s : State) : Bool :=
  s.mode == stReady || s.mode == stLoaded || s.mode == stStandby || (s.mode == stRun && !s.stepping)

/-- LOAD written as 1 (R403, R404). -/
def State.load (s : State) : State × Nat :=
  if !s.loadable then (s.refuseLoad 0x18 0, stState)
  else
    match s.judge s.host.staging with
    | .inl (c, k) => (s.refuseLoad c k, stOk)
    | .inr i => (s.acceptLoad i, stOk)

/-! ## Rewriting from the retained copy -/

/-- The retained image with the patch values of its load applied. -/
def State.retainedImg (s : State) : Img :=
  let i := (readImg s.host.retained).fill s.host.retained
  (i.relocated ((List.range 16).map (s.used Obj.patchValues))).getD i

/-- Logical spindles rewritten from the retained copy, the rest of their stores as it was; bolt programs reloaded
(R362). -/
def State.rewrite (s : State) (rows : List Nat) : State :=
  let i := s.retainedImg
  let s := rows.foldl (fun t r =>
    if t.isAbsent r then t
    else
      let x := (tget t.spindles r).getD {}
      { t with spindles := tput t.spindles r (x.rewritten i r x.store) }) s
  s.loadBolts i

/-- Every spindle as at the start of a replay; decision tables and mask reports cleared (R362). -/
def State.renew (s : State) : State :=
  let seed := s.free + 1
  { s with
    spindles := s.spindles.map (fun e => (e.1, e.2.renewed seed))
    bolts := s.bolts.map (fun e => (e.1, { e.2 with decTable := [] }))
    streams := {}
    free := s.free + 1 }

/-- RESTART written as 1 (R405). -/
def State.restart (s : State) : State × Nat :=
  if s.mode = stLoaded ∨ (s.mode = stRun ∧ !s.stepping) then
    let s := (s.rewrite (List.range 9216)).renew.writeScaleLines
    ({ s with prog := { s.prog with halted173 := false } }, stOk)
  else (s.refuseLoad 0x18 0, stState)

/-! ## Unloading -/

/-- The program halted and forgotten; the module is READY (R405, R476, R484). -/
def State.unloaded (s : State) : State :=
  let s := s.freshProgram.clearMemories
  let s := { s with prog := {} }
  let s := ((s.setObj Obj.imageId 0 0).setObj Obj.loadedId 0 0).setObj Obj.stepStatus 0 0
  let s := ((s.setObj Obj.measurement 4 0).setObj Obj.measurement 5 0).setLoadStatus 0
  let s := s.setMember false
  if s.mode = stReady then s else s.setMode stReady 0

/-- UNLOAD written as 1 (R405). -/
def State.unload (s : State) : State × Nat :=
  if s.loadable then (s.unloaded, stOk) else (s.refuseLoad 0x18 0, stState)

end Sys2Proof.Machine
end

