-- ==== Sys2Proof/Machine/Reweave.lean ====
section
/-! DEFINITION. Re-weaving (R339 to R342) and refilling (R369, R370): the units a module copies from its neighbours,
the control state, and the end of each. -/

namespace Sys2Proof.Machine

/-! ## What a REWEAVE frame carries -/

/-- The parameter arrays by their code in TAG (R308). -/
def copiedArrs : List (Nat × Arr) := [(0, .work), (1, .master), (2, .m), (3, .v), (4, .avg)]

/-- The extent an entry and an array code name: slow tier or not, first byte, bytes (R308). For the mask region and the
packed slots the entry field holds the stack, and the offset counts from the MASK or WEIGHT region's base (DESIGN
CHOICE, log entry 35). -/
def State.copyExtent (s : State) (entry array : Nat) : Option (Bool × Nat × Nat) :=
  if array < 5 then
    let d := s.shard entry
    let a := (nth copiedArrs array (0, .work)).2
    if d.count a = 0 then none else some ((d.place a).1, (d.place a).2, d.padded a)
  else if array = 6 ∨ array = 7 then
    let r := region (s.obj Obj.tierLayout entry) (if array = 6 then 3 else 1)
    if entry < 24 ∧ r.1 < r.2 then some (false, entry * 2 ^ 36 + r.1 * 4096, (r.2 - r.1) * 4096) else none
  else none

/-- The entries and array codes that make up a copy: every array of every shard but G, every mask region, and the weight
region of every stack with packed slots (R340). -/
def State.copyParts (s : State) : List (Nat × Nat) :=
  (s.shards.flatMap (fun e => (List.range 5).map (fun a => (e.1, a)))) ++ (List.range 24).map (fun k => (k, 6)) ++
    ((List.range 24).filter (fun k => s.masks.any (fun m =>
      (m.2.rpack || m.2.cpack) && !(s.part m.2.tensor k).isEmpty))).map (fun k => (k, 7))

/-- The 4 KiB units of a copy, as entry, array and offset; `only` keeps those that lie on lost units. -/
def State.copyUnits (s : State) (only : Bool) (parts : List (Nat × Nat)) : List (Nat × Nat × Nat) :=
  parts.flatMap (fun p =>
    match s.copyExtent p.1 p.2 with
    | none => []
    | some (slow, base, n) =>
      ((List.range (n / 4096)).filter (fun o =>
        !only || s.isLost slow (base + 4096 * o) || s.isLost slow (base + 4096 * o + 2048))).map (fun o => (p.1, p.2, o)))

/-- Bytes written to a tier, poisoned where the frame says so. -/
def State.putUnit (s : State) (slow : Bool) (a : Nat) (poison : Bool) (bs : List Byte) : State :=
  let s := s.tierWrite slow a bs
  if poison && !slow then
    { s with fastPoison := s.fastPoison ++ (List.range (ceilDiv bs.length 64)).map (fun i => a / 64 + i) }
  else s

/-- A unit noted as copied. -/
def State.noteCopied (s : State) (k : Nat × Nat × Nat) : State :=
  if s.link.copied.contains k then s else { s with link := { s.link with copied := s.link.copied ++ [k] } }

/-! ## The control state -/

/-- The fields of a residence entry that the control state carries: STATE, GEN and the RWB fields (R340). -/
def copiedFields : Nat := rwbMask ||| 7 * 2 ^ 130 ||| (2 ^ 16 - 1) * 2 ^ 114

/-- The objects of the control state (R340). -/
def isControlState (id : Nat) : Bool :=
  let index := id / 256
  let rwb := ((objInfo? id).map (·.access)).getD 0 == 3
  id == Obj.stepCount || id == Obj.runSeed || id == Obj.zeroStreakCount || id == Obj.lsCleanRun || id == Obj.compactExp ||
    id == Obj.maskLastEvent || (rwb && decide (0x5000 ≤ index ∧ index < 0x8000))

/-- One row of the control state taken: the key of the row in 8 bytes, then its value (DESIGN CHOICE, log entry 35). -/
def State.takeControl (s : State) (data : List Byte) : State :=
  let k := leNat (data.take 8)
  let v := leNat (data.drop 8)
  let id := k / 2 ^ 20
  let row := k % 2 ^ 20
  match objInfo? id with
  | none => s
  | some o =>
    let v := v % 2 ^ (8 * o.rowBytes)
    if !isControlState id || decide (o.rows ≤ row) then s
    else if id = Obj.residence then
      let old := s.obj id row
      (s.setObj id row ((old &&& (2 ^ 256 - 1 - copiedFields)) ||| (v &&& copiedFields))).countClasses
    else
      let s := s.setObj id row v
      if o.access = 1 then { s with dict := { s.dict with inUse := tput s.dict.inUse k v } } else s

/-! ## Re-weaving -/

/-- START written as 1 (R339, R343). -/
def State.weaveStart (s : State) : State × Nat :=
  if s.link.reweaving then (s, stOk) else if s.canWeave then (s.beginWeave, stOk) else (s, stState)

/-- ABORT written as 1 (R343, R438): a re-weave stops and the module returns to STANDBY. -/
def State.weaveAbort (s : State) : State × Nat :=
  if s.mode = stRecover ∧ !s.link.member then
    let s := { s with link := { s.link with reweaving := false, copied := [], gridSums := [] }, step := {} }
    (((s.setField Obj.reweaveStatus 0 0 4 0).setPhase 0).setMode stStandby 0, stOk)
  else (s, stState)

/-- The copy is complete: every unit and the end of the control state have come (R341). -/
def State.copyComplete (s : State) : Bool :=
  s.link.copied.contains (0, 8, 0) && (s.copyUnits false s.copyParts).all (fun k => s.link.copied.contains k)

/-- A frame taken by a joining module; a control-state frame without payload ends the control state (log entry 35). -/
def State.weaveUnit (s : State) (entry array off : Nat) (poison : Bool) (data : List Byte) : State :=
  if s.weavePhase ≠ 1 ∧ s.weavePhase ≠ 2 then s
  else
    let s := s.setField Obj.reweaveStatus 0 0 4 2
    let s :=
      if array = 8 then (if data.isEmpty then s.noteCopied (0, 8, 0) else s.takeControl data)
      else
        match s.copyExtent entry array with
        | none => s
        | some (slow, base, n) =>
          if n ≤ 4096 * off then s
          else (s.putUnit slow (base + 4096 * off) poison (data.take 4096)).noteCopied (entry, array, off)
    if s.copyComplete then s.setField Obj.reweaveStatus 0 0 4 3 else s

/-! ## The source of a copy -/

/-- The entries a source sends to, or a joiner takes from, the neighbour on one side: where the joiner has two neighbours in L,
even ones from the neighbour on its ports 3 to 5 and odd ones from the other; all of them where it has one (R340). -/
def ofSide (two low : Bool) (entry : Nat) : Bool := !two || (entry % 2 == 0) == low

/-- The joiner a supply goes to has two neighbours in L. -/
def State.sharesSupply (s : State) (x : Supply) : Bool :=
  let q := s.posAt (if x.next then .next else .prev)
  let far := if x.next then nextPos s.gridP q else prevPos s.gridP q
  bitAt s.liveMap (far - 1) && (far != s.myPos || s.link.supply.any (fun y => y.next != x.next))

/-- The rows of the control state (R340). -/
def controlRows : List (Nat × Nat) :=
  (objTable.filter (fun o => isControlState o.id)).flatMap (fun o => (List.range o.rows).map (fun r => (o.id, r)))

/-- A piece of a copy: a unit, a row of the control state, or the end of the control state. -/
inductive Piece where
  | unit (entry array off : Nat)
  | row (id r : Nat)
  | fin
deriving DecidableEq, Repr

/-- What this module sends the joiner of a supply, in order; the control state goes with the even entries (log entry 35). -/
def State.pieces (s : State) (x : Supply) : List Piece :=
  let two := s.sharesSupply x
  (s.copyUnits false (s.copyParts.filter (fun p => ofSide two x.next p.1))).map (fun k => Piece.unit k.1 k.2.1 k.2.2) ++
    (if ofSide two x.next 0 then controlRows.map (fun k => Piece.row k.1 k.2) ++ [.fin] else [])

/-- TAG of a REWEAVE frame (R308). -/
def weaveTag (entry array off : Nat) : Nat := off % 2 ^ 42 + array % 16 * 2 ^ 42 + entry % 2 ^ 18 * 2 ^ 46

/-- A REWEAVE frame. -/
def State.weaveFrame (s : State) (entry array off : Nat) (poison : Bool) (bs : List Byte) : OutFrame :=
  { s.frame tyReweave (weaveTag entry array off) (leNat bs) bs.length with poison := poison }

/-- The frame of a piece; values are those in force (R340). -/
def State.pieceFrame (s : State) : Piece → OutFrame
  | .unit entry array off =>
    match s.copyExtent entry array with
    | none => s.weaveFrame entry array off false []
    | some (slow, base, _) =>
      let a := base + 4096 * off
      let m := if slow then s.slow else s.fast
      let poison := !slow && s.fastPoison.any (fun l => decide (a ≤ 64 * l ∧ 64 * l < a + 4096))
      s.weaveFrame entry array off poison ((readVals m a 1 4096).map (BitVec.ofNat 8))
  | .row id r =>
    match objInfo? id with
    | none => s.weaveFrame 0 8 0 false []
    | some o =>
      let v := if o.access = 1 then s.used id r else s.obj id r
      s.weaveFrame 0 8 0 false (leBytes 8 (objKey id r) ++ leBytes (ceilDiv o.rowBytes 8 * 8) v)
  | .fin => s.weaveFrame 0 8 0 false []

/-- A supply replaced. -/
def State.setSupply (s : State) (x : Supply) : State :=
  { s with link := { s.link with supply := s.link.supply.map (fun y => if y.next = x.next then x else y) } }

/-- One frame of a copy sent, while the port has room; a copy that was not complete when its step ended starts again with the next
one (R341). -/
def State.supplyOne (s : State) (x : Supply) : State :=
  let ps := s.pieces x
  let x := if x.sent < ps.length ∧ x.step ≠ s.stepCount then { x with sent := 0, step := s.stepCount } else x
  let n : Neighbour := if x.next then .next else .prev
  match s.livePort n, ps[x.sent]? with
  | some p, some k =>
    if (s.port p).room tyReweave && (s.port p).waiting.isEmpty then
      (s.setSupply { x with sent := x.sent + 1 }).sendOn p (s.pieceFrame k)
    else s.setSupply x
  | _, _ => s.setSupply x

/-- The copies this module supplies go on, in MICROBATCH and EXCHANGE only (R341). -/
def State.supplyAll (s : State) : State :=
  if s.link.member && (s.phase == 1 || s.phase == 2) then s.link.supply.foldl State.supplyOne s else s

/-- A frame of an entry comes to a joiner from the neighbour in L that supplies it (R340). -/
def State.fromSource (s : State) (p entry : Nat) : Bool :=
  let inL := fun (n : Neighbour) => bitAt s.liveMap (s.posAt n - 1)
  decide (p < 6) && inL (neighbourOf p) && ofSide (inL .prev && inL .next) (neighbourOf p == .prev) entry

/-! ## Refilling -/

/-- After COMMIT a refill restores the whole of a shard: one of a die with a lost unit, or one that its update left TORN (R272,
R370). -/
def State.refillsWhole (s : State) (d : Shard) : Bool := s.phase == 4 && (s.onLostDie d || d.state == shTorn)

/-- The shards a refill restores: those with a lost unit; after COMMIT every shard of the die, and every TORN one (R272, R369,
R370). -/
def State.refillShards (s : State) : List (Nat × Shard) :=
  if s.phase = 4 then s.shards.filter (fun e => s.refillsWhole e.2)
  else s.shards.filter (fun e => !(s.copyUnits true ((List.range 5).map (fun a => (e.1, a)))).isEmpty)

/-- The units a refill waits for. -/
def State.refillUnits (s : State) : List (Nat × Nat × Nat) :=
  let es := s.refillShards
  let arrs := es.flatMap (fun e => (List.range 5).map (fun a => (e.1, a)))
  s.copyUnits (s.phase != 4) arrs ++ s.copyUnits true (s.copyParts.filter (fun p => p.2 == 6 || p.2 == 7))

/-- A frame taken by a refilling module: only the lost units of it are written, or after COMMIT all of it. -/
def State.refillUnit (s : State) (entry array off : Nat) (poison : Bool) (data : List Byte) : State :=
  match s.copyExtent entry array with
  | none => s
  | some (slow, base, n) =>
    let a := base + 4096 * off
    let whole := decide (array < 5) && s.refillsWhole (s.shard entry)
    let put := fun (t : State) (h : Nat) =>
      if whole || s.isLost slow (a + 2048 * h) then
        t.putUnit slow (a + 2048 * h) poison ((data.drop (2048 * h)).take 2048) else t
    if n ≤ 4096 * off then s
    else ((put (put s 0) 1).noteCopied (entry, array, off)).setField Obj.refillStatus 0 0 4 3

/-- Bytes of the units that a refill still waits for, in 2 KiB halves. -/
def State.refillHalves (s : State) (ks : List (Nat × Nat × Nat)) : Nat :=
  ks.foldl (fun n k =>
    match s.copyExtent k.1 k.2.1 with
    | none => n
    | some (slow, base, _) =>
      if s.phase = 4 ∧ k.2.1 < 5 then n + 2
      else n + (s.isLost slow (base + 4096 * k.2.2)).toNat + (s.isLost slow (base + 4096 * k.2.2 + 2048)).toNat) 0

/-- Something is to be refilled: a lost unit, or a TORN shard of the running update (R272, R369). -/
def State.needsRefill (s : State) : Bool := !s.faults.lost.isEmpty || !s.refillShards.isEmpty

/-- REFILL_STATUS: the phase as stored, and the MiB remaining (R378). -/
def State.refillStatus (s : State) : Nat :=
  let left := s.refillUnits.filter (fun k => !s.link.copied.contains k)
  s.field Obj.refillStatus 0 0 4 + ceilDiv (s.refillHalves left) 512 % 2 ^ 24 * 2 ^ 8

/-- REWEAVE_FRAME (R339 to R341, R369): a unit for a module that re-weaves, from the source that owes it, or for one that
refills. -/
def execReweaveFrame (port : PortNo) (hdr : FrameHdr) (entry : BitVec 18) (array : BitVec 4) (offset : BitVec 42)
    (data : List Byte) (s : State) : Result :=
  done (s.ifUp (fun s => s.accept port.val hdr tyReweave (fun t =>
    let t := t.crossWafer port.val data.length
    if t.link.reweaving then
      (if t.fromSource port.val entry.toNat then t.weaveUnit entry.toNat array.toNat offset.toNat hdr.poison data else t)
    else if t.link.member && t.needsRefill then t.refillUnit entry.toNat array.toNat offset.toNat hdr.poison data
    else t)))

/-- The CRC of R277 over a shard as it stands, under a generation; a shard without W_master is taken by W_work. -/
def State.crcNow (s : State) (i gen : Nat) : Nat :=
  let d := s.shard i
  let a : Arr := if d.count .master = 0 then .work else .master
  (crc64 (leBytes 8 i ++ leBytes 2 gen ++ (s.readArr d a).flatMap (leBytes a.width))).toNat

/-- The generation a refilled shard has at its source. -/
def State.refillGen (s : State) (e : Nat × Shard) : Nat :=
  if s.phase = 4 ∧ e.2.rule ≠ 0 ∧ !s.step.updated.contains e.1 then (e.2.gen + 1) % 2 ^ 16 else e.2.gen

/-- The DESC units of the lost places rewritten from the retained image (R369). -/
def State.refillDesc (s : State) : State :=
  let i := s.retainedImg
  i.sects.foldl (fun t e =>
    if e.typ = scDesc ∧ s.faults.lost.any (fun l => l.1 == e.idx) then
      let base := i.descBase e.idx
      let bs := e.bytes
      (List.range (ceilDiv bs.length 2048)).foldl (fun u h =>
        if s.isLost false (base + 2048 * h) then u.tierWrite false (base + 2048 * h) ((bs.drop (2048 * h)).take 2048) else u) t
    else t) s

/-- A neighbour that can supply a refill: a member in the chain, or in the column (R369). -/
def State.hasSource (s : State) : Bool := [Neighbour.next, .prev, .columnLow, .columnHigh].any s.hasPeer

/-- Without a source every shard with a lost unit becomes TORN, and the module stops in PAUSED (R272, R369, R438). -/
def State.refillTorn (s : State) : State :=
  let s := s.refillShards.foldl (fun t e => t.setShardState e.1 shTorn) s
  let s := { s with faults := { s.faults with lost := [] }, link := { s.link with copied := [] } }
  let s := (s.setField Obj.refillStatus 0 0 4 0).setPhase 8
  if s.mode = stRecover then s.setMode stRun 0 else s

/-- A kept element of G was not zero when the update of a shard that it left TORN read it (R290). -/
def State.tornNonZero (s : State) (d : Shard) : Bool :=
  let o := s.olds d
  d.state == shTorn && (keptOf (s.shardMask d o.w) o.g).any (fun x => !isZero32 x)

/-- A shard restored after COMMIT counts as updated, with its CRC in the digest and its bands due (R247, R272, R275, R277,
R290, R370). -/
def State.refilledShard (s : State) (i gen crc : Nat) : State :=
  let d := s.shard i
  let nz := if s.tornNonZero d then s.step.nonZeroLayers ++ [d.layer] else s.step.nonZeroLayers
  let s := (s.setShardState i shDone).setShardGen i gen
  { s with step := { s.step with
      updated := s.step.updated ++ [i], digest := s.step.digest ^^^ BitVec.ofNat 64 crc, nonZeroLayers := nz
      slowTime := s.slowDone d } }.addBands d

/-- A complete refill (R369, R374, R377): REFILL_DONE with the MiB refilled, and the module back in RUN. -/
def State.refillDone (s : State) : State :=
  let n := s.refillHalves s.refillUnits
  let s := s.refillShards.foldl (fun t e =>
    if s.phase = 4 ∧ e.2.rule ≠ 0 ∧ !s.step.updated.contains e.1 then
      t.refilledShard e.1 (s.refillGen e) (s.crcNow e.1 (s.refillGen e)) else t) s
  let start := s.faults.lostSince
  let root := s.faults.lostRoot
  let s := { s with faults := { s.faults with lost := [] }, link := { s.link with copied := [] } }
  let s := (s.setObj Obj.refillStatus 0 0).fault 0xB402 0 (ceilDiv n 512)
  let s := s.recovered 3 start root
  if s.mode = stRecover && !s.faults.stopped && s.link.member then s.setMode stRun 0 else s

/-- REFILL (R369, R370): with every lost unit received, each affected shard's CRC is compared with the source's; a
mismatch refills that shard again. After COMMIT the update of the other shards comes first. -/
def execRefill (crcs : List (BitVec 18 × W64)) (s : State) : Result :=
  done (s.ifUp (fun s =>
    let es := s.refillShards
    let others := s.liveShards.all (fun e => s.step.updated.contains e.1 || s.refillsWhole e.2)
    if !s.needsRefill || (s.phase == 4 && !others) then s
    else
      let s := s.refillDesc
      if !s.hasSource then s.refillTorn
      else if !s.refillUnits.all (fun k => s.link.copied.contains k) then s
      else if !es.all (fun e => crcs.any (fun c => c.1.toNat == e.1)) then s
      else
        let bad := es.filter (fun e => !crcs.any (fun c => c.1.toNat == e.1 && c.2.toNat == s.crcNow e.1 (s.refillGen e)))
        if bad.isEmpty then s.refillDone
        else
          let again := fun (k : Nat × Nat × Nat) => decide (k.2.1 < 5) && bad.any (fun e => e.1 == k.1)
          let s := { s with link := { s.link with copied := s.link.copied.filter (fun k => !again k) } }
          s.fault 0xB403 0 0))

end Sys2Proof.Machine
end

