-- ==== Sys2Proof/Machine/FaultOps.lean ====
section
/-! DEFINITION. Reports and their groups (R350, R357 to R359), hard indicators (R349), fencing and replay (R360 to R366),
and firmware watchdogs (R347). -/

namespace Sys2Proof.Machine

/-! ## Silence and hard indicators -/

/-- Code of a SILENT report by level (R377). -/
def silentCode (level : Nat) : Nat :=
  if level = lvSpindle then 0x1401 else if level = lvBolt then 0x2401 else if level = lvDudin then 0x4401
  else if level = lvWeft then 0x6401 else level * 2 ^ 12 + 0x401

/-- The unit has made a report in an open group. -/
def State.hasReported (s : State) (u : UnitId) : Bool :=
  s.faults.groups.any (fun g => g.reports.any (fun r => sameUnit r.reporter u))

/-- LIVENESS_MISS (R350, R351, R357): the unit is reported SILENT and retired at once, unless it has itself reported and
so is no candidate (R358). -/
def execLivenessMiss (reporter unit : UnitId) (s : State) : Result :=
  done (s.ifUp (fun s =>
    let live := s.hasReported unit
    let s := s.report reporter unit (silentCode unit.level.toNat) 0
    if live then s else s.retire unit .silent))

/-- Code of the record of a unit retired by a hard indicator (R377). -/
def hardCode (level : Nat) : Nat :=
  if level = lvWafer then 0x3240 else if level = lvPort then 0x8202 else level * 2 ^ 12 + 0x201

/-- HARD_INDICATOR (R349, R351): the unit is retired at once. For a bolt the DETAIL is that of BOLT_LOST; else a group
that names the unit takes it into its root record (R358). -/
def execHardIndicator (unit : UnitId) (detail : W32) (s : State) : Result :=
  done (s.ifUp (fun s =>
    let level := unit.level.toNat
    let d := detail.toNat
    if level = lvBolt then
      let cause := if d = 2 ∨ d = 5 then d else 4
      s.loseBolt (bits unit.unit.toNat 0 6) cause 0x2201 cause
    else
      let seen : HardSeen := { time := s.time.now, unit := unit, code := BitVec.ofNat 16 (hardCode level), detail := detail }
      let s := { s with faults := { s.faults with hard := s.faults.hard ++ [seen] } }
      s.retire unit .hard))

/-! ## Closing a group -/

/-- A hard indicator of a unit within a group's millisecond. -/
def State.hardIn (s : State) (g : Group) (u : UnitId) : Option HardSeen :=
  s.faults.hard.find? (fun h => sameUnit h.unit u && decide (g.opened ≤ h.time ∧ h.time ≤ g.opened + grainsPerMs))

/-- The unit that contains a unit for R358's containment: a site's bolt, a channel's Dudin die, a lane's port, a port's
weft die. -/
def container (u : UnitId) : Option UnitId :=
  let n := u.unit.toNat
  match u.level.toNat with
  | 1 => some (unitId lvBolt (bits n 24 6))
  | 5 => some (unitId lvDudin (bits n 8 5))
  | 7 => some (unitId lvPort (bits n 3 3))
  | 8 => some (unitId lvWeft (bits n 0 3))
  | _ => none

/-- A named unit, or the unit that contains it where that one is named or has a hard indicator (R358). -/
def State.contain (s : State) (g : Group) (u : UnitId) : UnitId :=
  match container u with
  | some c => if g.reports.any (fun r => sameUnit r.unit c) || (s.hardIn g c).isSome then c else u
  | none => u

/-- A list without repeats of a unit. -/
def unitsOnce : List UnitId → List UnitId
  | [] => []
  | u :: us => u :: (unitsOnce us).filter (fun v => !sameUnit u v)

/-- The units a group names, in the order of their first reports. -/
def State.namedUnits (s : State) (g : Group) : List UnitId := unitsOnce (g.reports.map (fun r => s.contain g r.unit))

/-- The named units that made no report (R358). -/
def State.candidates (s : State) (g : Group) : List UnitId :=
  (s.namedUnits g).filter (fun u => !g.reports.any (fun r => sameUnit r.reporter u))

/-- The unit a report is folded into: followed through the reports of the units it names until a candidate; none on a
cycle (R358). -/
def State.foldsInto (s : State) (g : Group) : Nat → UnitId → Option UnitId
  | 0, _ => none
  | n + 1, u =>
    match (s.candidates g).find? (sameUnit u) with
    | some c => some c
    | none =>
      match g.reports.find? (fun r => sameUnit r.reporter u) with
      | some r => s.foldsInto g n (s.contain g r.unit)
      | none => none

/-- The root of a group without candidates, or of the reports that reach a cycle: the unit named earliest, ties to the
lower level and the lower UNIT (R358). -/
def State.cycleRoot (s : State) (g : Group) : Option UnitId :=
  let n := g.reports.length + 1
  let lost := g.reports.filter (fun r => (s.foldsInto g n (s.contain g r.unit)).isNone)
  let better := fun (a b : Report) =>
    let ua := s.contain g a.unit
    let ub := s.contain g b.unit
    decide (a.time < b.time ∨ (a.time = b.time ∧ (ua.level.toNat < ub.level.toNat ∨
      (ua.level = ub.level ∧ ua.unit.toNat < ub.unit.toNat))))
  match lost with
  | [] => none
  | r :: rs => some (s.contain g (rs.foldl (fun a b => if better b a then b else a) r).unit)

/-- The record of a group for one failed unit; `silent` marks the root of a cycle (R353, R358). -/
def State.rootRecord (s : State) (g : Group) (u : UnitId) (echoes : Nat) (silent : Bool) : State :=
  let naming := g.reports.filter (fun r => sameUnit (s.contain g r.unit) u)
  let first := naming.foldl (fun t r => min t r.time) (naming.foldl (fun t r => max t r.time) 0)
  let own := naming.filter (fun r => sameUnit r.unit u)
  let by_ := (own ++ naming).head?
  let code := match s.hardIn g u, by_ with
    | some h, _ => h.code.toNat
    | none, some r => r.code.toNat
    | none, none => 0
  let detail := match s.hardIn g u, by_ with
    | some h, _ => h.detail.toNat
    | none, some r => r.detail.toNat
    | none, none => 0
  let unit := match own.head? with
    | some r => r.unit.unit.toNat
    | none => u.unit.toNat
  let hard := silent || (s.hardIn g u).isSome || code == silentCode u.level.toNat
  let s := s.bump Obj.faultFolded 0 echoes
  (s.record { time := first, code, unit, detail, echoes, hard, root := true }).causeWritten

/-- Reports of a group that a unit's record holds. -/
def State.heldBy (s : State) (g : Group) (u : UnitId) : Nat :=
  let n := g.reports.length + 1
  (g.reports.filter (fun r => match s.foldsInto g n (s.contain g r.unit) with
    | some c => sameUnit c u
    | none => false)).length

/-- A site that was taken for silent and has reported is no failed unit after all: its fence is withdrawn (R358). -/
def State.withdraw (s : State) (g : Group) : State :=
  let live := (s.namedUnits g).filter (fun u => g.reports.any (fun r => sameUnit r.reporter u))
  let keep := fun (d : Nat × Nat × Nat) =>
    decide (d.2.2 / 16 ≠ 1) || !live.any (sameUnit (unitId lvSpindle (d.1 * 2 ^ 24 + d.2.1 * 2 ^ 20 + d.2.2 % 16 * 2 ^ 16)))
  { s with faults := { s.faults with dueFence := s.faults.dueFence.filter keep } }

/-- A group closed: one record for each failed unit (R358). -/
def State.closeGroup (s : State) (g : Group) : State :=
  let cs := s.candidates g
  let t := cs.foldl (fun t u => t.rootRecord g u (s.heldBy g u - 1) false) (s.withdraw g)
  match s.cycleRoot g with
  | none => t
  | some u =>
    let n := g.reports.length - (cs.map (s.heldBy g)).foldl (· + ·) 0
    let t := t.rootRecord g u (n - 1) true
    t.retire u .silent

/-- The group that opened earliest. -/
def firstGroup : List Group → Option Group
  | [] => none
  | g :: gs => some (gs.foldl (fun a b => if b.opened < a.opened then b else a) g)

/-- REPORT_GROUP_CLOSE (R357, R358): the group that opened earliest closes. -/
def execReportGroupClose (s : State) : Result :=
  done (s.ifUp (fun s =>
    match firstGroup s.faults.groups with
    | none => s
    | some g =>
      let t := s.closeGroup g
      let later := t.faults.hard.filter (fun h => decide (g.opened + grainsPerMs < h.time))
      ({ t with faults := { t.faults with groups := t.faults.groups.erase g, hard := later } }).settleOwed))

/-! ## Fencing -/

/-- A fence may be made now: for a replay once the wafer has stopped, else at a STEP boundary (R361, R366). -/
def State.mayFence (s : State) : Bool :=
  s.faults.stopped ||
    (!s.step.mbRunning && (s.phase == 0 || s.phase == 7 || s.phase == 8 || (s.phase == 1 && s.mbIndex == 0)))

/-- The logical sites of a bolt column from physical row f on, in order. -/
def columnRows (b c f : Nat) : List Nat :=
  (List.range (12 - f)).map (fun i => 128 * (12 * (b / 8) + f + i) + 16 * (b % 8) + c)

/-- The stores and registers of a bolt column follow the physical sites: each moved logical spindle finds what its new
site held, the last one the spare's undefined bits (R362). -/
def State.cardColumn (s : State) (b c f : Nat) : State :=
  let rows := columnRows b c f
  let fresh : Spindle := ({} : Spindle).renewed (s.free + 1)
  let held := (rows.map (fun r => (tget s.spindles r).getD {})).drop 1 ++
    [{ fresh with store := { seed := s.free + 1 }, accs := List.replicate 8 { seed := s.free + 1 } }]
  { s with
    free := s.free + 1
    spindles := (List.zip rows held).foldl (fun m e => tput m e.1 e.2) s.spindles }

/-- Moved logical sites written again from the retained image: at once at a boundary, before the replay otherwise (R362,
R366). -/
def State.rewriteMoved (s : State) (rows : List Nat) : State :=
  if !s.prog.loaded then s
  else
    let s := s.rewrite rows
    if s.obj Obj.lsLine 0 = 0xFFFFFFFF then s
    else rows.foldl (fun t r => { t with spindles := tput t.spindles r (t.putScaleLine r ((tget t.spindles r).getD {})) }) s

/-- A fence made: the multiplexers switched around the row, and the moved spindles taken care of. -/
def State.makeFence (s : State) (b c r detail : Nat) : State :=
  let rows := columnRows b c r
  let s := (s.cardColumn b c r).fenceRow b c r detail
  if s.faults.stopped then { s with faults := { s.faults with moved := s.faults.moved ++ rows } } else s.rewriteMoved rows

/-- FENCE (R361, R366): a due site is fenced once its report group has closed; a failed test of the newly occupied site
loses the bolt. -/
def execFence (b : BoltNo) (column : Fin 16) (row : Fin 13) (testPassed : Bool) (s : State) : Result :=
  done (s.ifUp (fun s =>
    let bn := b.val
    let c := column.val
    let r := row.val
    let is := fun (d : Nat × Nat × Nat) => d.1 == bn && d.2.1 == c && d.2.2 % 16 == r
    match s.faults.dueFence.find? is with
    | none => s
    | some d =>
      if !s.mayFence || s.inOpenGroup (unitId lvSpindle (s.physUnit bn c r)) then s
      else
        let s := { s with faults := { s.faults with dueFence := s.faults.dueFence.filter (fun e => !is e) } }
        if bits (s.obj Obj.cardingMap bn) (4 * c) 4 ≠ 15 ∨ !testPassed then s.loseBolt bn 2 0x2201 2
        else
          let root := s.rootSeq (unitId lvSpindle (s.physUnit bn c r))
          let s := if s.faults.stopped then { s with faults := { s.faults with recRoot := root } } else s
          s.makeFence bn c r (d.2.2 / 16)))

/-! ## Replay -/

/-- The elements a replay must discard by gradient row: as many as the stopped attempt added, and no more than the row
takes (R365). -/
def State.skipsOf (s : State) : SMap Nat :=
  let ecount := fun (i : Nat) => ((s.gradRows.find? (fun e => e.1 == i)).map (·.2.ecount)).getD 0
  s.step.gradCount.map (fun e => (e.1, min e.2 (ecount e.1)))

/-- What a replay needs: a stop with every due fence made, no refill, and its input (R360, R393). -/
def State.canReplay (s : State) : Bool :=
  s.faults.stopped && s.faults.dueFence.isEmpty && s.faults.lost.isEmpty && s.lacking.isEmpty && !s.prog.unrunnable

/-- MICROBATCH_REPLAY (R362, R364, R365, R374, R438). -/
def execMicrobatchReplay (s : State) : Result :=
  done (s.ifUp (fun s =>
    if !s.canReplay then s
    else
      let skip := s.skipsOf
      let again : List Taken := s.step.slots.map (fun (t : Taken) => { t with written := 0, overflow := false })
      let st : Step := { s.step with gradSkip := skip, gradCount := skip, slots := again }
      let s : State := { s with step := st }
      let s : State := (s.rewriteMoved s.faults.moved).renew
      let s : State := { s with faults := { s.faults with stopped := false, moved := [] } }
      let s : State := (s.bump Obj.replays 0 1).fault 0xB401 0 (if s.step.evaluating then s.step.evalIndex else s.mbIndex)
      let s := if s.mode = stRecover then s.setMode stRun s.lastSeq else s
      let s := if s.faults.doffsAtStop = 0 then s.recovered 2 s.faults.stopTime s.faults.recRoot else s
      s.launch))

end Sys2Proof.Machine
end

