-- ==== Sys2Proof/Machine/Lock.lean ====
section
/-! DEFINITION. The dictionary's lock (R417 to R420) and its status codes (R430). -/

namespace Sys2Proof.Machine

/-- NO_OBJECT (R430). -/
abbrev stNoObject : Nat := 1
/-- NO_ROW. -/
abbrev stNoRow : Nat := 2
/-- LOCKED. -/
abbrev stLocked : Nat := 6
/-- NOT_OWNER. -/
abbrev stNotOwner : Nat := 7
/-- VOTE_FAILED. -/
abbrev stVoteFailed : Nat := 9
/-- UNPAIRED. -/
abbrev stUnpaired : Nat := 10
/-- FULL. -/
abbrev stFull : Nat := 11
/-- MALFORMED. -/
abbrev stMalformed : Nat := 12
/-- COMMIT_REFUSED. -/
abbrev stCommitRefused : Nat := 13

/-- The lock free, with no write pending under it. -/
def State.freeLock (s : State) : State :=
  { s with dict := { s.dict with lockOwner := none, lease := 0, lockWrites := [] } }

/-- The lock expires: its writes are discarded, counted and recorded (R420). -/
def State.expireLock (s : State) : State :=
  match s.dict.lockOwner with
  | none => s
  | some m =>
    let n := s.dict.lockWrites.length
    ((s.bump Obj.lockExpiries 0 1).fault 0xA603 0 (m + n * 2 ^ 8)).freeLock

/-- LOCK asked for by a master (R417). -/
def State.takeLock (s : State) (m : Nat) (lease : W16) : State × Nat :=
  let l : W16 := if lease = 0 then 2000 else lease
  if l.toNat < 100 ∨ 60000 < l.toNat then (s, stRange)
  else if s.dict.lockOwner.isSome && s.dict.lockOwner != some m then (s, stLocked)
  else ({ s with dict := { s.dict with lockOwner := some m, lease := l } }, stOk)

/-- UNLOCK asked for by a master (R419). -/
def State.dropLock (s : State) (m : Nat) : State × Nat :=
  if s.dict.lockOwner = some m then (s.freeLock, stOk) else (s, stNotOwner)

/-- LOCK_EXPIRY (R420): the lease has passed without a request of the owner. -/
def execLockExpiry (s : State) : Result := done (s.ifUp State.expireLock)

/-- A master's session, kept responses and shadows. -/
def State.master (s : State) (m : Nat) : Master := nth s.dict.masters m {}

/-- They are replaced. -/
def State.setMaster (s : State) (m : Nat) (x : Master) : State :=
  { s with dict := { s.dict with masters := setNth s.dict.masters m x } }

/-- READ_SHADOW_EXPIRY (R415). -/
def execReadShadowExpiry (m : MasterNo) (s : State) : Result :=
  done (s.ifUp (fun s => s.setMaster m.val { s.master m.val with readShadow := none }))

/-- WRITE_SHADOW_EXPIRY (R415). -/
def execWriteShadowExpiry (m : MasterNo) (s : State) : Result :=
  done (s.ifUp (fun s => s.setMaster m.val { s.master m.val with writeShadow := none }))

end Sys2Proof.Machine
end

