-- ==== Sys2Proof/Machine/Firmware.lean ====
section
/-! DEFINITION. Firmware banks (R470 to R474), measurements of firmware and settings (R476), attestation (R477), tokens
(R481 to R483), the security settings (R473, R480), and restarts by a firmware watchdog (R347). -/

namespace Sys2Proof.Machine

/-! ## Images -/

/-- SVN of an image header (R471). -/
def fwSvn (h : BitVec 1024) : Nat := bits h.toNat 128 32
/-- VERSION of an image header. -/
def fwVersion (h : BitVec 1024) : Nat := bits h.toNat 96 32

/-- An image in a bank. -/
def State.fwImage (s : State) (bank : Bool) (c : Nat) : FwImage :=
  nth (nth s.sec.banks bank.toNat []) c { header := 0, genuine := false }

/-- An image verifies (R472). -/
def State.verifies (s : State) (x : FwImage) : Bool := x.genuine && decide (s.obj Obj.fwMinSvn 0 ≤ fwSvn x.header)

/-- The bank a component runs from: the first choice, else the other; none where neither verifies. -/
def State.pickBank (s : State) (first : Bool) (c : Nat) : Option Bool :=
  if s.verifies (s.fwImage first c) then some first
  else if s.verifies (s.fwImage (!first) c) then some (!first)
  else none

/-- A component's image header measured (R476). -/
def State.measureFw (s : State) (c : Nat) (h : BitVec 1024) : State :=
  s.extend c ((if c = 0 then leBytes 4 Config.bootRomVersion.toNat else []) ++ leBytes 128 h.toNat)

/-- A component verified and started, with FW_FALLBACK where it falls back to the other bank (R472). -/
def State.startFw (s : State) (first : Bool) (c : Nat) : Option State :=
  (s.pickBank first c).map (fun b =>
    let h := (s.fwImage b c).header
    let s := if b = first then s else s.fault 0xA403 0 c
    let s := { s with sec := { s.sec with runBank := setNth s.sec.runBank c b } }
    (s.setObj Obj.firmwareVersion c (fwVersion h)).measureFw c h)

/-! ## Installing -/

/-- "TWFWIMG1". -/
def fwMagic : Nat := 0x31474D4957465754

/-- A staged image checked under R472; its header where it verifies. -/
def State.stagedImage (s : State) (c : Nat) : Option FwImage :=
  let m := s.host.staging
  let off := memNat m (16 * c) 8
  let len := memNat m (16 * c + 8) 8
  if len < 320 ∨ 2 ^ 33 < off + len then none
  else
    let hb := memRead m off 128
    let h := leNat hb
    let body := memRead m (off + 128) (len - 320)
    let key := memNat m (off + len - 192) 96
    let sig := memNat m (off + len - 96) 96
    let ok := bits h 0 64 == fwMagic && bits h 80 16 == 1 && bits h 64 8 == c && bits h 192 64 == len - 320 &&
      keyHash key == s.obj Obj.fwKeyHash 0 && ecVerify (sha384 hb) (pair384 key) (pair384 sig) &&
      bits h 256 384 == digestNat body && decide (s.obj Obj.fwMinSvn 0 ≤ bits h 128 32)
    if ok then some { header := BitVec.ofNat 1024 h, genuine := true } else none

/-- INSTALL is accepted (R474). -/
def State.mayInstall (s : State) : Bool :=
  s.mode == stUnaddressed || s.mode == stQuiet || s.mode == stReady || s.mode == stStandby || s.sec.recovery

/-- INSTALL written as 1 (R474). -/
def State.install (s : State) : State × Nat :=
  if !s.mayInstall then (s, stState)
  else
    let xs := (List.range 4).map s.stagedImage
    match xs.findIdx? (·.isNone) with
    | some c => (s.setObj Obj.fwStatus 0 (3 + c * 2 ^ 4), stOk)
    | none =>
      let bank := !s.sec.preferred
      let s := { s with sec := { s.sec with banks := setNth s.sec.banks bank.toNat (xs.filterMap id), installed := some bank } }
      (s.setObj Obj.fwStatus 0 2, stOk)

/-- SWITCH written as 1 (R474): the newly installed bank becomes preferred; without one nothing changes. -/
def State.switchBank (s : State) : State × Nat :=
  match s.sec.installed with
  | some b => ({ s with sec := { s.sec with preferred := b } }, stOk)
  | none => (s, stOk)

/-- FW_BANK (R486). -/
def State.fwBank (s : State) : Nat :=
  s.sec.preferred.toNat + 2 ^ 4 * packFields 1 (s.sec.runBank.map (·.toNat))

/-! ## Settings -/

/-- The settings as stored, for register 6 (R476). -/
def State.settings (s : State) : List Byte :=
  leBytes 48 (s.obj Obj.ownerKeyHash 0) ++ leBytes 1 (s.obj Obj.imageSignRequired 0) ++
    leBytes 1 (s.obj Obj.clearOnUnload 0) ++ leBytes 4 (s.obj Obj.fwMinSvn 0)

/-- The settings measured. -/
def State.measureSettings (s : State) : State := s.extend 6 s.settings

/-- The lowest SVN among the images running (R473). -/
def State.lowestSvn (s : State) : Nat :=
  ((List.range 4).map (fun c => fwSvn (s.fwImage (nth s.sec.runBank c false) c).header)).foldl min (2 ^ 32)

/-- SECURITY_STATE (R486). -/
def State.securityState (s : State) : Nat :=
  s.obj Obj.clearOnUnload 0 % 16 + s.obj Obj.imageSignRequired 0 * 2 ^ 4 +
    (decide (s.obj Obj.ownerKeyHash 0 ≠ 0)).toNat * 2 ^ 5 + s.obj Obj.debugState 0 * 2 ^ 6

/-! ## Attestation -/

/-- Bytes 0 to 479 of a report (R477). -/
def State.reportBody (s : State) : List Byte :=
  leBytes 8 0x3154535454415754 ++ leBytes 2 1 ++ leBytes 1 (s.obj Obj.moduleRev 0) ++ leBytes 1 (s.obj Obj.debugState 0) ++
    leBytes 4 0 ++ leBytes 16 (s.obj Obj.serialNumber 0) ++ leBytes 32 (s.obj Obj.attestNonce 0) ++ leBytes 8 s.time.now ++
    leBytes 8 s.stepCount ++ leBytes 16 0 ++ (List.range 8).flatMap (fun k => leBytes 48 (s.obj Obj.measurement k))

/-- GENERATE written as 1 (R477): the report is filled in one transaction. -/
def State.generate (s : State) : State × Nat :=
  if s.mode = stBoot then (s, stState)
  else
    let body := s.reportBody
    let sig := Config.attestSignature (BitVec.ofNat 384 (digestNat body)) s.sec.reports
    let all := leNat (body ++ leBytes 96 sig.toNat)
    let s := (List.range 9).foldl (fun t r => t.setObj Obj.attestReport r (bits all (512 * r) 512)) s
    ({ s with sec := { s.sec with reports := s.sec.reports + 1 } }, stOk)

/-! ## Tokens -/

/-- DEBUG_NONCE drawn afresh (R482). -/
def State.drawNonce (s : State) : State :=
  let n := s.sec.nonceDraws + 1
  ({ s with sec := { s.sec with nonceDraws := n } }).setObj Obj.debugNonce 0 (Config.debugNonce n).toNat

/-- A token's key is allowed for its kind (R482). -/
def State.keyAllowed (s : State) (kind level hash : Nat) : Bool :=
  let owner := hash == s.obj Obj.ownerKeyHash 0 && s.obj Obj.ownerKeyHash 0 != 0
  let debug := hash == s.obj Obj.debugKeyHash 0
  if kind = 1 ∧ level = 1 then owner || debug
  else if (kind = 1 ∧ level = 2) ∨ kind = 3 then debug
  else kind == 2 && owner

/-- A token fits this module and its signature and key are good (R482). -/
def State.tokenGood (s : State) (t : Nat) : Bool :=
  bits t 0 64 == 0x314B544742445754 && bits t 128 128 == s.obj Obj.serialNumber 0 &&
    bits t 256 256 == s.obj Obj.debugNonce 0 && s.keyAllowed (bits t 64 8) (bits t 72 8) (keyHash (bits t 512 768)) &&
    ecVerify (sha384 (leBytes 64 t)) (pair384 (bits t 512 768)) (pair384 (bits t 1280 768))

/-- What an accepted token does (R483). -/
def State.tokenAct (s : State) (kind level : Nat) : State :=
  if kind = 1 then (s.setObj Obj.debugState 0 (max level (s.obj Obj.debugState 0))).fault 0xB640 0 level
  else if kind = 2 then (s.setObj Obj.ownerKeyHash 0 0).setObj Obj.imageSignRequired 0 0
  else { s with sec := { s.sec with clearField := true } }

/-- A token written to DEBUG_TOKEN (R481 to R483). -/
def State.token (s : State) (w : BitVec 2048) : State × Nat :=
  let t := w.toNat
  let kind := bits t 64 8
  let level := bits t 72 8
  if kind = 1 ∧ level = 2 ∧ s.prog.loaded = true then (s.fault 0xB641 0 kind, stState)
  else if s.tokenGood t then (((s.tokenAct kind level).extend 7 (leBytes 256 t)).drawNonce, stOk)
  else (s.fault 0xB641 0 kind, stOk)

/-! ## Restarts -/

/-- A component's firmware verified and started again from the image it booted. -/
def State.restartFw (s : State) (c : Nat) : Option State := s.startFw (nth s.sec.runBank c false) c

/-- What a restart of the service controller loses and keeps (R420, R427, R432, R476). -/
def State.serviceRestart (s : State) : State :=
  let s := s.expireLock
  let s := { s with dict := { s.dict with masters := List.replicate 5 {}, response := none, commitPos := 0, commitStatus := 0 } }
  let s := (List.range 32).foldl (fun t i => t.setObj (Obj.dictWindow + i) 0 0) (s.setObj Obj.dictCursor 0 0)
  let s := (s.restartFw 0).getD s
  (s.fault 0xA101 0 0).occurrence (unitId lvService 0)

/-- A die restarted with its record and occurrence; one whose firmware no longer verifies is retired (R347, R349). -/
def State.dieRestart (s : State) (c code : Nat) (u : UnitId) : State :=
  let s := s.fault code u.unit.toNat 0
  match s.restartFw c with
  | none => s.retire u .hard
  | some t => t.occurrence u

/-- FIRMWARE_WATCHDOG (R347, R349, R472). The manual gives a bolt controller's restart no record. -/
def execFirmwareWatchdog (unit : FwUnit) (s : State) : Result :=
  done (s.ifUp (fun s =>
    match unit with
    | .dudin k => s.dieRestart 2 0x4101 (unitId lvDudin k.val)
    | .weft w => s.dieRestart 3 0x6101 (unitId lvWeft w.val)
    | .bolt b =>
      match s.restartFw 1 with
      | none => s.loseBolt b.val 4 0x2201 4
      | some t => t.occurrence (unitId lvBolt b.val)
    | .service => s.serviceRestart))

end Sys2Proof.Machine
end

