-- ==== Sys2Proof/Machine/DictRead.lean ====
section
/-! DEFINITION. Reading the dictionary (R409, R414 to R416, R421, R426): objects whose value another field of the state
gives, the vote of a read, byte images, the read shadow, descriptors, and the lock word. -/

namespace Sys2Proof.Machine

/-! ## Values -/

/-- The stored rows of an object that are not at its default. -/
def State.storedRows (s : State) (id : Nat) : List Nat := (s.objs.filter (fun e => e.1 / 2 ^ 20 == id)).map (·.2)

/-- Subindex 0x01 of a spindle counter: the sum of the rows of subindex 0x00 (R104, R217). -/
def isSum (id : Nat) : Bool := id == Obj.lateSpindleSum || (decide (0x420101 ≤ id ∧ id ≤ 0x420901) && id % 256 == 1)

/-- DICT_LOCK as read (R434). -/
def State.lockWord (s : State) : Nat :=
  s.dict.lease.toNat + min s.dict.lockWrites.length 4096 * 2 ^ 16 + (s.dict.lockOwner.getD 7) % 8 * 2 ^ 29

/-- CHAIN_STATUS (R343). -/
def State.chainStatusWord (s : State) : Nat :=
  s.obj Obj.chainStatus 0 ||| packFields 1 [s.link.member.toNat, s.isGridHead.toNat, s.isChainHead.toNat,
    s.isTimeMaster.toNat, s.closed.toNat, 0, 0, s.link.reweaving.toNat]

/-- An object row as a read returns it. -/
def State.readRow (s : State) (id row : Nat) : Nat :=
  if id = Obj.chainTime then s.time.now % 2 ^ 64
  else if id = Obj.spareFree then s.spareFree row
  else if id = Obj.refillStatus then s.refillStatus
  else if id = Obj.securityState then s.securityState
  else if id = Obj.fwBank then s.fwBank
  else if id = Obj.dictLock then s.lockWord
  else if id = Obj.chainStatus then s.chainStatusWord
  else if id = Obj.spindleFlagsAny then (s.storedRows Obj.spindleFlags).foldl (· ||| ·) 0
  else if id = Obj.zeroStreakAny then ((s.storedRows Obj.zeroStreak).any (· != 0)).toNat
  else if isSum id then min ((s.storedRows (id - 1)).foldl (· + ·) 0) (2 ^ 64 - 1)
  else if isCtl id then s.obj id row % 2 ^ 16
  else s.obj id row

/-- The pending value of a buffered row where one exists (R426, PENDING). -/
def State.readPending (s : State) (o : ObjInfo) (row : Nat) : Nat :=
  (if o.access = 3 then tget s.dict.pending (objKey o.id row) else none).getD (s.readRow o.id row)

/-! ## The vote of a read -/

/-- A read of a voted row (R416): a copy that differs is rewritten and counted; where the vote fails the object is
recorded as lost. The flag says that it failed. -/
def State.settleVote (s : State) (id row : Nat) : State × Bool :=
  match tget s.dict.copies (objKey id row) with
  | none => (s, false)
  | some (b, c) =>
    if s.voteFailed id row then
      let k := objKey id row
      let s := if s.dict.voteLost.contains k then s else { s with dict := { s.dict with voteLost := k :: s.dict.voteLost } }
      ((s.setObj Obj.voteLost 0 (id * 256)).fault 0xA402 0 id, true)
    else if s.raw id row = b ∧ b = c then (s, false)
    else ((s.setObj id row (s.obj id row)).bump Obj.tripleRepairs 0 1, false)

/-- The rows a read covers, settled. -/
def State.settleVotes (s : State) (id : Nat) : List Nat → State × Bool
  | [] => (s, false)
  | r :: rs =>
    let a := s.settleVote id r
    let b := a.1.settleVotes id rs
    (b.1, a.2 || b.2)

/-! ## Byte images -/

/-- Bytes of an object's byte image (R409, R416, R426). -/
def State.readObj (s : State) (o : ObjInfo) (start len : Nat) (pend : Bool) : State × Nat × List Byte :=
  if len = 0 then (s, stOk, [])
  else if o.rows * o.rowBytes < start + len then (s, stLength, [])
  else if o.access = 2 then (s, stAccess, List.replicate len 0)
  else
    let first := start / o.rowBytes
    let rows := (List.range ((start + len - 1) / o.rowBytes + 1 - first)).map (first + ·)
    let r := if o.vote then s.settleVotes o.id rows else (s, false)
    if r.2 then (r.1, stVoteFailed, List.replicate len 0)
    else
      let s := r.1
      let image := rows.flatMap (fun i => leBytes o.rowBytes (if pend then s.readPending o i else s.readRow o.id i))
      (s, stOk, (image.drop (start % o.rowBytes)).take len)

/-- HIGH_UNLATCHED (R430). -/
abbrev highUnlatched : Nat := 0x80

/-- A value of 8 bytes that is read and written as two words (R415). -/
def wordy (o : ObjInfo) : Bool :=
  o.rowBytes == 8 && [4, 6, 8].contains (if o.typ = 13 then o.elem else o.typ)

/-- A word of an 8-byte value read by a master (R415). -/
def State.readWord (s : State) (m : Nat) (o : ObjInfo) (row : Nat) (high : Bool) : State × Nat × List Byte :=
  let x := s.master m
  let whole := fun (t : State) => t.readObj o (row * 8) 8 false
  if high then
    match x.readShadow with
    | some d =>
      if d.id = o.id ∧ d.row = row then (s, stOk, leBytes 4 d.word.toNat)
      else
        let r := whole s
        if r.2.1 = stOk then (r.1, highUnlatched, r.2.2.drop 4) else (r.1, r.2.1, List.replicate 4 0)
    | none =>
      let r := whole s
      if r.2.1 = stOk then (r.1, highUnlatched, r.2.2.drop 4) else (r.1, r.2.1, List.replicate 4 0)
  else
    let s := s.setMaster m { x with readShadow := none }
    let r := whole s
    if r.2.1 = stOk then
      let d : Shadow := { id := o.id, row := row, word := BitVec.ofNat 32 (leNat (r.2.2.drop 4)) }
      (r.1.setMaster m { r.1.master m with readShadow := some d }, stOk, r.2.2.take 4)
    else (r.1, r.2.1, List.replicate 4 0)

/-! ## Descriptors -/

/-- A STR, BLOB or TABLE. -/
def isWide (o : ObjInfo) : Bool := decide (11 ≤ o.typ)

/-- An object's descriptor (R421). -/
def descriptor (o : ObjInfo) : Nat :=
  o.loadReset.toNat * 2 + o.vote.toNat * 2 ^ 2 + o.apply % 8 * 2 ^ 3 + o.access % 4 * 2 ^ 6 +
    (if o.typ = 13 then o.elem % 16 else 0) * 2 ^ 8 + o.typ % 16 * 2 ^ 12 + o.rowBytes % 2 ^ 16 * 2 ^ 16 +
    (if o.typ = 13 then o.rows else 1) % 2 ^ 32 * 2 ^ 32 +
    (if isWide o then 0 else objDefault o.id 0 % 2 ^ 64) * 2 ^ 64

/-- Objects of the recovery subset (R470). -/
def inRecoverySubset (id : Nat) : Bool :=
  id / 2 ^ 20 == 1 || [Obj.selftestStatus, Obj.fwBank, Obj.fwControl, Obj.fwStatus, Obj.loadWindow].contains id

/-- The dictionary answers: in every state but BOOT (R437). -/
def State.dictServed (s : State) : Bool := s.up && s.mode != stBoot

/-- An object is not served because only the recovery subset runs. -/
def State.notServed (s : State) (id : Nat) : Bool := s.sec.recovery && !inRecoverySubset id

end Sys2Proof.Machine
end

