-- ==== Sys2Proof/Machine/Startup.lean ====
section
/-! DEFINITION. Power on, off and trips (R441 to R443), the clock tree (R453, R454), and the start-up (R463 to R470). -/

namespace Sys2Proof.Machine

/-! ## Power off -/

/-- The object rows that flash keeps across power-off (R460, R486, R487). -/
def inFlash (id : Nat) : Bool :=
  id == Obj.ownerKeyHash || id == Obj.imageSignRequired || id == Obj.clearOnUnload || id == Obj.fwMinSvn ||
    id == Obj.startupTest || id == Obj.startupReduced || id == Obj.lastShutdown || id == Obj.fieldDefects

/-- Everything but flash, the cables and the waiting commands is lost (R264, R443). -/
def State.powerOff (s : State) (tripped : Bool) : State :=
  let fresh : State := {}
  let ports := s.link.ports.map (fun (q : Port) => ({ cable := q.cable } : Port))
  { fresh with
    pending := s.pending
    free := s.free
    objs := s.objs.filter (fun e => inFlash (e.1 / 2 ^ 20))
    dict := { fresh.dict with copies := s.dict.copies.filter (fun e => inFlash (e.1 / 2 ^ 20)) }
    link := { fresh.link with ports := ports }
    sec := { s.sec with runBank := [false, false, false, false], installed := none, recovery := false }
    power := { fresh.power with tripped := tripped } }

/-- POWER_REMOVED (R264, R443). The input stays away for at least a second (DESIGN CHOICE, log entry 38). -/
def execPowerRemoved (s : State) : Result := done (s.powerOff false)

/-- The hottest reading and its unit, as THERMAL_STATE [15:8] names it: bolts, then rows of DIE_TEMP + 64 (R460). -/
def State.hottest (s : State) : Int × Nat :=
  let bolts : List (Int × Nat) := (List.range 48).map (fun b => (signed 32 (s.obj Obj.boltTemp b), b))
  let dies : List (Int × Nat) := (List.range 57).map (fun i => (signed 32 (s.obj Obj.dieTemp i), i + 64))
  (bolts ++ dies).foldl (fun a b => if a.1 < b.1 then b else a) (signed 32 (s.obj Obj.boltTemp 0), 0)

/-- A module trip with its cause for LAST_SHUTDOWN (R443, R460). -/
def State.trip (s : State) (cause : Nat) : State :=
  let h := s.hottest
  let v := cause * 2 ^ 128 + h.2 % 256 * 2 ^ 136 + unsigned 32 h.1 * 2 ^ 144 + s.obj Obj.inputVolt 0 % 2 ^ 16 * 2 ^ 176 +
    s.time.now % 2 ^ 64 * 2 ^ 192
  (s.setObj Obj.lastShutdown 0 v).powerOff true

/-! ## The clock tree -/

/-- The bolt next to a bolt: 0 north, 1 west, 2 east, 3 south (R461). -/
def boltBeside (b d : Nat) : Option Nat :=
  if d = 0 then (if 8 ≤ b then some (b - 8) else none)
  else if d = 1 then (if 0 < b % 8 then some (b - 1) else none)
  else if d = 2 then (if b % 8 < 7 then some (b + 1) else none)
  else if b + 8 < 48 then some (b + 8) else none

/-- A bolt's parent in the default tree, as CLOCK_PARENT codes it (R453). -/
def defaultParent (b : Nat) : Nat :=
  let bx := b % 8
  let row := b / 8
  if bx < 3 then 2 else if 3 < bx then 1 else if row < 3 then 3 else if 3 < row then 0 else 4

/-- Hops from a bolt to the root of the tree. -/
def State.clockHops (s : State) : Nat → Nat → Nat
  | 0, _ => 15
  | n + 1, b =>
    let d := s.field Obj.clockParent b 0 3
    if d = 4 then 0
    else
      match boltBeside b d with
      | some p => if d < 4 then min 15 (s.clockHops n p + 1) else 15
      | none => 15

/-- The hops of every bolt set (R461). -/
def State.putHops (s : State) : State :=
  (List.range 48).foldl (fun t b =>
    if t.field Obj.clockParent b 0 3 = 7 then t else t.setField Obj.clockParent b 4 4 (s.clockHops 48 b)) s

/-- The default tree (R453). -/
def State.defaultTree (s : State) : State :=
  ((List.range 48).foldl (fun t b => t.setObj Obj.clockParent b (defaultParent b)) s).putHops

/-- The live neighbour with the fewest hops, other than the parent that delivers no edge; ties north, west, east, south
(R454). -/
def State.newParent (s : State) (b : Nat) : Option Nat :=
  let old := s.field Obj.clockParent b 0 3
  let ok := fun (d : Nat) => d != old && (match boltBeside b d with
    | some p => s.field Obj.boltState p 0 4 == 0 && s.field Obj.clockParent p 0 3 != 7
    | none => false)
  let hops : Nat → Nat := fun (d : Nat) => match boltBeside b d with
    | some p => s.field Obj.clockParent p 4 4
    | none => 16
  match (List.range 4).filter ok with
  | [] => none
  | d :: ds => some (ds.foldl (fun a e => if hops e < hops a then e else a) d)

/-- A bolt re-parents (R454); without a live neighbour it is lost. -/
def State.reparent (s : State) (b : Nat) : State :=
  match s.newParent b with
  | none => s.loseBolt b 5 0x2201 5
  | some d =>
    let s := (s.setField Obj.clockParent b 0 3 d).putHops
    (s.bump Obj.clockReparents 0 1).fault 0x2402 b d

/-- CLOCK_PARENT_LOSS (R454). -/
def execClockParentLoss (b : BoltNo) (s : State) : Result :=
  done (s.ifUp (fun s => if s.field Obj.boltState b.val 0 4 = 0 then s.reparent b.val else s))

/-! ## The start-up -/

/-- SELFTEST_STATUS of a failed start-up: step, cause, how far it came (timing: a free value, log entry 4), failed. -/
def State.startFailed (s : State) (step cause : Nat) : State :=
  let done_ := Config.freeNat s.free % 101
  let s := (s.drew 1).setObj Obj.selftestStatus 0 (3 + done_ * 2 ^ 8 + cause * 2 ^ 16 + step * 2 ^ 24)
  let s := s.fault 0xB440 0 (step * 2 ^ 8 + cause)
  let s := { s with power := { s.power with railsOff := List.range 48 } }
  s.setMode stQuiet s.lastSeq

/-- Step 3: the firmware of the bolt controllers and the dies, and the settings measured (R463, R472, R476). -/
def State.startStep3 (s : State) : Option State :=
  ([1, 2, 3].foldl (fun (t : Option State) c => t.bind (fun u => u.startFw u.sec.preferred c)) (some s)).map
    State.measureSettings

/-- The record of a bolt lost at start-up, by its BOLT_STATE cause (R372, R464). -/
def boltCode (cause : Nat) : Nat := if cause = 1 then 0x2801 else if cause = 3 then 0x2701 else 0x2201

/-- A bolt lost at start-up: no program runs, so nothing else follows. -/
def State.startLoss (s : State) (b cause : Nat) : State :=
  if s.field Obj.boltState b 0 4 ≠ 0 then s
  else
    let s := (s.setField Obj.boltState b 0 4 cause).retireRecord (boltCode cause) b (if boltCode cause = 0x2201 then cause else 0)
      true 0
    let s := { s with power := { s.power with railsOff := s.power.railsOff ++ [b] } }
    s.clockLost b |>.markRetired (unitId lvBolt b)

/-- Some bolt is lost. -/
def State.anyLost (s : State) : Bool := (List.range 48).any (fun b => s.field Obj.boltState b 0 4 != 0)

/-- Step 4: the bolts powered in turn, and the clock tree around the lost ones (R454, R464). -/
def State.startStep4 (s : State) (lost : List (BoltNo × BitVec 4)) : State :=
  let s := { s with power := { s.power with railsOff := [] } }
  let s := (s.defaultTree)
  let s := (List.range 48).foldl (fun t b => if t.field Obj.boltState b 0 4 = 0 then t
    else ({ t with power := { t.power with railsOff := t.power.railsOff ++ [b] } }).clockLost b) s
  let s := lost.foldl (fun t e => if e.2 = 0 then t else t.startLoss e.1.val e.2.toNat) s
  let s := s.putHops
  (List.range 48).foldl (fun t b =>
    let d := t.field Obj.clockParent b 0 3
    let orphan := match boltBeside b d with
      | some p => decide (d < 4) && t.field Obj.boltState p 0 4 != 0
      | none => false
    if orphan && t.field Obj.boltState b 0 4 == 0 then
      (match t.newParent b with
        | none => t.startLoss b 5
        | some e => (((t.setField Obj.clockParent b 0 3 e).putHops).bump Obj.clockReparents 0 1).fault 0x2402 b e)
    else t) s

/-- Step 5: a failed site is a field defect, with its record; its cell row and column are free values where the failure
has none (R351, R354, R465). -/
def State.failSite (s : State) (e : BoltNo × Fin 16 × Fin 13) : State :=
  let b := e.1.val
  let c := e.2.1.val
  let r := e.2.2.val
  let s := s.setObj Obj.selftestSites b (addDefect (s.obj Obj.selftestSites b) c r)
  let s := s.setObj Obj.fieldDefects b (addDefect (s.obj Obj.fieldDefects b) c r)
  let cell := Config.freeNat s.free % 4096
  (s.drew 1).fault 0x0201 (b * 2 ^ 24 + c * 2 ^ 20 + r * 2 ^ 16 + cell) 0

/-- The failed rows of a bolt column: 15 none, 14 more than one (R463, R487). -/
def State.columnDefect (s : State) (b c : Nat) : Nat :=
  let f := bits (s.obj Obj.factoryDefects b) (4 * c) 4
  let g := bits (s.obj Obj.fieldDefects b) (4 * c) 4
  if f = 15 then g else if g = 15 ∨ g = f then f else 14

/-- Step 6: one bolt's carding map and its count of fenced sites; a column with two failed sites loses the bolt (R463). -/
def State.cardBolt (s : State) (b : Nat) : State :=
  let ds := (List.range 16).map (s.columnDefect b)
  let s := s.setObj Obj.cardingMap b (packFields 4 (ds.map (fun d => if d = 14 then 15 else d)))
  let s := s.setField Obj.boltState b 8 8 (ds.filter (fun d => d < 13)).length
  if ds.contains 14 then s.startLoss b 2 else s

/-- The channels or devices of a die that the field map or the test names, retired (R351, R467). -/
def State.startMemory (s : State) (die found : Nat) : State :=
  let field := (tget s.sec.fieldMemory die).getD 0
  let now := s.retiredMap die
  let all := now ||| field ||| found
  let fresh := (List.range 64).filter (fun k => bitAt found k && !bitAt (now ||| field) k)
  let s := if die < 24 then s.setObj Obj.channelRetired die all else s.setField Obj.slowdevRetired 0 (4 * (die - 24)) 4 all
  let s := { s with sec := { s.sec with fieldMemory := if all = 0 then s.sec.fieldMemory else tput s.sec.fieldMemory die (field ||| found) } }
  let unit := fun (k : Nat) => if die < 24 then unitId lvChannel (die * 2 ^ 8 + k) else unitId lvSlowdev (4 * (die - 24) + k)
  let s := ((List.range 64).filter (bitAt all)).foldl (fun t k =>
    if t.faults.retired.any (sameUnit (unit k)) then t else t.markRetired (unit k)) s
  fresh.foldl (fun t k => t.fault (if die < 24 then 0x5201 else 0x9201) (unit k).unit.toNat 0) s

/-- Step 7: SELFTEST_MEMORY and the memory retirements (R467). -/
def State.startStep7 (s : State) (found : List (Fin 32 × W64)) : State :=
  let s := (List.range 32).foldl (fun t i => t.setObj Obj.selftestMemory i 0) s
  let s := found.foldl (fun t e =>
    let w := if e.1.val < 24 then e.2.toNat else e.2.toNat % 16
    t.setObj Obj.selftestMemory e.1.val (t.obj Obj.selftestMemory e.1.val ||| w)) s
  (List.range 32).foldl (fun t i => t.startMemory i (t.obj Obj.selftestMemory i)) s

/-- A stack with more than 4 retired channels, or a weft die with more than 1 retired device (R467). -/
def State.memoryLimits (s : State) : Bool :=
  (List.range 32).any (fun i => decide ((if i < 24 then 4 else 1) < popcount 64 (s.retiredMap i)))

/-- Step 8: the lanes that fail the loopback test (R463, R311). -/
def State.failLane (s : State) (p l : Nat) : State :=
  if s.faults.retired.any (sameUnit (unitId lvLane (8 * p + l))) then s
  else
    let s := (s.markRetired (unitId lvLane (8 * p + l))).retireRecord 0x7201 (8 * p + l) 0 true 0
    if s.goodLanes p = 0 ∧ s.portState p ≠ lkRetired then
      ((s.setPortState p lkRetired).markRetired (unitId lvPort p)).retireRecord 0x8202 p 0 true s.lastSeq
    else s

/-- Step 9: READY; link training begins (R463). -/
def State.startPassed (s : State) : State :=
  let s := s.setObj Obj.selftestStatus 0 (2 + 100 * 2 ^ 8)
  (s.setMode stReady 0).retrainAll

/-- The steps 3 to 9 of a start-up, from SELFTEST (R463 to R468). -/
def State.startUp (s : State) (o : StartupOutcome) : State :=
  let s := (s.setObj Obj.selftestTime 0 (Config.freeNat s.free % 2 ^ 64)).drew 1
  let s := (List.range (min 2 o.serviceRestarts)).foldl (fun t _ => t.serviceRestart) s
  let reduced := s.obj Obj.startupReduced 0 == 1
  if 2 ≤ o.serviceRestarts then ((s.drew 1).startFailed (3 + Config.freeNat s.free % 6) 6)
  else
    match s.startStep3 with
    | none => s.startFailed 3 1
    | some s =>
      let s := s.startStep4 o.lostBolts
      if s.anyLost && !reduced then s.startFailed 4 2
      else if o.waferFail then s.startFailed 5 3
      else
        let s := (List.range 48).foldl (fun t b => t.setObj Obj.selftestSites b (objDefault Obj.selftestSites b)) s
        let s := (o.failedSites.filter (fun e => s.field Obj.boltState e.1.val 0 4 == 0)).foldl State.failSite s
        let s := (List.range 48).foldl State.cardBolt s
        if s.anyLost && !reduced then s.startFailed 6 2
        else if o.dieFail then s.startFailed 7 4
        else
          let s := s.startStep7 o.memory
          if s.memoryLimits then s.startFailed 7 5
          else (o.lanes.foldl (fun t e => t.failLane e.1.val e.2.val) s).startPassed

/-- SELFTEST entered: a start-up begins at step 3 (R438, R463, R469). -/
def State.beginSelftest (s : State) : State :=
  if s.mode = stSelftest then s else (s.setMode stSelftest 0).setObj Obj.selftestStatus 0 1

/-- RETRY written as 1: in QUIET, and not where only the recovery subset runs (R469, R470, R487). -/
def State.retryBegin (s : State) : State × Nat :=
  if s.mode = stQuiet ∧ !s.sec.recovery then (s.beginSelftest, stOk) else (s, stState)

/-- The recovery subset: neither bank's Ateaso image verifies (R470). -/
def State.enterRecovery (s : State) : State :=
  let s := { s with sec := { s.sec with recovery := true } }
  s.startFailed 1 1

/-- POWER_APPLIED (R438, R441, R443, R463): inside the operating range, and not before the input has been away after a
trip. The Ateaso firmware starts, and the module waits for its address. -/
def execPowerApplied (millivolts : Nat) (s : State) : Result :=
  done (if s.power.on || s.power.tripped || decide (millivolts < 40000 ∨ 54000 < millivolts) then s
  else
    let s := { s with power := { s.power with on := true, railsOff := List.range 48 } }
    let s := if s.sec.clearField then
        let t := (List.range 48).foldl (fun t b => t.setObj Obj.fieldDefects b (objDefault Obj.fieldDefects b)) s
        { t with sec := { t.sec with fieldMemory := [], clearField := false } }
      else s
    let s := ((s.setObj Obj.inputVolt 0 (millivolts / 10)).setField Obj.clockState 0 8 1 1).drawNonce
    let s := (s.setMode stBoot 0).checkTime
    match s.startFw s.sec.preferred 0 with
    | none => s.enterRecovery
    | some t => t.setMode stUnaddressed 0)

end Sys2Proof.Machine
end

