-- ==== Sys2Proof/Machine/PowerOps.lean ====
section
/-! DEFINITION. The running supply: input windows and trips (R442, R443), rails (R446 to R448), current reports (R449,
R450), throttle (R455, R456), heat (R457 to R459) and the reference clock (R452). -/

namespace Sys2Proof.Machine

/-! ## The input -/

/-- The divisor ladder (R455). -/
def ladder : List Nat := [4, 5, 6, 8, 16]

/-- One ladder step slower. -/
def slowerDiv (d : Nat) : Nat := (ladder.find? (fun e => decide (d < e))).getD 16
/-- One ladder step faster. -/
def fasterDiv (d : Nat) : Nat := ((ladder.filter (fun e => decide (e < d))).getLast?).getD 4

/-- The low-voltage request and its episode (R442). -/
def State.inputRequest (s : State) (volt : Nat) : State :=
  let p := s.power
  if volt < 4000 then
    let s := if p.lowRequest then s else s.fault 0xB802 0 volt
    { s with power := { s.power with lowRequest := true, inputClear := 0 } }
  else
    let n := p.inputClear + 1
    { s with power := { p with inputClear := n, lowRequest := p.lowRequest && decide (n < 100) } }

/-- The power request (R455): one step slower than the divisor in force while the limit is exceeded, standing until the
input has been at or below 95 % of it for 100 windows. -/
def State.limitRequest (s : State) (power : Nat) : State :=
  let p := s.power
  let limit := s.obj Obj.powerLimit 0
  if limit < power then
    let s := if p.powerRequest.isSome then s else s.fault 0xB801 0 power
    { s with power := { s.power with powerRequest := some (slowerDiv (s.obj Obj.coreDiv 0)), powerClear := 0 } }
  else
    let n := if power * 100 ≤ limit * 95 then p.powerClear + 1 else 0
    { s with power := { p with powerClear := n, powerRequest := if 100 ≤ n then none else p.powerRequest } }

/-- INPUT_WINDOW (R442, R443, R455): one 1 ms average of voltage (10 mV), current (0.05 A) and power (W). -/
def execInputWindow (volt current : W16) (power : W32) (s : State) : Result :=
  done (s.ifUp (fun s =>
    let v := volt.toNat
    let s := ((s.setObj Obj.inputVolt 0 v).setObj Obj.inputCurrent 0 current.toNat).setObj Obj.inputPower 0 power.toNat
    let s := if v < 4000 ∨ 5400 < v then s.bump Obj.inputEvents 0 1 else s
    let s := (s.inputRequest v).limitRequest power.toNat
    let n := if v < 3800 then s.power.below38 + 1 else 0
    let s := { s with power := { s.power with below38 := n } }
    if 10 ≤ n then s.trip 1 else if 5600 < v then s.trip 2 else s))

/-! ## Rails -/

/-- RAIL_NOT_REMOVED (R448). -/
def execRailNotRemoved (_b : BoltNo) (s : State) : Result := done (s.ifUp (fun s => s.trip 4))

/-- BOLT_OVERCURRENT (R447): the regulator disconnects the bolt. -/
def execBoltOvercurrent (b : BoltNo) (s : State) : Result :=
  done (s.ifUp (fun s => if s.power.railsOff.contains b.val then s else s.loseBolt b.val 1 0x2801 1))

/-- BOLT_UNDERVOLTAGE (R447). -/
def execBoltUndervoltage (b : BoltNo) (s : State) : Result :=
  done (s.ifUp (fun s => if s.power.railsOff.contains b.val then s else s.loseBolt b.val 1 0x2801 2))

/-- RAIL_BOOST (R446): the boost of a rail engages. -/
def execRailBoost (rail : Fin 96) (s : State) : Result :=
  done (s.ifUp (fun s =>
    if s.power.boost.contains rail.val || s.power.railsOff.contains (rail.val % 48) then s
    else ({ s with power := { s.power with boost := s.power.boost ++ [rail.val] } }).bump Obj.railBoosts rail.val 1))

/-- RAIL_SHUNT (R446): the shunt of a rail engages. -/
def execRailShunt (rail : Fin 96) (s : State) : Result :=
  done (s.ifUp (fun s =>
    if s.power.shunt.contains rail.val || s.power.railsOff.contains (rail.val % 48) then s
    else ({ s with power := { s.power with shunt := s.power.shunt ++ [rail.val] } }).bump Obj.railShunts rail.val 1))

/-- RAIL_DISENGAGE (R446): every sense point is back near its target. -/
def execRailDisengage (rail : Fin 96) (s : State) : Result :=
  done (s.ifUp (fun s =>
    let off := fun (l : List Nat) => l.filter (fun r => r != rail.val)
    { s with power := { s.power with boost := off s.power.boost, shunt := off s.power.shunt } }))

/-! ## Current -/

/-- Four sense points of a bolt differ by more than 20 mV (R444). -/
def spreadBad (w : Nat) : Bool :=
  let vs := (List.range 4).map (fun i => bits w (16 * i) 16)
  decide (200 < vs.foldl max 0 - vs.foldl min 0xFFFF)

/-- CURRENT_SAMPLE (R444, R449, R450): the samples of one window and the sense points. -/
def execCurrentSample (samples : List (Fin 154 × W16)) (sense : List (BoltNo × W64)) (s : State) : Result :=
  done (s.ifUp (fun s =>
    let s := s.bump Obj.currentSample 0 1
    let k := s.obj Obj.currentSample 0 % 1024
    let s := samples.foldl (fun t e =>
      (t.setObj Obj.current e.1.val e.2.toNat).setObj Obj.currentHistory (1024 * e.1.val + k) e.2.toNat) s
    sense.foldl (fun t e =>
      let t := t.setObj Obj.boltVsense e.1.val e.2.toNat
      if spreadBad e.2.toNat then t.bump Obj.senseSpread e.1.val 1 else t) s))

/-! ## Throttle -/

/-- The standing requests as divisors, with their bits in THROTTLE_REASON, and whether the condition behind each is over
(R455, R461). -/
def State.requests (s : State) : List (Nat × Nat × Bool) :=
  let p := s.power
  let cap := s.obj Obj.divCap 0
  (if 4 < cap then [(cap, 1, false)] else []) ++ (if p.req6 then [(6, 2, decide (0 < p.clear6))] else []) ++
    (if p.req16 then [(16, 4, decide (0 < p.clear16))] else []) ++
    (match p.powerRequest with
      | some d => [(d, 8, decide (0 < p.powerClear))]
      | none => []) ++
    (if p.lowRequest then [(8, 16, decide (0 < p.inputClear))] else [])

/-- The target divisor (R455). -/
def State.targetDiv (s : State) : Nat := (s.requests.map (·.1)).foldl max 4

/-- Another change is under way: its hold not released, or its voltages not settled (R456). -/
def State.changing (s : State) : Bool :=
  s.hold.newDiv.isSome || s.power.raising.isSome || s.power.settling || s.hold.raises.any (fun r => r.kind == hoClock)

/-- The change itself: a hold raised at B27, within which the root changes its division (R456). -/
def State.changeDiv (s : State) (d : Nat) : State :=
  let s := s.raiseHold hoClock 0 3 [serviceRow] 0
  { s with hold := { s.hold with newDiv := some d } }

/-- THROTTLE_EVALUATION (R445, R455, R456): a slowdown at once; a speed-up of one ladder step after every request for the
present divisor has been clear for 100 windows, its setpoints raised first. -/
def execThrottleEvaluation (s : State) : Result :=
  done (s.ifUp (fun s =>
    let div := s.obj Obj.coreDiv 0
    let target := s.targetDiv
    let s := s.setObj Obj.throttleReason 0 ((s.requests.map (·.2.1)).foldl (· + ·) 0)
    let held := s.requests.any (fun r => decide (div ≤ r.1) && !r.2.2)
    let n := if held then 0 else s.power.allClear + 1
    let s := { s with power := { s.power with allClear := n } }
    if s.changing then s
    else if div < target then s.changeDiv target
    else if target < div ∧ 100 ≤ n then
      { s with power := { s.power with raising := some (fasterDiv div), vsetDiv := fasterDiv div, allClear := 0 } }
    else s))

/-- VSET_SETTLED (R445): 10 µs after the last bolt has its setpoint; a speed-up then changes the divisor. -/
def execVsetSettled (s : State) : Result :=
  done (s.ifUp (fun s =>
    match s.power.raising with
    | some d => ({ s with power := { s.power with raising := none } }).changeDiv d
    | none => { s with power := { s.power with settling := false } }))

/-! ## Heat -/

/-- The stored readings of a threshold's group: every bolt sensor and every die and stack, with unit and sensor (R458). -/
def State.readings (s : State) : List (Int × Nat × Nat) :=
  (List.range 768).map (fun i => (signed 32 (s.obj Obj.sensorTemp i), i / 16, i % 16)) ++
    (List.range 57).map (fun i => (signed 32 (s.obj Obj.dieTemp i), i + 64, 0))

/-- The 85 °C request and its episode (R458). -/
def State.heat6 (s : State) (rs : List (Int × Nat × Nat)) : State :=
  match rs.find? (fun r => decide (85000 ≤ r.1)) with
  | some r =>
    let s := if s.power.req6 then s else s.fault 0xB701 0 (r.2.1 * 2 ^ 8 + r.2.2)
    { s with power := { s.power with req6 := true, clear6 := 0 } }
  | none =>
    let n := if rs.all (fun r => decide (r.1 < 82000)) then s.power.clear6 + 1 else 0
    { s with power := { s.power with clear6 := n, req6 := s.power.req6 && decide (n < 1000) } }

/-- The 92 °C request and its episode (R458). -/
def State.heat16 (s : State) (rs : List (Int × Nat × Nat)) : State :=
  match rs.find? (fun r => decide (92000 ≤ r.1)) with
  | some r =>
    let s := if s.power.req16 then s else s.fault 0xB702 0 (r.2.1 * 2 ^ 8 + r.2.2)
    { s with power := { s.power with req16 := true, clear16 := 0 } }
  | none =>
    let n := if rs.all (fun r => decide (r.1 < 89000)) then s.power.clear16 + 1 else 0
    { s with power := { s.power with clear16 := n, req16 := s.power.req16 && decide (n < 1000) } }

/-- The bolts with a sensor at 95 °C, switched off and lost (R458, R459). -/
def State.switchOff (s : State) (rs : List (Int × Nat × Nat)) : State :=
  let hot := (List.range 48).filter (fun b => rs.any (fun r => decide (95000 ≤ r.1) && r.2.1 == b))
  hot.foldl (fun t b => t.loseBolt b 3 0x2701 0) s

/-- THERMAL_STATE (R460). -/
def State.putThermal (s : State) : State :=
  let level := if s.power.req16 then 2 else if s.power.req6 then 1 else 0
  s.setObj Obj.thermalState 0 (level + s.hottest.2 * 2 ^ 8)

/-- SENSOR_READ (R457 to R459): readings in m°C, every 100 µs. -/
def execSensorRead (bolts : List (Fin 768 × BitVec 32)) (dies : List (Fin 57 × BitVec 32)) (s : State) : Result :=
  done (s.ifUp (fun s =>
    let s := bolts.foldl (fun t e => t.setObj Obj.sensorTemp e.1.val e.2.toNat) s
    let s := (List.range 48).foldl (fun t b =>
      let ks := (List.range 16).map (fun k => signed 32 (t.obj Obj.sensorTemp (16 * b + k)))
      t.setObj Obj.boltTemp b (unsigned 32 (ks.foldl max (nth ks 0 0)))) s
    let s := dies.foldl (fun t e => t.setObj Obj.dieTemp e.1.val e.2.toNat) s
    let rs := s.readings
    let s := (((s.heat6 rs).heat16 rs).switchOff rs).putThermal
    if rs.any (fun r => decide (105000 ≤ r.1 ∧ 64 ≤ r.2.1)) then s.trip 3 else s))

/-! ## The reference -/

/-- The root follows REF_IN (R452). -/
def State.refWanted (s : State) : Bool :=
  s.obj Obj.clockRef 0 == 1 || (s.isTimeMaster && (s.obj Obj.timeSource 0 == 1 || s.obj Obj.timeSource 0 == 2))

/-- REF_IN is there and within 50 ppm (R452). -/
def State.refGood (s : State) : Bool :=
  let o := s.obj Obj.refInOffset 0
  o != 0x80000000 && decide ((signed 32 o).natAbs ≤ 50000)

/-- The reference of the root as it stands (R452); its locking and moving take no time here. -/
def State.judgeRef (s : State) : State :=
  if s.refWanted then
    (if s.refGood then ({ s with time := { s.time with refLost := false } }).setField Obj.clockState 0 0 4 1
    else
      let t := s.setField Obj.clockState 0 0 4 0
      if s.time.refLost then t else ({ t with time := { t.time with refLost := true } }).fault 0xA431 3 0)
  else ({ s with time := { s.time with refLost := false } }).setField Obj.clockState 0 0 4 0

/-- REF_IN_LOST (R452): no edge for 100 ns, or out of range. -/
def execRefInLost (s : State) : Result :=
  done (s.ifUp (fun s => (s.setObj Obj.refInOffset 0 0x80000000).judgeRef))

/-- REF_IN_RESTORED (R452): valid for 1 s, with its measured offset in parts per 10^9. -/
def execRefInRestored (offset : BitVec 32) (s : State) : Result :=
  done (s.ifUp (fun s => (s.setObj Obj.refInOffset 0 offset.toNat).judgeRef))

end Sys2Proof.Machine
end

