-- ==== Sys2Proof/Machine/DictWrite.lean ====
section
/-! DEFINITION. Writing the dictionary (R409, R410, R412, R414 to R419, R430, R432, R434): what a write of each object does,
the checks in the order of the status codes, the lock-pending writes, COMMIT, and the window's actions. A status other
than OK means that nothing changed, but for LOAD_STATUS (R403), FW_STATUS and the record of a refused token. -/

namespace Sys2Proof.Machine

/-! ## Rows of a written object -/

/-- A start that a lost row held goes on (R416), unless RUN has been cleared meanwhile. -/
def State.heldStart (s : State) : State :=
  if s.step.startHeld && s.dict.voteLost.isEmpty && bitAt (s.obj Obj.stepControl 0) 0 &&
      (s.mode == stRun || s.mode == stDrain) && (s.phase == 0 || s.phase == 8) then s.startStepping else s

/-- A master has written a lost row (R416). -/
def State.regain (s : State) (id row : Nat) : State :=
  if s.dict.voteLost.contains (objKey id row) then
    ({ s with dict := { s.dict with voteLost := s.dict.voteLost.filter (· != objKey id row) } }).heldStart
  else s

/-- An RW row stored (R409), every copy of a voted one. -/
def State.storeRow (s : State) (id row v : Nat) : State := (s.setObj id row (v &&& rowMask id row)).regain id row

/-- An RWB row put in its buffer (R409, R412); a lost row is set at once, since no boundary could apply it (R416). -/
def State.bufferRow (s : State) (id row v : Nat) : State :=
  let k := objKey id row
  if s.dict.voteLost.contains k then s.storeRow id row v
  else { s with dict := { s.dict with pending := tput s.dict.pending k (v &&& rowMask id row) } }

/-- Bits written as 1 cleared (R104, R291). -/
def State.clearBits (s : State) (id row v : Nat) : State :=
  s.setObj id row (s.obj id row - (s.obj id row &&& v))

/-- The actions of a CTL32 whose bits are written as 1, lowest bit first, until one is refused (R414). -/
def runActs (acts : Nat) : Nat → List (State → State × Nat) → State → State × Nat
  | _, [], s => (s, stOk)
  | i, f :: fs, s =>
    if bitAt acts i then
      (let r := f s
       if r.2 = stOk then runActs acts (i + 1) fs r.1 else r)
    else runActs acts (i + 1) fs s

/-- STEP_CONTROL (R276, R414). -/
def State.writeStepControl (s : State) (v : Nat) : State × Nat :=
  let t := s.setObj Obj.stepControl 0 (ctlValue (s.obj Obj.stepControl 0) v &&& 7)
  if bitAt (ctlActs v) 0 then (if s.prog.halted173 || s.prog.unrunnable then (s, stState) else t.writeRun) else (t, stOk)

/-- CHAIN_ADDRESS written as 0 (R304, R438). -/
def State.unaddress (s : State) : State :=
  let s := if s.link.member then s.leaveGrid 0 else s
  let s := if s.prog.loaded then s.unloaded else s
  let s := if s.mode = stSelftest then { s with power := { s.power with railsOff := List.range 48 } } else s
  let s := s.endWeave
  let s := { s with pins := { s.pins with chainOut := false } }
  ((s.storeRow Obj.chainAddress 0 0).setMode stUnaddressed 0).retrainAll

/-- CHAIN_INDEX, CHAIN_POSITIONS and GRID_CHAINS (R305). -/
def State.writeGrid (s : State) (id v : Nat) : State × Nat :=
  let m := s.mode
  if m = stUnaddressed ∨ m = stSelftest ∨ m = stQuiet ∨ m = stReady ∨ m = stStandby then
    (if s.obj id 0 = v then s.retryMiswired else (s.storeRow id 0 v).retrainAll, stOk)
  else (s, stState)

/-- CHAIN_LEAVE (R316, R438). -/
def State.writeLeave (s : State) (v : Nat) : State :=
  if v = 1 then
    let s := { s with step := { s.step with leaveAsked := true } }
    if s.mode = stRun then s.setMode stDrain 0 else s
  else s

/-- The security settings (R473, R480, R484), measured when accepted (R476). -/
def State.writeSetting (s : State) (id v : Nat) : State × Nat :=
  let owner := s.obj Obj.ownerKeyHash 0
  let ok := ((s.storeRow id 0 v).measureSettings, stOk)
  if id = Obj.ownerKeyHash then (if owner = 0 then ok else (s, stAccess))
  else if id = Obj.imageSignRequired then (if (owner ≠ 0) = (v = 1) then ok else (s, stAccess))
  else if id = Obj.fwMinSvn then (if v < s.obj Obj.fwMinSvn 0 ∨ s.lowestSvn < v then (s, stRange) else ok)
  else ok

/-- What follows the storing of an object that selects a reference, or what MARK_OUT carries (R332, R336, R337, R452). -/
def State.afterStore (s : State) (id : Nat) : State :=
  let s := if id = Obj.markOutMode ∧ s.obj Obj.markOutMode 0 = 0 then { s with pins := { s.pins with markOut := false } } else s
  let s := if id = Obj.timeSource then { s with time := { s.time with aligned := false } } else s
  if id = Obj.timeSource ∨ id = Obj.timeMaster ∨ id = Obj.clockRef then s.checkTime.judgeRef else s

/-- A row of an object written, every check of the value itself passed: the state after it and its status. -/
def State.applyRow (s : State) (id row v : Nat) : State × Nat :=
  if ((objInfo? id).map (·.access)).getD 0 = 3 then (s.bufferRow id row v, stOk)
  else if id = Obj.stepControl then s.writeStepControl v
  else if id = Obj.loadControl then runActs (ctlActs v) 0 [State.load, State.restart, State.unload] s
  else if id = Obj.reweaveControl then runActs (ctlActs v) 0 [State.weaveStart, State.weaveAbort] s
  else if id = Obj.fwControl then runActs (ctlActs v) 0 [State.install, State.switchBank] s
  else if id = Obj.attestControl then runActs (ctlActs v) 0 [State.generate] s
  else if id = Obj.selftestControl then runActs (ctlActs v) 0 [State.retryBegin] s
  else if id = Obj.chainAddress then (s.unaddress, stOk)
  else if id = Obj.chainIndex ∨ id = Obj.chainPositions ∨ id = Obj.gridChains then s.writeGrid id v
  else if id = Obj.chainLeave then (s.writeLeave v, stOk)
  else if id = Obj.spindleFlags ∨ id = Obj.zeroStreak then (s.clearBits id row v, stOk)
  else if id = Obj.ownerKeyHash ∨ id = Obj.imageSignRequired ∨ id = Obj.clearOnUnload ∨ id = Obj.fwMinSvn then
    s.writeSetting id v
  else ((s.storeRow id row v).afterStore id, stOk)

/-! ## One WRITE -/

/-- The row values a WRITE's data spell. -/
def rowVals (o : ObjInfo) (data : List Byte) : List Nat := fields (8 * o.rowBytes) (data.length / o.rowBytes) (leNat data)

/-- Rows written in order. -/
def State.applyRows (s : State) (id : Nat) : Nat → List Nat → State
  | _, [] => s
  | row, v :: vs => (s.applyRow id row v).1.applyRows id (row + 1) vs

/-- The first status other than OK that some row's write has in this state (R410, R419). -/
def State.rowsStatus (s : State) (id : Nat) : Nat → List Nat → Nat
  | _, [] => stOk
  | row, v :: vs =>
    let st := (s.applyRow id row v).2
    if st = stOk then s.rowsStatus id (row + 1) vs else st

/-- A WRITE of one or several rows: all of them, or none (R410). DEBUG_TOKEN takes its four rows at once (R481). -/
def State.applyWrite (s : State) (o : ObjInfo) (row : Nat) (data : List Byte) : State × Nat :=
  if o.id = Obj.debugToken then
    (if row = 0 ∧ data.length = 256 then s.token (BitVec.ofNat 2048 (leNat data)) else (s, stLength))
  else
    match rowVals o data with
    | [v] => s.applyRow o.id row v
    | vs =>
      let st := s.rowsStatus o.id row vs
      if st = stOk then (s.applyRows o.id row vs, stOk) else (s, st)

/-! ## COMMIT -/

/-- The token that lock-pending rows of DEBUG_TOKEN make together, where all four are there. -/
def tokenOf (ws : List LockWrite) : Option (BitVec 2048) :=
  let m := (ws.filter (fun w => w.id == Obj.debugToken)).foldl (fun (m : Mem × List Nat) w =>
    let rows := (List.range (w.data.length / 64)).map (w.row + ·)
    (memWrite m.1 (64 * w.row) w.data, m.2 ++ rows)) ([], [])
  if (List.range 4).all (fun r => m.2.contains r) then some (BitVec.ofNat 2048 (memNat m.1 0 256)) else none

/-- The status one lock-pending write has in the state of the COMMIT (R419). -/
def State.lockStatus (s : State) (token : Option (BitVec 2048)) (w : LockWrite) : Nat :=
  if w.id = Obj.debugToken then
    match token with
    | some t => (s.token t).2
    | none => stLength
  else
    match objInfo? w.id with
    | some o => (s.applyWrite o w.row w.data).2
    | none => stNoObject

/-- The first failing lock-pending write: its 1-based position and status. -/
def State.firstFailing (s : State) (token : Option (BitVec 2048)) : Nat → List LockWrite → Option (Nat × Nat)
  | _, [] => none
  | k, w :: ws =>
    let st := s.lockStatus token w
    if st = stOk then s.firstFailing token (k + 1) ws else some (k, st)

/-- Lock-pending writes applied in order; the token with the last of its rows. -/
def State.applyLocked (s : State) (token : Option (BitVec 2048)) : List LockWrite → State
  | [] => s
  | w :: ws =>
    if w.id = Obj.debugToken then
      (if ws.any (fun x => x.id == Obj.debugToken) then s.applyLocked token ws
       else ((token.map (fun t => (s.token t).1)).getD s).applyLocked token ws)
    else (((objInfo? w.id).map (fun o => (s.applyWrite o w.row w.data).1)).getD s).applyLocked token ws

/-- COMMIT asked for by a master (R419). -/
def State.commit (s : State) (m : Nat) : State × Nat :=
  if s.dict.lockOwner = some m then
    let ws := s.dict.lockWrites
    let token := tokenOf ws
    match s.firstFailing token 1 ws with
    | some (k, st) => ({ s with dict := { s.dict with commitPos := k, commitStatus := st } }, stCommitRefused)
    | none => (s.freeLock.applyLocked token ws, stOk)
  else (s, stNotOwner)

/-- DICT_LOCK written (R434); its reserved bits [27:16] are ignored (R6). -/
def State.writeLock (s : State) (m v : Nat) : State × Nat :=
  let op := bits v 28 4
  if op = 1 then s.takeLock m (BitVec.ofNat 16 v)
  else if op = 2 then s.commit m
  else if op = 3 then s.dropLock m
  else (s, stRange)

/-! ## The checks of a write -/

/-- Objects through which the mirror itself works: their writes are neither held under a lock nor refused for one. -/
def isMirror (id : Nat) : Bool := id / 256 == 0x1020 || id / 256 == 0x1021 || id / 256 == 0x1022

/-- Bytes of the lock-pending writes. -/
def State.lockBytes (s : State) : Nat := (s.dict.lockWrites.map (·.data.length)).foldl (· + ·) 0

/-- A write held as lock-pending (R418). -/
def State.holdWrite (s : State) (m : Nat) (o : ObjInfo) (row : Nat) (data : List Byte) : State × Nat :=
  if 4096 ≤ s.dict.lockWrites.length ∨ 2 ^ 18 < s.lockBytes + data.length then (s, stFull)
  else
    let w : LockWrite := { id := o.id, row := row, data := data, master := m }
    ({ s with dict := { s.dict with lockWrites := s.dict.lockWrites ++ [w] } }, stOk)

/-- A whole write, its object and rows known: length, range, lock, and its effect (R410, R418, R426). -/
def State.writeRows (s : State) (m : Nat) (o : ObjInfo) (row : Nat) (data : List Byte) : State × Nat :=
  let vs := rowVals o data
  if data.length % o.rowBytes ≠ 0 ∨ o.rows < row + vs.length then (s, stLength)
  else if vs.any (s.valueBad o.id) then (s, stRange)
  else if o.id = Obj.dictLock then s.writeLock m (leNat data)
  else if isMirror o.id then s.applyWrite o row data
  else if s.dict.lockOwner = some m then s.holdWrite m o row data
  else if s.dict.lockOwner.isSome && o.id != Obj.stepControl then (s, stLocked)
  else s.applyWrite o row data

/-- A word of an 8-byte value written (R415). -/
def State.writeWord (s : State) (m : Nat) (o : ObjInfo) (row : Nat) (high : Bool) (data : List Byte) : State × Nat :=
  if !wordy o ∨ data.length ≠ 4 then (s, stLength)
  else
    let x := s.master m
    if high then
      match x.writeShadow with
      | some d =>
        let s := s.setMaster m { x with writeShadow := none }
        if d.id = o.id ∧ d.row = row then s.writeRows m o row (leBytes 4 d.word.toNat ++ data) else (s, stUnpaired)
      | none => (s, stUnpaired)
    else
      let d : Shadow := { id := o.id, row := row, word := BitVec.ofNat 32 (leNat data) }
      (s.setMaster m { x with writeShadow := some d }, stOk)

/-- Any write of an object but DICT_WINDOW_CTL by a master: the state after it and its status. -/
def State.writePlain (s : State) (m id row : Nat) (half : Half) (data : List Byte) : State × Nat :=
  match objInfo? id with
  | none => (s, stNoObject)
  | some o =>
    if s.notServed id then (s, stState)
    else if data.isEmpty then (s, stOk)
    else if o.rows ≤ row then (s, stNoRow)
    else if o.access = 0 ∨ id = Obj.dictWindowCtl then (s, stAccess)
    else
      match half with
      | .whole => s.writeRows m o row data
      | .low => s.writeWord m o row false data
      | .high => s.writeWord m o row true data

/-! ## The window -/

/-- The window's 256 bytes. -/
def State.window (s : State) : List Byte := (List.range 32).flatMap (fun i => leBytes 8 (s.obj (Obj.dictWindow + i) 0))

/-- The window filled from bytes, 0 beyond them. -/
def State.setWindow (s : State) (data : List Byte) : State :=
  let v := leNat data
  (List.range 32).foldl (fun t i => t.setObj (Obj.dictWindow + i) 0 (bits v (64 * i) 64)) s

/-- The object and row the cursor selects. -/
def State.cursor (s : State) : Nat × Nat := (s.field Obj.dictCursor 0 40 24, s.field Obj.dictCursor 0 8 32)

/-- NEXT (R432). -/
def State.windowNext (s : State) : State := s.setField Obj.dictCursor 0 8 32 (s.field Obj.dictCursor 0 8 32 + 1)

/-- FETCH (R432). -/
def State.windowFetch (s : State) : State × Nat :=
  let c := s.cursor
  match objInfo? c.1 with
  | none => (s, stNoObject)
  | some o =>
    if s.notServed o.id then (s, stState)
    else if o.rows ≤ c.2 then (s, stNoRow)
    else
      let r := s.readObj o (c.2 * o.rowBytes) o.rowBytes false
      if r.2.1 = stOk then (r.1.setWindow r.2.2, stOk) else (r.1, r.2.1)

/-- STORE (R432). -/
def State.windowStore (s : State) (m : Nat) : State × Nat :=
  let c := s.cursor
  match objInfo? c.1 with
  | none => (s, stNoObject)
  | some o => s.writePlain m o.id c.2 .whole (s.window.take o.rowBytes)

/-- DICT_WINDOW_CTL written: NEXT before the others (R432). -/
def State.windowCtl (s : State) (m v : Nat) : State × Nat :=
  let acts := ctlActs v
  let s := if bitAt acts 2 then s.windowNext else s
  let r := if bitAt acts 0 then s.windowFetch else (s, stOk)
  if r.2 = stOk ∧ bitAt acts 1 then r.1.windowStore m else r

/-- Any write of an object by a master (R410): the state after it and its status. -/
def State.writeEntry (s : State) (m id row : Nat) (half : Half) (data : List Byte) : State × Nat :=
  if id = Obj.dictWindowCtl ∧ !data.isEmpty then
    if s.notServed id then (s, stState)
    else if row ≠ 0 then (s, stNoRow)
    else if half ≠ .whole ∨ data.length ≠ 4 then (s, stLength)
    else s.windowCtl m (leNat data)
  else s.writePlain m id row half data

end Sys2Proof.Machine
end

