-- ==== Sys2Proof/Machine/Top.lean ====
section
/-! DEFINITION. The two ways to the dictionary: TOP requests on the management segment (R423 to R429) and the BAR0 mirror
(R431 to R434), with the commands that travel only so: READ, WRITE, DESCRIBE, ECHO, LOCK, COMMIT, UNLOCK and ASSIGN. -/

namespace Sys2Proof.Machine

/-! ## TOP -/

/-- What a request answers: the state after it, STATUS, the data and ARG. -/
abbrev TopOut := State × Nat × List Byte × Nat

/-- The response to a request (R424, R425). -/
def responseTo (op : Nat) (r : TopReq) (status : Nat) (data : List Byte) (arg : Nat) : TopResp :=
  { op := BitVec.ofNat 8 (op + 0x80), status := BitVec.ofNat 8 status, master := r.master, seq := r.seq
    session := r.session, index := r.index, subindex := r.subindex, flags := r.flags, row := r.row
    offset := r.offset, arg := BitVec.ofNat 32 arg, data := data }

/-- The frame the module sends next. -/
def State.respond (s : State) (x : Option TopResp) : State := { s with dict := { s.dict with response := x } }

/-- A frame that R423 discards. -/
def reqDiscarded (r : TopReq) : Bool :=
  !r.frameOk || r.version != 1 || r.master == 0 || decide (4 < r.master.toNat)

/-- A new SESSION empties the master's kept responses and ends its lock (R420, R427). -/
def State.openSession (s : State) (m : Nat) (session : W16) : State :=
  let x := s.master m
  if x.session = some session then s
  else
    let s := s.setMaster m { x with session := some session, kept := [] }
    if s.dict.lockOwner = some m then s.expireLock else s

/-- A response sent and kept among the last 16 (R427). -/
def State.keepResponse (s : State) (m : Nat) (x : TopResp) : State :=
  let y := s.master m
  (s.setMaster m { y with kept := ((x.seq, x) :: y.kept).take 16 }).respond (some x)

/-- A request executed, or its kept response sent again (R427, R430). -/
def State.answer (s : State) (op : Nat) (r : TopReq) (run : State → Nat → TopOut) : State :=
  let m := r.master.toNat
  let s := s.openSession m r.session
  match (s.master m).kept.find? (fun e => e.1 == r.seq) with
  | some e => (s.bump Obj.topDuplicates m 1).respond (some e.2)
  | none =>
    let s := s.bump Obj.topRequests m 1
    if !r.reservedZero || decide (3 < r.flags.toNat) then s.keepResponse m (responseTo op r stMalformed [] 0)
    else
      let o := run s m
      o.1.keepResponse m (responseTo op r o.2.1 o.2.2.1 o.2.2.2)

/-- A request other than ASSIGN arrives (R423). -/
def State.top (s : State) (op : Nat) (r : TopReq) (run : State → Nat → TopOut) : State :=
  if !s.dictServed then s
  else
    let s := s.respond none
    if reqDiscarded r || s.obj Obj.chainAddress 0 == 0 then s.bump Obj.topDiscarded 0 1 else s.answer op r run

/-- The object a request names. -/
def reqId (r : TopReq) : Nat := r.index.toNat * 256 + r.subindex.toNat

/-- READ (R426). -/
def State.topRead (s : State) (r : TopReq) (m : Nat) : TopOut :=
  let row := r.row.toNat
  match objInfo? (reqId r) with
  | none => (s, stNoObject, [], 0)
  | some o =>
    if s.notServed o.id then (s, stState, [], 0)
    else if r.length = 0 then (s, stOk, [], 0)
    else if o.rows ≤ row then (s, stNoRow, [], 0)
    else if 1440 < r.length.toNat then (s, stLength, [], 0)
    else
      let x :=
        if r.flags.getLsbD 0 then
          (if !wordy o ∨ r.length ≠ 4 ∨ (r.offset ≠ 0 ∧ r.offset ≠ 4) then (s, stLength, [])
           else s.readWord m o row (r.offset == 4))
        else s.readObj o (row * o.rowBytes + r.offset.toNat) r.length.toNat (r.flags.getLsbD 1)
      (x.1, x.2.1, x.2.2, 0)

/-- WRITE (R426). -/
def State.topWrite (s : State) (r : TopReq) (m : Nat) : TopOut :=
  let out := fun (x : State × Nat) =>
    if x.2 = stCommitRefused then (x.1, x.2, leBytes 1 x.1.dict.commitStatus, x.1.dict.commitPos) else (x.1, x.2, [], 0)
  if objInfo? (reqId r) = none then (s, stNoObject, [], 0)
  else if r.length = 0 then (s, stOk, [], 0)
  else if r.length.toNat ≠ r.data.length ∨ 1440 < r.length.toNat then (s, stLength, [], 0)
  else if r.flags.getLsbD 0 then
    (if r.offset = 0 then out (s.writeEntry m (reqId r) r.row.toNat .low r.data)
     else if r.offset = 4 then out (s.writeEntry m (reqId r) r.row.toNat .high r.data)
     else (s, stLength, [], 0))
  else if r.offset ≠ 0 then (s, stLength, [], 0)
  else out (s.writeEntry m (reqId r) r.row.toNat .whole r.data)

/-- DESCRIBE (R421, R425). -/
def State.topDescribe (s : State) (r : TopReq) : TopOut :=
  match objInfo? (reqId r) with
  | none => (s, stNoObject, [], 0)
  | some o => if s.notServed o.id then (s, stState, [], 0) else (s, stOk, leBytes 16 (descriptor o), 0)

/-- A request without an object, which only the whole firmware serves (R470). -/
def State.unlessRecovery (s : State) (x : TopOut) : TopOut := if s.sec.recovery then (s, stState, [], 0) else x

/-- ECHO (R425). -/
def execEcho (req : TopReq) (s : State) : Result :=
  done (s.top 8 req (fun t _ => t.unlessRecovery (t, stOk, req.data, 0)))

/-- DESCRIBE. -/
def execDescribe (req : TopReq) (s : State) : Result := done (s.top 3 req (fun t _ => t.topDescribe req))

/-- WRITE. -/
def execWrite (req : TopReq) (s : State) : Result := done (s.top 2 req (fun t m => t.topWrite req m))

/-! ## BAR0 -/

/-- MIRROR_STATUS and MIRROR_REFUSED after an access (R433, R434). -/
def State.setMirror (s : State) (status : Nat) : State :=
  let pos := if status = stCommitRefused then s.dict.commitPos % 2 ^ 16 else 0
  let s := s.setObj Obj.mirrorStatus 0 (status % 2 ^ 8 + pos * 2 ^ 16)
  if status % 128 = stOk then s else s.bump Obj.mirrorRefused 0 1

/-- The data a BAR access returned. -/
def State.returned (s : State) (v : Nat) : State := { s with host := { s.host with readData := v } }

/-- The slot of a readable object: the state after the read, its status and 64 bits (R431). -/
def State.slotRead (s : State) (o : ObjInfo) (size : Nat) (high : Bool) : State × Nat × Nat :=
  if s.notServed o.id then (s, stState, 0)
  else if isWide o then (s, stOk, descriptor o % 2 ^ 64)
  else if size = 4 ∧ o.rowBytes = 8 then
    let r := s.readWord 0 o 0 high
    (r.1, r.2.1, leNat r.2.2 * (if high then 2 ^ 32 else 1))
  else
    let r := s.readObj o 0 o.rowBytes false
    (r.1, r.2.1, if r.2.1 = stOk then leNat r.2.2 else 0)

/-- A host read of BAR0 (R431, R433). -/
def State.bar0Read (s : State) (offset size : Nat) : State :=
  if !s.dictServed then s
  else
    let s := s.hostUp
    if (size ≠ 4 ∧ size ≠ 8) ∨ offset % size ≠ 0 then s.bump Obj.hostErrors 0 1
    else
      let s := s.bump Obj.topRequests 0 1
      let within := offset % 8
      match objInfo? (offset / 2 ^ 11 * 256 + offset % 2 ^ 11 / 8) with
      | none => (s.setMirror stNoObject).returned 0
      | some o =>
        let r := s.slotRead o size (within == 4)
        let t := if o.id = Obj.mirrorStatus then r.1 else r.1.setMirror r.2.1
        t.returned (r.2.2 / 2 ^ (8 * within) % 2 ^ (8 * size))

/-- The Device Serial Number: the EUI-64 of MGMT_MAC, 0xFF and 0xFE between its third and fourth bytes (R380). -/
def eui64 (mac : Nat) : Nat := bits mac 24 24 * 2 ^ 40 + 0xFFFE * 2 ^ 24 + bits mac 0 24

/-- What configuration space holds (R380). -/
def State.configValue (s : State) : ConfigField → Nat
  | .vendorId => 0x1E3D
  | .deviceId => 0x0A24
  | .classCode => 0x120000
  | .revisionId => s.obj Obj.moduleRev 0
  | .subsystemVendorId => 0x1E3D
  | .subsystemId => 0x0001
  | .deviceSerialNumber => eui64 (s.obj Obj.mgmtMac 0)
  | .interruptPin => 0
  | .busMasterEnable => 0

/-- A host read of configuration space (R380). -/
def State.configRead (s : State) (f : ConfigField) : State :=
  if s.dictServed then (let t := s.hostUp; t.returned (t.configValue f)) else s

/-- READ (R380, R426, R431). -/
def execRead (req : ReadReq) (s : State) : Result :=
  done (match req with
    | .top r => s.top 1 r (fun t m => t.topRead r m)
    | .bar0 offset size => s.bar0Read offset.toNat size
    | .config f => s.configRead f)

/-- A host write whose effect is one write of the dictionary, counted and reported as a BAR0 access (R433). -/
def State.hostWrite (s : State) (write : State → State × Nat) : State :=
  let r := write (s.hostUp.bump Obj.topRequests 0 1)
  r.1.setMirror r.2

/-- A write by a master as one command: by the mirror for the host; by a TOP request otherwise, which a module without an
address discards (R423). -/
def State.command (s : State) (m id row : Nat) (half : Half) (data : List Byte) : State :=
  if !s.dictServed then s
  else if m = 0 then s.hostWrite (fun t => t.writeEntry 0 id row half data)
  else if s.obj Obj.chainAddress 0 = 0 then s.bump Obj.topDiscarded 0 1
  else ((s.bump Obj.topRequests m 1).writeEntry m id row half data).1

/-- A host write of an object's own slot (R431): a wide object refuses it; a narrow scalar takes a zero-extended value. -/
def State.slotWrite (s : State) (id row : Nat) (half : Half) (data : List Byte) : State × Nat :=
  match objInfo? id with
  | none => (s, stNoObject)
  | some o =>
    if s.notServed id then (s, stState)
    else if isWide o then (s, stAccess)
    else if half = .whole ∧ o.rowBytes < data.length ∧ (data.length = 4 ∨ data.length = 8) then
      (if (data.drop o.rowBytes).all (· == 0) then s.writeEntry 0 id row half (data.take o.rowBytes) else (s, stRange))
    else s.writeEntry 0 id row half data

/-- OBJECT_WRITE (R410). -/
def execObjectWrite (m : MasterNo) (index : W16) (subindex : Byte) (row : W32) (half : Half) (data : List Byte)
    (s : State) : Result :=
  let id := index.toNat * 256 + subindex.toNat
  done (if m.val = 0 ∧ s.dictServed then s.hostWrite (fun t => t.slotWrite id row.toNat half data)
    else s.command m.val id row.toNat half data)

/-! ## The lock -/

/-- A lock operation by TOP. -/
def State.topLock (s : State) (op : Nat) (r : TopReq) (run : State → Nat → State × Nat) : State :=
  s.top op r (fun t m =>
    let x := run t m
    t.unlessRecovery (if x.2 = stCommitRefused then (x.1, x.2, leBytes 1 x.1.dict.commitStatus, x.1.dict.commitPos)
      else (x.1, x.2, [], 0)))

/-- LOCK (R417, R434). -/
def execLock (req : LockReq) (s : State) : Result :=
  done (match req with
    | .top r => s.topLock 4 r (fun t m => t.takeLock m (r.arg.truncate 16))
    | .mirror lease => s.command 0 Obj.dictLock 0 .whole (leBytes 4 (2 ^ 28 + lease.toNat)))

/-- COMMIT (R419, R434). -/
def execCommit (req : LockReq) (s : State) : Result :=
  done (match req with
    | .top r => s.topLock 5 r (fun t m => t.commit m)
    | .mirror lease => s.command 0 Obj.dictLock 0 .whole (leBytes 4 (2 * 2 ^ 28 + lease.toNat)))

/-- UNLOCK (R419, R434). -/
def execUnlock (req : LockReq) (s : State) : Result :=
  done (match req with
    | .top r => s.topLock 6 r (fun t m => t.dropLock m)
    | .mirror lease => s.command 0 Obj.dictLock 0 .whole (leBytes 4 (3 * 2 ^ 28 + lease.toNat)))

/-! ## ASSIGN -/

/-- The 32 bytes of identity (R429). -/
def State.identity (s : State) : List Byte :=
  leBytes 8 (s.obj Obj.mgmtMac 0) ++ leBytes 16 (s.obj Obj.serialNumber 0) ++ leBytes 1 (s.obj Obj.moduleRev 0) ++
    List.replicate 7 0

/-- The address taken and CHAIN_OUT asserted (R303). -/
def State.takeAddress (s : State) (a : Nat) : State :=
  let s := s.setObj Obj.chainAddress 0 a
  { s with pins := { s.pins with chainOut := true } }

/-- A kept answer to this very request (R427). -/
def State.keptAnswer (s : State) (r : TopReq) : Option TopResp :=
  let x := s.master r.master.toNat
  if x.session = some r.session then (x.kept.find? (fun e => e.1 == r.seq)).map (·.2) else none

/-- ASSIGN (R303, R423, R427, R429, R438): an unaddressed module whose CHAIN_IN is asserted takes the address, answers, and
starts up; every other module ignores it, but for a repeated request that it has answered. -/
def execAssign (req : TopReq) (chainIn : Bool) (outcome : StartupOutcome) (s : State) : Result :=
  done (s.ifUp (fun s =>
    let s := { s with pins := { s.pins with chainIn := chainIn } }
    if !s.dictServed then s
    else
      let s := s.respond none
      let a := req.arg.toNat % 256
      if reqDiscarded req then s.bump Obj.topDiscarded 0 1
      else
        match s.keptAnswer req with
        | some x => (s.bump Obj.topDuplicates req.master.toNat 1).respond (some x)
        | none =>
          if s.obj Obj.chainAddress 0 ≠ 0 ∨ !chainIn ∨ a = 0 ∨ 32 < a then s
          else
            let s := s.answer 7 req (fun t _ => (t.takeAddress a, stOk, t.identity, 0))
            if s.obj Obj.chainAddress 0 ≠ 0 ∧ s.mode = stUnaddressed then s.beginSelftest.startUp outcome else s))

end Sys2Proof.Machine
end

