-- ==== Sys2Proof/Machine/Commands.lean ====
section
/-! DEFINITION. The writes that are commands of their own: each is that write of its object by a master (R104, R139, R276,
R291, R304, R305, R316, R339, R343, R403, R405, R432, R469, R473, R474, R477, R480 to R484). -/

namespace Sys2Proof.Machine

/-- A CTL32 written with one bit as 1 under its mask (R414). -/
def State.control (s : State) (m id bit : Nat) : State := s.command m id 0 .whole (leBytes 4 (2 ^ bit + 2 ^ (16 + bit)))

/-- A value of n bytes written to an object. -/
def State.writeValue (s : State) (m id row n v : Nat) : State := s.command m id row .whole (leBytes n v)

/-- CHAIN_ADDRESS (R304). -/
def execChainAddress (m : MasterNo) (value : Byte) (s : State) : Result :=
  done (s.writeValue m.val Obj.chainAddress 0 1 value.toNat)

/-- CHAIN_INDEX (R305). -/
def execChainIndex (m : MasterNo) (value : Byte) (s : State) : Result :=
  done (s.writeValue m.val Obj.chainIndex 0 1 value.toNat)

/-- CHAIN_POSITIONS (R305). -/
def execChainPositions (m : MasterNo) (value : Byte) (s : State) : Result :=
  done (s.writeValue m.val Obj.chainPositions 0 1 value.toNat)

/-- GRID_CHAINS (R305). -/
def execGridChains (m : MasterNo) (value : Byte) (s : State) : Result :=
  done (s.writeValue m.val Obj.gridChains 0 1 value.toNat)

/-- CHAIN_LEAVE (R316). -/
def execChainLeave (m : MasterNo) (value : Byte) (s : State) : Result :=
  done (s.writeValue m.val Obj.chainLeave 0 1 value.toNat)

/-- REWEAVE_START (R339). -/
def execReweaveStart (m : MasterNo) (s : State) : Result := done (s.control m.val Obj.reweaveControl 0)

/-- REWEAVE_ABORT (R343, R438). -/
def execReweaveAbort (m : MasterNo) (s : State) : Result := done (s.control m.val Obj.reweaveControl 1)

/-- IMAGE_LOAD (R403, R404). -/
def execImageLoad (m : MasterNo) (s : State) : Result := done (s.control m.val Obj.loadControl 0)

/-- RESTART (R405). -/
def execRestart (m : MasterNo) (s : State) : Result := done (s.control m.val Obj.loadControl 1)

/-- UNLOAD (R405). -/
def execUnload (m : MasterNo) (s : State) : Result := done (s.control m.val Obj.loadControl 2)

/-- WINDOW_NEXT (R432). -/
def execWindowNext (s : State) : Result := done (s.control 0 Obj.dictWindowCtl 2)

/-- WINDOW_FETCH (R432). -/
def execWindowFetch (s : State) : Result := done (s.control 0 Obj.dictWindowCtl 0)

/-- WINDOW_STORE (R432). -/
def execWindowStore (s : State) : Result := done (s.control 0 Obj.dictWindowCtl 1)

/-- SPINDLE_FLAGS_CLEAR (R104). -/
def execSpindleFlagsClear (m : MasterNo) (p : Site) (value : W32) (s : State) : Result :=
  done (s.writeValue m.val Obj.spindleFlags p.row 4 value.toNat)

/-- ZERO_STREAK_CLEAR (R291). -/
def execZeroStreakClear (m : MasterNo) (row : Fin 64) (value : W64) (s : State) : Result :=
  done (s.writeValue m.val Obj.zeroStreak row.val 8 value.toNat)

/-- BOLT_PROG_TRAP_CLEAR (R140). -/
def execBoltProgTrapClear (m : MasterNo) (b : BoltNo) (s : State) : Result :=
  done (s.writeValue m.val Obj.boltProgTrap b.val 8 0)

/-- RUN (R276). -/
def execRun (m : MasterNo) (s : State) : Result := done (s.control m.val Obj.stepControl 0)

/-- STOP_AT_BOUNDARY (R276). -/
def execStopAtBoundary (m : MasterNo) (s : State) : Result := done (s.control m.val Obj.stepControl 1)

/-- RETRY (R469, R487): the write, and the start-up it begins. -/
def execRetry (m : MasterNo) (outcome : StartupOutcome) (s : State) : Result :=
  let t := if s.mode = stSelftest then s else s.control m.val Obj.selftestControl 0
  done (if t.up ∧ t.mode = stSelftest then t.startUp outcome else t)

/-- INSTALL (R474). -/
def execInstall (m : MasterNo) (s : State) : Result := done (s.control m.val Obj.fwControl 0)

/-- SWITCH (R474). -/
def execSwitch (m : MasterNo) (s : State) : Result := done (s.control m.val Obj.fwControl 1)

/-- GENERATE (R477). -/
def execGenerate (m : MasterNo) (s : State) : Result := done (s.control m.val Obj.attestControl 0)

/-- A token of the kind a row names written as the four rows of DEBUG_TOKEN (R481). -/
def State.writeToken (s : State) (m kind : Nat) (token : BitVec 2048) : State :=
  if bits token.toNat 64 8 = kind then s.command m Obj.debugToken 0 .whole (leBytes 256 token.toNat) else s

/-- DEBUG (R483). -/
def execDebug (m : MasterNo) (token : BitVec 2048) (s : State) : Result := done (s.writeToken m.val 1 token)

/-- OWNER_RELEASE (R483). -/
def execOwnerRelease (m : MasterNo) (token : BitVec 2048) (s : State) : Result := done (s.writeToken m.val 2 token)

/-- FIELD_CLEAR (R483). -/
def execFieldClear (m : MasterNo) (token : BitVec 2048) (s : State) : Result := done (s.writeToken m.val 3 token)

/-- OWNER_KEY_HASH (R480). -/
def execOwnerKeyHash (m : MasterNo) (value : BitVec 384) (s : State) : Result :=
  done (s.writeValue m.val Obj.ownerKeyHash 0 48 value.toNat)

/-- IMAGE_SIGN_REQUIRED (R480). -/
def execImageSignRequired (m : MasterNo) (value : Byte) (s : State) : Result :=
  done (s.writeValue m.val Obj.imageSignRequired 0 1 value.toNat)

/-- FW_MIN_SVN (R473). -/
def execFwMinSvn (m : MasterNo) (value : W32) (s : State) : Result :=
  done (s.writeValue m.val Obj.fwMinSvn 0 4 value.toNat)

/-- CLEAR_ON_UNLOAD (R484). -/
def execClearOnUnload (m : MasterNo) (value : Byte) (s : State) : Result :=
  done (s.writeValue m.val Obj.clearOnUnload 0 1 value.toNat)

/-! ## The debug pins -/

/-- The test access port's state after a clock with TMS: 0 Test-Logic-Reset, 1 Run-Test/Idle, 2 to 8 the data branch from
Select to Update, 9 to 15 the instruction branch (R498, IEEE 1149.1). -/
def tapNext (t : Fin 16) (tms : Bool) : Fin 16 :=
  let ups : List (Fin 16) := [0, 2, 9, 5, 5, 8, 7, 8, 2, 0, 12, 12, 15, 14, 15, 2]
  let downs : List (Fin 16) := [1, 1, 3, 4, 4, 6, 6, 4, 1, 10, 11, 11, 13, 13, 11, 1]
  nth (if tms then ups else downs) t.val 0

/-- SCAN_AND_HALT_ACCESS (R483, R498): one DBG_TCK with DEBUG_STATE at CONTROL. The scan chains and what a halted module
shows on them are not in the manual: DBG_TDO is a free value (log entry 7). -/
def execScanAndHaltAccess (tms _tdi haltPin : Bool) (s : State) : Result :=
  done (s.ifUp (fun s =>
    if s.obj Obj.debugState 0 ≠ 2 then { s with pins := { s.pins with tdo := none } }
    else
      let t := tapNext s.pins.tap tms
      let tdo := if t = 4 ∨ t = 11 then some (Config.scanOut s.free) else none
      ({ s with pins := { s.pins with tap := t, dbgHalt := haltPin, tdo := tdo } }).drew 1))

end Sys2Proof.Machine
end

