-- ==== Sys2Proof/Machine/HostOps.lean ====
section
/-! DEFINITION. The host port: its resets (R382, R420) and the load window BAR4 (R396, R397). -/

namespace Sys2Proof.Machine

/-- HOST_PORT_RESET (R382, R420, R496): the host port and configuration space alone, and the lock of master 0. -/
def execHostPortReset (kind : HostReset) (s : State) : Result :=
  done (s.ifUp (fun s =>
    let s := if s.dict.lockOwner = some 0 then s.expireLock else s
    let s := { s with host := { s.host with enumerated := false } }
    if kind = .linkDown ∨ kind = .perst then
      ({ s with host := { s.host with linkUp := false } }).setObj Obj.hostLink 0 0
    else s))

/-- TARGET of LOAD_WINDOW. -/
def State.winTarget (s : State) : Nat := s.field Obj.loadWindow 0 60 4

/-- First byte an offset of BAR4 selects, in the staging area or the flat memory of a tier (R396). -/
def State.winAddr (s : State) (offset : Nat) : Nat :=
  let unit := s.field Obj.loadWindow 0 55 5
  let a := s.field Obj.loadWindow 0 0 10 * 2 ^ 30 + offset
  if s.winTarget = 1 then unit * 2 ^ 36 + a else if s.winTarget = 2 then unit * 2 ^ 39 + a else a

/-- A tier access touches a JOURNAL or BOBBIN region: the fixed regions at the top of a stack or weft die (R218, R219). -/
def State.winFixed (s : State) (a n : Nat) : Bool :=
  if s.winTarget = 1 then decide (0 < n ∧ 0xFFA000 * 4096 < (a % 2 ^ 36) + n)
  else decide (0 < n ∧ 0x7FDA000000 < (a % 2 ^ 39) + n)

/-- An access to a tier is refused (R397). With DEBUG_STATE at OBSERVE a read is granted in every state (R483). -/
def State.winRefused (s : State) (read : Bool) (a n : Nat) : Bool :=
  s.winTarget != 0 &&
    (!s.tiersReady || s.winFixed a n ||
      (s.mode == stRun && s.stepping && !(read && decide (1 ≤ s.obj Obj.debugState 0))))

/-- Bytes an access of n at an offset has inside BAR4. -/
def winBytes (offset n : Nat) : Nat := min n (2 ^ 30 - offset)

/-- A read through the window. -/
def State.winRead (s : State) (offset n : Nat) : State :=
  let n := winBytes offset n
  let a := s.winAddr offset
  if s.winRefused true a n then
    ({ s with host := { s.host with readData := 2 ^ (8 * n) - 1 } }).bump Obj.windowRefused 0 1
  else
    let m := if s.winTarget = 0 then s.host.staging else s.tier (s.winTarget == 2)
    { s with host := { s.host with readData := memNat m a n } }

/-- A write through the window. -/
def State.winWrite (s : State) (offset : Nat) (data : List Byte) : State :=
  let bs := data.take (winBytes offset data.length)
  let a := s.winAddr offset
  if s.winRefused false a bs.length then s.bump Obj.windowRefused 0 1
  else if s.winTarget = 0 then { s with host := { s.host with staging := memWrite s.host.staging a bs } }
  else s.tierWrite (s.winTarget == 2) a bs

/-- LOAD_WINDOW_ACCESS (R397, R469). -/
def execLoadWindowAccess (a : WindowAccess) (s : State) : Result :=
  done (s.ifUp (fun s =>
    let s := s.hostUp
    match a with
    | .rd offset n => s.winRead offset.toNat n
    | .wr offset data => s.winWrite offset.toNat data))

end Sys2Proof.Machine
end

