-- ==== Sys2Proof/Machine/Dispatch.lean ====
section
/-! DEFINITION. The command dispatch: one arm per constructor of `Instr`, each a direct call of its
meaning. -/

namespace Sys2Proof.Machine

def exec (i : Instr) (s : State) : Host.Outcome State Fault Refusal :=
  match i with
  | .nop p => Sys2Proof.Machine.execNop p s
  | .halt p => Sys2Proof.Machine.execHalt p s
  | .codeRegionEnd p => Sys2Proof.Machine.execCodeRegionEnd p s
  | .loop p count body => Sys2Proof.Machine.execLoop p count body s
  | .jump p offset => Sys2Proof.Machine.execJump p offset s
  | .branchG p seq bit offset => Sys2Proof.Machine.execBranchG p seq bit offset s
  | .drain p => Sys2Proof.Machine.execDrain p s
  | .mma p acc ro fa fb accd opa opb rod => Sys2Proof.Machine.execMma p acc ro fa fb accd opa opb rod s
  | .mmaPacked p acc ro fa fb accd opa rod nh kbase sref slen ecc => Sys2Proof.Machine.execMmaPacked p acc ro fa fb accd opa rod nh kbase sref slen ecc s
  | .accOut p ro accd rod => Sys2Proof.Machine.execAccOut p ro accd rod s
  | .accZero p accd => Sys2Proof.Machine.execAccZero p accd s
  | .accAddpair p accd opa => Sys2Proof.Machine.execAccAddpair p accd opa s
  | .vchain p src src2 dst nst sref ctx grad rm => Sys2Proof.Machine.execVchain p src src2 dst nst sref ctx grad rm s
  | .vredRow p src src2 dst nst sref ctx grad rm => Sys2Proof.Machine.execVredRow p src src2 dst nst sref ctx grad rm s
  | .vredCol p src src2 dst nst sref ctx grad rm => Sys2Proof.Machine.execVredCol p src src2 dst nst sref ctx grad rm s
  | .vwide p src src2 dst nst sref ctx grad rm => Sys2Proof.Machine.execVwide p src src2 dst nst sref ctx grad rm s
  | .load p fmt hd sref ssc ecc => Sys2Proof.Machine.execLoad p fmt hd sref ssc ecc s
  | .store p fmt hd sref ssc => Sys2Proof.Machine.execStore p fmt hd sref ssc s
  | .loadT p fmt hd sref ecc => Sys2Proof.Machine.execLoadT p fmt hd sref ecc s
  | .copy p fmt hd hsrc => Sys2Proof.Machine.execCopy p fmt hd hsrc s
  | .cvt p fin fout src dst rm grad ctx purpose => Sys2Proof.Machine.execCvt p fin fout src dst rm grad ctx purpose s
  | .rctx p slot tr tid ebase estride => Sys2Proof.Machine.execRctx p slot tr tid ebase estride s
  | .rdraw p slot dst purpose mode => Sys2Proof.Machine.execRdraw p slot dst purpose mode s
  | .rmask p slot dst purpose thresh => Sys2Proof.Machine.execRmask p slot dst purpose thresh s
  | .sopen p stream queue bufFirst bufCount => Sys2Proof.Machine.execSopen p stream queue bufFirst bufCount s
  | .sclose p stream => Sys2Proof.Machine.execSclose p stream s
  | .send p vc shape sref length queue ecc => Sys2Proof.Machine.execSend p vc shape sref length queue ecc s
  | .recv p vc shape sref length queue => Sys2Proof.Machine.execRecv p vc shape sref length queue s
  | .recvComplete p => Sys2Proof.Machine.execRecvComplete p s
  | .sendh p vc shape hank length => Sys2Proof.Machine.execSendh p vc shape hank length s
  | .recvh p vc shape hank length => Sys2Proof.Machine.execRecvh p vc shape hank length s
  | .rdecl p rid inputs out twin length => Sys2Proof.Machine.execRdecl p rid inputs out twin length s
  | .rsend p rid sref length ecc => Sys2Proof.Machine.execRsend p rid sref length ecc s
  | .rrecv p rid sref length => Sys2Proof.Machine.execRrecv p rid sref length s
  | .qput p queue slot => Sys2Proof.Machine.execQput p queue slot s
  | .qget p queue slot => Sys2Proof.Machine.execQget p queue slot s
  | .qrel p slot => Sys2Proof.Machine.execQrel p slot s
  | .qmake p slot buf length => Sys2Proof.Machine.execQmake p slot buf length s
  | .doff p dseq => Sys2Proof.Machine.execDoff p dseq s
  | .doffArrive p => Sys2Proof.Machine.execDoffArrive p s
  | .doffComplete => Sys2Proof.Machine.execDoffComplete s
  | .doffWatchdogExpiry unanswered => Sys2Proof.Machine.execDoffWatchdogExpiry unanswered s
  | .summary p src count first => Sys2Proof.Machine.execSummary p src count first s
  | .summaryResultsArrive => Sys2Proof.Machine.execSummaryResultsArrive s
  | .suWait b dseq => Sys2Proof.Machine.execSuWait b dseq s
  | .f64Add b x y => Sys2Proof.Machine.execF64Add b x y s
  | .f64Sub b x y => Sys2Proof.Machine.execF64Sub b x y s
  | .f64Mul b x y => Sys2Proof.Machine.execF64Mul b x y s
  | .f64Div b x y => Sys2Proof.Machine.execF64Div b x y s
  | .f64Sqrt b x => Sys2Proof.Machine.execF64Sqrt b x s
  | .f64Min b x y => Sys2Proof.Machine.execF64Min b x y s
  | .f64Max b x y => Sys2Proof.Machine.execF64Max b x y s
  | .f64Cmplt b x y => Sys2Proof.Machine.execF64Cmplt b x y s
  | .f64Cmpeq b x y => Sys2Proof.Machine.execF64Cmpeq b x y s
  | .f64Isfin b x => Sys2Proof.Machine.execF64Isfin b x s
  | .f64Toi64 b x => Sys2Proof.Machine.execF64Toi64 b x s
  | .f64Fromi64 b x => Sys2Proof.Machine.execF64Fromi64 b x s
  | .decPost b seq word => Sys2Proof.Machine.execDecPost b seq word s
  | .spStart b value => Sys2Proof.Machine.execSpStart b value s
  | .boltProgramTrap b cause address => Sys2Proof.Machine.execBoltProgramTrap b cause address s
  | .flitLate vc => Sys2Proof.Machine.execFlitLate vc s
  | .reductionCombine p rid => Sys2Proof.Machine.execReductionCombine p rid s
  | .gradientAdd port => Sys2Proof.Machine.execGradientAdd port s
  | .maskReport port => Sys2Proof.Machine.execMaskReport port s
  | .arbiterDecision kind inst requests => Sys2Proof.Machine.execArbiterDecision kind inst requests s
  | .grantWatchdog kind inst => Sys2Proof.Machine.execGrantWatchdog kind inst s
  | .streamStart stream => Sys2Proof.Machine.execStreamStart stream s
  | .descriptorRead stream => Sys2Proof.Machine.execDescriptorRead stream s
  | .leaFetch stream retries bad => Sys2Proof.Machine.execLeaFetch stream retries bad s
  | .leaInject stream => Sys2Proof.Machine.execLeaInject stream s
  | .leaLate stream blocker => Sys2Proof.Machine.execLeaLate stream blocker s
  | .creditReturn stream => Sys2Proof.Machine.execCreditReturn stream s
  | .leaArrive p stream => Sys2Proof.Machine.execLeaArrive p stream s
  | .decisionRelay => Sys2Proof.Machine.execDecisionRelay s
  | .holdArrive p count => Sys2Proof.Machine.execHoldArrive p count s
  | .holdRelease p => Sys2Proof.Machine.execHoldRelease p s
  | .divisorChange => Sys2Proof.Machine.execDivisorChange s
  | .weftInjectLate w => Sys2Proof.Machine.execWeftInjectLate w s
  | .replayBoundExpiry port => Sys2Proof.Machine.execReplayBoundExpiry port s
  | .inputDeliveryLate w => Sys2Proof.Machine.execInputDeliveryLate w s
  | .evalResultLate w => Sys2Proof.Machine.execEvalResultLate w s
  | .bobbinScan => Sys2Proof.Machine.execBobbinScan s
  | .bobbinWindowWrite offset data => Sys2Proof.Machine.execBobbinWindowWrite offset data s
  | .microbatchStart => Sys2Proof.Machine.execMicrobatchStart s
  | .microbatchEnd => Sys2Proof.Machine.execMicrobatchEnd s
  | .evalResultWrite slot => Sys2Proof.Machine.execEvalResultWrite slot s
  | .layerExchangeStart layer => Sys2Proof.Machine.execLayerExchangeStart layer s
  | .exchangeEnd => Sys2Proof.Machine.execExchangeEnd s
  | .voteReportSend => Sys2Proof.Machine.execVoteReportSend s
  | .voteFrame port hdr payload => Sys2Proof.Machine.execVoteFrame port hdr payload s
  | .commitFrame port hdr payload => Sys2Proof.Machine.execCommitFrame port hdr payload s
  | .shardUpdate entry stop => Sys2Proof.Machine.execShardUpdate entry stop s
  | .bandRepack tensor stack column band => Sys2Proof.Machine.execBandRepack tensor stack column band s
  | .updateComplete => Sys2Proof.Machine.execUpdateComplete s
  | .journalRedo die => Sys2Proof.Machine.execJournalRedo die s
  | .digestReport port hdr entries => Sys2Proof.Machine.execDigestReport port hdr entries s
  | .digestVerdict port hdr majority map median => Sys2Proof.Machine.execDigestVerdict port hdr majority map median s
  | .stepBoundary => Sys2Proof.Machine.execStepBoundary s
  | .gradFrame port hdr layer block phase data => Sys2Proof.Machine.execGradFrame port hdr layer block phase data s
  | .reweaveFrame port hdr entry array offset data => Sys2Proof.Machine.execReweaveFrame port hdr entry array offset data s
  | .timeFrame port crcOk tx echoTx echoRx frac => Sys2Proof.Machine.execTimeFrame port crcOk tx echoTx echoRx frac s
  | .timeFrameSend port => Sys2Proof.Machine.execTimeFrameSend port s
  | .idle port hdr => Sys2Proof.Machine.execIdle port hdr s
  | .hello port hdr chain position peerPort positions chains => Sys2Proof.Machine.execHello port hdr chain position peerPort positions chains s
  | .memberLost port hdr chain position => Sys2Proof.Machine.execMemberLost port hdr chain position s
  | .leave port hdr chain position => Sys2Proof.Machine.execLeave port hdr chain position s
  | .membership port hdr live epoch => Sys2Proof.Machine.execMembership port hdr live epoch s
  | .decisionQuery port hdr => Sys2Proof.Machine.execDecisionQuery port hdr s
  | .decisionAnswer port hdr held => Sys2Proof.Machine.execDecisionAnswer port hdr held s
  | .join port hdr chain position imageId => Sys2Proof.Machine.execJoin port hdr chain position imageId s
  | .laneRetire port lane => Sys2Proof.Machine.execLaneRetire port lane s
  | .laneFecWindow port lane corrected uncorrectable => Sys2Proof.Machine.execLaneFecWindow port lane corrected uncorrectable s
  | .laneLossOfLock port lane => Sys2Proof.Machine.execLaneLossOfLock port lane s
  | .laneRetrainDone port => Sys2Proof.Machine.execLaneRetrainDone port s
  | .portTrained port => Sys2Proof.Machine.execPortTrained port s
  | .linkAckTimeout port => Sys2Proof.Machine.execLinkAckTimeout port s
  | .peerLost n => Sys2Proof.Machine.execPeerLost n s
  | .linkCableConnect port => Sys2Proof.Machine.execLinkCableConnect port s
  | .linkCableRemove port => Sys2Proof.Machine.execLinkCableRemove port s
  | .markIn => Sys2Proof.Machine.execMarkIn s
  | .markOutPulse => Sys2Proof.Machine.execMarkOutPulse s
  | .assign req chainIn outcome => Sys2Proof.Machine.execAssign req chainIn outcome s
  | .chainAddress m value => Sys2Proof.Machine.execChainAddress m value s
  | .chainIndex m value => Sys2Proof.Machine.execChainIndex m value s
  | .chainPositions m value => Sys2Proof.Machine.execChainPositions m value s
  | .gridChains m value => Sys2Proof.Machine.execGridChains m value s
  | .chainLeave m value => Sys2Proof.Machine.execChainLeave m value s
  | .reweaveStart m => Sys2Proof.Machine.execReweaveStart m s
  | .reweaveAbort m => Sys2Proof.Machine.execReweaveAbort m s
  | .livenessMiss reporter unit => Sys2Proof.Machine.execLivenessMiss reporter unit s
  | .reportGroupClose => Sys2Proof.Machine.execReportGroupClose s
  | .hardIndicator unit detail => Sys2Proof.Machine.execHardIndicator unit detail s
  | .fence b column row testPassed => Sys2Proof.Machine.execFence b column row testPassed s
  | .microbatchReplay => Sys2Proof.Machine.execMicrobatchReplay s
  | .refill crcs => Sys2Proof.Machine.execRefill crcs s
  | .firmwareWatchdog unit => Sys2Proof.Machine.execFirmwareWatchdog unit s
  | .hostPortReset kind => Sys2Proof.Machine.execHostPortReset kind s
  | .loadWindowAccess a => Sys2Proof.Machine.execLoadWindowAccess a s
  | .imageLoad m => Sys2Proof.Machine.execImageLoad m s
  | .restart m => Sys2Proof.Machine.execRestart m s
  | .unload m => Sys2Proof.Machine.execUnload m s
  | .read req => Sys2Proof.Machine.execRead req s
  | .write req => Sys2Proof.Machine.execWrite req s
  | .describe req => Sys2Proof.Machine.execDescribe req s
  | .echo req => Sys2Proof.Machine.execEcho req s
  | .lock req => Sys2Proof.Machine.execLock req s
  | .commit req => Sys2Proof.Machine.execCommit req s
  | .unlock req => Sys2Proof.Machine.execUnlock req s
  | .lockExpiry => Sys2Proof.Machine.execLockExpiry s
  | .readShadowExpiry m => Sys2Proof.Machine.execReadShadowExpiry m s
  | .writeShadowExpiry m => Sys2Proof.Machine.execWriteShadowExpiry m s
  | .objectWrite m index subindex row half data => Sys2Proof.Machine.execObjectWrite m index subindex row half data s
  | .windowNext => Sys2Proof.Machine.execWindowNext s
  | .windowFetch => Sys2Proof.Machine.execWindowFetch s
  | .windowStore => Sys2Proof.Machine.execWindowStore s
  | .spindleFlagsClear m p value => Sys2Proof.Machine.execSpindleFlagsClear m p value s
  | .zeroStreakClear m row value => Sys2Proof.Machine.execZeroStreakClear m row value s
  | .boltProgTrapClear m b => Sys2Proof.Machine.execBoltProgTrapClear m b s
  | .run m => Sys2Proof.Machine.execRun m s
  | .stopAtBoundary m => Sys2Proof.Machine.execStopAtBoundary m s
  | .powerApplied millivolts => Sys2Proof.Machine.execPowerApplied millivolts s
  | .powerRemoved => Sys2Proof.Machine.execPowerRemoved s
  | .inputWindow volt current power => Sys2Proof.Machine.execInputWindow volt current power s
  | .railNotRemoved b => Sys2Proof.Machine.execRailNotRemoved b s
  | .boltOvercurrent b => Sys2Proof.Machine.execBoltOvercurrent b s
  | .boltUndervoltage b => Sys2Proof.Machine.execBoltUndervoltage b s
  | .railBoost rail => Sys2Proof.Machine.execRailBoost rail s
  | .railShunt rail => Sys2Proof.Machine.execRailShunt rail s
  | .currentSample samples sense => Sys2Proof.Machine.execCurrentSample samples sense s
  | .throttleEvaluation => Sys2Proof.Machine.execThrottleEvaluation s
  | .vsetSettled => Sys2Proof.Machine.execVsetSettled s
  | .sensorRead bolts dies => Sys2Proof.Machine.execSensorRead bolts dies s
  | .clockParentLoss b => Sys2Proof.Machine.execClockParentLoss b s
  | .refInLost => Sys2Proof.Machine.execRefInLost s
  | .refInRestored offset => Sys2Proof.Machine.execRefInRestored offset s
  | .retry m outcome => Sys2Proof.Machine.execRetry m outcome s
  | .install m => Sys2Proof.Machine.execInstall m s
  | .switch m => Sys2Proof.Machine.execSwitch m s
  | .generate m => Sys2Proof.Machine.execGenerate m s
  | .debug m token => Sys2Proof.Machine.execDebug m token s
  | .ownerRelease m token => Sys2Proof.Machine.execOwnerRelease m token s
  | .fieldClear m token => Sys2Proof.Machine.execFieldClear m token s
  | .ownerKeyHash m value => Sys2Proof.Machine.execOwnerKeyHash m value s
  | .imageSignRequired m value => Sys2Proof.Machine.execImageSignRequired m value s
  | .fwMinSvn m value => Sys2Proof.Machine.execFwMinSvn m value s
  | .clearOnUnload m value => Sys2Proof.Machine.execClearOnUnload m value s
  | .railDisengage rail => Sys2Proof.Machine.execRailDisengage rail s
  | .frameDiscarded port reason => Sys2Proof.Machine.execFrameDiscarded port reason s
  | .chainTimeRefresh => Sys2Proof.Machine.execChainTimeRefresh s
  | .scanAndHaltAccess tms tdi haltPin => Sys2Proof.Machine.execScanAndHaltAccess tms tdi haltPin s

end Sys2Proof.Machine
end

