-- ==== Sys2Proof/Machine/BoltCore.lean ====
section
/-! DEFINITION. The RV64IMAC core of a bolt controller as its bolt program sees it (R132, R133, R135, R139): the memory map,
the instructions in user mode, and the trap. The manual names the instruction set and gives none of its encodings: they are
RISC-V's (PRESUMED, log entry 18). -/

namespace Sys2Proof.Machine

/-! ## Registers -/

/-- An integer register; x0 reads 0. -/
def Bolt.reg (b : Bolt) (r : Nat) : W64 := if r = 0 then 0 else nth b.regs r 0

/-- An integer register written; x0 discards. -/
def Bolt.setReg (b : Bolt) (r : Nat) (v : W64) : Bolt := if r = 0 then b else { b with regs := setNth b.regs r v }

/-! ## The memory map -/

/-- Bytes of each of the two memories (R132). -/
abbrev boltMem : Nat := 0x40000
/-- Base of the data memory (R133). -/
abbrev boltData : Nat := 0x10000000

/-- What a load of the bolt program answers. -/
inductive BoltRead where
  | value (v : Nat)
  | block
  | fault
deriving DecidableEq, Repr

/-- The bolt's logical spindles that are halted, of 192: one that is absent never runs (R133; log entry 18). -/
def State.spHalted (s : State) (b : Nat) : Nat :=
  ((List.range 9216).filter (fun r => boltOf (r % 128) (r / 128) == b && (s.isAbsent r || (s.spindle (siteRow r)).halted))).length

/-- A 64-bit register the bolt program can read (R133). -/
def State.boltReg (s : State) (b : Nat) (x : Bolt) (a : Nat) : BoltRead :=
  if 0x20000040 ≤ a ∧ a < 0x20000080 ∧ a % 8 = 0 then .value (nth x.suRes ((a - 0x20000040) / 8) 0).toNat
  else
    match a with
    | 0x20000000 => .value x.suDone.toNat
    | 0x20000008 => if s.fabric.doneSeqs.contains x.suWait then .value x.suWait.toNat else .block
    | 0x20000010 => .value x.suFlags.toNat
    | 0x20001000 => .value x.f64A.toNat
    | 0x20001008 => .value x.f64B.toNat
    | 0x20001018 => .value x.f64Res.toNat
    | 0x20002008 => .value x.decLast.toNat
    | 0x20003008 => .value (s.spHalted b)
    | 0x20004000 => .value x.stepInfo.toNat
    | 0x20004008 => .value b
    | _ => .fault

/-- A load of n bytes: the two memories at any address, a register by its 64 bits; any other access traps (R133). -/
def State.boltLoad (s : State) (b : Nat) (x : Bolt) (a n : Nat) : BoltRead :=
  if a + n ≤ boltMem then .value (memNat x.code a n)
  else if boltData ≤ a ∧ a + n ≤ boltData + boltMem then .value (memNat x.data (a - boltData) n)
  else if n = 8 then s.boltReg b x a else .fault

/-- A 64-bit register the bolt program writes (R133 to R136); none traps. -/
def State.boltRegWrite (s : State) (b : BoltNo) (x : Bolt) (a : Nat) (v : W64) : Option State :=
  let s := s.setBolt b.val x
  match a with
  | 0x20000008 => some (s.setBolt b.val { x with suWait := v.setWidth 16 })
  | 0x20001000 => some (s.setBolt b.val { x with f64A := v })
  | 0x20001008 => some (s.setBolt b.val { x with f64B := v })
  | 0x20001010 => some (s.setBolt b.val { x with f64Res := f64Result (bits v.toNat 0 4) x.f64A x.f64B })
  | 0x20002000 => some (s.postDecision b x (v.extractLsb' 32 16) (v.setWidth 32))
  | 0x20003000 => some (s.startSpindles b v)
  | _ => none

/-- A store of n bytes: to the data memory, or to a register by its 64 bits; none traps (R133). -/
def State.boltStore (s : State) (b : BoltNo) (x : Bolt) (a n : Nat) (v : W64) : Option State :=
  if boltData ≤ a ∧ a + n ≤ boltData + boltMem then
    some (s.setBolt b.val { x with data := memPutNat x.data (a - boltData) n v.toNat })
  else if n = 8 then s.boltRegWrite b x a v else none

/-! ## Integer operations -/

/-- The result of a 32-bit operation, sign-extended. -/
def word32 (v : BitVec 32) : W64 := v.signExtend 64

/-- The base operation of a funct3; `alt` chooses SUB and the arithmetic shift. -/
def aluBase (f3 : Nat) (alt : Bool) (a b : W64) : W64 :=
  match f3 with
  | 0 => if alt then a - b else a + b
  | 1 => a <<< (b.toNat % 64)
  | 2 => boolWord (a.slt b)
  | 3 => boolWord (a.ult b)
  | 4 => a ^^^ b
  | 5 => if alt then a.sshiftRight (b.toNat % 64) else a >>> (b.toNat % 64)
  | 6 => a ||| b
  | _ => a &&& b

/-- The multiply and divide operations (extension M): a division by 0 and the one that overflows give what RISC-V fixes. -/
def aluMul (f3 : Nat) (a b : W64) : W64 :=
  match f3 with
  | 0 => a * b
  | 1 => BitVec.ofInt 64 (a.toInt * b.toInt / 2 ^ 64)
  | 2 => BitVec.ofInt 64 (a.toInt * b.toNat / 2 ^ 64)
  | 3 => BitVec.ofNat 64 (a.toNat * b.toNat / 2 ^ 64)
  | 4 => if b = 0 then -1 else BitVec.ofInt 64 (a.toInt.tdiv b.toInt)
  | 5 => if b = 0 then -1 else BitVec.ofNat 64 (a.toNat / b.toNat)
  | 6 => if b = 0 then a else BitVec.ofInt 64 (a.toInt.tmod b.toInt)
  | _ => if b = 0 then a else BitVec.ofNat 64 (a.toNat % b.toNat)

/-- The 32-bit operations with suffix W, on the low words. -/
def aluWord (f3 : Nat) (alt : Bool) (a b : BitVec 32) : Option W64 :=
  match f3 with
  | 0 => some (word32 (if alt then a - b else a + b))
  | 1 => if alt then none else some (word32 (a <<< (b.toNat % 32)))
  | 5 => some (word32 (if alt then a.sshiftRight (b.toNat % 32) else a >>> (b.toNat % 32)))
  | _ => none

/-- The 32-bit multiply and divide operations. -/
def aluMulWord (f3 : Nat) (a b : BitVec 32) : Option W64 :=
  match f3 with
  | 0 => some (word32 (a * b))
  | 4 => some (word32 (if b = 0 then -1 else BitVec.ofInt 32 (a.toInt.tdiv b.toInt)))
  | 5 => some (word32 (if b = 0 then -1 else BitVec.ofNat 32 (a.toNat / b.toNat)))
  | 6 => some (word32 (if b = 0 then a else BitVec.ofInt 32 (a.toInt.tmod b.toInt)))
  | 7 => some (word32 (if b = 0 then a else BitVec.ofNat 32 (a.toNat % b.toNat)))
  | _ => none

/-- A branch is taken. -/
def branchTaken (f3 : Nat) (a b : W64) : Option Bool :=
  match f3 with
  | 0 => some (a == b)
  | 1 => some (a != b)
  | 4 => some (a.slt b)
  | 5 => some (!a.slt b)
  | 6 => some (a.ult b)
  | 7 => some (!a.ult b)
  | _ => none

/-- What an atomic operation stores, of the old value and the register (extension A). -/
def amoValue {n : Nat} (f5 : Nat) (old v : BitVec n) : Option (BitVec n) :=
  match f5 with
  | 0x00 => some (old + v)
  | 0x01 => some v
  | 0x04 => some (old ^^^ v)
  | 0x08 => some (old ||| v)
  | 0x0C => some (old &&& v)
  | 0x10 => some (if v.slt old then v else old)
  | 0x14 => some (if old.slt v then v else old)
  | 0x18 => some (if v.ult old then v else old)
  | 0x1C => some (if old.ult v then v else old)
  | _ => none

/-! ## Immediates -/

/-- Immediates of the 32-bit forms. -/
def immI (w : Nat) : Int := signed 12 (bits w 20 12)
/-- S form. -/
def immS (w : Nat) : Int := signed 12 (bits w 25 7 * 2 ^ 5 + bits w 7 5)
/-- B form. -/
def immB (w : Nat) : Int :=
  signed 13 (bits w 31 1 * 2 ^ 12 + bits w 7 1 * 2 ^ 11 + bits w 25 6 * 2 ^ 5 + bits w 8 4 * 2)
/-- U form. -/
def immU (w : Nat) : Int := signed 32 (bits w 12 20 * 2 ^ 12)
/-- J form. -/
def immJ (w : Nat) : Int :=
  signed 21 (bits w 31 1 * 2 ^ 20 + bits w 12 8 * 2 ^ 12 + bits w 20 1 * 2 ^ 11 + bits w 21 10 * 2)

/-! ## Compressed forms (extension C) -/

/-- An I-form word. -/
def iWord (op f3 rd rs1 : Nat) (imm : Int) : Nat := op + rd * 2 ^ 7 + f3 * 2 ^ 12 + rs1 * 2 ^ 15 + unsigned 12 imm * 2 ^ 20
/-- An S-form word. -/
def sWord (f3 rs1 rs2 : Nat) (imm : Nat) : Nat :=
  0x23 + imm % 32 * 2 ^ 7 + f3 * 2 ^ 12 + rs1 * 2 ^ 15 + rs2 * 2 ^ 20 + imm / 32 % 128 * 2 ^ 25
/-- An R-form word. -/
def rWord (op f3 f7 rd rs1 rs2 : Nat) : Nat := op + rd * 2 ^ 7 + f3 * 2 ^ 12 + rs1 * 2 ^ 15 + rs2 * 2 ^ 20 + f7 * 2 ^ 25
/-- A branch of B form against x0. -/
def bWord (f3 rs1 : Nat) (imm : Int) : Nat :=
  let v := unsigned 13 imm
  0x63 + bits v 11 1 * 2 ^ 7 + bits v 1 4 * 2 ^ 8 + f3 * 2 ^ 12 + rs1 * 2 ^ 15 + bits v 5 6 * 2 ^ 25 + bits v 12 1 * 2 ^ 31
/-- A jump of J form that links nothing. -/
def jWord (imm : Int) : Nat :=
  let v := unsigned 21 imm
  0x6F + bits v 12 8 * 2 ^ 12 + bits v 11 1 * 2 ^ 20 + bits v 1 10 * 2 ^ 21 + bits v 20 1 * 2 ^ 31

/-- Quadrant 0: stack addresses, and loads and stores of words and doublewords. -/
def expand0 (h : Nat) : Option Nat :=
  let rd := 8 + bits h 2 3
  let rs := 8 + bits h 7 3
  let offW := bits h 10 3 * 8 + bits h 6 1 * 4 + bits h 5 1 * 64
  let offD := bits h 10 3 * 8 + bits h 5 2 * 64
  match bits h 13 3 with
  | 0 =>
    let n := bits h 11 2 * 16 + bits h 7 4 * 64 + bits h 6 1 * 4 + bits h 5 1 * 8
    if n = 0 then none else some (iWord 0x13 0 rd 2 n)
  | 2 => some (iWord 0x03 2 rd rs offW)
  | 3 => some (iWord 0x03 3 rd rs offD)
  | 6 => some (sWord 2 rs rd offW)
  | 7 => some (sWord 3 rs rd offD)
  | _ => none

/-- The register operations of quadrant 1. -/
def expandAlu (h : Nat) : Option Nat :=
  let rd := 8 + bits h 7 3
  let rs := 8 + bits h 2 3
  let sh := bits h 12 1 * 32 + bits h 2 5
  match bits h 10 2 with
  | 0 => some (iWord 0x13 5 rd rd sh)
  | 1 => some (iWord 0x13 5 rd rd (sh + 0x400 : Nat))
  | 2 => some (iWord 0x13 7 rd rd (signed 6 sh))
  | _ =>
    match bits h 12 1, bits h 5 2 with
    | 0, 0 => some (rWord 0x33 0 0x20 rd rd rs)
    | 0, 1 => some (rWord 0x33 4 0 rd rd rs)
    | 0, 2 => some (rWord 0x33 6 0 rd rd rs)
    | 0, 3 => some (rWord 0x33 7 0 rd rd rs)
    | 1, 0 => some (rWord 0x3B 0 0x20 rd rd rs)
    | 1, 1 => some (rWord 0x3B 0 0 rd rd rs)
    | _, _ => none

/-- Quadrant 1: immediates, register operations, jumps and branches. -/
def expand1 (h : Nat) : Option Nat :=
  let rd := bits h 7 5
  let imm := signed 6 (bits h 12 1 * 32 + bits h 2 5)
  match bits h 13 3 with
  | 0 => some (iWord 0x13 0 rd rd imm)
  | 1 => if rd = 0 then none else some (iWord 0x1B 0 rd rd imm)
  | 2 => some (iWord 0x13 0 rd 0 imm)
  | 3 =>
    if imm = 0 then none
    else if rd = 2 then
      some (iWord 0x13 0 2 2 (signed 10 (bits h 12 1 * 512 + bits h 6 1 * 16 + bits h 5 1 * 64 + bits h 3 2 * 128 + bits h 2 1 * 32)))
    else some (0x37 + rd * 2 ^ 7 + unsigned 20 imm * 2 ^ 12)
  | 4 => expandAlu h
  | 5 => some (jWord (signed 12 (bits h 12 1 * 2048 + bits h 11 1 * 16 + bits h 9 2 * 256 + bits h 8 1 * 1024 + bits h 7 1 * 64 +
      bits h 6 1 * 128 + bits h 3 3 * 2 + bits h 2 1 * 32)))
  | f =>
    some (bWord (f - 6) (8 + bits h 7 3) (signed 9 (bits h 12 1 * 256 + bits h 10 2 * 8 + bits h 5 2 * 64 + bits h 3 2 * 2 +
      bits h 2 1 * 32)))

/-- Quadrant 2: shifts, stack loads and stores, register jumps, moves and adds. -/
def expand2 (h : Nat) : Option Nat :=
  let rd := bits h 7 5
  let rs := bits h 2 5
  match bits h 13 3 with
  | 0 => some (iWord 0x13 1 rd rd (bits h 12 1 * 32 + rs : Nat))
  | 2 => if rd = 0 then none else some (iWord 0x03 2 rd 2 (bits h 12 1 * 32 + bits h 4 3 * 4 + bits h 2 2 * 64 : Nat))
  | 3 => if rd = 0 then none else some (iWord 0x03 3 rd 2 (bits h 12 1 * 32 + bits h 5 2 * 8 + bits h 2 3 * 64 : Nat))
  | 4 =>
    if bits h 12 1 = 0 then
      (if rs = 0 then (if rd = 0 then none else some (iWord 0x67 0 0 rd 0)) else some (rWord 0x33 0 0 rd 0 rs))
    else if rs = 0 then (if rd = 0 then some 0x00100073 else some (iWord 0x67 0 1 rd 0))
    else some (rWord 0x33 0 0 rd rd rs)
  | 6 => some (sWord 2 2 rs (bits h 9 4 * 4 + bits h 7 2 * 64))
  | 7 => some (sWord 3 2 rs (bits h 10 3 * 8 + bits h 7 3 * 64))
  | _ => none

/-- The 32-bit form of a 16-bit instruction. -/
def expandHalf (h : Nat) : Option Nat :=
  match h % 4 with
  | 0 => expand0 h
  | 1 => expand1 h
  | _ => expand2 h

/-! ## One instruction -/

/-- Trap causes of RISC-V in user mode. -/
abbrev trFetch : Nat := 1
/-- Illegal instruction. -/
abbrev trIllegal : Nat := 2
/-- Breakpoint. -/
abbrev trBreak : Nat := 3
/-- Load address misaligned. -/
abbrev trLoadAlign : Nat := 4
/-- Load access fault. -/
abbrev trLoad : Nat := 5
/-- Store or atomic address misaligned. -/
abbrev trStoreAlign : Nat := 6
/-- Store or atomic access fault. -/
abbrev trStore : Nat := 7
/-- Environment call from user mode. -/
abbrev trCall : Nat := 8

/-- What one instruction does: a register and the next pc, a block on SU_WAIT, an effect on the module, or a trap. -/
inductive BoltAct where
  | write (rd : Nat) (v : W64)
  | jump (rd : Nat) (target : W64)
  | goOn
  | block
  | store (a n : Nat) (v : W64) (rd : Nat) (back : W64)
  | keep (a n : Nat) (rd : Nat) (v : W64)
  | trap (cause : Nat)
deriving DecidableEq, Repr

/-- A load into a register: funct3 gives the width and the extension. -/
def State.loadAct (s : State) (b : Nat) (x : Bolt) (f3 rd a : Nat) : BoltAct :=
  let n := 2 ^ (f3 % 4)
  if f3 = 7 then .trap trIllegal
  else
    match s.boltLoad b x a n with
    | .value v => .write rd (if f3 < 4 then BitVec.ofInt 64 (signed (8 * n) v) else BitVec.ofNat 64 v)
    | .block => .block
    | .fault => .trap trLoad

/-- The atomic instructions, on the data memory alone. -/
def atomicAct (x : Bolt) (f3 f5 rd rs2 a : Nat) : BoltAct :=
  let n := 2 ^ f3
  let inData := decide (boltData ≤ a ∧ a + n ≤ boltData + boltMem)
  let old := memNat x.data (a - boltData) n
  let back : W64 := BitVec.ofInt 64 (signed (8 * n) old)
  if f3 ≠ 2 ∧ f3 ≠ 3 then .trap trIllegal
  else if f5 = 2 then
    (if rs2 ≠ 0 then .trap trIllegal
     else if a % n ≠ 0 then .trap trLoadAlign
     else if inData then .keep a n rd back else .trap trLoad)
  else if a % n ≠ 0 then .trap trStoreAlign
  else if !inData then .trap trStore
  else if f5 = 3 then (if x.resv = some (a, n) then .store a n (x.reg rs2) rd 0 else .keep 0 0 rd 1)
  else
    let v : Option W64 := if f3 = 2 then
        (amoValue f5 (BitVec.ofNat 32 old) ((x.reg rs2).setWidth 32)).map (·.setWidth 64)
      else amoValue f5 (BitVec.ofNat 64 old) (x.reg rs2)
    match v with
    | some w => .store a n w rd back
    | none => .trap trIllegal

/-- What an instruction word does at a pc; `next` is the address after it. -/
def State.boltAct (s : State) (b : Nat) (x : Bolt) (w : Nat) (next : W64) : BoltAct :=
  let rd := bits w 7 5
  let f3 := bits w 12 3
  let f7 := bits w 25 7
  let a := x.reg (bits w 15 5)
  let c := x.reg (bits w 20 5)
  let immW : W64 := BitVec.ofInt 64 (immI w)
  let orIllegal := fun (v : Option W64) => (v.map (BoltAct.write rd)).getD (.trap trIllegal)
  match bits w 0 7 with
  | 0x37 => .write rd (BitVec.ofInt 64 (immU w))
  | 0x17 => .write rd (x.pc + BitVec.ofInt 64 (immU w))
  | 0x6F => .jump rd (x.pc + BitVec.ofInt 64 (immJ w))
  | 0x67 => if f3 = 0 then .jump rd ((a + immW) &&& ~~~1) else .trap trIllegal
  | 0x63 =>
    match branchTaken f3 a c with
    | some true => .jump 0 (x.pc + BitVec.ofInt 64 (immB w))
    | some false => .goOn
    | none => .trap trIllegal
  | 0x03 => s.loadAct b x f3 rd (a + immW).toNat
  | 0x23 => if f3 < 4 then .store (a + BitVec.ofInt 64 (immS w)).toNat (2 ^ f3) c 0 next else .trap trIllegal
  | 0x13 =>
    if f3 = 1 then (if bits w 26 6 = 0 then .write rd (aluBase 1 false a immW) else .trap trIllegal)
    else if f3 = 5 then
      (if bits w 26 6 = 0 ∨ bits w 26 6 = 0x10 then .write rd (aluBase 5 (bits w 26 6 == 0x10) a immW) else .trap trIllegal)
    else .write rd (aluBase f3 false a immW)
  | 0x1B =>
    if f3 = 0 then .write rd (word32 ((a + immW).setWidth 32))
    else if (f3 = 1 ∧ f7 = 0) ∨ (f3 = 5 ∧ (f7 = 0 ∨ f7 = 0x20)) then
      orIllegal (aluWord f3 (f7 == 0x20) (a.setWidth 32) (immW.setWidth 32))
    else .trap trIllegal
  | 0x33 =>
    if f7 = 1 then .write rd (aluMul f3 a c)
    else if f7 = 0 ∨ (f7 = 0x20 ∧ (f3 = 0 ∨ f3 = 5)) then .write rd (aluBase f3 (f7 == 0x20) a c)
    else .trap trIllegal
  | 0x3B =>
    if f7 = 1 then orIllegal (aluMulWord f3 (a.setWidth 32) (c.setWidth 32))
    else if f7 = 0 ∨ f7 = 0x20 then orIllegal (aluWord f3 (f7 == 0x20) (a.setWidth 32) (c.setWidth 32))
    else .trap trIllegal
  | 0x0F => if f3 = 0 then .goOn else .trap trIllegal
  | 0x2F => atomicAct x f3 (bits w 27 5) rd (bits w 20 5) a.toNat
  | 0x73 => .trap (if w = 0x73 then trCall else if w = 0x100073 then trBreak else trIllegal)
  | _ => .trap trIllegal

/-- The instruction at the pc and its length in bytes; none where the pc leaves the code memory. -/
def Bolt.fetch (x : Bolt) : Option (Nat × Nat) :=
  let pc := x.pc.toNat
  let h := memNat x.code pc 2
  if boltMem < pc + 2 then none
  else if h % 4 ≠ 3 then some ((expandHalf h).getD 0, 2)
  else if boltMem < pc + 4 then none
  else some (memNat x.code pc 4, 4)

/-- An act carried out. -/
def State.boltDo (s : State) (b : BoltNo) (x : Bolt) (next : W64) : BoltAct → State
  | .write rd v => s.setBolt b.val { x.setReg rd v with pc := next }
  | .jump rd target => s.setBolt b.val { x.setReg rd next with pc := target }
  | .goOn => s.setBolt b.val { x with pc := next }
  | .block => s.setBolt b.val { x with suBlocked := true }
  | .keep a n rd v => s.setBolt b.val { x.setReg rd v with pc := next, resv := if n = 0 then none else some (a, n) }
  | .store a n v rd back =>
    match s.boltStore b { x.setReg rd back with pc := next, resv := none } a n v with
    | some t => t
    | none => s.boltTrap b x trStore (x.pc.setWidth 32)
  | .trap c => s.boltTrap b x c (x.pc.setWidth 32)

/-- One instruction of a bolt program that runs and does not wait (R132, R133, R139). -/
def State.boltStep (s : State) (b : BoltNo) : State :=
  s.boltAt b (fun x t =>
    match x.fetch with
    | none => t.boltTrap b x trFetch (x.pc.setWidth 32)
    | some (w, n) => t.boltDo b x (x.pc + BitVec.ofNat 64 n) (t.boltAct b.val x w (x.pc + BitVec.ofNat 64 n)))

/-- One instruction at every bolt controller. -/
def State.boltSteps (s : State) : State := (List.finRange 48).foldl State.boltStep s

end Sys2Proof.Machine
end

