-- ==== Sys2Proof/Machine/Tick.lean ====
section
/-! DEFINITION. One grain of chain time, which passes when no command waits (DESIGN CHOICE, log entry 13): the counters that
count time by themselves. -/

namespace Sys2Proof.Machine

/-- Grains over which a slew of 100 ppm makes one sixteenth of a grain (R334). -/
abbrev slewGrains : Nat := 625

/-- The direction in which chain time is slewed: that of the offset left, or in HOLDOVER the last one (R334, R338). -/
def Time.direction (t : Time) (coast : Bool) : Int := if coast then t.rate else Int.sign t.slew

/-- Chain time one grain on and a sixteenth more or less: the counter never goes back (R334). -/
def Time.slewed (t : Time) (d : Int) : Time :=
  let n := (16 * t.now + t.frac + 16 + d).toNat
  { t with now := n / 16, frac := n % 16, slewPhase := 0, slew := t.slew - d }

/-- Chain time one grain on, held still before LOCKED or slewed after: by a sixteenth of a grain each 625 grains, the most that
R334 allows (DESIGN CHOICE, log entry 58). -/
def Time.advance (t : Time) (coast : Bool) : Time :=
  let d := t.direction coast
  if 0 < t.still then { t with still := t.still - 1 }
  else if d = 0 then { t with now := t.now + 1, rate := 0 }
  else if t.slewPhase + 1 < slewGrains then { t with now := t.now + 1, slewPhase := t.slewPhase + 1, rate := d }
  else { t.slewed d with rate := d }

/-- CORE cycles of one grain, 20 cycles of the 5 GHz root, at a divisor; and the root cycles left over (R7, R451). -/
def coreCycles (root div : Nat) : Nat × Nat := ((root + 20) / max 1 div, (root + 20) % max 1 div)

/-- The row of THROTTLE_TIME a divisor counts in (R460). -/
def divRow (div : Nat) : Nat := ([4, 5, 6, 8].findIdx? (· == div)).getD 4

/-- Every count of a held site lowered by a number of cycles (R209). -/
def Hold.lower (h : Hold) (n : Nat) : Hold := { h with counts := h.counts.map (fun e => (e.1, e.2 - n)) }

/-- The doff watchdog, while it runs, and the budgets of flits count CORE cycles outside holds (R151, R173). -/
def Fabric.watch (f : Fabric) (held : Bool) (n : Nat) : Fabric :=
  if held then f
  else { f with cycles := f.cycles + n, watchdog := if f.watchdogOn then f.watchdog + n else f.watchdog }

/-- REF_OUT follows chain time, its rising edges at multiples of 2.5 grains, and a pulse on MARK_OUT ends (R336). The pin is high
for half of its period (DESIGN CHOICE, log entry 58). -/
def Pins.follow (p : Pins) (t : Time) : Pins :=
  { p with
    markOut := p.markOut && decide (t.now < p.markFall)
    refOut := decide ((16 * t.now + t.frac) % 40 < 20) }

/-- One grain of chain time at a powered module, in which each running bolt program executes one instruction, each link port
without a frame to send sends IDLE, and a source sends each joiner a frame of its copy (DESIGN CHOICE, log entries 13, 18 and
54). The reference is judged by the master as it stands (R337). -/
def tick (s : State) : State :=
  s.ifUp (fun s =>
    let div := s.obj Obj.coreDiv 0
    let c := coreCycles s.time.root div
    let t := s.time.advance (s.timeState == tsHoldover)
    let s := s.bump Obj.throttleTime (divRow div) 1
    { s with
      time := { t with core := t.core + c.1, root := c.2 }
      hold := s.hold.lower c.1
      fabric := s.fabric.watch (!s.hold.counts.isEmpty) c.1
      pins := s.pins.follow t }.judgeRef.boltSteps.supplyAll.idleAll)

end Sys2Proof.Machine
end

