-- ==== Sys2Proof/Safety.lean ====
section
/-! DEFINITION. What counts as a safe run, and the terms the claims are stated in: what a command leaves alone, and
the canonical form of the byte memories. -/

namespace Sys2Proof

/-- A step that answers a next state. -/
def Machine.State.GoesOn (s : Machine.State) : Prop := ∃ t, Machine.step s = .next t

/-- Every byte memory of the state is in canonical form: the tiers, the staging store, the retained image, and the code and
data memories of the bolt controllers. -/
def Machine.State.MemOk (s : Machine.State) : Prop :=
  s.fast.wf = true ∧ s.slow.wf = true ∧ s.host.staging.wf = true ∧ s.host.retained.wf = true ∧
    ∀ e ∈ s.bolts, e.2.code.wf = true ∧ e.2.data.wf = true

namespace Machine

/-! ## Frames -/

/-- Every byte of the two tiers (which hold the bobbin window), of the staging store and of the retained image reads as
before. -/
def State.SameBytes (s t : State) : Prop :=
  ∀ a : Nat, memGet t.fast a = memGet s.fast a ∧ memGet t.slow a = memGet s.slow a ∧
    memGet t.host.staging a = memGet s.host.staging a ∧ memGet t.host.retained a = memGet s.host.retained a

/-- Every object row outside `ch` reads as before. -/
def State.RowsOnly (ch : Nat → Nat → Prop) (s t : State) : Prop :=
  ∀ id row, row < 2 ^ 20 → ¬ ch id row → t.obj id row = s.obj id row

/-- The state but for its object rows and the model's counter of free values: `t` differs from `s` in nothing else. -/
def State.OnlyRows (ch : Nat → Nat → Prop) (s t : State) : Prop :=
  t = { s with objs := t.objs, dict := { s.dict with copies := t.dict.copies }, free := t.free } ∧ s.RowsOnly ch t ∧
    s.SameBytes t

/-- `t` differs from `s` in one spindle, in object rows of `ch` and in the counter of free values. -/
def State.OnlySpindle (p : Site) (ch : Nat → Nat → Prop) (s t : State) : Prop :=
  t = { s with
        objs := t.objs, dict := { s.dict with copies := t.dict.copies }, spindles := t.spindles, free := t.free } ∧
    (∀ r, r ≠ p.row → tget t.spindles r = tget s.spindles r) ∧ s.RowsOnly ch t ∧ s.SameBytes t

/-- `t` differs from `s` in one bolt controller and in object rows of `ch`. -/
def State.OnlyBolt (b : BoltNo) (ch : Nat → Nat → Prop) (s t : State) : Prop :=
  t = { s with objs := t.objs, dict := { s.dict with copies := t.dict.copies }, bolts := t.bolts } ∧
    (∀ c, c ≠ b.val → tget t.bolts c = tget s.bolts c) ∧ s.RowsOnly ch t ∧ s.SameBytes t

/-- No object row. -/
def noRows : Nat → Nat → Prop := fun _ _ => False

/-- One row of one object. -/
def oneRow (id row : Nat) : Nat → Nat → Prop := fun i r => i = id ∧ r = row

/-- The rows of some objects. -/
def rowsOf (ids : List Nat) : Nat → Nat → Prop := fun i _ => i ∈ ids

/-- The counters every issued instruction moves: SPINDLE_ISSUED and the two stall counters of its spindle (R104). -/
def issueRows (p : Site) : Nat → Nat → Prop := fun id row =>
  row = p.row ∧ id ∈ [Obj.spindleIssued, Obj.spindleStallHank, Obj.spindleStallQueue]

/-- The flags and counters of one spindle (R104), and what a fault record writes (R352, R353). -/
def spindleRows (p : Site) : Nat → Nat → Prop := fun id row =>
  (row = p.row ∧ Obj.spindleFlags ≤ id ∧ id ≤ Obj.spindleRejects) ∨ id ∈ [Obj.faultLog, Obj.faultSeqLast, Obj.faultReports]

/-- An instruction issued at a spindle that changes that spindle alone: SPINDLE_ISSUED advances by one, and nothing else
outside the spindle but its two stall counters. -/
def State.Issued (p : Site) (s t : State) : Prop :=
  t.obj Obj.spindleIssued p.row = satAdd 64 (s.obj Obj.spindleIssued p.row) 1 ∧ s.OnlySpindle p (issueRows p) t

/-- An instruction issued at a spindle whose effect may also move the spindle's flags and counters and write a fault
record. -/
def State.IssuedFlags (p : Site) (s t : State) : Prop :=
  t.obj Obj.spindleIssued p.row = satAdd 64 (s.obj Obj.spindleIssued p.row) 1 ∧ s.OnlySpindle p (spindleRows p) t

/-- A hold raised with a kind, number and source at its entry sites, which it reaches after `cost` cycles: HOLD_COUNT advances
and the raise waits for its attribution (R208, R209, R217). -/
def State.Raised (s : State) (kind number source : Nat) (entry : List Nat) (cost : Nat) (t : State) : Prop :=
  t.obj Obj.holdCount 0 = satAdd 64 (s.obj Obj.holdCount 0) 1 ∧
    t.hold = { s.hold with raises := s.hold.raises ++ [{ kind, number, source, at_ := s.time.core, entry, cost }] } ∧
    s.OnlyRows (oneRow Obj.holdCount 0) { t with hold := s.hold }

/-- A frame given to a port: it waits there for a credit, or is sent and unacknowledged (R309, R310). -/
def State.Given (t : State) (p : Nat) (f : OutFrame) : Prop :=
  f ∈ (t.port p).waiting ∨ ∃ n, (n, f) ∈ (t.port p).unacked

/-- A sequenced frame arrives that a port accepts: the port receives, its TXSEQ is the next expected and its MEPOCH is not
older than the module's (R309). -/
def State.Arrives (s : State) (p : PortNo) (h : FrameHdr) : Prop :=
  s.up = true ∧ s.receives p.val = true ∧ s.link.ports.length = 8 ∧ h.txseq = (s.port p.val).rxNext ∧
    epochOlder h.mepoch.toNat s.epoch = false

/-- What a frame's arrival and the frames a port sends move among the objects: the link counters, the record of a replay, and a
pending ARB_PRIO of the ports (R177, R309, R343). -/
def linkRows : Nat → Nat → Prop := fun id row =>
  id ∈ [Obj.linkFramesRx, Obj.linkFramesTx, Obj.linkReplays, Obj.faultLog, Obj.faultSeqLast, Obj.faultReports] ∨
    oneRow Obj.arbPrio 3 id row

/-- The same where a frame with data of the tiers has crossed the wafer (R312, R178). -/
def bulkRows : Nat → Nat → Prop := fun id row =>
  linkRows id row ∨ oneRow Obj.fabricFlits 2 id row ∨ id ∈ [Obj.edgePortBusy, Obj.backPortBusy]

/-- `t` differs from `s` in the ports, in the arbiters of the ports with their pending ARB_PRIO, in object rows of `ch` and in the
counter of free values. -/
def State.OnlyFrames (ch : Nat → Nat → Prop) (s t : State) : Prop :=
  s.OnlyRows ch { t with
    link := s.link, fabric := { t.fabric with arbiters := s.fabric.arbiters }
    dict := { t.dict with pending := s.dict.pending } } ∧
    (∀ k, k / 2 ^ 20 ≠ 3 → tget t.fabric.arbiters k = tget s.fabric.arbiters k) ∧
    (∀ k, k ≠ objKey Obj.arbPrio 3 → tget t.dict.pending k = tget s.dict.pending k)

/-- A master may write an object that no lock holds: the whole dictionary answers, no voted object is lost, the host's
link is up for master 0, and the module has an address for a management master (R415, R418, R423, R437, R470). -/
def State.MayWrite (s : State) (m : MasterNo) : Prop :=
  s.dictServed = true ∧ s.sec.recovery = false ∧ s.dict.lockOwner = none ∧ s.dict.voteLost = [] ∧
    (m.val = 0 → s.host.linkUp = true) ∧ (m.val ≠ 0 → s.obj Obj.chainAddress 0 ≠ 0)

/-- What every access by a master counts or reports: TOP_REQUESTS, MIRROR_STATUS and MIRROR_REFUSED (R423, R433). -/
def accessRows : List Nat := [Obj.topRequests, Obj.mirrorStatus, Obj.mirrorRefused]

/-- A new TOP request that the module executes (R423, R427): well formed, in the master's open session, its SEQ not among
the kept responses. -/
def State.Serves (s : State) (r : TopReq) : Prop :=
  s.dictServed = true ∧ s.sec.recovery = false ∧ reqDiscarded r = false ∧ s.obj Obj.chainAddress 0 ≠ 0 ∧
    r.reservedZero = true ∧ r.flags.toNat ≤ 3 ∧ s.dict.masters.length = 5 ∧
    (s.master r.master.toNat).session = some r.session ∧
    (s.master r.master.toNat).kept.find? (fun e => e.1 == r.seq) = none

/-- The request is counted, and its response with this STATUS, data and ARG is sent and kept (R424, R427). -/
def State.Answered (s : State) (op : Nat) (r : TopReq) (status : Nat) (data : List Byte) (arg : Nat) (t : State) : Prop :=
  t.dict.response = some (responseTo op r status data arg) ∧
    (t.master r.master.toNat).kept.head? = some (r.seq, responseTo op r status data arg) ∧
    t.obj Obj.topRequests r.master.toNat = satAdd 64 (s.obj Obj.topRequests r.master.toNat) 1

/-- The spindle without its scoreboard: the writers in flight, the accumulator written last, and the hank registers that may
still be written (R88, R90). -/
def Spindle.calm (x : Spindle) : Spindle := { x with inFlight := [], justWrote := none, nowWrote := none, fresh := [] }

/-- The spindle with a region marked that a STORE has written without a handle, which no hand-off orders (R89). -/
def Spindle.marked (x : Spindle) (direct : Bool) (line n : Nat) : Spindle :=
  if direct then { x with stored := x.stored ++ [(line, n)], xq := x.xq.map (Xfer.clash line n) } else x

/-- n lines of a region read without a bit error, and with no other engine's write of them unordered with the read (R75, R89);
`direct`: without a handle. -/
def Spindle.Clean (x : Spindle) (direct : Bool) (line n : Nat) : Prop :=
  x.store.errors line n = .clean ∧ (direct = true → x.pendingIn line n = [] ∧ x.storedIn line n = [])

/-- The spindle can issue an instruction that names these hanks: no receive still has to write one of them (R88). -/
def State.issuesOn (s : State) (p : Site) (os : List Opd) : Prop :=
  s.issues p = true ∧ (s.spindle p).hanksFree os = true

/-- An instruction of the transfer engine can issue: its queue has room, and no receive still has to write a hank it names
(R70, R88). -/
def State.queuesOn (s : State) (p : Site) (os : List Opd) : Prop :=
  s.issuesOn p os ∧ (s.spindle p).xferRoom = true

/-- An instruction of the transfer engine issued: the machine after its issue stands at the next instruction with `os` joining
the engine's queue, and then the engines and the fabric go on (R73, R88). -/
def State.Queued (s : State) (p : Site) (os : List Xfer) (t : State) : Prop :=
  ∃ u : State, s.IssuedFlags p u ∧ t = u.flow ∧
    (u.spindle p).calm = Spindle.next { (s.spindle p).calm with xq := (s.spindle p).xq ++ os }

/-- The rows a flit of a shape comes to be ejected at, from a site on, following the outputs of its tree; at most n hops
(R145, R156). -/
def Shape.walk (h : Shape) : Nat → Nat → Nat → List Nat
  | 0, _, _ => []
  | n + 1, x, y => (h.outs x y).flatMap (fun o =>
      match o with
      | 0 => h.walk n (x - 1) y
      | 1 => h.walk n x (y - 1)
      | 2 => h.walk n (x + 1) y
      | 3 => h.walk n x (y + 1)
      | _ => [128 * y + x])

/-- An accumulator of (+0, +0) pairs, its counter 0, LONG and poison clear (R47, R95). -/
def zeroAcc : Acc :=
  { s := List.replicate 4096 0, c := List.replicate 4096 0, count := 0, long := false, poison := false }

/-- A hank register written with binary32 elements: poisoned, or holding them with its scales as they were (R74). -/
def Hank.Holds (h old : Hank) (es : List W32) (poison : Bool) : Prop :=
  h.poison = poison ∧ (poison = false → h.elems = es ∧ h.scales = old.scales)

/-- An accumulator written with pairs: poisoned, or holding them; its add counter stops at 2^21 - 1, and LONG is set once
it has passed 2^20 (R53, R74). -/
def Acc.Holds (a : Acc) (qs : List Pair) (count : Nat) (long poison : Bool) : Prop :=
  a.poison = poison ∧ (poison = false → a.s = qs.map (·.s) ∧ a.c = qs.map (·.c)) ∧
    a.count = min count (2 ^ 21 - 1) ∧ a.long = (long || decide (2 ^ 20 < min count (2 ^ 21 - 1)))

/-- The hanks after a read-out of an accumulator (R94): folded into one, or its values and plies into two. -/
def ReadOut (p : Site) (ro : BitVec 2) (rod k : Nat) (a : Acc) (hs hs' : List Hank) : Prop :=
  (ro = 0 → hs' = hs) ∧
  (ro = 1 → ∃ h, h.Holds (nth hs rod {}) ((a.pairs p k).map Pair.fold) a.poison ∧ hs' = hs.set rod h) ∧
  (ro = 2 → ∃ h g, h.Holds (nth hs rod {}) ((a.pairs p k).map (·.s)) a.poison ∧
    g.Holds (nth (hs.set rod h) (rod + 1) {}) ((a.pairs p k).map (·.c)) a.poison ∧ hs' = (hs.set rod h).set (rod + 1) g)

/-- Two lists of elements agree in their low w bits; the bits above are undefined (R74). -/
def Agree (w : Nat) (es vs : List W32) : Prop :=
  es.length = vs.length ∧ ∀ i, bits (nth es i 0).toNat 0 w = bits (nth vs i 0).toNat 0 w

/-- The spindle `y` is `x` with a hank operand written with elements of w bits, with new scales or as they were (R74, R78,
R101): a poisoned write leaves only the poison bit defined; an accumulator keeps its other part, its counter and LONG. -/
def OpdWritten (w : Nat) (vals : List W32) (scales : Option (List Byte)) (poison : Bool) (x y : Spindle) : Opd → Prop
  | .h k => ∃ h : Hank, y = { x with hanks := x.hanks.set k h } ∧ h.poison = poison ∧
      (poison = false → Agree w h.elems vals ∧ h.scales = scales.getD (x.hank k).scales)
  | .a k => ∃ a : Acc, y = { x with accs := x.accs.set k a } ∧ a.poison = poison ∧ a.count = (x.acc k).count ∧
      a.long = (x.acc k).long ∧ (poison = false → Agree w a.s vals ∧ a.c = (x.acc k).c)
  | .p k => ∃ a : Acc, y = { x with accs := x.accs.set k a } ∧ a.poison = poison ∧ a.count = (x.acc k).count ∧
      a.long = (x.acc k).long ∧ (poison = false → Agree w a.c vals ∧ a.s = (x.acc k).s)

/-- The element region of a move, and its scale region where the format has scales, resolved (R79, R81). -/
def Regions (x : Spindle) (f : Nat) (r c : SRef) (l m : Nat) : Prop :=
  x.extent r (hankLines f) = .ok l ∧ (isMx f = true → x.extent c 2 = .ok m)

end Machine

end Sys2Proof
end

