-- ==== Sys2Proof/Certificates/Slice0/Obligations.lean ====
section
/-! DEFINITION. The statements about the model, each after the rules its docstring names. -/

open Sys2Proof Sys2Proof.Machine


/-! ## The machine -/

/-- A command at the front of the queue is run by a step exactly as `exec` runs it on the state with the rest of the
queue; with an empty queue an unpowered module stays as it is, and a powered module's time advances by a grain, but
where it is held still or the slew adds a sixteenth to it. (The queue and the tick are the model's own: log entry 13.) -/
def Obligations.StepRunsTheFrontCommand : Prop :=
  (∀ (c : Instr) (rest : List Instr) (s : State), s.pending = c :: rest → step s = exec c { s with pending := rest }) ∧
  (∀ s : State, s.pending = [] → ∃ t, step s = .next t ∧ t.pending = [] ∧
    (s.up = false → t = s) ∧
    (s.up = true → s.time.still = 0 →
      ((s.time.slew = 0 ∧ s.timeState ≠ tsHoldover) ∨ s.time.slewPhase + 1 < slewGrains) → t.time.now = s.time.now + 1))

/-- Every command either goes on or is refused by the program's loader; no command is a fault, and none touches the
commands that wait. -/
def Obligations.CommandsGoOnAndLeaveTheQueue : Prop :=
  ∀ (c : Instr) (s : State), (∃ t, exec c s = .next t ∧ t.pending = s.pending) ∨
    (∃ cause, exec c s = .refused (.loaderRefuses cause))

/-- From every state whose byte memories are in canonical form, a step leads to such a state. -/
def Obligations.MemoriesStayCanonicalOverEveryStep : Prop :=
  ∀ s t : State, s.MemOk → step s = .next t → t.MemOk

/-- R437, R443, R463: the module at reset has no power and no commands waiting; its program, wafer, memories, lock and
fault log are empty, every object is at its default, and its memories are in canonical form. -/
def Obligations.ResetLeavesTheModuleEmpty : Prop :=
  State.reset.up = false ∧ State.reset.pending = [] ∧ State.reset.MemOk ∧
    (∀ a, memGet State.reset.fast a = 0 ∧ memGet State.reset.slow a = 0) ∧
    (∀ id row, State.reset.obj id row = objDefault id row) ∧ State.reset.mode = stBoot ∧ State.reset.link.member = false ∧
    State.reset.prog.loaded = false ∧ State.reset.dict.lockOwner = none ∧ State.reset.lastSeq = 0 ∧
    (∀ p : Site, (State.reset.spindle p).halted = true)

/-! ## Control class -/

/-- R76, R77: NOP, HALT, DRAIN and the end of the code region. -/
def Obligations.NopHaltDrainAndCodeEnd : Prop :=
  ∀ (p : Site) (s : State),
    (s.issues p = true →
      (∃ t, exec (.nop p) s = .next t ∧ (t.spindle p).calm = (s.spindle p).calm.next ∧ s.Issued p t) ∧
      (∃ t, exec (.halt p) s = .next t ∧ (t.spindle p).calm = { (s.spindle p).calm with halted := true } ∧ s.Issued p t) ∧
      (s.enginesIdle p = true → ∃ t, exec (.drain p) s = .next t ∧
        t.spindle p = Spindle.next { (s.spindle p).calm with justWrote := (s.spindle p).nowWrote, stored := [] } ∧
        s.Issued p t)) ∧
    (s.enginesIdle p = false → exec (.drain p) s = .next s) ∧
    (s.pastCode p = true →
      ∃ t, exec (.codeRegionEnd p) s = .next t ∧ t.spindle p = { s.spindle p with halted := true } ∧ s.OnlySpindle p noRows t)

/-- R77, R84: LOOP enters its body, skips it at COUNT 0, and is a no-op at BODY 0; JUMP goes OFFSET instructions on.
R136: BRANCH_G waits for the tag, then branches by OFFSET where bit BIT of the word is 1 and goes on otherwise. R84:
at the last instruction of the innermost loop's body, program order goes back to its first while iterations are left,
and leaves the loop after the last; elsewhere it goes to the next instruction. -/
def Obligations.BranchesJumpsAndLoopsTakeTheirTargets : Prop :=
  (∀ (p : Site) (s : State), s.issues p = true →
    (∀ (count : BitVec 20) (body : BitVec 16),
      (body = 0 → ∃ t, exec (.loop p count body) s = .next t ∧ (t.spindle p).calm = (s.spindle p).calm.next ∧ s.Issued p t) ∧
      (body ≠ 0 → (s.spindle p).loopOk body.toNat = true → count = 0 →
        ∃ t, exec (.loop p count body) s = .next t ∧ s.Issued p t ∧
          (t.spindle p).calm = (s.spindle p).calm.goto ((s.spindle p).pc + body.toNat + 1)) ∧
      (body ≠ 0 → (s.spindle p).loopOk body.toNat = true → count ≠ 0 →
        ∃ t, exec (.loop p count body) s = .next t ∧ s.Issued p t ∧
          (t.spindle p).calm = { (s.spindle p).calm with
            pc := (s.spindle p).pc + 1
            loops := (s.spindle p).loops ++ [{ first := (s.spindle p).pc + 1, last := (s.spindle p).pc + body.toNat
                                               count := count.toNat, iter := 0 }] })) ∧
    (∀ offset : BitVec 20, (s.spindle p).targetOk ((s.spindle p).pc + offset.toInt) = true →
      ∃ t, exec (.jump p offset) s = .next t ∧ s.Issued p t ∧
        (t.spindle p).calm = { (s.spindle p).calm with pc := ((s.spindle p).pc + offset.toInt).toNat })) ∧
  (∀ (p : Site) (seq : W16) (bit : BitVec 5) (offset : BitVec 20) (s : State), s.issues p = true →
    (s.spindle p).targetOk ((s.spindle p).pc + offset.toInt) = true →
    (∀ w : W32, tget (s.bolt (boltOf p.x.val p.y.val)).decTable (seq.toNat % 64) = some (seq, w) →
      ∃ t, exec (.branchG p seq bit offset) s = .next t ∧ s.Issued p t ∧
        (t.spindle p).calm =
          if w.getLsbD bit.toNat then { (s.spindle p).calm with pc := ((s.spindle p).pc + offset.toInt).toNat }
          else (s.spindle p).calm.next) ∧
    ((∀ w : W32, tget (s.bolt (boltOf p.x.val p.y.val)).decTable (seq.toNat % 64) ≠ some (seq, w)) →
      exec (.branchG p seq bit offset) s = .next s)) ∧
  (∀ (x : Spindle),
    (x.loops = [] → x.next = { x with pc := x.pc + 1 }) ∧
    (∀ (outer : List LoopFrame) (f : LoopFrame), x.loops = outer ++ [f] →
      (x.pc ≠ f.last → x.next = { x with pc := x.pc + 1 }) ∧
      (x.pc = f.last → f.iter + 1 < f.count →
        x.next = { x with pc := f.first, loops := outer ++ [{ f with iter := f.iter + 1 }] }) ∧
      (x.pc = f.last → f.count ≤ f.iter + 1 → x.next = Spindle.next { x with loops := outer })))

/-! ## Accumulators and matrix products -/

/-- R95, R47: ACC_ZERO, ACC_ADDPAIR and ACC_OUT. -/
def Obligations.AccumulatorOperationsActOnOneAccumulator : Prop :=
  ∀ (p : Site) (s : State) (k : BitVec 3),
    (s.issuesOn p [.a k.toNat] →
      ∃ t, exec (.accZero p k) s = .next t ∧ s.IssuedFlags p t ∧
        (t.spindle p).calm = Spindle.next { (s.spindle p).calm with accs := (s.spindle p).accs.set k.toNat zeroAcc }) ∧
    (∀ opa : BitVec 5, opa.toNat < 16 → opa.toNat % 2 = 0 →
      s.issuesOn p [.a k.toNat, .h opa.toNat, .h (opa.toNat + 1)] →
      ∃ t a, exec (.accAddpair p k opa) s = .next t ∧ s.IssuedFlags p t ∧
        (t.spindle p).calm = Spindle.next { (s.spindle p).calm with accs := (s.spindle p).accs.set k.toNat a } ∧
        a.Holds
          (List.zipWith Pair.addPair (((s.spindle p).acc k.toNat).pairs p k.toNat)
            (List.zipWith (fun x y => ⟨x, y⟩) (s.view p (.h opa.toNat)).elems (s.view p (.h (opa.toNat + 1))).elems))
          (((s.spindle p).acc k.toNat).count + 1) ((s.spindle p).acc k.toNat).long
          ((s.view p (.h opa.toNat)).poison || (s.view p (.h (opa.toNat + 1))).poison ||
            ((s.spindle p).acc k.toNat).poison)) ∧
    (∀ (ro : BitVec 2) (rod : BitVec 4), readOutBad ro rod = none →
      s.issuesOn p (if ro = 0 then [] else .a k.toNat :: readOutDsts ro rod.toNat) →
      ∃ t hs, exec (.accOut p ro k rod) s = .next t ∧ s.IssuedFlags p t ∧
        (t.spindle p).calm = Spindle.next { (s.spindle p).calm with hanks := hs } ∧
        ReadOut p ro rod.toNat k.toNat ((s.spindle p).acc k.toNat) (s.spindle p).hanks hs)

/-- R92, R94: MMA forms every element from a row of OPA and a row of OPB, continues from the accumulator or from zero,
counts its terms and reads out. -/
def Obligations.MmaAccumulatesRowAgainstRow : Prop :=
  ∀ (p : Site) (s : State) (acc : Bool) (ro : BitVec 2) (fa fb : BitVec 4) (k : BitVec 3) (opa opb : BitVec 5)
    (rod : BitVec 4), mmaBad ro fa fb opa opb rod = none →
    s.issuesOn p (.a k.toNat :: opd opa :: opd opb :: readOutDsts ro rod.toNat) →
    ∃ t a hs, exec (.mma p acc ro fa fb k opa opb rod) s = .next t ∧ s.IssuedFlags p t ∧
      (t.spindle p).calm =
        Spindle.next { (s.spindle p).calm with accs := (s.spindle p).accs.set k.toNat a, hanks := hs } ∧
      a.Holds
        (mmaAll fa.toNat fb.toNat
          (if acc then ((s.spindle p).acc k.toNat).pairs p k.toNat else List.replicate 4096 ⟨0, 0⟩)
          ((s.view p (opd opa)).rows fa.toNat) ((s.view p (opd opb)).rows fb.toNat))
        ((if acc then ((s.spindle p).acc k.toNat).count else 0) + mmaTerms fa.toNat)
        (acc && ((s.spindle p).acc k.toNat).long)
        ((s.view p (opd opa)).poison || (s.view p (opd opb)).poison || (acc && ((s.spindle p).acc k.toNat).poison)) ∧
      ReadOut p ro rod.toNat k.toNat ((t.spindle p).acc k.toNat) (s.spindle p).hanks hs

/-- R80, R97, R99: MMA_PACKED adds the entries of a segment that fall in its window, row by row; SLEN 0 is a no-op. The
lines of the segment read correct, and no other engine's write of them is unordered with the read (R75, R89).
R91, R92: element (i, j) of a product is formed from row i of the first operand and row j of the second; without MX
blocks it adds the 64 products in K order by R46. -/
def Obligations.MmaPackedAddsTheWindowOfItsSegment : Prop :=
  (∀ (p : Site) (s : State) (acc : Bool) (ro : BitVec 2) (fa fb : BitVec 4) (k : BitVec 3) (opa : BitVec 5)
    (rod nh : BitVec 4) (kbase : W16) (sr : BitVec 36) (slen : BitVec 12),
    packedBad ro fa fb opa rod nh (sref sr) = none →
    s.issuesOn p (.a k.toNat :: (List.range (nh.toNat + 1)).map (fun r => Opd.h (opa.toNat + r)) ++
      readOutDsts ro rod.toNat) →
    (∀ e, slen = 0 → ∃ t, exec (.mmaPacked p acc ro fa fb k opa rod nh kbase sr slen e) s = .next t ∧ s.Issued p t ∧
      (t.spindle p).calm = (s.spindle p).calm.next) ∧
    (∀ line, slen ≠ 0 → (s.spindle p).extent (sref sr) slen.toNat = .ok line →
      (s.spindle p).Clean (sref sr).direct line slen.toNat →
      let data := linesNat (s.readLines p line slen.toNat)
      let regs := (List.range (nh.toNat + 1)).map (fun r => s.view p (.h (opa.toNat + r)))
      let all := segEntries (elemBits fb.toNat) data (segNnz data)
      let win := all.filter (fun e => decide (64 * kbase.toNat ≤ e.k ∧ e.k < 64 * kbase.toNat + 64 * (nh.toNat + 1)))
      let old := (s.spindle p).acc k.toNat
      ∃ t a hs, exec (.mmaPacked p acc ro fa fb k opa rod nh kbase sr slen .clean) s = .next t ∧ s.IssuedFlags p t ∧
        (t.spindle p).calm =
          Spindle.next { (s.spindle p).calm with accs := (s.spindle p).accs.set k.toNat a, hanks := hs } ∧
        a.Holds
          (List.zipWith (fun (q : List Pair) i =>
              packedRow fa.toNat fb.toNat (regs.map (fun v => v.rows fa.toNat)) kbase.toNat i win
                (if isMx fb.toNat then segGroups (elemBits fb.toNat) data (segNnz data) all win else []) q)
            (chunks 64 65 (if acc then old.pairs p k.toNat else List.replicate 4096 ⟨0, 0⟩)) (List.range 64)).flatten
          ((if acc then old.count else 0) + win.length) (acc && old.long)
          (((s.readLines p line slen.toNat).take (max 1 (segLines data))).any (·.poison) || regs.any (·.poison) ||
            (acc && old.poison) || decide (slen.toNat < segLines data)) ∧
        ReadOut p ro rod.toNat k.toNat ((t.spindle p).acc k.toNat) (s.spindle p).hanks hs ∧
        t.obj Obj.spindleNonzeros p.row = satAdd 64 (s.obj Obj.spindleNonzeros p.row) win.length)) ∧
  (∀ (fa fb : Nat) (accs : List Pair) (as bs : List RowView) (i j : Nat), accs.length = 4096 → as.length = 64 →
    bs.length = 64 → i < 64 → j < 64 →
    (∃ q, accs[64 * i + j]? = some q ∧
      ∃ a b, as[i]? = some a ∧ bs[j]? = some b ∧
        (mmaAll fa fb accs as bs)[64 * i + j]? = some (mmaElem fa fb q a b) ∧
        (isMx fa = false →
          mmaElem fa fb q a b = (List.zip a.codes b.codes).foldl (fun r e => r.addTerm (denseTerm fa e.1 e.2)) q)))

/-! ## Moves, conversions, random draws, vector chains -/

/-- R71, R72, R74, R81, R101: LOAD and LOAD_T bring a hank from the store, LOAD_T transposed; COPY brings one from
another operand: elements of the format's width, and scales where the format has them (log entry 40). The lines read
correct, and no other engine's write of them is unordered with the read (R75, R89). -/
def Obligations.LoadsAndCopyWriteTheirHank : Prop :=
  ∀ (p : Site) (s : State) (fmt : BitVec 4) (hd : BitVec 5),
    (∀ (sr ssc : BitVec 36) (l m : Nat), moveBad fmt hd (sref sr) (sref ssc) = none → s.issuesOn p [opd hd] →
      Regions (s.spindle p) fmt.toNat (sref sr) (sref ssc) l m →
      (s.spindle p).Clean (sref sr).direct l (hankLines fmt.toNat) →
      (isMx fmt.toNat = true → (s.spindle p).Clean (sref ssc).direct m 2) →
      let ls := s.readLines p l (hankLines fmt.toNat)
      let cs := if isMx fmt.toNat then s.readLines p m 2 else []
      ∃ t y, exec (.load p fmt hd sr ssc .clean) s = .next t ∧ s.IssuedFlags p t ∧
        (t.spindle p).calm = y.next ∧
        OpdWritten (elemBits fmt.toNat) (lineElems (elemBits fmt.toNat) ls)
          (if isMx fmt.toNat then some (lineScales cs) else none) ((ls ++ cs).any (·.poison)) (s.spindle p).calm y (opd hd)) ∧
    (∀ (sr : BitVec 36) (l : Nat), loadTBad fmt (sref sr) = none → s.issuesOn p [opd hd] →
      (s.spindle p).extent (sref sr) (hankLines fmt.toNat) = .ok l →
      (s.spindle p).Clean (sref sr).direct l (hankLines fmt.toNat) →
      let ls := s.readLines p l (hankLines fmt.toNat)
      ∃ t y, exec (.loadT p fmt hd sr .clean) s = .next t ∧ s.IssuedFlags p t ∧
        (t.spindle p).calm = y.next ∧
        OpdWritten (elemBits fmt.toNat) (transpose64 0 (lineElems (elemBits fmt.toNat) ls)) none (ls.any (·.poison))
          (s.spindle p).calm y (opd hd)) ∧
    (∀ hsrc : BitVec 5, copyBad fmt hd hsrc = none → s.issuesOn p [opd hd, opd hsrc] →
      ∃ t y, exec (.copy p fmt hd hsrc) s = .next t ∧ s.IssuedFlags p t ∧ (t.spindle p).calm = y.next ∧
        OpdWritten (elemBits fmt.toNat) (s.view p (opd hsrc)).elems
          (if isMx fmt.toNat then some (s.view p (opd hsrc)).scales else none) (s.view p (opd hsrc)).poison
          (s.spindle p).calm y (opd hd))

/-- R71, R74, R81: STORE writes the lines of its element region, then those of its scale region, each with the poison
of the hank; every other line of the store reads as before. R70, R74: a store line reads what was last written to it. R89:
a region written without a handle is marked, at the spindle and at the instructions in the transfer engine's queue that use
lines of it without one. -/
def Obligations.StoreWritesItsRegionsAndReadsBack : Prop :=
  (∀ (p : Site) (s : State) (fmt : BitVec 4) (hd : BitVec 5) (sr ssc : BitVec 36) (l m : Nat),
    moveBad fmt hd (sref sr) (sref ssc) = none → s.issuesOn p [opd hd] →
    Regions (s.spindle p) fmt.toNat (sref sr) (sref ssc) l m →
    let v := s.view p (opd hd)
    let n := hankLines fmt.toNat
    ∃ t ls cs, exec (.store p fmt hd sr ssc) s = .next t ∧ s.IssuedFlags p t ∧
      (t.spindle p).calm = Spindle.next
        { (((s.spindle p).calm.marked (sref sr).direct l n).marked (isMx fmt.toNat && (sref ssc).direct) m 2) with
          store := (t.spindle p).store } ∧
      (t.spindle p).store.lines = putLines (putLines (s.spindle p).store.lines l ls) m cs ∧
      (t.spindle p).store.seed = (s.spindle p).store.seed ∧ (t.spindle p).store.zeroed = (s.spindle p).store.zeroed ∧
      ls.length = n ∧ (∀ x ∈ ls ++ cs, x.poison = v.poison) ∧ (v.poison = false → ls = elemLines (elemBits fmt.toNat) v.elems) ∧
      (isMx fmt.toNat = false → cs = []) ∧
      (isMx fmt.toNat = true → cs.length = 2 ∧ (v.poison = false → cs = scaleLinesOf v.scales)) ∧
      (∀ i, (i < l ∨ l + n ≤ i) → (i < m ∨ m + cs.length ≤ i) →
        Store.line p (t.spindle p).store i = Store.line p (s.spindle p).store i)) ∧
  (∀ (p : Site) (st : Store) (l i : Nat) (xs : List Line),
    Store.line p { st with lines := putLines st.lines l xs } i =
      if l ≤ i then (xs[i - l]?).getD (Store.line p st i) else Store.line p st i)

/-- R102, R103, R105: an instruction whose extent leaves the absolute range, its buffer or its handle's generation is
rejected whole: REJECTED and the flag of its cause, one count, one fault record, a tainted step, and the next
instruction; a LOAD poisons its hank, and a STORE writes no line. -/
def Obligations.RejectedMovesPoisonAndTaint : Prop :=
  ∀ (p : Site) (s : State) (fmt : BitVec 4) (hd : BitVec 5) (sr ssc : BitVec 36) (c : RejectCause),
    moveBad fmt hd (sref sr) (sref ssc) = none → s.issuesOn p [opd hd] →
    (s.spindle p).extent (sref sr) (hankLines fmt.toNat) = .bad c →
    (∃ t, exec (.store p fmt hd sr ssc) s = .next t ∧ (t.spindle p).calm = (s.spindle p).calm.next ∧
      s.IssuedFlags p { t with step := s.step } ∧ t.step = { s.step with tainted := true } ∧
      bitAt (t.obj Obj.spindleFlags p.row) 0 = true ∧
      bitAt (t.obj Obj.spindleFlags p.row) (match c with | .storeRange => 4 | .extent => 5 | .handleGen => 3) = true ∧
      t.obj Obj.spindleRejects p.row = satAdd 32 (s.obj Obj.spindleRejects p.row) 1 ∧
      t.obj Obj.faultSeqLast 0 = (s.obj Obj.faultSeqLast 0 + 1) % 2 ^ 32 ∧
      bits (t.obj Obj.faultLog (t.obj Obj.faultSeqLast 0 % 4096)) 144 16 =
        (match c with | .storeRange => 0x1503 | .extent => 0x1504 | .handleGen => 0x1505)) ∧
    (∀ e, ∃ t y, exec (.load p fmt hd sr ssc e) s = .next t ∧ (t.spindle p).calm = y.next ∧
      OpdWritten 32 [] none true (s.spindle p).calm y (opd hd) ∧
      s.IssuedFlags p { t with step := s.step } ∧ t.step = { s.step with tainted := true } ∧
      t.obj Obj.spindleRejects p.row = satAdd 32 (s.obj Obj.spindleRejects p.row) 1)

/-- R55, R56, R58, R82, R101: CVT converts every element of its source, by nearest even or with the context's chunk,
and a CVT that writes A[a] sets its ply to +0. -/
def Obligations.ConvertWritesConvertedElements : Prop :=
  ∀ (p : Site) (s : State) (fin fout : BitVec 4) (src dst : BitVec 5) (rm grad : Bool) (ctx : BitVec 2) (purpose : Byte),
    cvtBad fin fout src dst rm grad purpose = none → s.issuesOn p [opd src, opd dst] →
    let bad := (s.view p (opd src)).poison
    let cx := (s.spindle p).ctx ctx.toNat
    let r := convertAll fout.toNat ((s.values p (opd src) fin.toNat).mapIdx
      (fun n v => (v, s.rnd cx (rm || grad) (if grad then 1 else purpose.toNat) n)))
    ∃ t y, exec (.cvt p fin fout src dst rm grad ctx purpose) s = .next t ∧ s.IssuedFlags p { t with stones := s.stones } ∧
      OpdWritten (elemBits fout.toNat) (r.codes.map (BitVec.ofNat 32)) (if isMx fout.toNat then some r.scales else none) bad
        (s.spindle p).calm y (opd dst) ∧
      (t.spindle p).calm = (match opd dst with
        | .a k => if bad then y else { y with accs := y.accs.set k { y.acc k with c := List.replicate 4096 0 } }
        | _ => y).next ∧
      (r.counts.flush = 0 ∧ r.counts.sat = 0 ∧ r.counts.nonfinite = 0 → t.stones = s.stones)

/-- R83, R65: RCTX sets a context slot; RDRAW and RMASK fill their operand from the chunks of the context. -/
def Obligations.RandomInstructionsDrawThroughTheirContext : Prop :=
  ∀ (p : Site) (s : State) (slot : BitVec 2),
    (∀ (tr : Bool) (tid : W32) (ebase : BitVec 48) (estride : W32), s.issues p = true →
      ∃ t, exec (.rctx p slot tr tid ebase estride) s = .next t ∧ s.Issued p t ∧
        (t.spindle p).calm = Spindle.next
          { (s.spindle p).calm with ctxs := (s.spindle p).ctxs.set slot.toNat { tid, ebase, estride, tr } }) ∧
    (∀ (dst : BitVec 5) (purpose : Byte), purposeOk purpose.toNat = true → s.issuesOn p [opd dst] →
      (∀ mode : Bool, ∃ t y, exec (.rdraw p slot dst purpose mode) s = .next t ∧ s.IssuedFlags p t ∧
        (t.spindle p).calm = y.next ∧
        OpdWritten 32 ((List.range 4096).map (fun n =>
          chunkValue mode (s.chunk ((s.spindle p).ctx slot.toNat) purpose.toNat n))) none false (s.spindle p).calm y (opd dst)) ∧
      (∀ thresh : W16, ∃ t y, exec (.rmask p slot dst purpose thresh) s = .next t ∧ s.IssuedFlags p t ∧
        (t.spindle p).calm = y.next ∧
        OpdWritten 32 ((List.range 4096).map (fun n =>
          if s.chunk ((s.spindle p).ctx slot.toNat) purpose.toNat n < thresh.toNat then 0x3F800000 else 0)) none false
          (s.spindle p).calm y (opd dst)))

/-- R110 to R117: VCHAIN runs its stages over its sources and converts the result; VRED_ROW and VRED_COL reduce it
along rows and columns. The descriptor lies at its store reference, reads correct, and the loader accepts it. -/
def Obligations.VectorChainsRunTheirStages : Prop :=
  ∀ (p : Site) (s : State) (src src2 dst : BitVec 5) (nst : BitVec 3) (sr : BitVec 36) (ctx : BitVec 2) (grad rm : Bool)
    (line : Nat) (op : VOp), (sref sr).reserved = false → (sref sr).am = 0 → (sref sr).lsel = 0 →
    (s.spindle p).extent (sref sr) 2 = .ok line → (s.spindle p).Clean true line 2 →
    (s.readLines p line 2).any (·.poison) = false →
    let c := chainOf (linesNat (s.readLines p line 2)) nst.toNat
    c.bad op src src2 dst (sref sr) (grad || rm) = none →
    s.issuesOn p (c.reads op (opd src) (opd src2) ++ vectorDsts op c dst) →
    let bad := (c.reads op (opd src) (opd src2)).any (s.opdPoison p)
    let cx := (s.spindle p).ctx ctx.toNat
    let rnd := (List.range 4096).map (fun n => s.rnd cx (grad || rm) 1 n)
    let chunkOf := fun purpose => (List.range 4096).map (fun n => s.chunk cx purpose n)
    let q := s.sources p c (opd src) (opd src2)
    let run := runStages q rnd chunkOf c.stages
    let r := convertAll c.fdst (List.zip (run.prev.map dec32) rnd)
    (op = .chain → ∃ t y, exec (.vchain p src src2 dst nst sr ctx grad rm) s = .next t ∧
      s.IssuedFlags p { t with stones := s.stones } ∧ (t.spindle p).calm = y.next ∧
      OpdWritten (elemBits c.fdst) (r.codes.map (BitVec.ofNat 32)) (if isMx c.fdst then some r.scales else none) bad
        (s.spindle p).calm y (opd dst)) ∧
    (op = .redRow → ∃ t y, exec (.vredRow p src src2 dst nst sr ctx grad rm) s = .next t ∧
      s.IssuedFlags p { t with stones := s.stones } ∧ (t.spindle p).calm = y.next ∧
      OpdWritten 32 (reduceRows c.rop run.prev) none bad (s.spindle p).calm y (opd dst)) ∧
    (op = .redCol → ∃ t y, exec (.vredCol p src src2 dst nst sr ctx grad rm) s = .next t ∧
      s.IssuedFlags p { t with stones := s.stones } ∧ (t.spindle p).calm = y.next ∧
      OpdWritten 32 (reduceCols c.rop run.prev) none bad (s.spindle p).calm y (opd dst))

/-- R120, R35: VWIDE runs its stages on pairs, the accumulator's own where SRC is one, and writes the exact results
converted, or the pairs to two registers, a NaN as the canonical one. -/
def Obligations.WideChainsRunOnPairs : Prop :=
  ∀ (p : Site) (s : State) (src src2 dst : BitVec 5) (nst : BitVec 3) (sr : BitVec 36) (ctx : BitVec 2) (grad rm : Bool)
    (line : Nat), (sref sr).reserved = false → (sref sr).am = 0 → (sref sr).lsel = 0 →
    (s.spindle p).extent (sref sr) 2 = .ok line → (s.spindle p).Clean true line 2 →
    (s.readLines p line 2).any (·.poison) = false →
    let c := chainOf (linesNat (s.readLines p line 2)) nst.toNat
    c.bad .wide src src2 dst (sref sr) (grad || rm) = none →
    s.issuesOn p (c.reads .wide (opd src) (opd src2) ++ vectorDsts .wide c dst) →
    let bad := (c.reads .wide (opd src) (opd src2)).any (s.opdPoison p)
    let cx := (s.spindle p).ctx ctx.toNat
    let rnd := (List.range 4096).map (fun n => s.rnd cx (grad || rm) 1 n)
    let q := s.sources p c (opd src) (opd src2)
    let first := match opd src with
      | .a k => ((s.spindle p).acc k).pairs p k
      | o => ((s.view p o).as32 c.fsrc).map (fun v => ⟨v, 0⟩)
    let w := (c.stages.foldl (fun r t => runWide q t r) { prev := first, tap := [] }).prev
    let r := convertAll c.fdst (List.zip (w.map Pair.exact) rnd)
    ∃ t y, exec (.vwide p src src2 dst nst sr ctx grad rm) s = .next t ∧ s.IssuedFlags p { t with stones := s.stones } ∧
      (t.spindle p).calm = y.next ∧
      (c.pair = false →
        OpdWritten (elemBits c.fdst) (r.codes.map (BitVec.ofNat 32)) (if isMx c.fdst then some r.scales else none) bad
          (s.spindle p).calm y (opd dst)) ∧
      (c.pair = true → ∃ z, OpdWritten 32 (w.map (fun e => enc32 (dec32 e.s))) none bad (s.spindle p).calm z (opd dst) ∧
        OpdWritten 32 (w.map (fun e => enc32 (dec32 e.c))) none bad z y (opdSucc dst))

/-- R125: SUMMARY combines each of its scalars with its slot by the slot's operation, and leaves the other slots.
R131, R133, R134: global results reach every bolt controller with the same bits, and release a read of SU_WAIT that
waits for them; SU_WAIT blocks until the results of its doff have arrived. -/
def Obligations.SummariesCombineAndReachEveryBolt : Prop :=
  (∀ (p : Site) (s : State) (src : BitVec 5) (count : BitVec 3) (first : BitVec 12), first.toNat + count.toNat ≤ 4095 →
    s.issuesOn p [opd src] →
    ∃ t sums, exec (.summary p src count first) s = .next t ∧ s.IssuedFlags p t ∧
      (t.spindle p).calm = Spindle.next { (s.spindle p).calm with sums := sums } ∧
      sums.length = (s.spindle p).sums.length ∧
      ∀ n, n < sums.length → nth sums n {} =
        if n ≤ count.toNat then
          (nth (s.spindle p).sums n {}).take (s.planOp n) (s.scalar p (opd src) (first.toNat + n)) (s.view p (opd src)).poison
        else nth (s.spindle p).sums n {}) ∧
  (∀ (s : State) (r : DoffResult) (rest : List DoffResult), s.up = true → s.fabric.results = r :: rest →
    ∃ t, exec .summaryResultsArrive s = .next t ∧
      (∀ b : BoltNo, t.bolt b.val = { s.bolt b.val with
        suDone := r.dseq, suRes := r.values, suFlags := BitVec.ofNat 16 (r.empty.toNat + r.poison.toNat * 2 ^ 8)
        suBlocked := (s.bolt b.val).suBlocked && (s.bolt b.val).suWait != r.dseq }) ∧
      t = { s with bolts := t.bolts, fabric := { s.fabric with results := rest, doneSeqs := s.fabric.doneSeqs ++ [r.dseq] } }) ∧
  (∀ (s : State) (b : BoltNo) (dseq : W16), s.up = true → (s.bolt b.val).progRunning = true →
    (s.bolt b.val).suBlocked = false →
    ∃ t, exec (.suWait b dseq) s = .next t ∧ s.OnlyBolt b noRows t ∧
      t.bolt b.val = { s.bolt b.val with suWait := dseq, suBlocked := !s.fabric.doneSeqs.contains dseq })

/-! ## Streams at the spindle, messages, reductions, handles -/

/-- R181, R184: SOPEN joins the transfer engine's queue, and SCLOSE after the END lea, for which it waits at issue. At the
head of the queue SOPEN gives the stream its pool and queue and reports the opening with a flit on VC0 (log entry 41), and
SCLOSE advances the generation of every buffer of the pool and closes the stream at this spindle. -/
def Obligations.StreamsOpenAndCloseAtTheSpindle : Prop :=
  (∀ (p : Site) (s : State) (stream : W16), s.queuesOn p [] →
    (∀ (queue : BitVec 3) (bufFirst bufCount : Byte), s.sopenBad p stream.toNat bufFirst.toNat bufCount.toNat = false →
      ∃ t, exec (.sopen p stream queue bufFirst bufCount) s = .next t ∧
        s.Queued p (if bufCount = 0 then []
          else [.sopen stream.toNat queue.toNat bufFirst.toNat bufCount.toNat]) t) ∧
    (∀ e : SpStream, (s.streamRow? stream.toNat).isSome = true → (s.spindle p).stream? stream.toNat = some e →
      e.ended = true → ∃ t, exec (.sclose p stream) s = .next t ∧ s.Queued p [.sclose stream.toNat] t)) ∧
  (∀ (p : Site) (s : State) (stream : W16) (e : SpStream), (s.streamRow? stream.toNat).isSome = true →
    (s.spindle p).stream? stream.toNat = some e → e.ended = false → exec (.sclose p stream) s = .next s) ∧
  (∀ (p : Site) (s : State) (rest : List Xfer), s.engineFree p.row = true →
    (∀ id queue first count : Nat, (s.spindle p).xq = .sopen id queue first count :: rest →
      ∃ u, s.engineStep p.row = some u ∧
        u.spindle p = { s.spindle p with
          xq := rest
          streams := (s.spindle p).streams.filter (fun f => f.stream != id) ++ [{ stream := id, queue, first, count }] } ∧
        (p.row, count, (s.spindle p).smallest first count) ∈ (u.engine id).opened ∧
        (∀ k, k ≠ id → tget u.streams.engines k = tget s.streams.engines k) ∧
        u.obj Obj.fabricFlits 0 = satAdd 64 (s.obj Obj.fabricFlits 0) 1 ∧
        s.OnlySpindle p (oneRow Obj.fabricFlits 0) { u with streams := s.streams }) ∧
    (∀ (id : Nat) (e : SpStream), (s.spindle p).xq = .sclose id :: rest → (s.spindle p).stream? id = some e →
      ∃ u bufs, s.engineStep p.row = some u ∧ s.OnlySpindle p noRows u ∧
        u.spindle p = { s.spindle p with
          xq := rest, bufs := bufs, streams := (s.spindle p).streams.filter (fun f => f.stream != e.stream) } ∧
        ∀ b, (tget bufs b).getD {} =
          if e.first ≤ b ∧ b < e.first + e.count then { (s.spindle p).buf b with gen := ((s.spindle p).buf b).gen + 1 }
          else (s.spindle p).buf b))

/-- R143, R152, R154, R155, R156: SEND and SENDH join the transfer engine's queue, with the lines of their region or their
hank; LENGTH 0 is a no-op. The engine forms the flits of two lines each, numbered and marked first and last, with one copy
due at each destination of the shape; each then enters the local input of its router where the channel has a credit left, and
is counted. R141, R145, R156: a flit moves on only into a buffer with room, its own buffer keeps it until every copy has gone,
and the outputs of the routers lead from the source to each destination once. -/
def Obligations.SendsPostOneCopyPerDestination : Prop :=
  (∀ (p : Site) (s : State) (vc : BitVec 2) (shape : BitVec 12) (length : BitVec 18),
    (∀ (sr : BitVec 36) (queue : BitVec 3), s.sendBad p vc shape.toNat (sref sr) true = none → s.queuesOn p [] →
      (∀ e, length = 0 → ∃ t, exec (.send p vc shape sr length queue e) s = .next t ∧ s.Queued p [] t) ∧
      (∀ e l, length ≠ 0 → (s.spindle p).extent (sref sr) length.toNat = .ok l →
        ∃ t, exec (.send p vc shape sr length queue e) s = .next t ∧
          s.Queued p [.send { vc := vc.toNat, shape := shape.toNat, line := l, length := length.toNat, ecc := e
                              handle := (s.refHandle p (sref sr)).map (fun h => (queue.toNat, h)) }] t)) ∧
    (∀ (hank : BitVec 5) (w : Nat) (mx : Bool), hankWidth length.toNat = some (w, mx) →
      s.sendhBad p vc shape.toNat hank length.toNat true = none → s.queuesOn p [opd hank] →
      ∃ t, exec (.sendh p vc shape hank length) s = .next t ∧
        s.Queued p [.send { vc := vc.toNat, shape := shape.toNat, line := 0, length := length.toNat
                            hank := some ((s.view p (opd hank)).lines w mx) }] t)) ∧
  (∀ (p : Site) (s : State) (o : SendOp) (rest : List Xfer), s.engineFree p.row = true →
    (s.spindle p).xq = .send o :: rest →
    (∀ ls, o.started = false → o.hank = some ls → ∃ u fs, s.engineStep p.row = some u ∧
      (u.spindle p).xq = .send { o with started := true, left := fs } :: rest ∧
      u.fabric = { s.fabric with
        nextMsg := s.fabric.nextMsg + 1
        sending := tput s.fabric.sending s.fabric.nextMsg
          { shape := o.shape, src := p.row, lines := ls.length, due := (s.shape o.shape).dests, handle := o.handle } } ∧
      fs.length = (ls.length + 1) / 2 ∧
      ∀ (i : Nat) (f : NetFlit), fs[i]? = some f →
        f.id = s.fabric.nextMsg ∧ f.shape = o.shape ∧ f.sb.vc = o.vc ∧ f.sb.tag = o.shape ∧
        f.sb.dx = (s.shape o.shape).x0 ∧ f.sb.dy = (s.shape o.shape).y0 ∧ f.sb.seq = i % 4096 ∧
        f.sb.first = decide (i = 0) ∧ f.sb.last = decide (i + 1 = fs.length) ∧
        f.words = ((ls.drop (2 * i)).take 2).flatMap Line.words ∧
        f.sb.poison = ((ls.drop (2 * i)).take 2).any (·.poison)) ∧
    (o.started = false → o.hank = none → o.ecc = .clean → o.undef = [] →
      (s.spindle p).store.errors o.line o.length = .clean →
      (o.handle = none → (s.spindle p).storedIn o.line o.length = []) → ∃ u fs, s.engineStep p.row = some u ∧
        (u.spindle p).xq = .send { o with started := true, left := fs } :: rest ∧
        fs.flatMap NetFlit.words = (s.readLines p o.line o.length).flatMap Line.words ∧
        u.fabric = { s.fabric with
          nextMsg := s.fabric.nextMsg + 1
          sending := tput s.fabric.sending s.fabric.nextMsg
            { shape := o.shape, src := p.row, lines := o.length, due := (s.shape o.shape).dests, handle := o.handle } }) ∧
    (∀ f fs, o.started = true → o.left = f :: fs → f.sb.vc < 4 →
      ((s.spindle p).router.credit 4 f.sb.vc = true → ∃ u, s.engineStep p.row = some u ∧
        (u.spindle p).xq = .send { o with left := fs } :: rest ∧
        getList (u.spindle p).router.bufs (16 + f.sb.vc) = getList (s.spindle p).router.bufs (16 + f.sb.vc) ++
          [{ f with todo := s.outsAt f.shape p.row, born := s.fabric.cycles }] ∧
        u.obj Obj.fabricFlits f.sb.vc = satAdd 64 (s.obj Obj.fabricFlits f.sb.vc) 1 ∧
        s.OnlySpindle p (oneRow Obj.fabricFlits f.sb.vc) u) ∧
      ((s.spindle p).router.credit 4 f.sb.vc = false → s.engineStep p.row = none))) ∧
  (∀ (s : State) (row out n : Nat) (f : NetFlit), out < 4 → meshNext (siteRow row) out = some n → s.heldAt n = false →
    ((s.at n).router.credit (opposite out) f.sb.vc = false → s.give row out f = none) ∧
    ((s.at n).router.credit (opposite out) f.sb.vc = true → ∃ t, s.give row out f = some t ∧
      getList (t.at n).router.bufs (4 * opposite out + f.sb.vc) =
        getList (s.at n).router.bufs (4 * opposite out + f.sb.vc) ++ [{ f with todo := s.outsAt f.shape n }])) ∧
  (∀ (s t : State) (row out vc input : Nat) (f : NetFlit) (fs : List NetFlit), s.give row out f = some t →
    getList (s.at row).router.bufs (4 * input + vc) = f :: fs → f.todo.contains out = true →
    ∃ u, s.moveFrom row out vc input = some u ∧
      getList (u.at row).router.bufs (4 * input + vc) =
        if f.todo.erase out = [] then fs else { f with todo := f.todo.erase out } :: fs) ∧
  (∀ h : Shape, h.x0 ≤ h.x1 → h.x1 < 128 → h.y0 ≤ h.y1 → h.y1 < 72 → h.sx < 128 → h.sy < 72 →
    (h.walk 200 h.sx h.sy).Perm h.dests)

/-- R154, R155: RECV and RECVH join the transfer engine's queue; LENGTH 0 is a no-op. The receive at the head takes the flits of
the next message sent under its shape entry, and no other's. R74, R154, R155: RECV_COMPLETE, once its last flit has come,
writes the message into its region or hank, all of it poisoned where a flit of it was, frees the queue for the instructions
behind it, and puts its handle, if any, on its queue; the message's own SEND has one destination less to wait for, and its
handle is put when none is left. -/
def Obligations.ReceivesWaitAndCompleteWithTheirMessage : Prop :=
  (∀ (p : Site) (s : State) (vc : BitVec 2) (shape : BitVec 12) (length : BitVec 18),
    (∀ (sr : BitVec 36) (queue : BitVec 3), s.sendBad p vc shape.toNat (sref sr) false = none → s.queuesOn p [] →
      (length = 0 → ∃ t, exec (.recv p vc shape sr length queue) s = .next t ∧ s.Queued p [] t) ∧
      (∀ l, length ≠ 0 → (s.spindle p).extent (sref sr) length.toNat = .ok l →
        ∃ t, exec (.recv p vc shape sr length queue) s = .next t ∧
          s.Queued p [.recv { shape := shape.toNat, line := l, length := length.toNat, queue := queue.toNat
                              handle := s.refHandle p (sref sr) }] t)) ∧
    (∀ hank : BitVec 5, s.sendhBad p vc shape.toNat hank length.toNat false = none → s.queuesOn p [opd hank] →
      ∃ t, exec (.recvh p vc shape hank length) s = .next t ∧
        s.Queued p [.recv { shape := shape.toNat, line := 0, length := length.toNat, queue := 0, handle := none
                            hank := some hank }] t)) ∧
  (∀ (p : Site) (s : State) (o : RecvOp) (rest : List Xfer) (f : NetFlit), (s.spindle p).xq = .recv o :: rest →
    (o.shape ≠ f.shape → s.ejectMsg p.row f = none) ∧
    (∀ i, o.shape = f.shape → o.id = some i → i ≠ f.id → s.ejectMsg p.row f = none) ∧
    (o.shape = f.shape → (o.id = some f.id ∨ (o.id = none ∧ f.sb.first = true ∧
        ∃ e, s.nextFor o.shape p.row = some (f.id, e) ∧ e.lines = o.length)) →
      ∃ u, s.ejectMsg p.row f = some u ∧ s.OnlySpindle p noRows u ∧
        u.spindle p = { s.spindle p with
          xq := .recv { o with id := some f.id, got := o.got ++ f.lines } :: rest })) ∧
  (∀ (p : Site) (s : State) (o : RecvOp) (rest : List Xfer), s.up = true → s.engineFree p.row = true →
    (s.spindle p).xq = .recv o :: rest → o.length ≤ o.got.length → o.queue < (s.spindle p).queues.length →
    ∃ u, exec (.recvComplete p) s = .next u.flow ∧ (u.spindle p).xq = rest ∧
      (o.hank = none → o.undef = [] →
        (∀ i x, o.got[i]? = some x → (Store.line p (u.spindle p).store (o.line + i)).poison = o.got.any (·.poison) ∧
          (o.got.any (·.poison) = false → Store.line p (u.spindle p).store (o.line + i) = x)) ∧
        (∀ l, (l < o.line ∨ o.line + o.got.length ≤ l) →
          Store.line p (u.spindle p).store l = Store.line p (s.spindle p).store l) ∧
        (u.spindle p).hanks = (s.spindle p).hanks ∧ (u.spindle p).accs = (s.spindle p).accs) ∧
      (∀ h w mx, o.hank = some h → hankWidth o.got.length = some (w, mx) →
        ∃ y, OpdWritten w (lineElems w (o.got.take (8 * w))) (if mx then some (lineScales (o.got.drop (8 * w))) else none)
          (o.got.any (·.poison)) (s.spindle p) y (opd h) ∧
          (u.spindle p).hanks = y.hanks ∧ (u.spindle p).accs = y.accs ∧ (u.spindle p).store = (s.spindle p).store) ∧
      (∀ h, o.handle = some h → h ∈ nth (u.spindle p).queues o.queue [] ∨ (o.queue, h) ∈ (u.spindle p).puts) ∧
      (∀ i e, o.id = some i → tget s.fabric.sending i = some e →
        (e.due.erase p.row ≠ [] → u.fabric.sending = tput s.fabric.sending i { e with due := e.due.erase p.row }) ∧
        (e.due.erase p.row = [] → u.fabric.sending = tdel s.fabric.sending i ∧
          ∀ q h x, e.handle = some (q, h) → tget s.spindles e.src = some x → q < x.queues.length →
            h ∈ nth (u.at e.src).queues q [] ∨ (q, h) ∈ (u.at e.src).puts)) ∧
      u = { s with
            objs := u.objs, dict := { s.dict with copies := u.dict.copies }, spindles := u.spindles
            fabric := { s.fabric with sending := u.fabric.sending }, free := u.free } ∧
      s.RowsOnly (spindleRows p) u)

/-- R157, R160: RDECL joins the transfer engine's queue, waiting at issue while the RID or sixteen are active; RSEND joins it
where its RID is active at the router, and RRECV as it comes. At the head of the queue RDECL enters its declaration at the
router, with the flits that wait for it (R161), and RSEND becomes the local input of its RID, one flit at a time where the
declaration takes one; each is counted. -/
def Obligations.ReductionsAreDeclaredFedAndAwaited : Prop :=
  (∀ (p : Site) (s : State) (rid : W16), s.queuesOn p [] →
    (∀ (inputs : BitVec 5) (out : BitVec 3) (twin : Bool) (length : BitVec 18), rdeclBad p out = none →
      (length = 0 ∨ inputs = 0 →
        ∃ t, exec (.rdecl p rid inputs out twin length) s = .next t ∧ s.Queued p [] t) ∧
      (length ≠ 0 → inputs ≠ 0 → (s.spindle p).mayDeclare rid.toNat = true →
        ∃ t, exec (.rdecl p rid inputs out twin length) s = .next t ∧
          s.Queued p [.rdecl { rid := rid.toNat, inputs, out := out.toNat, twin, lines := length.toNat }] t) ∧
      (length ≠ 0 → inputs ≠ 0 → (s.spindle p).mayDeclare rid.toNat = false →
        exec (.rdecl p rid inputs out twin length) s = .next s)) ∧
    (∀ (sr : BitVec 36) (length : BitVec 18), (sref sr).reserved = false → length ≠ 0 →
      (∀ e l, ((s.spindle p).router.decl rid.toNat).isSome = true → (s.spindle p).extent (sref sr) length.toNat = .ok l →
        ∃ t, exec (.rsend p rid sr length e) s = .next t ∧
          s.Queued p [.rsend { rid := rid.toNat, line := l, length := length.toNat, handle := s.refHandle p (sref sr)
                               ecc := e }] t) ∧
      (∀ e, (s.spindle p).router.decl rid.toNat = none → exec (.rsend p rid sr length e) s = .next s) ∧
      (∀ l, (s.spindle p).extent (sref sr) length.toNat = .ok l →
        ∃ t, exec (.rrecv p rid sr length) s = .next t ∧
          s.Queued p [.rrecv { rid := rid.toNat, line := l, length := length.toNat
                               handle := s.refHandle p (sref sr) }] t)) ∧
    (∀ sr : BitVec 36, (sref sr).reserved = false →
      (∀ e, ∃ t, exec (.rsend p rid sr 0 e) s = .next t ∧ s.Queued p [] t) ∧
      (∃ t, exec (.rrecv p rid sr 0) s = .next t ∧ s.Queued p [] t))) ∧
  (∀ (p : Site) (s : State) (rest : List Xfer), s.engineFree p.row = true →
    (∀ d : Decl, (s.spindle p).xq = .rdecl d :: rest →
      ((s.spindle p).router.decls.length < 16 → (s.spindle p).router.decl d.rid = none →
        ∃ u, s.engineStep p.row = some u ∧ s.OnlySpindle p noRows u ∧
          u.spindle p = { s.spindle p with router := (s.spindle p).router.declare d, xq := rest }) ∧
      (16 ≤ (s.spindle p).router.decls.length ∨ ((s.spindle p).router.decl d.rid).isSome = true →
        s.engineStep p.row = none)) ∧
    (∀ o : RsendOp, (s.spindle p).xq = .rsend o :: rest →
      (o.started = false → o.ecc = .clean → o.undef = [] → (s.spindle p).store.errors o.line o.length = .clean →
        (o.handle = none → (s.spindle p).storedIn o.line o.length = []) → ∃ u, s.engineStep p.row = some u ∧
          (u.spindle p).xq = .rsend { o with started := true, left := toFlits (s.readLines p o.line o.length) } :: rest) ∧
      (∀ f fs, o.started = true → o.left = f :: fs →
        ((s.spindle p).router.absorbs o.rid 4 = true → ∃ u, s.engineStep p.row = some u ∧
          u.spindle p = { s.spindle p with
            router := (s.spindle p).router.feed o.rid 4 [f], xq := .rsend { o with left := fs } :: rest } ∧
          u.obj Obj.fabricFlits 1 = satAdd 64 (s.obj Obj.fabricFlits 1) 1 ∧
          s.OnlySpindle p (oneRow Obj.fabricFlits 1) u) ∧
        ((s.spindle p).router.absorbs o.rid 4 = false → s.engineStep p.row = none))))

/-- R158: the router waits until the next flit has arrived from every listed input, and takes them in the order west,
north, east, south, local; without TWIN the first input's values are the running values, and each later input is added
element by element in binary32; with TWIN the first input's pairs are the running pairs, and each later pair is added by
the pair rule; the result is poisoned where any input is. R157, R159, R161: REDUCTION_COMBINE takes the combined flits from
their declaration, which retires with its last, and sends the combination on: to the RRECV of its RID, to the neighbour's
router where it has room, or out of an edge port that grants it; else it waits. -/
def Obligations.CombinationAddsInPortOrderAndLeavesByItsOutput : Prop :=
  (∀ (f : Flit) (fs : List Flit) (i : Nat), (∀ g ∈ fs, g.words.length = f.words.length) → i < f.words.length →
    nth (combineAll false (f :: fs)).words i 0 = fs.foldl (fun a g => add32 a (nth g.words i 0)) (nth f.words i 0)) ∧
  (∀ (f : Flit) (fs : List Flit) (i : Nat) (q : Pair), (∀ g ∈ fs, g.words.length = f.words.length) →
    f.words.length % 2 = 0 → 2 * i < f.words.length →
    q = fs.foldl (fun (a : Pair) g => a.addPair ⟨nth g.words (2 * i) 0, nth g.words (2 * i + 1) 0⟩)
      ⟨nth f.words (2 * i) 0, nth f.words (2 * i + 1) 0⟩ →
    nth (combineAll true (f :: fs)).words (2 * i) 0 = q.s ∧ nth (combineAll true (f :: fs)).words (2 * i + 1) 0 = q.c) ∧
  (∀ (twin : Bool) (f : Flit) (fs : List Flit), (combineAll twin (f :: fs)).poison = (f :: fs).any (·.poison)) ∧
  (∀ d : Decl, (∀ fs, d.heads = some fs ↔ ([0, 1, 2, 3, 4].filter d.takes).map (fun i => (nth d.inq i []).head?) = fs.map some)) ∧
  (∀ (p : Site) (s : State) (rid : W16) (d : Decl), (s.spindle p).router.decl rid.toNat = some d →
    (∃ i, i < 5 ∧ d.takes i = true ∧ nth d.inq i [] = []) → exec (.reductionCombine p rid) s = .next s) ∧
  (∀ (p : Site) (s : State) (rid : W16) (d : Decl) (fs : List Flit), s.up = true → s.isHeld p = false →
    (s.spindle p).router.decl rid.toNat = some d → d.heads = some fs →
    let f := combineAll d.twin fs
    let left := fun u : State => (u.spindle p).router.decl rid.toNat = if d.flits ≤ d.sent + 1 then none else some d.pop
    (∀ o rest, d.out = 4 → (s.spindle p).xq = .rrecv o :: rest → o.rid = rid.toNat → (s.spindle p).puts = [] →
      ∃ u, exec (.reductionCombine p rid) s = .next u.flow ∧ left u ∧
        (∀ got, got = (o.got ++ f.lines).take o.length →
          (got.length < o.length → (u.spindle p).xq = .rrecv { o with got } :: rest) ∧
          (got.length = o.length → (u.spindle p).xq = rest ∧ (o.undef = [] → ∀ i x, got[i]? = some x →
            (Store.line p (u.spindle p).store (o.line + i)).poison = got.any (·.poison) ∧
            (got.any (·.poison) = false → Store.line p (u.spindle p).store (o.line + i) = x)))) ∧
        s.OnlySpindle p (fun id row => spindleRows p id row ∨ oneRow Obj.reductionWait 0 id row) u) ∧
    (d.out = 4 → (∀ o rest, (s.spindle p).xq = .rrecv o :: rest → o.rid ≠ rid.toNat) →
      exec (.reductionCombine p rid) s = .next s) ∧
    (∀ row, d.out < 4 → meshNext p d.out = some row → s.heldAt row = false →
      (∀ r, (s.at row).router.arrive d.rid (opposite d.out) f = some r →
        ∃ u, exec (.reductionCombine p rid) s = .next u.flow ∧ left u ∧ (u.at row).router = r ∧
          s.OnlyRows (oneRow Obj.reductionWait 0) { u with spindles := s.spindles }) ∧
      ((s.at row).router.arrive d.rid (opposite d.out) f = none → exec (.reductionCombine p rid) s = .next s)) ∧
    (∀ port, d.out < 4 → meshNext p d.out = none → edgePort p d.out = some port → s.portLive port = true →
      (s.arbiter 1 (portInst port 1)).holder = none → tget s.dict.pending (objKey Obj.arbPrio 1) = none →
      ∃ u, exec (.reductionCombine p rid) s = .next u.flow ∧ left u ∧
        (tget u.fabric.edge port).getD [] = (tget s.fabric.edge port).getD [] ++
          [{ rid := d.rid, flit := f, twin := d.twin, last := decide (d.flits ≤ d.sent + 1) }] ∧
        s.OnlySpindle p (fun id row => oneRow Obj.reductionWait 0 id row ∨ oneRow Obj.edgePortBusy port id row)
          { u with fabric := s.fabric }) ∧
    (∀ port v, d.out < 4 → meshNext p d.out = none → edgePort p d.out = some port → v ≠ 1 →
      (s.arbiter 1 (portInst port 1)).holder = some (v, 0) → (s.arbiter 1 (portInst port 1)).passed ≠ 0 →
      exec (.reductionCombine p rid) s = .next s))

/-- R166: a handle's fields read back. R167 to R170: QMAKE forms a handle, QPUT and QGET move one through a queue,
QREL releases the buffer and gives it back to the stream that held it (R182). The place QGET frees lets a waiting handle in
(R169). -/
def Obligations.HandlesMoveThroughSlotsAndQueues : Prop :=
  (∀ (b n : Nat) (g : BitVec 4), b < 256 → n < 2 ^ 18 →
    handleBuf (mkHandle b g n) = b ∧ handleGen (mkHandle b g n) = g ∧ handleLen (mkHandle b g n) = n) ∧
  (∀ (p : Site) (s : State) (slot : BitVec 3), s.issues p = true →
    (∀ (buf : Byte) (length : BitVec 18),
      (length = 0 → ∃ t, exec (.qmake p slot buf length) s = .next t ∧ s.Issued p t ∧
        (t.spindle p).calm = (s.spindle p).calm.next) ∧
      (length ≠ 0 → length.toNat ≤ ((s.spindle p).buf buf.toNat).size →
        ∃ t, exec (.qmake p slot buf length) s = .next t ∧ s.Issued p t ∧
          (t.spindle p).calm = Spindle.next { (s.spindle p).calm with
            slots := (s.spindle p).slots.set slot.toNat
              (Slot.mk (mkHandle buf.toNat ((s.spindle p).buf buf.toNat).gen length.toNat) true) })) ∧
    (∀ queue : BitVec 3, (s.spindle p).slotLive slot.toNat = true →
      s.bufferFree p (handleBuf ((s.spindle p).slot slot.toNat).handle) = true →
      (((nth (s.spindle p).queues queue.toNat []).length < 16 →
        ∃ t, exec (.qput p queue slot) s = .next t ∧ s.Issued p t ∧
          (t.spindle p).calm = Spindle.next { (s.spindle p).calm with
            queues := (s.spindle p).queues.set queue.toNat
              (nth (s.spindle p).queues queue.toNat [] ++ [((s.spindle p).slot slot.toNat).handle]) }) ∧
      (16 ≤ (nth (s.spindle p).queues queue.toNat []).length → exec (.qput p queue slot) s = .next s))) ∧
    (∀ queue : BitVec 3,
      (∀ h rest, nth (s.spindle p).queues queue.toNat [] = h :: rest →
        ∃ u, exec (.qget p queue slot) s = .next (u.flow.advance p) ∧ s.Issued p u ∧
          (u.spindle p).calm = Spindle.settle { (s.spindle p).calm with
            queues := (s.spindle p).queues.set queue.toNat rest
            slots := (s.spindle p).slots.set slot.toNat (Slot.mk h true) } ∧
          ((s.spindle p).puts = [] → (u.spindle p).queues = (s.spindle p).queues.set queue.toNat rest)) ∧
      (nth (s.spindle p).queues queue.toNat [] = [] → exec (.qget p queue slot) s = .next s)) ∧
    ((s.spindle p).slotLive slot.toNat = true →
      let buf := handleBuf ((s.spindle p).slot slot.toNat).handle
      s.bufferFree p buf = true →
      ∃ u, exec (.qrel p slot) s = .next (u.flow.advance p) ∧
        (u.spindle p).calm = { (s.spindle p).calm with
          bufs := tput (s.spindle p).bufs buf
            { (s.spindle p).buf buf with gen := ((s.spindle p).buf buf).gen + 1 }
          slots := (s.spindle p).slots.set slot.toNat { (s.spindle p).slot slot.toNat with valid := false }
          streams := (s.spindle p).streams.map (fun e => { e with busy := e.busy.erase buf }) } ∧
        ((∀ e ∈ (s.spindle p).streams, buf ∉ e.busy) → s.Issued p u) ∧
        (∀ e g, (s.spindle p).streams = [e] → buf ∈ e.busy → tget s.streams.engines e.stream = some g →
          u.streams = { s.streams with
            engines := tput s.streams.engines e.stream
              { g with releases := tput g.releases p.row ((tget g.releases p.row).getD 0 + 1) } })))

/-! ## The doff and the bolt controllers -/

/-- R127, R171: DOFF begins to wait with its DSEQ; at its arrival the summary slots travel with it and return to
unwritten. R128, R172: with every present spindle arrived at one DSEQ the root completes the doff: DOFF_LAST,
DOFF_COUNT, every spindle goes on, and the global results set out. R172, R173: DOFF_COMPLETE with differing DSEQs, and
a watchdog that expires while every missing spindle answers, halt the program and end an evaluation at once: it goes
to the STEP boundary and will stop there. -/
def Obligations.DoffWaitsCompletesOrHaltsTheProgram : Prop :=
  (∀ (p : Site) (s : State),
    (∀ dseq : W16, s.issues p = true → ∃ t, exec (.doff p dseq) s = .next t ∧ s.Issued p t ∧
      (t.spindle p).calm = Spindle.next { (s.spindle p).calm with atDoff := some dseq }) ∧
    (s.mayArrive p = true → ∃ t, exec (.doffArrive p) s = .next t ∧ s.OnlySpindle p noRows t ∧
      t.spindle p = { (s.spindle p).quiet with
        arrived := (s.spindle p).atDoff, carried := (s.spindle p).sums, sums := List.replicate 8 {} }) ∧
    (s.mayArrive p = false → exec (.doffArrive p) s = .next s)) ∧
  (∀ (s : State) (d : W16) (l : List Nat), s.up = true → s.step.mbRunning = true → s.hold.counts = [] →
    s.arrivals = some (d.toNat :: l) → (∀ e ∈ l, e = d.toNat) → s.faults.doffsAtStop = 0 →
    ∃ t, exec .doffComplete s = .next t ∧ t.obj Obj.doffLast 0 = d.toNat ∧
      t.obj Obj.doffCount 0 = satAdd 64 (s.obj Obj.doffCount 0) 1 ∧
      (∀ r, tget t.spindles r = (tget s.spindles r).map Spindle.release) ∧
      t.fabric.results = s.fabric.results ++ [s.doffResult d] ∧ t.fabric.watchdog = 0 ∧
      t = { s with
            objs := t.objs, dict := { s.dict with copies := t.dict.copies }, spindles := t.spindles, fabric := t.fabric
            step := t.step } ∧
      s.RowsOnly (rowsOf [Obj.doffLast, Obj.doffCount, Obj.summaryLast, Obj.summaryLastSeq, Obj.lossLocal, Obj.tokensLocal]) t ∧
      s.SameBytes t) ∧
  (∀ (s : State), s.up = true → s.step.mbRunning = true → s.hold.counts = [] → s.step.evaluating = true →
    s.step.slots = [] →
    (∀ (a b : Nat) (l : List Nat), s.arrivals = some (a :: l) → b ∈ l → b ≠ a →
      ∃ t, exec .doffComplete s = .next t ∧ t.prog.halted173 = true ∧ t.step.poisoned = true ∧ t.step.mustPause = true ∧
        t.step.evaluating = false ∧ t.phase = 7 ∧ t.step.mbRunning = false ∧ s.SameBytes t) ∧
    (s.fabric.watchdogOn = true → s.missing ≠ [] →
      ∃ t, exec (.doffWatchdogExpiry []) s = .next t ∧ t.prog.halted173 = true ∧ t.step.poisoned = true ∧
        t.step.mustPause = true ∧ t.step.evaluating = false ∧ t.phase = 7 ∧
        t.obj Obj.doffMissingCount 0 = s.missing.length ∧ s.SameBytes t))

/-- R135: the binary64 unit of a bolt controller leaves its operands and its result, and nothing else; a reserved operation
gives 0. R133, R136, R139, R140, R200, R503: DEC_POST writes its entry and tag, and B27's post goes to the Dudin dies;
SP_START restarts the halted present spindles of its bolt until every present spindle has halted; a trap stops the
program and leaves its cause and address. -/
def Obligations.BoltProgramsComputePostRestartAndTrap : Prop :=
  (∀ (b : BoltNo) (s : State) (x y : W64), s.up = true → (s.bolt b.val).progRunning = true →
    (s.bolt b.val).suBlocked = false →
    let two := fun (c : Instr) (r : W64) => ∃ t, exec c s = .next t ∧ s.OnlyBolt b noRows t ∧
      t.bolt b.val = { s.bolt b.val with f64A := x, f64B := y, f64Res := r }
    let one := fun (c : Instr) (r : W64) => ∃ t, exec c s = .next t ∧ s.OnlyBolt b noRows t ∧
      t.bolt b.val = { s.bolt b.val with f64A := x, f64Res := r }
    two (.f64Add b x y) (enc64 (Val.add (dec64 x) (dec64 y))) ∧
    two (.f64Sub b x y) (enc64 (Val.sub (dec64 x) (dec64 y))) ∧
    two (.f64Mul b x y) (enc64 (Val.mul (dec64 x) (dec64 y))) ∧
    two (.f64Div b x y) (div64 x y) ∧
    two (.f64Min b x y) (enc64 (minVal (dec64 x) (dec64 y))) ∧
    two (.f64Max b x y) (enc64 (maxVal (dec64 x) (dec64 y))) ∧
    two (.f64Cmplt b x y) (if Val.lt (dec64 x) (dec64 y) then 1 else 0) ∧
    two (.f64Cmpeq b x y) (if Val.eq (dec64 x) (dec64 y) then 1 else 0) ∧
    one (.f64Sqrt b x) (sqrt64 x) ∧ one (.f64Isfin b x) (if isFin64 x then 1 else 0) ∧ one (.f64Toi64 b x) (toI64 x) ∧
    one (.f64Fromi64 b x) (enc64 (Val.ofInt x.toInt 0))) ∧
  (∀ (op : Nat) (x y : W64), (op = 0 ∨ 0xD ≤ op) → f64Result op x y = 0) ∧
  (∀ (b : BoltNo) (s : State), s.up = true → (s.bolt b.val).progRunning = true → (s.bolt b.val).suBlocked = false →
    (∀ (seq : W16) (word : W32), ∃ t, exec (.decPost b seq word) s = .next t ∧
      (t.bolt b.val).decision seq = some word ∧
      (∀ k, k ≠ seq.toNat % 64 → tget (t.bolt b.val).decTable k = tget (s.bolt b.val).decTable k) ∧
      t.obj Obj.decisionLast b.val = word.toNat + seq.toNat * 2 ^ 32 ∧
      t.streams.relayQueue = s.streams.relayQueue ++ (if b.val = 27 then [(seq, word)] else []) ∧
      s.OnlyBolt b (oneRow Obj.decisionLast b.val) { t with streams := s.streams }) ∧
    (∀ value : W64,
      (value = 1 → s.step.mbRunning = true → s.allHalted = false → ∃ t, exec (.spStart b value) s = .next t ∧
        t = { s with spindles := t.spindles } ∧
        ∀ r, tget t.spindles r = (tget s.spindles r).map (fun x =>
          if boltOf (r % 128) (r / 128) = b.val ∧ s.isAbsent r = false ∧ x.halted = true then
            { x with halted := false, pc := 0, loops := [] } else x)) ∧
      ((value ≠ 1 ∨ s.step.mbRunning = false ∨ s.allHalted = true) → exec (.spStart b value) s = .next s)) ∧
    (∀ (cause : Byte) (address : W32), ∃ t, exec (.boltProgramTrap b cause address) s = .next t ∧
      t.bolt b.val = { s.bolt b.val with progRunning := false } ∧
      t.obj Obj.boltProgTrap b.val = address.toNat + cause.toNat * 2 ^ 32 ∧
      s.OnlyBolt b (oneRow Obj.boltProgTrap b.val) t))

/-! ## The fabric's bounds, the hold, arbiters -/

/-- R151: a flit whose budget has run out is marked late, once, and counted against its channel. R196, R208, R210, R215,
R394: a late lea and a late back-port transfer, and a link retry past its bound, each raise the hold at their entry sites;
a late lea against its Dudin die until its data are complete and then against the spindle that withheld credit, and not while
its port is held. R209, R213: a raise reaches its entry sites, and from a site that has it each neighbour, with the count its
way leaves; a site takes the larger count. R21, R212, R214, R215: once the counts of the held sites have come to 256 a throttle
hold changes the divisor; once the hold has run out at every site all are released at once, each router gives its skid
contents back, and 512 cycles are attributed to the raise, and to a second raise those by which it moved the release on. -/
def Obligations.LateTransfersRaiseTheHoldThatCountsAndReleases : Prop :=
  (∀ s : State, s.up = true →
    (∀ vc : BitVec 2, (s.markLate vc.toNat = none → exec (.flitLate vc) s = .next s) ∧
      (∀ u, s.markLate vc.toNat = some u → ∃ t, exec (.flitLate vc) s = .next t ∧
        t.obj Obj.fabricLate vc.toNat = satAdd 64 (s.obj Obj.fabricLate vc.toNat) 1 ∧ t.spindles = u.spindles ∧
        s.OnlyRows (oneRow Obj.fabricLate vc.toNat) { t with spindles := s.spindles }) ∧
      (∀ (row i : Nat) (x : Spindle) (f : NetFlit) (fs : List NetFlit), s.spindles = [(row, x)] → s.heldAt row = false →
        i < 6 → getList x.router.bufs (4 * i + vc.toNat) = f :: fs → f.late = false →
        (∀ j, j < i → getList x.router.bufs (4 * j + vc.toNat) = []) →
        ∃ u y, s.markLate vc.toNat = some u ∧ u.spindles = [(row, y)] ∧
          y = { x with router := { x.router with
            bufs := tput x.router.bufs (4 * i + vc.toNat) ({ f with late := true } :: fs) } })) ∧
    (∀ w : WeftNo, ∃ t, exec (.weftInjectLate w) s = .next t ∧ exec (.inputDeliveryLate w) s = .next t ∧
      exec (.evalResultLate w) s = .next t ∧ s.Raised 1 w.val 1 (backSites w.val) 1 t) ∧
    (∀ port : PortNo, ∃ t, exec (.replayBoundExpiry port) s = .next t ∧
      s.Raised 2 port.val 2 (backSites port.val) 1 t) ∧
    (∀ (stream : W16) (r : StreamRow) (l : Lea), s.streamRow? stream.toNat = some r →
      (s.engine stream.toNat).leas.find? Lea.canBeLate = some l →
      let row := (siteOfPort r.port).row
      (s.isHeld (siteOfPort r.port) = true → ∀ b, exec (.leaLate stream b) s = .next s) ∧
      (s.isHeld (siteOfPort r.port) = false →
        (∃ t, exec (.leaLate stream none) s = .next t ∧ s.Raised 0 r.die 0 [row] 1 t) ∧
        (∀ p : Site, l.fetched = false → ∃ t, exec (.leaLate stream (some p)) s = .next t ∧ s.Raised 0 r.die 0 [row] 1 t) ∧
        (∀ p : Site, l.fetched = true →
          ∃ t, exec (.leaLate stream (some p)) s = .next t ∧ s.Raised 3 p.row 0 [row] 1 t)))) ∧
  (∀ (r : HoldRaise) (row e : Nat),
    (row ∈ r.entry → r.countAt row = 512 - r.cost) ∧
    (r.entry = [e] → waveCycles e row ≤ 512 → r.countAt row = 512 - (r.cost + waveCycles e row))) ∧
  (∀ (s : State) (p : Site) (count : Fin 513), s.up = true →
    (∀ (rs qs : List HoldRaise) (r : HoldRaise), s.hold.raises = rs ++ r :: qs → r.comesTo p = true →
      r.countAt p.row = count.val → (∀ q ∈ rs, ¬ (q.comesTo p = true ∧ q.countAt p.row = count.val)) →
      ∃ t, exec (.holdArrive p count) s = .next t ∧
        tget t.hold.counts p.row = some (max count.val ((tget s.hold.counts p.row).getD 0)) ∧
        (∀ k, k ≠ p.row → tget t.hold.counts k = tget s.hold.counts k) ∧
        t.hold = { s.hold with
          counts := t.hold.counts, raises := rs ++ { r with reached := r.reached ||| 2 ^ p.row } :: qs } ∧
        t.spindle p = { s.spindle p with nowWrote := none } ∧
        s.obj Obj.skidPeak 0 ≤ t.obj Obj.skidPeak 0 ∧ t.obj Obj.skidPeak 0 ≤ max 40 (s.obj Obj.skidPeak 0) ∧
        s.OnlySpindle p (oneRow Obj.skidPeak 0) { t with hold := s.hold }) ∧
    ((∀ r ∈ s.hold.raises, ¬ (r.comesTo p = true ∧ r.countAt p.row = count.val)) →
      exec (.holdArrive p count) s = .next s)) ∧
  (∀ s : State, s.up = true →
    (∀ d : Nat, s.hold.counts ≠ [] → (∀ e ∈ s.hold.counts, e.2 ≤ 256) → s.hold.newDiv = some d →
      ∃ t, exec .divisorChange s = .next t ∧ t.obj Obj.coreDiv 0 = d ∧
        t.obj Obj.throttleChanges 0 = satAdd 64 (s.obj Obj.throttleChanges 0) 1 ∧
        t.hold = { s.hold with newDiv := none } ∧
        t.power = { s.power with vsetDiv := d, allClear := 0, settling := decide (s.obj Obj.coreDiv 0 < d) } ∧
        s.OnlyRows (rowsOf [Obj.coreDiv, Obj.throttleChanges]) { t with hold := s.hold, power := s.power }) ∧
    ((s.hold.counts = [] ∨ ∃ e ∈ s.hold.counts, 256 < e.2) → exec .divisorChange s = .next s)) ∧
  (∀ (s : State) (p : Site), s.up = true →
    ((s.isHeld p = false ∨ s.hold.over = false) → exec (.holdRelease p) s = .next s) ∧
    (s.isHeld p = true → s.hold.over = true → s.hold.newDiv = none →
      ∃ u : State, exec (.holdRelease p) s = .next u.flow ∧
        u.hold = { s.hold with counts := [], raises := [], releaseAt := 0 } ∧
        (∀ k, k ∈ s.hold.counts.map (·.1) → (s.hold.counts.map (·.1)).Nodup →
          (u.at k).router = (s.at k).router.unskid) ∧
        (∀ k, k ∉ s.hold.counts.map (·.1) → tget u.spindles k = tget s.spindles k) ∧
        (∀ r : HoldRaise, s.hold.raises = [r] → r.number < 2 ^ 16 →
          u.obj (lateRow r.kind r.number).1 (lateRow r.kind r.number).2 =
            satAdd 64 (s.obj (lateRow r.kind r.number).1 (lateRow r.kind r.number).2) 512 ∧
          u.obj Obj.holdCycles 0 = satAdd 64 (s.obj Obj.holdCycles 0) 512 ∧
          u.obj Obj.holdLast 0 = 512 + r.source * 2 ^ 32 + r.number * 2 ^ 40 + r.kind * 2 ^ 56 ∧
          s.OnlyRows (fun id row => oneRow (lateRow r.kind r.number).1 (lateRow r.kind r.number).2 id row ∨
            oneRow Obj.holdCycles 0 id row ∨ oneRow Obj.holdLast 0 id row)
            { u with hold := s.hold, spindles := s.spindles }) ∧
        (∀ r q : HoldRaise, s.hold.raises = [r, q] → r.number < 2 ^ 16 → q.number < 2 ^ 16 → r.at_ ≤ q.at_ →
          u.obj Obj.holdCycles 0 =
            satAdd 64 (satAdd 64 (s.obj Obj.holdCycles 0) 512) (min 512 (q.at_ - r.at_)))))

/-- R174, R177: an arbiter takes a pending ARB_PRIO and grants a requester of least priority value, the next in
round robin among equals (their cyclic order: log entry 42). R176, R175, R210: the grant watchdog of a held grant frees the
resource and counts, but not at an edge or back port whose site is held; a link port is retired and an edge or back port
fenced, each unless it is out of service already. -/
def Obligations.ArbitersGrantByPriorityAndFreeStuckResources : Prop :=
  ∀ (kind : Fin 6) (inst : Nat) (s : State), s.up = true →
    (∀ requests : List (Fin 6 × Nat), requests ≠ [] →
      ∃ t r prio, exec (.arbiterDecision kind inst requests) s = .next t ∧
        prio = BitVec.ofNat 32 ((tget s.dict.pending (objKey Obj.arbPrio kind.val)).getD (s.obj Obj.arbPrio kind.val)) ∧
        t.arbiter kind.val inst = { prio, holder := some r, last := some r, passed := 0 } ∧
        r ∈ requests.map (fun q => (q.1.val, q.2)) ∧
        (∀ q ∈ requests, bits prio.toNat (4 * r.1) 3 < bits prio.toNat (4 * q.1.val) 3 ∨
          (bits prio.toNat (4 * r.1) 3 = bits prio.toNat (4 * q.1.val) 3 ∧
            roundRobin (s.arbiter kind.val inst).last r ≤ roundRobin (s.arbiter kind.val inst).last (q.1.val, q.2))) ∧
        tget t.dict.pending (objKey Obj.arbPrio kind.val) = none ∧
        (∀ k, k ≠ arbKey kind.val inst → tget t.fabric.arbiters k = tget s.fabric.arbiters k) ∧
        s.OnlyRows (oneRow Obj.arbPrio kind.val)
          { t with fabric := { t.fabric with arbiters := s.fabric.arbiters }
                   dict := { t.dict with pending := s.dict.pending } }) ∧
    (∃ t, exec (.arbiterDecision kind inst []) s = .next t ∧ (t.arbiter kind.val inst).holder = none) ∧
    (((s.arbiter kind.val inst).holder = none ∨ (kind = 1 ∧ s.heldAt (portSite (inst / 2)).row = true)) →
      exec (.grantWatchdog kind inst) s = .next s) ∧
    ((s.arbiter kind.val inst).holder ≠ none → (kind = 1 → s.heldAt (portSite (inst / 2)).row = false) →
      (∃ t, exec (.grantWatchdog kind inst) s = .next t ∧ (t.arbiter kind.val inst).holder = none ∧
        t.obj Obj.grantWatchdogBites 0 = satAdd 32 (s.obj Obj.grantWatchdogBites 0) 1 ∧
        (kind = 5 → s.OnlyRows (oneRow Obj.grantWatchdogBites 0)
          { t with fabric := { t.fabric with arbiters := s.fabric.arbiters } }) ∧
        (kind = 3 → inst < 8 → s.portState inst ≠ lkRetired → s.isRetired (unitId lvPort inst) = false →
          t.portState inst = lkRetired ∧ t.faults.retired = s.faults.retired ++ [unitId lvPort inst]) ∧
        (kind = 1 → inst < 768 → s.isRetired (unitId lvWafer (portUnit (inst / 2))) = false →
          t.fabric.deadPorts = s.fabric.deadPorts ++ [portUnit (inst / 2)] ∧
          t.portLive (inst / 2) = false ∧ t.faults.retired = s.faults.retired ++ [unitId lvWafer (portUnit (inst / 2))])))

/-! ## The gradient adder and mask reports -/

/-- R251, R252, R253: the oldest flit at an edge port that is no mask report is taken: an element of it is added into G of its
target row's next element, written without a read in microbatch 0, and counted; in an evaluation the result is dropped and
counted. -/
def Obligations.GradientsAreAddedIntoTheirElements : Prop :=
  ∀ (port : EdgeNo) (s : State), s.up = true →
    let q := (tget s.fabric.edge port.val).getD []
    let mask := fun g : EdgeFlit => ((s.maskStreams port.val).map (·.2.mrid)).contains g.rid
    ((∀ g ∈ q, mask g = true) → exec (.gradientAdd port) s = .next s) ∧
    (∀ f : EdgeFlit, q.find? (fun g => !mask g) = some f →
      (∃ t, exec (.gradientAdd port) s = .next t ∧
        t.fabric = { s.fabric with edge := putList s.fabric.edge port.val (q.erase f) } ∧
        t.slow = s.slow ∧ t.spindles = s.spindles ∧
        (s.step.evaluating = true →
          t.obj Obj.evalGradDropped 0 =
            (if f.last then satAdd 64 (s.obj Obj.evalGradDropped 0) 1 else s.obj Obj.evalGradDropped 0) ∧
          s.OnlyRows (oneRow Obj.evalGradDropped 0) { t with fabric := s.fabric }) ∧
        (s.step.evaluating = false →
          t.step.poisoned = (s.step.poisoned || f.flit.poison) ∧
          s.OnlyRows noRows { t with
            fabric := s.fabric, step := s.step, fast := s.fast, fastPoison := s.fastPoison
            faults := { t.faults with readErrs := s.faults.readErrs } })) ∧
      (∀ (i : Nat) (r : GradRow) (x : W32) (a : Nat), s.step.evaluating = false →
        s.gradRows.filter (fun e => e.2.rid == f.rid && e.2.port == port.val) = [(i, r)] → f.values = [x] →
        (tget s.step.gradSkip i).getD 0 = 0 → (tget s.step.gradCount i).getD 0 < r.ecount →
        s.gradAddr r.tensor (r.efirst + (tget s.step.gradCount i).getD 0) = some a →
        ∃ t, exec (.gradientAdd port) s = .next t ∧
          memNat t.fast a 4 =
            (if s.mbIndex = 0 then x else add32 (BitVec.ofNat 32 (memNat s.fast a 4)) x).toNat ∧
          (∀ b, (b < a ∨ a + 4 ≤ b) → memGet t.fast b = memGet s.fast b) ∧
          t.step = { s.step with
            gradCount := tput s.step.gradCount i ((tget s.step.gradCount i).getD 0 + 1)
            poisoned := s.step.poisoned || f.flit.poison }) ∧
      (∀ (i : Nat) (r : GradRow) (x : W32), s.step.evaluating = false →
        s.gradRows.filter (fun e => e.2.rid == f.rid && e.2.port == port.val) = [(i, r)] → f.values = [x] →
        0 < (tget s.step.gradSkip i).getD 0 →
        ∃ t, exec (.gradientAdd port) s = .next t ∧ t.fast = s.fast ∧
          tget t.step.gradSkip i = some ((tget s.step.gradSkip i).getD 0 - 1) ∧ t.step.gradCount = s.step.gradCount))

/-- R203, R205: the oldest complete result under an MRID of the port's streams is kept as their report; a stream that
has predicted is judged by it: every undecided lea gets its selection, one not active becomes a SKIP, one active
without having been predicted a makeup, and hits, waste and makeups are counted. -/
def Obligations.MaskReportsJudgeThePredictions : Prop :=
  ∀ (port : EdgeNo) (s : State) (fs rest : List EdgeFlit) (rid : Nat) (rep : MaskRep), s.up = true →
    takeReport ((s.maskStreams port.val).map (·.2.mrid)) ((tget s.fabric.edge port.val).getD []) = some (fs, rest) →
    nth (fs.map (·.rid)) 0 0 = rid → rep = { values := reportValues fs, poison := fs.any (·.flit.poison) } →
    (∃ t, exec (.maskReport port) s = .next t ∧
      tget t.streams.reports (65536 * port.val + rid) = some rep ∧
      (∀ k, k ≠ 65536 * port.val + rid → tget t.streams.reports k = tget s.streams.reports k) ∧
      t.fabric = { s.fabric with edge := putList s.fabric.edge port.val rest } ∧
      t.obj Obj.streamPoisoned (stackOfPort port.val) =
        (if rep.poison then satAdd 64 (s.obj Obj.streamPoisoned (stackOfPort port.val)) 1
         else s.obj Obj.streamPoisoned (stackOfPort port.val)) ∧
      s.OnlyRows (fun id row => row = stackOfPort port.val ∧ id ∈
        [Obj.streamPoisoned, Obj.predHits, Obj.predWasted, Obj.specSquashed, Obj.predMakeup])
        { t with fabric := s.fabric, streams := s.streams }) ∧
    (∀ (id : Nat) (r : StreamRow) (g : StreamEng), (s.maskStreams port.val).filter (fun e => e.2.mrid == rid) = [(id, r)] →
      tget s.streams.engines id = some g →
      (r.pred = 3 → ∃ t, exec (.maskReport port) s = .next t ∧ tget t.streams.engines id = some g) ∧
      (r.pred ≠ 3 → g.ended = false → g.passReport = none → ∃ t h, exec (.maskReport port) s = .next t ∧
        tget t.streams.engines id = some h ∧ h.passReport = some rep ∧
        h.epochs = g.epochs.filter (fun e => e.branch.isSome) ∧ h.leas.length = g.leas.length ∧
        (∀ (k : Nat) (l m : Lea), g.leas[k]? = some l → h.leas[k]? = some m → l.active = none → l.kind ≠ .reject →
          m.active = some (rep.active l.group.toNat) ∧ m.skip = !rep.active l.group.toNat ∧
          m.makeup = (rep.active l.group.toNat && !l.predicted)) ∧
        (∀ (k : Nat) (l m : Lea) (b : Bool), g.leas[k]? = some l → h.leas[k]? = some m → l.active = some b →
          m = { l with depends := m.depends }) ∧
        t.obj Obj.predHits (stackOfPort port.val) = satAdd 64 (s.obj Obj.predHits (stackOfPort port.val))
          (g.leas.filter (fun l => l.active.isNone && l.kind != .reject && l.predicted == rep.active l.group.toNat)).length ∧
        t.obj Obj.predWasted (stackOfPort port.val) = satAdd 64 (s.obj Obj.predWasted (stackOfPort port.val))
          (g.leas.filter (fun l => l.active.isNone && l.kind != .reject && l.predicted && !rep.active l.group.toNat)).length ∧
        t.obj Obj.predMakeup (stackOfPort port.val) = satAdd 64 (s.obj Obj.predMakeup (stackOfPort port.val))
          (g.leas.filter (fun l => l.active.isNone && l.kind != .reject && !l.predicted && rep.active l.group.toNat)).length))

/-! ## Stream engines -/

/-- R181, R182, R190, R191, R193, R195, R198, R199, R200: a stream starts once every destination has reported, with the
smallest pool as its depth and credit; while its die has fewer than 2,048 descriptors in flight they are read in order: END
ends it, a FETCH of no lines is passed over, a FETCH takes a lea and a credit, a rejected one a poisoned lea, a descriptor of a
reserved kind a poisoned lea and the END lea, a group without a selection a predicted lea under a new epoch, and a BRANCH
follows its decision or its prediction under a new epoch. -/
def Obligations.StreamsStartAndReadTheirDescriptors : Prop :=
  ∀ (stream : W16) (s : State) (r : StreamRow) (g : StreamEng), s.up = true →
    s.streamRow? stream.toNat = some r → tget s.streams.engines stream.toNat = some g →
    (g.running = false → g.ended = false → (∀ d ∈ (s.shape r.shape).dests, ∃ o ∈ g.opened, o.1 = d) →
      ((s.running r.die).length < 64 → ∃ t h lmax, exec (.streamStart stream) s = .next t ∧
        tget t.streams.engines stream.toNat = some h ∧ h.running = true ∧ h.depth ≤ 256 ∧
        (∀ o ∈ g.opened, h.depth ≤ o.2.1) ∧ (h.depth = 256 ∨ ∃ o ∈ g.opened, h.depth = o.2.1) ∧
        (∀ o ∈ g.opened, h.bufLimit ≤ o.2.2) ∧ h.credits = h.depth ∧
        h.pad = min 8192 ((h.depth - 1) * (1 + ceilDiv lmax 2)) ∧ h.dptr = r.dbase ∧ h.stopped = false ∧ h.seq = 0 ∧
        h.leas = [] ∧ h.releases = [] ∧
        t = { s with streams := { s.streams with engines := tput s.streams.engines stream.toNat h } }) ∧
      (64 ≤ (s.running r.die).length → exec (.streamStart stream) s = .next s)) ∧
    (∀ d : Desc, g.running = true → g.ended = false → g.stopped = false → s.desc r.die g.dptr = d →
      (2048 ≤ s.inFlight r.die → exec (.descriptorRead stream) s = .next s) ∧
      (s.inFlight r.die < 2048 → (4 < d.dkind ∨ d.stream ≠ stream.toNat) → 0 < g.credits → g.beyond < 64 →
        ∃ t l, exec (.descriptorRead stream) s = .next t ∧
          tget t.streams.engines stream.toNat = some { g with
            stopped := true, leas := g.leas ++ [l, endLea g 0], credits := g.credits - 1 } ∧
          l.kind = .badKind ∧ l.poison = true ∧ l.depends = g.epochs.map (·.number) ∧
          s.OnlyRows (oneRow Obj.descPeak r.die) { t with streams := s.streams }) ∧
      (s.inFlight r.die < 2048 → d.stream = stream.toNat →
        (d.dkind = 4 → g.beyond < 64 → ∃ t, exec (.descriptorRead stream) s = .next t ∧
          tget t.streams.engines stream.toNat = some { g with stopped := true, leas := g.leas ++ [endLea g 1] } ∧
          s.OnlyRows (oneRow Obj.descPeak r.die) { t with streams := s.streams }) ∧
        (d.dkind ≤ 2 → d.lines = 0 → exec (.descriptorRead stream) s =
          .next (s.setEngine stream.toNat { g with dptr := descAt g.dptr 1 })) ∧
        (∀ ds, d.dkind = 0 → d.lines ≠ 0 → s.leaDescs r.die g.bufLimit d g.dptr = ds →
          s.mayTake stream.toNat r g (totalLines ds) ds.length = true →
          (s.descFault r.die g.bufLimit d = none → ∃ t l, exec (.descriptorRead stream) s = .next t ∧
            tget t.streams.engines stream.toNat = some { g with
              leas := g.leas ++ [l], credits := g.credits - 1, dptr := descAt g.dptr ds.length } ∧
            l.kind = .data ∧ l.active = some true ∧ l.skip = false ∧ l.fetched = false ∧ l.paylen = totalLines ds ∧
            l.parts = ds.map (fun e => (e.lines, e.src, e.srclines)) ∧ l.depends = g.epochs.map (·.number) ∧
            l.epoch = g.newest ∧
            t.obj Obj.streamMerged r.die = satAdd 64 (s.obj Obj.streamMerged r.die) (ds.length - 1) ∧
            s.OnlyRows (fun id row => row = r.die ∧ id ∈ [Obj.streamMerged, Obj.descPeak]) { t with streams := s.streams }) ∧
          (∀ code, s.descFault r.die g.bufLimit d = some code → ∃ t l, exec (.descriptorRead stream) s = .next t ∧
            tget t.streams.engines stream.toNat = some { g with
              leas := g.leas ++ [l], credits := g.credits - 1, dptr := descAt g.dptr 1 } ∧
            l.kind = .reject ∧ l.code = code ∧ l.poison = true ∧ l.paylen = 0 ∧
            t.obj Obj.streamRejects r.die = satAdd 32 (s.obj Obj.streamRejects r.die) 1 ∧
            s.OnlyRows (fun id row => row = r.die ∧ id ∈ [Obj.streamRejects, Obj.descPeak]) { t with streams := s.streams })) ∧
        ((d.dkind = 1 ∨ d.dkind = 2) → d.lines ≠ 0 → s.mayTake stream.toNat r g d.lines 1 = true →
          s.descFault r.die g.bufLimit d = none →
          (∀ rep, s.selection r g = some rep → ∃ t l, exec (.descriptorRead stream) s = .next t ∧
            tget t.streams.engines stream.toNat = some { g with
              leas := g.leas ++ [l], credits := g.credits - 1, dptr := descAt g.dptr 1 } ∧
            l.kind = .group ∧ l.active = some (rep.active d.group) ∧ l.skip = !rep.active d.group) ∧
          (s.selection r g = none → (r.pred = 1 ∨ r.pred = 2) → g.epochs.length < 16 →
            ∃ t h l n, exec (.descriptorRead stream) s = .next t ∧ tget t.streams.engines stream.toNat = some h ∧
              h.leas = g.leas ++ [l] ∧ h.credits = g.credits - 1 ∧ h.dptr = descAt g.dptr 1 ∧
              h.epochs = g.epochs ++ [{ number := n, branch := none }] ∧ 1 ≤ n ∧ n ≤ 255 ∧
              l.kind = .group ∧ l.active = none ∧ l.predicted = s.predicts r d.group ∧ l.epoch = n ∧
              l.depends = g.epochs.map (·.number) ++ [n]) ∧
          (s.selection r g = none → (r.pred = 0 ∨ r.pred = 3 ∨ 16 ≤ g.epochs.length) →
            exec (.descriptorRead stream) s = .next s)) ∧
        (∀ w, d.dkind = 3 → tget s.streams.relayed (BitVec.ofNat 16 d.layer).toNat = some w → exec (.descriptorRead stream) s =
          .next (s.setEngine stream.toNat { g with
            dptr := if w.getLsbD d.bit then descAt g.dptr d.offset else descAt g.dptr 1 })) ∧
        (d.dkind = 3 → tget s.streams.relayed (BitVec.ofNat 16 d.layer).toNat = none →
          (g.epochs.length < 16 →
            ∃ t h n, exec (.descriptorRead stream) s = .next t ∧ tget t.streams.engines stream.toNat = some h ∧
              1 ≤ n ∧ n ≤ 255 ∧ tget t.streams.lastEpoch r.die = some n ∧
              h.epochs.length = g.epochs.length + 1 ∧ h.newest = n ∧ h.leas = g.leas ∧
              h.dptr = (if d.predict then descAt g.dptr d.offset else descAt g.dptr 1) ∧
              t = { s with streams := { s.streams with
                engines := tput s.streams.engines stream.toNat h
                lastEpoch := tput s.streams.lastEpoch r.die n } }) ∧
          (16 ≤ g.epochs.length → exec (.descriptorRead stream) s = .next s))))

/-- R182, R187, R201, R202, R204: a lea's fetch reads its source lines, an unconverted dense part line by line; the first
lea of a stream, once confirmed and complete, is put before its port as flits of VC2 under the next sequence number, where the
lea before it has entered the fabric and the port is not held, and a rejected descriptor's lea then taints the step; a buffer
released at every destination gives one credit back. -/
def Obligations.LeasAreFetchedInjectedAndCredited : Prop :=
  ∀ (stream : W16) (s : State) (r : StreamRow) (g : StreamEng), s.up = true →
    s.streamRow? stream.toNat = some r → tget s.streams.engines stream.toNat = some g →
    (∀ (i : Nat) (l : Lea) (retries : Nat) (bad : List Nat), g.leas.findIdx? Lea.wantsFetch = some i → g.leas[i]? = some l →
      (s.stepping = true ∨ (retries = 0 ∧ bad = [] ∧ s.faults.readErrs = [])) →
      ∃ t m, exec (.leaFetch stream retries bad) s = .next t ∧
        tget t.streams.engines stream.toNat = some { g with leas := setNth g.leas i m } ∧
        m = { l with
          fetched := true, payload := m.payload, paylen := m.payload.length, poison := m.payload.any (·.poison)
          segcount := m.segcount, epoch := if l.confirmed then 0 else l.epoch, flush := m.flush, sat := m.sat
          nonfinite := m.nonfinite, readAvg := m.readAvg, readLive := m.readLive } ∧
        (∀ n src lines, l.parts = [(n, src, lines)] → l.maskmode = 0 → l.orient = false → l.sfmt = l.format →
          streamPairOk l.sfmt.toNat l.format.toNat = true → s.readsAverages = false → s.faults.readErrs = [] →
          m.payload = s.fastLines (r.die * 2 ^ 36 + src % 2 ^ 36) lines bad) ∧
        s.OnlyRows (rowsOf [Obj.faultLog, Obj.faultSeqLast, Obj.faultReports])
          { t with streams := s.streams, faults := s.faults }) ∧
    (∀ (l : Lea) (ls : List Lea), g.leas = l :: ls → l.ready = true → s.isHeld (siteOfPort r.port) = false →
      getList s.fabric.portIn (4 * r.port + 2) = [] →
      ∃ u : State, exec (.leaInject stream) s = .next u.flow ∧
        getList u.fabric.portIn (4 * r.port + 2) =
          s.netFlits 2 3 stream.toNat r.shape s.fabric.nextMsg true (l.flits (l.header stream.toNat g.seq)) ∧
        u.fabric = { s.fabric with portIn := u.fabric.portIn, nextMsg := s.fabric.nextMsg + 1 } ∧
        (∀ k, k ≠ 4 * r.port + 2 → tget u.fabric.portIn k = tget s.fabric.portIn k) ∧
        u.streams = { s.streams with engines := tput s.streams.engines stream.toNat { g with
          leas := ls, leaving := l.descs, seq := g.seq + 1, ended := g.ended || l.kind == .fin } } ∧
        u.obj Obj.streamLeas r.die = satAdd 64 (s.obj Obj.streamLeas r.die) 1 ∧
        ((l.kind = .data ∨ l.kind = .group ∨ l.kind = .fin) →
          s.OnlyRows (fun id row => row = r.die ∧ id ∈ [Obj.streamLeas, Obj.streamPoisoned])
            { u with streams := s.streams, fabric := s.fabric, step := s.step, stones := s.stones }) ∧
        ((l.kind = .reject ∨ l.kind = .badKind) → u.step.tainted = true ∧
          u.lastSeq = (s.lastSeq + 1) % 2 ^ 32)) ∧
    (∀ (l : Lea) (ls : List Lea), g.leas = l :: ls →
      (l.ready = false ∨ s.isHeld (siteOfPort r.port) = true ∨ getList s.fabric.portIn (4 * r.port + 2) ≠ []) →
      exec (.leaInject stream) s = .next s) ∧
    (g.running = true → (s.shape r.shape).dests ≠ [] → (s.shape r.shape).dests.Nodup →
      (∀ d ∈ (s.shape r.shape).dests, ∃ n, tget g.releases d = some (n + 1)) →
      ∃ t h, exec (.creditReturn stream) s = .next t ∧ t = s.setEngine stream.toNat h ∧
        h = { g with credits := g.credits + 1, releases := h.releases } ∧
        (∀ d ∈ (s.shape r.shape).dests, tget h.releases d = (tget g.releases d).map (· - 1)) ∧
        (∀ d, d ∉ (s.shape r.shape).dests → tget h.releases d = tget g.releases d))

/-- R183, R184, R188, R200: a lea whose last flit has come is written, header line first, into the lowest free buffer of its
pool, and its handle goes onto the stream's queue or waits for a place on it; one that fails a check is written with every line
poisoned; a full pool waits; END is noted; and the oldest decision of B27 is relayed, confirming or squashing the prediction
made of it. -/
def Obligations.LeasArriveAndDecisionsAreRelayed : Prop :=
  ∀ s : State, s.up = true →
    (∀ (p : Site) (stream : W16) (e : SpStream), (s.spindle p).stream? stream.toNat = some e →
      ((s.engineFree p.row = false ∨ e.inbox.any (·.sb.last) = false) → exec (.leaArrive p stream) s = .next s) ∧
      (s.engineFree p.row = true → e.inbox.any (·.sb.last) = true →
        (bitAt e.header.toNat 420 = true → ∃ u : State, exec (.leaArrive p stream) s = .next u.flow ∧
          (u.spindle p).stream? stream.toNat = some { e with ended := true, expect := e.expect + 1, inbox := [] } ∧
          u.spindle p = { s.spindle p with streams := (u.spindle p).streams } ∧ s.OnlySpindle p noRows u) ∧
        (bitAt e.header.toNat 420 = false → e.free? = none → exec (.leaArrive p stream) s = .next s) ∧
        (∀ b buf, bitAt e.header.toNat 420 = false → e.free? = some b → buf = (s.spindle p).buf b →
          ∃ (u : State) (n : Nat), exec (.leaArrive p stream) s = .next u.flow ∧
            (u.spindle p).stream? stream.toNat = some { e with busy := e.busy ++ [b], expect := e.expect + 1, inbox := [] } ∧
            s.OnlySpindle p (fun id row =>
              oneRow Obj.leaHeaderErrors 0 id row ∨ id ∈ [Obj.faultLog, Obj.faultSeqLast, Obj.faultReports]) u ∧
            (e.queue < (s.spindle p).queues.length → (nth (s.spindle p).queues e.queue []).length < 16 →
              (u.spindle p).puts = [] ∧
              (u.spindle p).queues = (s.spindle p).queues.set e.queue
                (nth (s.spindle p).queues e.queue [] ++ [mkHandle b buf.gen n])) ∧
            (16 ≤ (nth (s.spindle p).queues e.queue []).length →
              (u.spindle p).puts = [(e.queue, mkHandle b buf.gen n)] ∧ (u.spindle p).queues = (s.spindle p).queues) ∧
            (headerGood e.header e.stream e.expect buf.size = true →
              n = (e.lines ++ zeroLines e.header).length ∧ u.obj Obj.leaHeaderErrors 0 = s.obj Obj.leaHeaderErrors 0 ∧
              ∀ i x, (e.lines ++ zeroLines e.header)[i]? = some x →
                (Store.line p (u.spindle p).store (buf.base + i)).poison = x.poison ∧
                (x.poison = false → Store.line p (u.spindle p).store (buf.base + i) = x)) ∧
            (headerGood e.header e.stream e.expect buf.size = false →
              n = min buf.size e.lines.length ∧
              u.obj Obj.leaHeaderErrors 0 = satAdd (objBits Obj.leaHeaderErrors) (s.obj Obj.leaHeaderErrors 0) 1 ∧
              u.lastSeq = (s.lastSeq + 1) % 2 ^ 32 ∧
              ∀ i, i < n → (Store.line p (u.spindle p).store (buf.base + i)).poison = true) ∧
            (∀ l, (l < buf.base ∨ buf.base + n ≤ l) →
              Store.line p (u.spindle p).store l = Store.line p (s.spindle p).store l)))) ∧
    (∀ (seq : W16) (w : W32) (rest : List (W16 × W32)), s.streams.relayQueue = (seq, w) :: rest →
      (s.streams.engines = [] → exec .decisionRelay s = .next
        { s with streams := { s.streams with relayQueue := rest, relayed := tput s.streams.relayed seq.toNat w } }) ∧
      (∀ (id : Nat) (g : StreamEng) (r : StreamRow) (n bit : Nat) (predict : Bool) (other : Nat),
        s.streams.engines = [(id, g)] → s.streamRow? id = some r →
        g.epochs = [{ number := n, branch := some (seq, bit, predict, other) }] →
        ∃ t h, exec .decisionRelay s = .next t ∧ t.streams.relayQueue = rest ∧
          tget t.streams.relayed seq.toNat = some w ∧ tget t.streams.engines id = some h ∧ h.epochs = [] ∧
          (w.getLsbD bit = predict → h.dptr = g.dptr ∧ h.leas.length = g.leas.length ∧
            ∀ (k : Nat) (l : Lea), g.leas[k]? = some l → h.leas[k]? = some { l with depends := l.depends.erase n }) ∧
          (w.getLsbD bit ≠ predict → h.dptr = other ∧ h.stopped = false ∧
            h.leas = g.leas.filter (fun l => !l.depends.contains n) ∧
            h.credits = g.credits + (g.leas.filter (fun l => l.depends.contains n && l.kind != .fin)).length) ∧
          s.OnlyRows (oneRow Obj.specSquashed r.die) { t with streams := s.streams }))

/-! ## Bobbins and the microbatch -/

/-- R388, R389: a scan at a microbatch boundary hands a slot whose header fails back at once with its STATUS, takes
the slot of a needed role whose CRC is good and advances its GENERATION, hands it back with STATUS CRC otherwise, and
shows what it still waits for. One slot is declared here. -/
def Obligations.TheScanJudgesTakesAndHandsBackSlots : Prop :=
  ∀ (s : State) (n : Nat) (b : BobbinRow), s.atBoundary = true → s.bobbins = [(n, b)] → s.bobbin n = b →
    s.owner n = 2 → s.isTaken n = false →
    (∀ st, s.headerFault n b = some st → ∃ t, exec .bobbinScan s = .next t ∧ t.owner n = 1 ∧ t.hdr n 44 4 = st ∧
      t.hdr n 32 8 = s.time.now % 2 ^ 64 ∧
      t.obj Obj.bobbinReturned st = satAdd 64 (s.obj Obj.bobbinReturned st) 1 ∧ t.step.slots = s.step.slots ∧
      (∀ a, (a < s.slotAddr n ∨ s.slotAddr n + 48 ≤ a) → memGet t.slow a = memGet s.slow a) ∧ t.fast = s.fast) ∧
    (s.headerFault n b = none → b.kind = bkInput → s.step.evaluating = false → s.hdr n 16 8 = s.stepCount →
      s.hdr n 24 4 = s.mbIndex → s.hasRole bkInput b.role = false →
      (s.crcGood n = true → ∃ t, exec .bobbinScan s = .next t ∧
        t.step.slots = s.step.slots ++ [{ slot := n, kind := bkInput, role := b.role }] ∧ t.owner n = 2 ∧
        t.hdr n 4 4 = (s.hdr n 4 4 + 1) % 2 ^ 32 ∧ t.obj Obj.bobbinTaken 0 = satAdd 64 (s.obj Obj.bobbinTaken 0) 1 ∧
        t.obj Obj.bobbinWait 0 = 0xFFFFFFFF ∧
        (∀ a, (a < s.slotAddr n + 4 ∨ s.slotAddr n + 8 ≤ a) → memGet t.slow a = memGet s.slow a)) ∧
      (s.crcGood n = false → ∃ t, exec .bobbinScan s = .next t ∧ t.owner n = 1 ∧ t.hdr n 44 4 = 5 ∧
        t.step.slots = s.step.slots ∧ t.obj Obj.bobbinWait 0 = b.role + bkInput * 2 ^ 12 ∧
        t.step.waitStart = some (s.step.waitStart.getD s.time.now)))

/-- R6, R381, R387, R391: the host's bytes reach the bobbin window, but GENERATION and the reserved bytes of a declared slot's
header keep their values; the oldest message of a result slot's role that has left whole by a back port is written after the
bytes the slot has, as far as there is room, and its transmission is done at that destination (log entry 44). -/
def Obligations.TheBobbinWindowIsWrittenByHostAndResults : Prop :=
  ∀ s : State, s.up = true →
    (∀ (offset : W32) (data : List Byte), s.tiersReady = true → s.host.linkUp = true →
      offset.toNat + data.length ≤ 2 ^ 32 → ∃ t, exec (.bobbinWindowWrite offset data) s = .next t ∧
      (∀ (i : Nat) (x : Byte), data[i]? = some x →
        memGet t.slow ((offset.toNat + i) / 2 ^ 29 * 2 ^ 39 + 0x7FE0000000 + (offset.toNat + i) % 2 ^ 29) =
          if s.bobbins.any (fun e => decide (e.2.base * 65536 ≤ offset.toNat + i) &&
            keepsByte (offset.toNat + i - e.2.base * 65536))
          then memGet s.slow ((offset.toNat + i) / 2 ^ 29 * 2 ^ 39 + 0x7FE0000000 + (offset.toNat + i) % 2 ^ 29) else x) ∧
      (∀ a, (∀ i, i < data.length → a ≠ (offset.toNat + i) / 2 ^ 29 * 2 ^ 39 + 0x7FE0000000 + (offset.toNat + i) % 2 ^ 29) →
        memGet t.slow a = memGet s.slow a) ∧
      t = { s with slow := t.slow }) ∧
    (∀ (slot : BitVec 12) (k : Taken) (port id : Nat) (ls : List Line),
      s.step.slots.find? (fun t => t.slot == slot.toNat && t.kind == bkEvalResult) = some k →
      s.leftMessage (s.bobbin k.slot).shape = some (port, id) →
      ls = ((getList s.fabric.portOut port).filter (fun f => f.id == id)).flatMap NetFlit.lines →
      ls.all (fun l => !l.poison) = true →
      let a := s.slotAddr k.slot + 256 + k.written
      let room := (s.bobbin k.slot).room - k.written
      ∃ u : State, exec (.evalResultWrite slot) s = .next u.flow ∧
        getList u.fabric.portOut port = (getList s.fabric.portOut port).filter (fun f => f.id != id) ∧
        (∀ q, q ≠ port → tget u.fabric.portOut q = tget s.fabric.portOut q) ∧
        (∀ x, tget s.fabric.sending id = some x → x.handle = none → u.spindles = s.spindles ∧
          tget u.fabric.sending id = if (x.due.erase (portSite port).row) = [] then none
            else some { x with due := x.due.erase (portSite port).row }) ∧
        memRead u.slow a (min (64 * ls.length) room) = (ls.flatMap (fun l => leBytes 64 l.data.toNat)).take room ∧
        (∀ b, (b < a ∨ a + room ≤ b) → memGet u.slow b = memGet s.slow b) ∧
        u.step = { s.step with slots := s.step.slots.map (fun x => if x.slot = k.slot then { k with
          written := k.written + min (64 * ls.length) room
          overflow := k.overflow || decide (room < 64 * ls.length) } else x) } ∧
        s.OnlyRows noRows { u with
          fabric := s.fabric, step := s.step, slow := s.slow, spindles := s.spindles
          faults := { u.faults with readErrs := s.faults.readErrs } })

/-- R250, R253, R279, R331, R390, R503: a microbatch starts with every present logical spindle at instruction 0, the
bolt programs at code address 0 and the watchdog running; it ends when every present spindle has halted: the next
microbatch's index, or the exchange and the step's pace, or the next evaluation. A target row short of elements taints
the step. -/
def Obligations.MicrobatchesStartAndEnd : Prop :=
  ∀ s : State,
    (s.mayStart = true → ∃ t, exec .microbatchStart s = .next t ∧ t.step.mbRunning = true ∧ t.step.waitStart = none ∧
      t.step.gradCount = [] ∧ t.fabric.watchdogOn = true ∧ t.fabric.watchdog = 0 ∧ t.streams.engines = [] ∧
      t.obj Obj.bobbinWait 0 = 0xFFFFFFFF ∧
      (∀ p : Site, s.isAbsent p.row = false →
        (t.spindle p).halted = false ∧ (t.spindle p).pc = 0 ∧ (t.spindle p).loops = [] ∧ (t.spindle p).atDoff = none ∧
        (t.spindle p).hanks = (s.spindle p).hanks ∧ (t.spindle p).accs = (s.spindle p).accs) ∧
      (∀ p : Site, s.isAbsent p.row = true → (t.spindle p).halted = (s.spindle p).halted) ∧
      (∀ b : BoltNo, (t.bolt b.val).progRunning =
          (s.field Obj.boltState b.val 0 4 == 0 && decide (0 < (s.bolt b.val).codeLen)) ∧
        (t.bolt b.val).pc = 0 ∧ (t.bolt b.val).resv = none)) ∧
    (s.mayStart = false → exec .microbatchStart s = .next s) ∧
    ((s.step.mbRunning = false ∨ s.allHalted = false) → exec .microbatchEnd s = .next s) ∧
    (s.up = true → s.step.mbRunning = true → s.allHalted = true → s.step.evaluating = false → s.step.slots = [] →
      s.step.total ≤ 2 ^ 16 →
      (∀ e ∈ s.gradRows, (tget s.step.gradCount e.1).getD 0 = e.2.ecount) →
      (s.mbIndex + 1 < s.step.total → ∃ t, exec .microbatchEnd s = .next t ∧ t.mbIndex = s.mbIndex + 1 ∧
        t.step = { s.step with mbRunning := false } ∧ t.phase = s.phase ∧ t.fabric.watchdogOn = false ∧
        t.streams.engines = [] ∧ s.SameBytes t) ∧
      (s.step.total ≤ s.mbIndex + 1 → ∃ t, exec .microbatchEnd s = .next t ∧
        t.phase = (if s.step.exchangeEnded then 3 else 2) ∧
        t.obj Obj.paceLast 0 = s.time.now - s.step.mbStart - s.step.waited ∧
        t.step = { s.step with mbRunning := false } ∧ s.SameBytes t)) ∧
    (∀ (i : Nat) (r : GradRow), s.up = true → s.step.mbRunning = true → s.allHalted = true → s.step.evaluating = false →
      s.gradRows = [(i, r)] → (tget s.step.gradCount i).getD 0 ≠ r.ecount →
      ∃ t, exec .microbatchEnd s = .next t ∧ t.step.tainted = true ∧
        t.obj Obj.faultSeqLast 0 = (s.lastSeq + 1) % 2 ^ 32 ∧
        bits (t.obj Obj.faultLog ((s.lastSeq + 1) % 2 ^ 32 % 4096)) 144 16 = 0x4503) ∧
    (s.up = true → s.step.mbRunning = true → s.allHalted = true → s.step.evaluating = true → s.step.slots = [] →
      ∃ t, exec .microbatchEnd s = .next t ∧ t.step.evalIndex = s.step.evalIndex + 1 ∧
        t.step.evaluating = decide (s.step.evalIndex + 1 < s.step.evalTotal) ∧
        t.phase = (if s.step.evalIndex + 1 < s.step.evalTotal then s.phase else 7) ∧
        t.obj Obj.evalMixed 0 = (if s.step.evalAvg && s.step.evalLive then satAdd 64 (s.obj Obj.evalMixed 0) 1
          else s.obj Obj.evalMixed 0))

/-! ## The exchange and the vote -/

/-- R254, R255, R256, R321, R323: a layer's exchange starts once a step, in its last microbatch or after it, when the doff of
its plan entry has completed and none of its results waits for the adder; alone in its grid a module's own values are the sums;
the exchange ends when every block is summed, with the norm partial over the blocks the module owns. R312, R321, R322, R323: an
arriving block of a scatter phase is kept until the module's own values are final; an arriving grid sum is written into G unless
that block is summed already, a poisoned one poisons the step, and a second copy changes nothing of the step; the data of a frame
cross the wafer as flits of VC2. -/
def Obligations.ExchangesSumEveryBlockAndKeepOrWriteIt : Prop :=
  (∀ s : State, s.up = true →
    (∀ layer : W16, layer.toNat ∈ s.planLayers →
      (s.phase = 2 ∨ (s.phase = 1 ∧ s.step.mbRunning = true ∧ s.step.evaluating = false ∧ s.mbIndex + 1 = s.step.total)) →
      ((layer.toNat ∈ s.step.layersStarted ∨ s.layerFinal layer.toNat = false) →
        exec (.layerExchangeStart layer) s = .next s) ∧
      (layer.toNat ∉ s.step.layersStarted → s.layerFinal layer.toNat = true →
        (∃ t, exec (.layerExchangeStart layer) s = .next t ∧
          t.step.layersStarted = s.step.layersStarted ++ [layer.toNat] ∧
          (∀ a, (∀ k ∈ s.blocks layer.toNat, a < k.addr ∨ k.addr + 4 * k.len ≤ a) → memGet t.fast a = memGet s.fast a) ∧
          t.slow = s.slow ∧ t.spindles = s.spindles) ∧
        (s.gridP = 1 → s.gridC = 1 → s.liveMap = 1 → s.myPos = 1 →
          ∃ t, exec (.layerExchangeStart layer) s = .next t ∧
            (∀ b, b < (s.blocks layer.toNat).length → blockKey layer.toNat b ∈ t.step.summed) ∧
            (∀ a, memGet t.fast a = memGet s.fast a) ∧ t.link = s.link))) ∧
    ((s.phase = 1 ∨ s.phase = 2) → s.step.exchangeEnded = false → s.allSummed = true → ∃ t, exec .exchangeEnd s = .next t ∧
      t.step = { s.step with exchangeEnded := true, n2 := s.normPartial } ∧ t.phase = (if s.phase = 2 then 3 else 1) ∧
      s.OnlyRows (oneRow Obj.stepStatus 0) { t with step := s.step }) ∧
    (s.allSummed = false → exec .exchangeEnd s = .next s)) ∧
  (∀ (s : State) (layer : Nat), s.layerFinal layer = true ↔
    (∀ e ∈ s.prog.exchange, e.1.toNat = layer → e.2 ∈ s.fabric.doneSeqs ++ s.fabric.results.map (·.dseq)) ∧
    (∀ r ∈ s.gradRows, s.rowOfLayer layer r.2 = true →
      ∀ f ∈ (tget s.fabric.edge r.2.port).getD [], f.rid ≠ r.2.rid)) ∧
  (∀ (port : PortNo) (hdr : FrameHdr) (layer : W16) (block : W32) (phase : BitVec 2) (data : List W32) (s : State),
    s.Arrives port hdr → s.link.reweaving = false → s.link.member = true →
    (phase.toNat ≤ 1 → layer.toNat ∉ s.step.layersStarted → port.val < 6 →
      ∃ t, exec (.gradFrame port hdr layer block phase data) s = .next t ∧
        t.step = { s.step with
          partials := tput s.step.partials
            (partialKey hdr.step.toNat layer.toNat block.toNat phase.toNat (if port.val < 3 then 1 else 0)) (hdr.poison, data) } ∧
        s.OnlyFrames bulkRows { t with step := s.step }) ∧
    (∀ k : Block, 2 ≤ phase.toNat → hdr.step.toNat = s.stepTag → blockKey layer.toNat block.toNat ∉ s.step.summed →
      (s.blocks layer.toNat)[block.toNat]? = some k → data.length = k.len →
      ∃ t, exec (.gradFrame port hdr layer block phase data) s = .next t ∧
        (∀ (i : Nat) (v : W32), data[i]? = some v → memNat t.fast (k.addr + 4 * i) 4 = v.toNat) ∧
        (∀ a, (a < k.addr ∨ k.addr + 4 * k.len ≤ a) → memGet t.fast a = memGet s.fast a) ∧
        t.step = { s.step with
          summed := s.step.summed ++ [blockKey layer.toNat block.toNat]
          badBlocks := s.step.badBlocks ++ (if hdr.poison then [blockKey layer.toNat block.toNat] else [])
          poisoned := s.step.poisoned || hdr.poison } ∧
        s.OnlyFrames bulkRows { t with
          step := s.step, fast := s.fast, fastPoison := s.fastPoison
          faults := { t.faults with readErrs := s.faults.readErrs } }) ∧
    (2 ≤ phase.toNat → (hdr.step.toNat ≠ s.stepTag ∨ blockKey layer.toNat block.toNat ∈ s.step.summed) →
      ∃ t, exec (.gradFrame port hdr layer block phase data) s = .next t ∧ s.OnlyFrames bulkRows t))

/-- R258, R260, R314, R325: a member whose exchange has ended sends its report once with the aggregates it waits for,
towards the grid head; the grid head decides COMMIT when the aggregate has no cause against it and ABANDON with the
cause otherwise, in the first step after LOAD only once every module has joined; an arriving aggregate is kept. -/
def Obligations.VotesAreGatheredAndDecided : Prop :=
  ∀ s : State,
    (s.up = true → s.link.member = true → s.phase = 3 → s.step.decision = none → s.step.exchangeEnded = true →
      s.step.voteSent = false → s.haveAggregates = true → s.link.ports.length = 8 →
      (∀ n p, s.isGridHead = false → s.towardsHead = some n → s.livePort n = some p →
        ∃ t, exec .voteReportSend s = .next t ∧ t.step = { s.step with voteSent := true } ∧
          t.Given p { typ := 2, tag := 0, step := BitVec.ofNat 48 s.stepCount, payload := s.aggregate.word, bytes := 64 } ∧
          s.OnlyFrames linkRows { t with step := s.step }) ∧
      (s.isGridHead = true → s.link.decided = false → s.allJoined = false → exec .voteReportSend s = .next s) ∧
      (s.isGridHead = true → (s.link.decided = true ∨ s.allJoined = true) → s.stepCount < 2 ^ 64 →
        (s.causeOf s.aggregate = 0 → ∃ t w, exec .voteReportSend s = .next t ∧
          t.step.decision = some w ∧ decisionOf w = 1 ∧ causeByte w = 0 ∧
          bits w.toNat 448 64 = s.stepCount ∧ bits w.toNat 320 64 = s.aggregate.n2.toNat ∧
          bits w.toNat 256 64 = s.aggregate.loss.toNat ∧ t.phase = 4 ∧ t.step.commitTime = s.time.now ∧
          t.step.scalars.isSome = true ∧ t.link.decided = true) ∧
        (s.causeOf s.aggregate ≠ 0 → ∃ t w, exec .voteReportSend s = .next t ∧
          t.step.decision = some w ∧ decisionOf w = 2 ∧ causeByte w = s.causeOf s.aggregate ∧ t.phase = 7 ∧
          t.obj Obj.stepsAbandoned 0 = satAdd 64 (s.obj Obj.stepsAbandoned 0) 1 ∧ t.step.mbRunning = false ∧
          t.link.decided = true))) ∧
    (s.up = true → s.step.exchangeEnded = false → exec .voteReportSend s = .next s) ∧
    (∀ (port : PortNo) (hdr : FrameHdr) (payload : BitVec 512), s.Arrives port hdr → s.isGridHead = false →
      ∃ t, exec (.voteFrame port hdr payload) s = .next t ∧
        t.step = { s.step with
          voteNext := if port.val < 3 then some payload else s.step.voteNext
          votePrev := if 3 ≤ port.val ∧ port.val < 6 then some payload else s.step.votePrev
          voteColumn := if port.val = 7 then some payload else s.step.voteColumn } ∧
        s.OnlyFrames linkRows { t with step := s.step })

/-- R260, R261, R262, R263, R326: a member acts on the first decision for its open step: COMMIT starts the update,
ABANDON stops the wafer and is recorded with its cause; one for the step to come is kept; a second copy is discarded. A query
is answered once with the decision held, and the new grid head with a COMMIT in hand sends it, or decides ABANDON after the last
answer without one. -/
def Obligations.DecisionsAreTakenOnceAndAnswered : Prop :=
  ∀ (port : PortNo) (hdr : FrameHdr) (s : State), s.Arrives port hdr → s.link.reweaving = false → s.link.member = true →
    (∀ w : BitVec 512, s.undecided = true → stepOf w = s.stepCount →
      (decisionOf w = 1 → ∃ t, exec (.commitFrame port hdr w) s = .next t ∧
        t.step.decision = some w ∧ t.phase = 4 ∧ t.step.commitTime = s.time.now ∧ t.step.scalars.isSome = true) ∧
      (decisionOf w = 2 → ∃ t, exec (.commitFrame port hdr w) s = .next t ∧ t.step.decision = some w ∧ t.phase = 7 ∧
        t.obj Obj.stepsAbandoned 0 = satAdd 64 (s.obj Obj.stepsAbandoned 0) 1 ∧
        ((s.step.mbRunning = true ∨ s.step.exchangeEnded = false) →
          ∀ p : Site, (tget t.spindles p.row).isSome = true → (t.spindle p).halted = true) ∧
        t.step.mbRunning = false)) ∧
    (∀ w : BitVec 512, (s.undecided = false ∨ stepOf w ≠ s.stepCount) →
      (s.isEarly w = true → s.link.early = none → ∃ t, exec (.commitFrame port hdr w) s = .next t ∧
        t.link.early = some w ∧ s.OnlyFrames linkRows t) ∧
      ((s.isEarly w = false ∨ s.link.early ≠ none) → ∃ t, exec (.commitFrame port hdr w) s = .next t ∧
        t.link.early = s.link.early ∧ s.OnlyFrames linkRows t)) ∧
    (∃ t, exec (.decisionQuery port hdr) s = .next t ∧ s.OnlyFrames linkRows t ∧ t.link.asked = some s.epoch ∧
      (s.link.asked ≠ some s.epoch → ∀ n p, s.towardsHead = some n → s.livePort n = some p →
        t.Given p (s.ctrl 6 (match s.step.decision with
          | some w => 1 + w.toNat * 2 ^ 64
          | none => 0) 72))) ∧
    (s.isGridHead = false → ∀ held, ∃ t, exec (.decisionAnswer port hdr held) s = .next t ∧ s.OnlyFrames linkRows t) ∧
    (s.isGridHead = true → s.undecided = true →
      (∀ w, decisionOf w = 1 → stepOf w = s.stepCount → ∃ t, exec (.decisionAnswer port hdr (some w)) s = .next t ∧
        t.step.decision = some w ∧ t.phase = 4 ∧ t.link.queries = 0) ∧
      (∀ held : Option (BitVec 512), (∀ w, held = some w → decisionOf w ≠ 1) →
        (s.link.queries = 1 → s.stepCount < 2 ^ 64 → ∃ t w, exec (.decisionAnswer port hdr held) s = .next t ∧
          t.step.decision = some w ∧ decisionOf w = 2 ∧ causeByte w = 16 ∧ t.phase = 7) ∧
        (1 < s.link.queries → ∃ t, exec (.decisionAnswer port hdr held) s = .next t ∧
          t.link.queries = s.link.queries - 1 ∧ s.OnlyFrames linkRows t)))

/-! ## The update, the digest and the STEP boundary -/

/-- R268, R271, R272: a shard's update leaves STATE DONE with GEN one higher, its arrays written by its rule from the
old ones and every other byte of an unmasked, unjournaled shard as it was; a journaled one waits for a free slot and
clears it at the end. An update that stops on its way leaves an unjournaled shard TORN once anything is written, and a
journaled one in the STATE it had reached with its slot valid from the end of the copy on. -/
def Obligations.ShardUpdatesFollowTheirRuleAndJournal : Prop :=
  ∀ (entry : BitVec 18) (s : State) (sc : Scalars) (d : Shard), s.step.scalars = some sc →
    s.canUpdate entry.toNat = true → s.shard entry.toNat = d →
    (d.jrnl = false → ∃ t, exec (.shardUpdate entry none) s = .next t ∧
      t.shard entry.toNat = { d with state := shDone, gen := (d.gen + 1) % 2 ^ 16 } ∧
      t.step.updated = s.step.updated ++ [entry.toNat] ∧
      (d.maskmode = 0 → (∀ (slow : Bool) (a : Nat), (∀ x ∈ d.spans, x.1 ≠ slow ∨ a < x.2.1 ∨ x.2.1 + x.2.2 ≤ a) →
          memGet (t.tier slow) a = memGet (s.tier slow) a) ∧
        (d.spans.Pairwise (fun x y => meet x y = false) → d.cls ≠ clsCompact → d.rule ≤ 6 → ∀ n, n < d.ecount →
          nth (t.readArr d .master) n 0 = ((s.coef sc d).elem d.rule (nth (s.olds d).g n 0) (nth (s.olds d).w n 0)
            (nth (s.olds d).m n 0) (nth (s.olds d).v n 0)).w.toNat ∧
          (2 ≤ d.rule → nth (t.readArr d .m) n 0 = ((s.coef sc d).elem d.rule (nth (s.olds d).g n 0) (nth (s.olds d).w n 0)
            (nth (s.olds d).m n 0) (nth (s.olds d).v n 0)).m.toNat)))) ∧
    (s.faults.readErrs = [] →
      (d.jrnl = false → ∀ stop : UpdateStop,
        let early := match stop with
          | .copying _ | .inJournal => true
          | _ => false
        (early = true → exec (.shardUpdate entry (some stop)) s = .next s) ∧
        (early = false → ∃ t, exec (.shardUpdate entry (some stop)) s = .next t ∧
          t.shard entry.toNat = { d with state := shTorn } ∧ t.step = s.step ∧
          bits (t.obj Obj.faultLog ((s.lastSeq + 1) % 2 ^ 32 % 4096)) 144 16 = 0xB412)) ∧
      (d.jrnl = true → s.freeSlot d.die = none → ∀ stop, exec (.shardUpdate entry stop) s = .next s)) ∧
    (∀ j, d.jrnl = true → s.freeSlot d.die = some j →
      let row := journalRow d.die j
      let stopsAt := fun (stop : UpdateStop) (state : Nat) (record : Nat) =>
        ∃ t, exec (.shardUpdate entry (some stop)) s = .next t ∧ t.shard entry.toNat = { d with state := state } ∧
          t.obj Obj.journalSlot row = record ∧ t.step = s.step
      (∃ t, exec (.shardUpdate entry none) s = .next t ∧
        t.shard entry.toNat = { d with state := shDone, gen := (d.gen + 1) % 2 ^ 16 } ∧
        t.step.updated = s.step.updated ++ [entry.toNat] ∧ t.obj Obj.journalSlot row = 0) ∧
      (∀ n, stopsAt (.copying n) d.state (s.obj Obj.journalSlot row)) ∧
      stopsAt .inJournal d.state (slotRecord true entry.toNat d.gen 0) ∧
      stopsAt .journaled shJournaled (slotRecord true entry.toNat d.gen 0) ∧
      (∀ n, stopsAt (.inMoments n) shJournaled (slotRecord true entry.toNat d.gen 0)) ∧
      stopsAt .moments shMoments (slotRecord true entry.toNat d.gen 0) ∧
      (∀ n k mark, n < 2 ^ 11 → mark = min n (ceilDiv d.ecount 1024) →
        stopsAt (.blocks n) shMoments (slotRecord true entry.toNat d.gen mark) ∧
        stopsAt (.inBlock n k) shMoments (slotRecord true entry.toNat d.gen mark)))

/-- R247, R273, R274, R275: a resuming die clears the slot of a shard that is DONE at its new generation, does the update of one
that is DONE at its old one from the start, and finishes one that stopped in its journal; a due band is repacked and its
directory counts its segments; a complete update advances STEP_COUNT and shows its digest and times. -/
def Obligations.UpdatesResumeRepackAndComplete : Prop :=
  ∀ s : State, s.up = true →
    (∀ (die : Fin 32) (sc : Scalars) (w i : Nat) (d : Shard), s.step.scalars = some sc →
      s.obj Obj.journalSlot (journalRow die.val 0) = w → bitAt w 63 = true → bits w 45 18 = i → s.shard i = d →
      d.die = die.val → (∀ j, 0 < j → j < 8 → bitAt (s.obj Obj.journalSlot (journalRow die.val j)) 63 = false) →
      (d.state = shDone → d.gen = (bits w 29 16 + 1) % 2 ^ 16 → ∃ t, exec (.journalRedo die) s = .next t ∧
        t.obj Obj.journalSlot (journalRow die.val 0) = 0 ∧ s.OnlyRows (oneRow Obj.journalSlot (journalRow die.val 0)) t) ∧
      (d.state = shDone → d.gen ≠ (bits w 29 16 + 1) % 2 ^ 16 → d.jrnl = true → ∃ t, exec (.journalRedo die) s = .next t ∧
        t.shard i = { d with gen := (d.gen + 1) % 2 ^ 16 } ∧ t.obj Obj.journalSlot (journalRow die.val 0) = 0 ∧
        t.step.updated = s.step.updated ++ [i] ∧ t.obj Obj.journalRedos 0 = s.obj Obj.journalRedos 0) ∧
      (d.state = shJournaled ∨ d.state = shMoments → ∃ t, exec (.journalRedo die) s = .next t ∧
        t.shard i = { d with state := shDone, gen := (d.gen + 1) % 2 ^ 16 } ∧
        t.obj Obj.journalSlot (journalRow die.val 0) = 0 ∧ t.step.updated = s.step.updated ++ [i] ∧
        t.obj Obj.journalRedos 0 = satAdd 64 (s.obj Obj.journalRedos 0) 1 ∧
        bits (t.obj Obj.faultLog ((s.lastSeq + 1) % 2 ^ 32 % 4096)) 144 16 = (if die.val < 24 then 0x4411 else 0x6411))) ∧
    (∀ (tensor : W32) (stack : StackNo) (column : Bool) (band row : Nat) (m : MaskRow) (n : Nat),
      s.maskOf tensor.toNat = some (row, m) → bandKey tensor.toNat stack.val column band ∈ s.step.repack →
      (s.bandSegs m.tensor stack.val m column band).length = n → n < 2 ^ 12 →
      ∃ t, exec (.bandRepack tensor stack column band) s = .next t ∧
        t.step = { s.step with repack := s.step.repack.filter (· != bandKey tensor.toNat stack.val column band) } ∧
        memNat t.fast (s.bandDir m.tensor stack.val m column band) 8 =
          setBits (memNat s.fast (s.bandDir m.tensor stack.val m column band) 8) 28 12 n ∧
        t.field Obj.maskSegmentsPeak row (if column then 16 else 0) 16 =
          max (s.field Obj.maskSegmentsPeak row (if column then 16 else 0) 16) n ∧ t.slow = s.slow) ∧
    (s.phase = 4 → s.updateDone = true → ∃ t, exec .updateComplete s = .next t ∧ t.stepCount = s.stepCount + 1 ∧
      t.obj Obj.digestLast 0 = s.step.digest.toNat ∧ t.obj Obj.updateTime 0 = s.time.now - s.step.commitTime ∧
      t.obj Obj.slowUpdateTime 0 = s.step.slowTime ∧ t.step.digestSent = true ∧ t.step.maskSlots = [] ∧
      t.fast = s.fast) ∧
    (s.updateDone = false → exec .updateComplete s = .next s)

/-- R278, R329, R330, R331: a report's new entries join the list, which a module sends towards the chain head once its own
entry and those it waits for are there, and which the chain head judges once it holds one entry per live position; a verdict is taken once: SPLIT pauses the module at the STEP boundary, a module the map names is
divergent and is to leave, and the median pace is kept. -/
def Obligations.DigestsAreGatheredAndJudged : Prop :=
  ∀ (port : PortNo) (hdr : FrameHdr) (s : State), s.Arrives port hdr → s.link.member = true → s.link.reweaving = false →
    (∀ (entries new : List (BitVec 128)),
      entries.filter (fun e => !s.link.digestList.any (fun k => bits k.toNat 0 8 == bits e.toNat 0 8)) = new →
      (s.step.digestSent = false → ∃ t, exec (.digestReport port hdr entries) s = .next t ∧
        t.link.digestList = s.link.digestList ++ new ∧ s.OnlyFrames linkRows t) ∧
      (s.step.digestSent = true → s.step.verdictSeen = false →
        s.entriesAwaited + 1 ≤
          ((s.link.digestList ++ new).filter (fun e => bitAt s.liveMap (bits e.toNat 0 8 - 1))).length →
        (s.isChainHead = true → ∃ t, exec (.digestReport port hdr entries) s = .next t ∧ t.step.verdictSeen = true ∧
          t.link.digestList = [] ∧ t.phase ≠ 5) ∧
        (∀ n p, s.isChainHead = false → s.towardsHead = some n → s.livePort n = some p →
          ∃ t, exec (.digestReport port hdr entries) s = .next t ∧ t.link.digestList = [] ∧
            t.Given p (s.frame tyDigest 0 (packFields 128 ((s.link.digestList ++ new).map (·.toNat)))
              (16 * (s.link.digestList ++ new).length)) ∧ s.OnlyFrames linkRows t))) ∧
    (∀ (majority : Option W64) (map : W32) (median : BitVec 56), s.step.verdictSeen = false →
      ∃ t, exec (.digestVerdict port hdr majority map median) s = .next t ∧ t.step.verdictSeen = true ∧
        t.obj Obj.paceMedian 0 = median.toNat ∧
        (majority = none → t.step.mustPause = true) ∧
        (majority.isSome = true → t.step.mustPause = s.step.mustPause ∧
          t.step.divergent = (s.step.divergent || bitAt map.toNat (s.myPos - 1)) ∧
          t.step.leaveAsked = (s.step.leaveAsked || bitAt map.toNat (s.myPos - 1))) ∧
        (s.phase = 5 → bits (s.obj Obj.evalControl 0) 0 16 = 0 → t.phase = 7) ∧ s.SameBytes t) ∧
    (∀ (majority : Option W64) (map : W32) (median : BitVec 56), s.step.verdictSeen = true →
      ∃ t, exec (.digestVerdict port hdr majority map median) s = .next t ∧ s.OnlyFrames linkRows t)

/-- R173, R249, R276, R284, R288, R297: at the STEP boundary STEP_RESULT shows the step's decision, the running stones start
over, and the module pauses, goes idle, or begins the next step at microbatch 0, with LOSS_LOCAL and TOKENS_LOCAL as they are
until that starts. Nothing is pending here, no unit is
due to retire or has been late, and the membership does not change. -/
def Obligations.TheStepBoundaryClosesTheStep : Prop :=
  ∀ s : State, s.up = true → s.phase = 7 → s.dict.voteLost = [] → s.link.reweaving = false → s.dict.pending = [] →
    s.faults.dueRetire = [] → s.lateness = [] → s.faults.window = [] →
    s.link.member = false → s.link.pendingLoss = [] → s.link.early = none → s.step.leaveAsked = false →
    s.faults.dropSince = none →
    ∃ t, exec .stepBoundary s = .next t ∧ t.stones = [] ∧
      bits (t.obj Obj.stepResult 0) 56 8 = decisionOf (s.step.decision.getD 0) ∧
      bits (t.obj Obj.stepResult 0) 48 8 = causeByte (s.step.decision.getD 0) ∧
      (bitAt (s.obj Obj.stepControl 0) 1 = true → t.phase = 8 ∧ bitAt (t.obj Obj.stepControl 0) 1 = false) ∧
      (s.step.mustPause = true → t.phase = 8) ∧
      (bitAt (s.obj Obj.stepControl 0) 1 = false → s.step.mustPause = false →
        (bitAt (s.obj Obj.stepControl 0) 2 = false ∨ s.committed = true) →
        (bitAt (s.obj Obj.stepControl 0) 0 = true → t.phase = 1 ∧ t.mbIndex = 0 ∧
          t.step.total = s.obj Obj.stepMicrobatches 0 ∧ t.obj Obj.lossLocal 0 = s.obj Obj.lossLocal 0 ∧
          t.obj Obj.tokensLocal 0 = s.obj Obj.tokensLocal 0 ∧
          t.step.decision = none ∧ t.step.updated = []) ∧
        (bitAt (s.obj Obj.stepControl 0) 0 = false → t.phase = 0)) ∧
      (bitAt (s.obj Obj.stepControl 0) 2 = true → s.committed = false → t.phase = 8)

/-! ## Links, time and marks -/

/-- R307: a frame's header, payload and CRC are read back from its bytes. R300, R301, R309, R310: an unsequenced header brings
acknowledgements and credits; NAK sends every outstanding frame again; a trained port says HELLO; a HELLO from the module that
the grid's shape asks for brings the port up, and any other leaves it MISWIRED. -/
def Obligations.PortsTrainSayHelloAndAcknowledge : Prop :=
  (∀ (h : FrameHdr) (f : OutFrame), h.step = f.step → h.poison = f.poison → 1 ≤ f.typ.toNat → f.typ.toNat ≤ 7 →
    f.bytes ≤ 4096 → f.bytes % 8 = 0 → f.payload < 2 ^ (8 * f.bytes) → readFrame (wireBytes h f) = some (h, f)) ∧
  (∀ (port : PortNo) (hdr : FrameHdr) (s : State), s.up = true → s.link.ports.length = 8 →
    (s.receives port.val = false → exec (.idle port hdr) s = .next s) ∧
    (s.receives port.val = true → (s.port port.val).waiting = [] → hdr.nak = false → ∃ t, exec (.idle port hdr) s = .next t ∧
      t.port port.val = { s.port port.val with
        unacked := acked hdr.ackseq (s.port port.val).unacked
        ctlCredits := min 8 ((s.port port.val).ctlCredits + hdr.ccred.toNat)
        bulkCredits := min 56 ((s.port port.val).bulkCredits + hdr.bcred.toNat) } ∧
      (∀ q, q ≠ port.val → t.port q = s.port q) ∧ s.OnlyFrames linkRows t) ∧
    (s.receives port.val = true → hdr.nak = true → acked hdr.ackseq (s.port port.val).unacked ≠ [] →
      ∃ t, exec (.idle port hdr) s = .next t ∧
        t.obj Obj.linkReplays port.val = satAdd 64 (s.obj Obj.linkReplays port.val) 1 ∧
        bits (t.obj Obj.faultLog ((s.lastSeq + 1) % 2 ^ 32 % 4096)) 144 16 = 0x8101) ∧
    (s.portState port.val = lkTraining → ∃ t, exec (.portTrained port) s = .next t ∧ t.portState port.val = lkHello ∧
      t.lanes port.val = s.goodLanes port.val % 16 ∧ t.Given port.val (s.helloFrame port.val)) ∧
    (s.portState port.val ≠ lkTraining → exec (.portTrained port) s = .next s) ∧
    (∀ (chain : BitVec 5) (position : BitVec 6) (peerPort : BitVec 3) (positions chains : BitVec 6), s.Arrives port hdr →
      (positions.toNat = s.gridP → chains.toNat = s.gridC → s.unusedPort port.val = false →
        (chain.toNat, position.toNat, peerPort.toNat) = s.peerOf port.val →
        ∃ t, exec (.hello port hdr chain position peerPort positions chains) s = .next t ∧ t.portState port.val = lkUp ∧
          (t.port port.val).rxNext = (s.port port.val).rxNext + 1 ∧
          t.obj Obj.linkFramesRx port.val = satAdd 64 (s.obj Obj.linkFramesRx port.val) 1 ∧
          t.field Obj.linkState port.val 21 6 = position.toNat ∧ t.field Obj.linkState port.val 27 5 = chain.toNat) ∧
      ((positions.toNat ≠ s.gridP ∨ chains.toNat ≠ s.gridC ∨
          (chain.toNat, position.toNat, peerPort.toNat) ≠ s.peerOf port.val) →
        ∃ t, exec (.hello port hdr chain position peerPort positions chains) s = .next t ∧
          t.portState port.val = lkMiswired)))

/-- R309, R311, R343, R374, R495: a timeout sends every outstanding frame again; a discarded frame asks for a replay;
a lane lost, or retired by a frame of the peer that is next in sequence (log entry 57), leaves the port retraining on the rest,
and the last retires the port; retraining brings it up again; a
cable trains a port and its loss takes the port down. -/
def Obligations.LanesRetireRetrainAndReplay : Prop :=
  ∀ (port : PortNo) (s : State), s.up = true → s.link.ports.length = 8 →
    (s.receives port.val = true → (s.port port.val).unacked ≠ [] → ∃ t, exec (.linkAckTimeout port) s = .next t ∧
      t.obj Obj.linkReplays port.val = satAdd 64 (s.obj Obj.linkReplays port.val) 1 ∧
      t.obj Obj.linkFramesTx port.val =
        satAdd 64 (s.obj Obj.linkFramesTx port.val) (s.port port.val).unacked.length ∧
      (t.port port.val).unacked = (s.port port.val).unacked ∧
      (t.port port.val).lastSent.map (·.2) = (s.port port.val).unacked.map (·.2) ∧
      s.OnlyRows linkRows { t with link := s.link }) ∧
    (∀ reason : DiscardReason, s.receives port.val = true → ∃ t, exec (.frameDiscarded port reason) s = .next t ∧
      (t.port port.val).nakNext = true ∧
      t.obj Obj.linkCrcErrors port.val = (if reason = .sequence then s.obj Obj.linkCrcErrors port.val
        else satAdd 64 (s.obj Obj.linkCrcErrors port.val) 1) ∧
      s.OnlyRows (oneRow Obj.linkCrcErrors port.val) { t with link := s.link }) ∧
    (∀ lane : Fin 4, bitAt (s.lanes port.val) lane.val = true →
      (∀ i, ((i = Instr.laneRetire port lane ∧ s.receives port.val = true) ∨ i = Instr.laneLossOfLock port lane) →
        ∃ t, exec i s = .next t ∧
        bitAt (t.lanes port.val) lane.val = false ∧
        (∀ l, l < 4 → l ≠ lane.val → bitAt (t.lanes port.val) l = bitAt (s.lanes port.val) l) ∧
        unitId lvLane (8 * port.val + lane.val) ∈ t.faults.retired ∧
        (s.lanes port.val = 2 ^ lane.val → t.portState port.val = lkRetired) ∧
        (s.lanes port.val ≠ 2 ^ lane.val → s.portState port.val = lkUp → t.portState port.val = lkRetraining) ∧
        (i = Instr.laneRetire port lane → (t.port port.val).rxNext = (s.port port.val).rxNext + 1))) ∧
    (∀ (lane : Fin 4) (corrected uncorrectable : Nat) (u : UnitId), unitId lvLane (8 * port.val + lane.val) = u →
      (s.isRetired u = true ∨ s.recent u < s.obj Obj.faultPermRecur 0 ∨ s.stepping = true) →
      ∃ t, exec (.laneFecWindow port lane corrected uncorrectable) s = .next t ∧
        t.obj Obj.linkFecCorrected port.val = satAdd 64 (s.obj Obj.linkFecCorrected port.val) corrected ∧
        t.obj Obj.linkFecUncorr port.val = satAdd 64 (s.obj Obj.linkFecUncorr port.val) uncorrectable ∧
        t.faults = { s.faults with
          occurrences := s.faults.occurrences ++ [(u, s.time.now)]
          dueRetire := s.faults.dueRetire ++
            (if s.isRetired u = true ∨ s.recent u < s.obj Obj.faultPermRecur 0 then [] else [u]) } ∧
        s.OnlyRows (rowsOf [Obj.linkFecCorrected, Obj.linkFecUncorr]) { t with faults := s.faults }) ∧
    (s.portState port.val = lkRetraining → ∃ t, exec (.laneRetrainDone port) s = .next t ∧ t.portState port.val = lkUp ∧
      t.Given port.val (s.helloFrame port.val) ∧ (t.port port.val).retiring = [] ∧
      bits (t.obj Obj.recoveryLast 0) 88 8 = 1 ∧ bits (t.obj Obj.recoveryLast 0) 128 64 = s.time.now % 2 ^ 64) ∧
    (s.portState port.val ≠ lkRetired → s.unusedPort port.val = false → s.linksTrain = true → s.goodLanes port.val ≠ 0 →
      (s.port port.val).cable = false → ∃ t, exec (.linkCableConnect port) s = .next t ∧
        t.portState port.val = lkTraining ∧ t.port port.val = { cable := true }) ∧
    (s.portState port.val ≠ lkRetired → s.portState port.val ≠ lkUnused → ∃ t,
      exec (.linkCableRemove port) s = .next t ∧ t.portState port.val = lkDown ∧ (t.port port.val).cable = false)

/-- R333, R334, R336, R337, R338, R436, R498: chain time never goes back: a grain advances it by one grain, held still not at
all, slewed by a sixteenth of a grain more or less in 625 grains (log entry 58); a TIME frame with a bad CRC is dropped and counted; the stamps of a good one
are kept for the next frame sent, and those from the time parent give delay and offset; a mark sets the time of a
master that follows it; MARK_OUT pulses as its mode says; and the bolts' copies of CHAIN_TIME are refreshed. -/
def Obligations.TimeIsMeasuredMarkedAndCopied : Prop :=
  (∀ (t u : Time) (coast : Bool), t.advance coast = u →
    (0 < t.still → u.now = t.now ∧ u.frac = t.frac ∧ u.still = t.still - 1) ∧
    (t.still = 0 → t.direction coast = 0 → u.now = t.now + 1 ∧ u.frac = t.frac) ∧
    (t.still = 0 → t.direction coast ≠ 0 → u.rate = t.direction coast ∧
      (t.slewPhase + 1 < 625 → u.now = t.now + 1 ∧ u.frac = t.frac ∧ u.slew = t.slew ∧ u.slewPhase = t.slewPhase + 1) ∧
      (625 ≤ t.slewPhase + 1 → t.direction coast = 1 ∨ t.direction coast = -1 →
        (16 * u.now + u.frac : Int) = 16 * t.now + t.frac + 16 + t.direction coast ∧
        u.slew = t.slew - t.direction coast ∧ u.slewPhase = 0))) ∧
  ∀ s : State, s.up = true →
    (∀ (port : PortNo) (tx echoTx echoRx : W64) (frac : BitVec 4), s.receives port.val = true → s.link.ports.length = 8 →
      (∃ t, exec (.timeFrame port false tx echoTx echoRx frac) s = .next t ∧
        t.obj Obj.linkCrcErrors port.val = satAdd 64 (s.obj Obj.linkCrcErrors port.val) 1 ∧
        s.OnlyRows (oneRow Obj.linkCrcErrors port.val) t) ∧
      (∃ t, exec (.timeFrame port true tx echoTx echoRx frac) s = .next t ∧ (t.port port.val).echoTx = tx ∧
        (t.port port.val).echoRx = s.stamp frac.toNat) ∧
      (s.isTimeMaster = false → s.timeParent.1 = some port.val → s.timeState = tsLocked → ¬(echoTx = 0 ∧ echoRx = 0) →
        ∃ t, exec (.timeFrame port true tx echoTx echoRx frac) s = .next t ∧
          t.obj Obj.linkDelay port.val = unsigned 32 (timeOffset echoTx echoRx tx (s.stamp frac.toNat)).1 ∧
          t.obj Obj.timeOffset 0 = unsigned 32 (timeOffset echoTx echoRx tx (s.stamp frac.toNat)).2 ∧
          ((timeOffset echoTx echoRx tx (s.stamp frac.toNat)).2.natAbs < 1024 → t.time = { s.time with
            slew := -(timeOffset echoTx echoRx tx (s.stamp frac.toNat)).2 }) ∧
          (1024 ≤ (timeOffset echoTx echoRx tx (s.stamp frac.toNat)).2.natAbs → t.timeState = tsLocking ∧ t.time.slew = 0))) ∧
    (∀ port : PortNo, s.receives port.val = true → s.link.ports.length = 8 → ∃ t h f n,
      exec (.timeFrameSend port) s = .next t ∧ (t.port port.val).lastSent = [(h, f)] ∧ f.typ = 4 ∧ f.bytes = 24 ∧ n < 16 ∧
      f.payload = (s.stamp n).toNat + (s.port port.val).echoTx.toNat * 2 ^ 64 + (s.port port.val).echoRx.toNat * 2 ^ 128) ∧
    ((∀ m, s.pins.lastMark = some m → m + 2500 ≤ s.time.now) →
      (∃ t, exec .markIn s = .next t ∧ t.obj Obj.markInTime 0 = t.time.now % 2 ^ 64 ∧ t.pins.lastMark = some t.time.now ∧
        (s.isTimeMaster = true → s.obj Obj.timeSource 0 = 2 → s.time.aligned = false →
          t.time.aligned = true ∧ grainsPerSecond ∣ t.time.now ∧ s.time.now ≤ t.time.now ∧
          t.time.now < s.time.now + grainsPerSecond) ∧
        (s.isTimeMaster = true → s.obj Obj.timeSource 0 = 2 → s.time.aligned = true → t.time = { s.time with
          slew := -16 * secondError s.time.now }) ∧
        ((s.isTimeMaster = false ∨ s.obj Obj.timeSource 0 ≠ 2) → t.time = s.time) ∧
        s.OnlyRows (oneRow Obj.markInTime 0) { t with time := s.time, pins := s.pins })) ∧
    (∀ m, s.pins.lastMark = some m → s.time.now < m + 2500 → exec .markIn s = .next s) ∧
    (s.mode ≠ stBoot → ((s.obj Obj.markOutMode 0 = 1 ∧ grainsPerSecond ∣ s.time.now) ∨
        (s.obj Obj.markOutMode 0 = 2 ∧ s.phase = 4 ∧ s.time.now = s.step.commitTime)) →
      exec .markOutPulse s = .next { s with pins := { s.pins with markOut := true, markFall := s.time.now + 25000 } }) ∧
    (∃ t, exec .chainTimeRefresh s = .next t ∧ t = { s with bolts := t.bolts } ∧
      (∀ b : BoltNo, t.bolt b.val = (if s.field Obj.boltState b.val 0 4 = 0 then
        { s.bolt b.val with chainTimeCopy := BitVec.ofNat 64 s.time.now } else s.bolt b.val)))

/-! ## Membership and addresses -/

/-- R314, R315, R317, R319, R327, R328, R340, R341, R342, R359: a loss or a leave heard of is recorded once and, at the grid
head before the decision, gives the grid the new L under the next epoch and abandons the open step; elsewhere it is
passed on towards the head; later copies are folded. A newer MEMBERSHIP is taken, an older one discarded. The grid head notes a
JOIN, and the module beside a joiner supplies it (log entry 54); a module that reaches no chain neighbour removes itself; and a
joining module writes the copy it receives from the source that owes it. -/
def Obligations.MembershipFollowsLossesLeavesAndJoins : Prop :=
  ∀ (port : PortNo) (hdr : FrameHdr) (s : State), s.Arrives port hdr →
    (∀ (chain : BitVec 5) (position : BitVec 6) (kind e : Nat) (i : Instr), s.link.member = true →
      ((i = .memberLost port hdr chain position ∧ kind = 2) ∨ (i = .leave port hdr chain position ∧ kind = 3)) →
      s.lostEnd (some port.val) chain.toNat position.toNat kind = e →
      (s.link.recorded.contains (chain.toNat, position.toNat) = true → ∃ t, exec i s = .next t ∧
        t.obj Obj.faultFolded 0 = satAdd 64 (s.obj Obj.faultFolded 0) 1 ∧ t.faults = s.faults ∧ t.step = s.step) ∧
      (s.link.recorded.contains (chain.toNat, position.toNat) = false →
        ((e = 0 ∨ bitAt s.liveMap (e - 1) = false) → ∃ t, exec i s = .next t ∧
          t.link.recorded = s.link.recorded ++ [(chain.toNat, position.toNat)] ∧
          (∃ g ∈ t.faults.groups, ∃ r ∈ g.reports, r.reporter = hdrPeer hdr ∧
            r.unit = unitId lvPeer (chain.toNat * 2 ^ 8 + position.toNat) ∧ r.code = 0xC302) ∧ t.step = s.step) ∧
        (e ≠ 0 → bitAt s.liveMap (e - 1) = true → s.isGridHead = true → s.undecided = true → s.link.queries = 0 →
          s.stepCount < 2 ^ 64 → s.without e < 2 ^ 32 → bitAt (s.without e) (s.myPos - 1) = true → 0 < s.myPos →
          s.link.reweaving = false →
          ∃ t w, exec i s = .next t ∧ t.liveMap = s.without e ∧ t.epoch = (s.epoch + 1) % 2 ^ 16 ∧
            t.step.decision = some w ∧ decisionOf w = 2 ∧ causeByte w = 16 ∧ t.phase = 7) ∧
        (∀ n p, e ≠ 0 → bitAt s.liveMap (e - 1) = true → s.isGridHead = false → ¬(s.myChain = 0 ∧ e = s.head) →
          s.fromHead port.val = false → s.headPathBroken = false → s.towardsHead = some n → s.livePort n = some p →
          ∃ t, exec i s = .next t ∧ t.Given p (s.ctrl kind (peerPayload chain.toNat e) 8) ∧ t.step = s.step))) ∧
    (∀ (live : W32) (epoch : W16), epochOlder s.epoch epoch.toNat = true →
      (s.link.member = true → bitAt live.toNat (s.myPos - 1) = true → 0 < s.myPos → s.link.reweaving = false →
        ∃ t, exec (.membership port hdr live epoch) s = .next t ∧
        t.liveMap = live.toNat ∧ t.epoch = epoch.toNat ∧ t.link.member = true ∧ t.link.recorded = [] ∧ t.mode = s.mode) ∧
      (s.link.member = true → bitAt live.toNat (s.myPos - 1) = false →
        ∃ t, exec (.membership port hdr live epoch) s = .next t ∧ t.liveMap = live.toNat ∧ t.link.member = false ∧
        t.mode = stStandby ∧ t.phase = 0 ∧ t.step.mbRunning = false) ∧
      (s.link.member = false → s.link.reweaving = false → bitAt live.toNat (s.myPos - 1) = false →
        ∃ t, exec (.membership port hdr live epoch) s = .next t ∧ t.liveMap = live.toNat ∧ t.epoch = epoch.toNat ∧
        t.link.member = false ∧ t.mode = s.mode)) ∧
    (∀ (live : W32) (epoch : W16), epochOlder s.epoch epoch.toNat = false →
      ∃ t, exec (.membership port hdr live epoch) s = .next t ∧ s.OnlyFrames linkRows t) ∧
    (∀ (chain : BitVec 5) (position : BitVec 6) (image : W64),
      ¬(chain.toNat = s.myChain ∧ position.toNat = s.myPos) → image.toNat = s.obj Obj.loadedId 0 →
      let beside := port.val < 6 ∧ s.posAt (neighbourOf port.val) = position.toNat ∧ chain.toNat = s.myChain
      let live := bitAt s.liveMap (position.toNat - 1)
      (s.isGridHead = true → live = true → ∃ t, exec (.join port hdr chain position image) s = .next t ∧
        (chain.toNat, position.toNat) ∈ t.link.joined ∧ (∀ q ∈ s.link.joined, q ∈ t.link.joined) ∧
        s.OnlyFrames linkRows t) ∧
      (s.isGridHead = true → live = false → ¬beside → ∃ t, exec (.join port hdr chain position image) s = .next t ∧
        (chain.toNat, position.toNat) ∈ t.link.rewoven ∧ t.link.joined = s.link.joined ∧ s.OnlyFrames linkRows t) ∧
      (s.link.member = true → live = false → beside → ∃ t, exec (.join port hdr chain position image) s = .next t ∧
        { next := (neighbourOf port.val == .next), step := s.stepCount } ∈ t.link.supply ∧ s.OnlyFrames linkRows t)) ∧
    (∀ (chain : BitVec 5) (position : BitVec 6) (image : W64), chain.toNat = s.myChain → position.toNat = s.myPos →
      image.toNat ≠ s.obj Obj.loadedId 0 → ∃ t, exec (.join port hdr chain position image) s = .next t ∧
        t.link.member = false ∧ t.mode = stStandby) ∧
    (∀ n : Neighbour, s.hasPeer n = false → exec (.peerLost n) s = .next s) ∧
    (∀ n : Neighbour, s.hasPeer n = true → (∀ k, k ≠ n → s.hasPeer k = false) → 1 < s.live.length →
      ∃ t, exec (.peerLost n) s = .next t ∧ n ∈ t.link.lostNeighbours ∧ t.link.member = false ∧ t.mode = stRecover ∧
        t.phase = 0 ∧ t.step.mbRunning = false) ∧
    (∀ (entry : BitVec 18) (array : BitVec 4) (offset : BitVec 42) (data : List Byte) (slow : Bool) (base n : Nat),
      s.link.reweaving = true → s.fromSource port.val entry.toNat = true → (s.weavePhase = 1 ∨ s.weavePhase = 2) → array ≠ 8 →
      s.copyExtent entry.toNat array.toNat = some (slow, base, n) → 4096 * offset.toNat < n → data.length = 4096 →
      ∃ t, exec (.reweaveFrame port hdr entry array offset data) s = .next t ∧
        memRead (t.tier slow) (base + 4096 * offset.toNat) 4096 = data ∧
        (∀ a, (a < base + 4096 * offset.toNat ∨ base + 4096 * offset.toNat + 4096 ≤ a) →
          memGet (t.tier slow) a = memGet (s.tier slow) a) ∧
        (entry.toNat, array.toNat, offset.toNat) ∈ t.link.copied ∧ (t.weavePhase = 2 ∨ t.weavePhase = 3))

/-- R303, R304, R305, R316, R339, R343, R438: ASSIGN gives an unaddressed module its address and starts it up, and any
other module ignores it; writing 0 takes the address away; the grid's shape is written outside LOADED and RUN; a leave
is asked for; and a re-weave starts and aborts. -/
def Obligations.AddressesShapeAndReweaveAreCommanded : Prop :=
  (∀ (req : TopReq) (chainIn : Bool) (outcome : StartupOutcome) (s : State), s.dictServed = true →
    reqDiscarded req = false → s.keptAnswer req = none →
    (s.obj Obj.chainAddress 0 = 0 → chainIn = true → 1 ≤ req.arg.toNat % 256 → req.arg.toNat % 256 ≤ 32 →
      req.reservedZero = true → req.flags.toNat ≤ 3 → s.dict.masters.length = 5 →
      ∃ t, exec (.assign req chainIn outcome) s = .next t ∧ t.obj Obj.chainAddress 0 = req.arg.toNat % 256 ∧
        t.pins.chainOut = true ∧ t.pins.chainIn = true ∧
        (s.mode = stUnaddressed → t.mode = stReady ∨ t.mode = stQuiet) ∧
        (outcome.serviceRestarts = 0 → t.dict.response = some (responseTo 7 req 0 s.identity 0))) ∧
    ((s.obj Obj.chainAddress 0 ≠ 0 ∨ chainIn = false) → exec (.assign req chainIn outcome) s =
      .next { s with pins := { s.pins with chainIn := chainIn }, dict := { s.dict with response := none } })) ∧
  (∀ (m : MasterNo) (s : State), s.MayWrite m →
    (∃ t, exec (.chainAddress m 0) s = .next t ∧ t.obj Obj.chainAddress 0 = 0 ∧ t.mode = stUnaddressed ∧
      t.pins.chainOut = false ∧ t.link.member = false) ∧
    (∀ v : Byte, v ≠ 0 → ∃ t, exec (.chainAddress m v) s = .next t ∧ s.OnlyRows (rowsOf accessRows) t) ∧
    (∀ v : Byte, (s.mode = stReady ∨ s.mode = stStandby ∨ s.mode = stQuiet ∨ s.mode = stSelftest ∨ s.mode = stUnaddressed) →
      (v.toNat ≤ 31 → ∃ t, exec (.chainIndex m v) s = .next t ∧ t.obj Obj.chainIndex 0 = v.toNat ∧ t.mode = s.mode) ∧
      (1 ≤ v.toNat → v.toNat ≤ 32 → (∃ t, exec (.chainPositions m v) s = .next t ∧
          t.obj Obj.chainPositions 0 = v.toNat ∧ t.mode = s.mode) ∧
        (∃ t, exec (.gridChains m v) s = .next t ∧ t.obj Obj.gridChains 0 = v.toNat ∧ t.mode = s.mode))) ∧
    (∀ v : Byte, (s.mode = stLoaded ∨ s.mode = stRun) → v.toNat ≤ 31 → ∃ t, exec (.chainIndex m v) s = .next t ∧
      s.OnlyRows (rowsOf accessRows) t) ∧
    (∃ t, exec (.chainLeave m 1) s = .next t ∧ t.step = { s.step with leaveAsked := true } ∧
      t.mode = (if s.mode = stRun then stDrain else s.mode)) ∧
    (s.link.reweaving = false → s.canWeave = true → ∃ t, exec (.reweaveStart m) s = .next t ∧ t.link.reweaving = true ∧
      t.link.copied = [] ∧ t.weavePhase = 1 ∧ t.mode = stRecover ∧ t.phase = 0) ∧
    (s.mode = stRecover → s.link.member = false → ∃ t, exec (.reweaveAbort m) s = .next t ∧ t.link.reweaving = false ∧
      t.weavePhase = 0 ∧ t.mode = stStandby))

/-! ## The dictionary -/

/-- R380, R407, R416, R421, R425, R426, R431: a READ by TOP answers the row as it stands, a BAR0 read and a read of
configuration space return it to the host, DESCRIBE answers the object's descriptor, ECHO the request's data, and an
object that no table defines is NO_OBJECT; nothing else changes. A voted row with one differing copy is repaired and
counted; with three differing copies it is lost and recorded. -/
def Obligations.ReadsDescribesAndEchoesAnswer : Prop :=
  (∀ (r : TopReq) (s : State), s.Serves r →
    (∀ o, objInfo? (reqId r) = some o → o.access ≠ 2 →
      (o.vote = true → tget s.dict.copies (objKey o.id r.row.toNat) = none) → r.row.toNat < o.rows →
      r.length.toNat = o.rowBytes → 0 < o.rowBytes → o.rowBytes ≤ 1440 → r.offset = 0 → r.flags = 0 →
      ∃ t, exec (.read (.top r)) s = .next t ∧
        s.Answered 1 r 0 (leBytes o.rowBytes
          (((s.respond none).bump Obj.topRequests r.master.toNat 1).readRow o.id r.row.toNat)) 0 t ∧
        s.OnlyRows (oneRow Obj.topRequests r.master.toNat) { t with dict := { s.dict with copies := t.dict.copies } }) ∧
    (∀ o b c, objInfo? (reqId r) = some o → o.access ≠ 2 → o.vote = true →
      tget s.dict.copies (objKey o.id r.row.toNat) = some (b, c) → r.row.toNat < o.rows →
      r.length.toNat = o.rowBytes → 0 < o.rowBytes → o.rowBytes ≤ 1440 → r.offset = 0 → r.flags = 0 →
      (s.voteFailed o.id r.row.toNat = true → ∃ t, exec (.read (.top r)) s = .next t ∧
        s.Answered 1 r 9 (List.replicate o.rowBytes 0) 0 t ∧ objKey o.id r.row.toNat ∈ t.dict.voteLost ∧
        t.obj Obj.faultSeqLast 0 = (s.lastSeq + 1) % 2 ^ 32 ∧
        bits (t.obj Obj.faultLog ((s.lastSeq + 1) % 2 ^ 32 % 4096)) 144 16 = 0xA402) ∧
      (s.voteFailed o.id r.row.toNat = false → ¬(s.raw o.id r.row.toNat = b ∧ b = c) →
        ∃ t data, exec (.read (.top r)) s = .next t ∧ s.Answered 1 r 0 data 0 t ∧
        t.obj o.id r.row.toNat = s.obj o.id r.row.toNat ∧ tget t.dict.copies (objKey o.id r.row.toNat) = none ∧
        t.obj Obj.tripleRepairs 0 = satAdd 64 (s.obj Obj.tripleRepairs 0) 1)) ∧
    (∀ o, objInfo? (reqId r) = some o → ∃ t, exec (.describe r) s = .next t ∧
      s.Answered 3 r 0 (leBytes 16 (descriptor o)) 0 t ∧
      s.OnlyRows (oneRow Obj.topRequests r.master.toNat) { t with dict := { s.dict with copies := t.dict.copies } }) ∧
    (objInfo? (reqId r) = none → ∀ i, (i = Instr.read (.top r) ∨ i = Instr.describe r ∨ i = Instr.write r) →
      ∃ t op, exec i s = .next t ∧ s.Answered op r 1 [] 0 t) ∧
    (∃ t, exec (.echo r) s = .next t ∧ s.Answered 8 r 0 r.data 0 t ∧
      s.OnlyRows (oneRow Obj.topRequests r.master.toNat) { t with dict := { s.dict with copies := t.dict.copies } })) ∧
  (∀ s : State, s.dictServed = true → s.host.linkUp = true →
    (∀ f, ∃ t, exec (.read (.config f)) s = .next t ∧ t = { s with host := { s.host with readData := s.configValue f } }) ∧
    (∀ (offset : BitVec 27) (size : Nat) (o : ObjInfo),
      objInfo? (offset.toNat / 2 ^ 11 * 256 + offset.toNat % 2 ^ 11 / 8) = some o → s.sec.recovery = false →
      isWide o = false → o.access ≠ 2 → (o.vote = true → tget s.dict.copies (objKey o.id 0) = none) →
      (size = 4 ∨ size = 8) → offset.toNat % 8 = 0 → o.rowBytes = size → 0 < o.rows → ∃ t, exec (.read (.bar0 offset size)) s = .next t ∧
        t.host.readData = (s.bump Obj.topRequests 0 1).readRow o.id 0 % 2 ^ (8 * size) ∧
        (o.id ≠ Obj.mirrorStatus → t.obj Obj.mirrorStatus 0 = 0) ∧
        s.OnlyRows (rowsOf accessRows) { t with host := s.host }))

/-- R409, R410, R412, R417, R418, R426, R431, R432, R434: a write of an RWB row waits in its buffer, and under its own
master's lock among the lock-pending writes; another master's lock refuses it; the window's STORE writes the window's
bytes, FETCH fills the window with the row under the cursor, and NEXT advances the cursor. R104, R140, R291, R414: the
flags of a spindle and the zero-streak bits are cleared where a 1 is written and stay elsewhere, and a write of
BOLT_PROG_TRAP clears it. -/
def Obligations.WritesWaitFlagsClearAndTheWindowMoves : Prop :=
  ((∀ (r : TopReq) (o : ObjInfo) (s : State), s.Serves r → objInfo? (reqId r) = some o → o.access = 3 →
    r.row.toNat < o.rows → r.length.toNat = r.data.length → r.data.length = o.rowBytes → 0 < o.rowBytes →
    o.rowBytes ≤ 1440 → r.offset = 0 → r.flags = 0 → s.valueBad o.id (leNat r.data) = false →
    (s.dict.lockOwner = none → s.dict.voteLost = [] → ∃ t, exec (.write r) s = .next t ∧ s.Answered 2 r 0 [] 0 t ∧
      tget t.dict.pending (objKey o.id r.row.toNat) = some (leNat r.data &&& rowMask o.id r.row.toNat) ∧
      (∀ k, k ≠ objKey o.id r.row.toNat → tget t.dict.pending k = tget s.dict.pending k) ∧
      s.OnlyRows (oneRow Obj.topRequests r.master.toNat) { t with dict := { s.dict with copies := t.dict.copies } }) ∧
    (s.dict.lockOwner = some r.master.toNat → s.dict.lockWrites.length < 4096 →
      s.lockBytes + r.data.length ≤ 2 ^ 18 → ∃ t, exec (.write r) s = .next t ∧ s.Answered 2 r 0 [] 0 t ∧
        t.dict.lockWrites = s.dict.lockWrites ++
          [{ id := o.id, row := r.row.toNat, data := r.data, master := r.master.toNat }] ∧
        t.dict.pending = s.dict.pending) ∧
    (∀ q, s.dict.lockOwner = some q → q ≠ r.master.toNat → ∃ t, exec (.write r) s = .next t ∧ s.Answered 2 r 6 [] 0 t ∧
      t.dict.pending = s.dict.pending ∧ t.dict.lockWrites = s.dict.lockWrites)) ∧
  (∀ (m : MasterNo) (s : State), s.MayWrite m →
    (∀ (index : W16) (sub : Byte) (row : W32) (data : List Byte) (o : ObjInfo),
      objInfo? (index.toNat * 256 + sub.toNat) = some o → o.access = 3 → row.toNat < o.rows → data.length = o.rowBytes →
      0 < o.rowBytes → s.valueBad o.id (leNat data) = false → (m.val = 0 → isWide o = false) →
      ∃ t, exec (.objectWrite m index sub row .whole data) s = .next t ∧
        tget t.dict.pending (objKey o.id row.toNat) = some (leNat data &&& rowMask o.id row.toNat) ∧
        (∀ k, k ≠ objKey o.id row.toNat → tget t.dict.pending k = tget s.dict.pending k) ∧
        s.OnlyRows (rowsOf accessRows) { t with dict := { s.dict with copies := t.dict.copies } }) ∧
    (m.val = 0 → ∃ t, exec .windowNext s = .next t ∧ t.cursor = (s.cursor.1, (s.cursor.2 + 1) % 2 ^ 32) ∧
      s.OnlyRows (rowsOf (Obj.dictCursor :: accessRows)) t) ∧
    (∀ o, m.val = 0 → objInfo? s.cursor.1 = some o → s.cursor.2 < o.rows → 0 < o.rowBytes →
      (o.access ≠ 2 → (o.vote = true → tget s.dict.copies (objKey o.id s.cursor.2) = none) →
        ∃ t, exec .windowFetch s = .next t ∧ (∀ i, i < 32 →
        t.obj (Obj.dictWindow + i) 0 =
          bits ((s.bump Obj.topRequests 0 1).readRow o.id s.cursor.2 % 2 ^ (8 * o.rowBytes)) (64 * i) 64) ∧
        t.obj Obj.mirrorStatus 0 = 0) ∧
      (o.access = 3 → o.rowBytes ≤ 256 → s.valueBad o.id (leNat (s.window.take o.rowBytes)) = false →
        ∃ t, exec .windowStore s = .next t ∧
          tget t.dict.pending (objKey o.id s.cursor.2) =
            some (leNat (s.window.take o.rowBytes) &&& rowMask o.id s.cursor.2) ∧
          s.OnlyRows (rowsOf accessRows) { t with dict := { s.dict with copies := t.dict.copies } })))) ∧
  (∀ (m : MasterNo) (s : State), s.MayWrite m →
    (∀ (p : Site) (v : W32), ∃ t, exec (.spindleFlagsClear m p v) s = .next t ∧
      (∀ i, bitAt (t.obj Obj.spindleFlags p.row) i = (bitAt (s.obj Obj.spindleFlags p.row) i && !bitAt v.toNat i)) ∧
      s.OnlyRows (fun id row => (id = Obj.spindleFlags ∧ row = p.row) ∨ id ∈ accessRows) t) ∧
    (∀ (row : Fin 64) (v : W64), ∃ t, exec (.zeroStreakClear m row v) s = .next t ∧
      (∀ i, bitAt (t.obj Obj.zeroStreak row.val) i = (bitAt (s.obj Obj.zeroStreak row.val) i && !bitAt v.toNat i)) ∧
      s.OnlyRows (fun id r => (id = Obj.zeroStreak ∧ r = row.val) ∨ id ∈ accessRows) t) ∧
    (∀ b : BoltNo, ∃ t, exec (.boltProgTrapClear m b) s = .next t ∧ t.obj Obj.boltProgTrap b.val = 0 ∧
      s.OnlyRows (fun id r => (id = Obj.boltProgTrap ∧ r = b.val) ∨ id ∈ accessRows) t))

/-- R417, R419, R420, R427: LOCK takes the lock for its master with its lease, a free one's lease being 2,000; COMMIT
applies the lock-pending writes, all or none, and frees it; UNLOCK discards them; an expired lock is counted and
recorded; and a request repeated with a kept SEQ is answered again without effect. -/
def Obligations.LocksCommitUnlockAndExpire : Prop :=
  (∀ (r : TopReq) (s : State), s.Serves r → ∀ l : W16, l = r.arg.truncate 16 →
    ((s.dict.lockOwner = none ∨ s.dict.lockOwner = some r.master.toNat) → (l = 0 ∨ (100 ≤ l.toNat ∧ l.toNat ≤ 60000)) →
      ∃ t, exec (.lock (.top r)) s = .next t ∧ s.Answered 4 r 0 [] 0 t ∧ t.dict.lockOwner = some r.master.toNat ∧
        t.dict.lease = (if l = 0 then 2000 else l) ∧ t.dict.lockWrites = s.dict.lockWrites) ∧
    (l ≠ 0 → (l.toNat < 100 ∨ 60000 < l.toNat) → ∃ t, exec (.lock (.top r)) s = .next t ∧ s.Answered 4 r 4 [] 0 t ∧
      t.dict.lockOwner = s.dict.lockOwner) ∧
    (∀ q, s.dict.lockOwner = some q → q ≠ r.master.toNat →
      (∃ t, exec (.commit (.top r)) s = .next t ∧ s.Answered 5 r 7 [] 0 t ∧ t.dict.lockOwner = some q) ∧
      (∃ t, exec (.unlock (.top r)) s = .next t ∧ s.Answered 6 r 7 [] 0 t ∧ t.dict.lockOwner = some q) ∧
      ((l = 0 ∨ (100 ≤ l.toNat ∧ l.toNat ≤ 60000)) →
        ∃ t, exec (.lock (.top r)) s = .next t ∧ s.Answered 4 r 6 [] 0 t ∧ t.dict.lockOwner = some q)) ∧
    (s.dict.lockOwner = some r.master.toNat →
      (∃ t, exec (.unlock (.top r)) s = .next t ∧ s.Answered 6 r 0 [] 0 t ∧ t.dict.lockOwner = none ∧
        t.dict.lockWrites = [] ∧ t.dict.pending = s.dict.pending ∧ s.RowsOnly (oneRow Obj.topRequests r.master.toNat) t) ∧
      (∀ (w : LockWrite) (o : ObjInfo), s.dict.lockWrites = [w] → objInfo? w.id = some o → o.access = 3 →
        w.data.length = o.rowBytes → 0 < o.rowBytes → s.dict.voteLost = [] →
        ∃ t, exec (.commit (.top r)) s = .next t ∧ s.Answered 5 r 0 [] 0 t ∧
        tget t.dict.pending (objKey w.id w.row) = some (leNat w.data &&& rowMask w.id w.row) ∧ t.dict.lockOwner = none ∧
        t.dict.lockWrites = []) ∧
      (∀ k st : Nat, ((s.respond none).bump Obj.topRequests r.master.toNat 1).firstFailing (tokenOf s.dict.lockWrites) 1
          s.dict.lockWrites = some (k, st) →
        ∃ t, exec (.commit (.top r)) s = .next t ∧ s.Answered 5 r 13 (leBytes 1 st) k t ∧
          t.dict.pending = s.dict.pending ∧ t.dict.lockOwner = s.dict.lockOwner ∧
          t.dict.lockWrites = s.dict.lockWrites ∧ s.RowsOnly (oneRow Obj.topRequests r.master.toNat) t))) ∧
  (∀ (r : TopReq) (s : State) (e : W16 × TopResp), s.dictServed = true → reqDiscarded r = false →
    s.obj Obj.chainAddress 0 ≠ 0 → (s.master r.master.toNat).session = some r.session →
    (s.master r.master.toNat).kept.find? (fun e => e.1 == r.seq) = some e →
    ∀ i, i ∈ [Instr.read (.top r), Instr.write r, Instr.describe r, Instr.echo r, Instr.lock (.top r),
      Instr.commit (.top r), Instr.unlock (.top r)] → ∃ t, exec i s = .next t ∧ t.dict.response = some e.2 ∧
      t.obj Obj.topDuplicates r.master.toNat = satAdd 64 (s.obj Obj.topDuplicates r.master.toNat) 1 ∧
      t = { s with objs := t.objs, dict := { s.dict with copies := t.dict.copies, response := some e.2 } } ∧
      s.RowsOnly (oneRow Obj.topDuplicates r.master.toNat) t) ∧
  (∀ (lease : W16) (s : State), s.dictServed = true → s.sec.recovery = false → s.host.linkUp = true →
    ((s.dict.lockOwner = none ∨ s.dict.lockOwner = some 0) → (lease = 0 ∨ (100 ≤ lease.toNat ∧ lease.toNat ≤ 60000)) →
      ∃ t, exec (.lock (.mirror lease)) s = .next t ∧ t.dict.lockOwner = some 0 ∧
        t.dict.lease = (if lease = 0 then 2000 else lease) ∧ t.obj Obj.mirrorStatus 0 = 0) ∧
    (s.dict.lockOwner = some 0 →
      (∃ t, exec (.unlock (.mirror lease)) s = .next t ∧ t.dict.lockOwner = none ∧ t.dict.lockWrites = [] ∧
        t.dict.pending = s.dict.pending ∧ t.obj Obj.mirrorStatus 0 = 0) ∧
      (s.dict.lockWrites = [] → ∃ t, exec (.commit (.mirror lease)) s = .next t ∧ t.dict.lockOwner = none ∧
        t.dict.pending = s.dict.pending ∧ t.obj Obj.mirrorStatus 0 = 0))) ∧
  (∀ s : State, s.up = true →
    (∀ m, s.dict.lockOwner = some m → ∃ t, exec .lockExpiry s = .next t ∧ t.dict.lockOwner = none ∧
      t.dict.lockWrites = [] ∧ t.dict.pending = s.dict.pending ∧
      t.obj Obj.lockExpiries 0 = satAdd 64 (s.obj Obj.lockExpiries 0) 1 ∧
      t.obj Obj.faultSeqLast 0 = (s.lastSeq + 1) % 2 ^ 32 ∧
      bits (t.obj Obj.faultLog ((s.lastSeq + 1) % 2 ^ 32 % 4096)) 144 16 = 0xA603) ∧
    (∀ m : MasterNo, exec (.readShadowExpiry m) s = .next (s.setMaster m.val { s.master m.val with readShadow := none }) ∧
      exec (.writeShadowExpiry m) s = .next (s.setMaster m.val { s.master m.val with writeShadow := none })))

/-! ## Faults and recovery -/

/-- R347, R349, R350, R351, R357, R360, R368, R369, R371: a silent unit is reported, and unless it has itself reported
it is retired, which stops a running microbatch where it is a spindle in use; a hard indicator retires its unit: a
bolt is lost and the module leaves, a port is retired, a spindle is due for its fence, and a slow-tier device is
retired with its lost contents to be refilled. -/
def Obligations.SilentAndFailedUnitsAreRetired : Prop :=
  ∀ s : State, s.up = true →
    (∀ reporter unit : UnitId,
      (s.hasReported unit = true → ∃ t, exec (.livenessMiss reporter unit) s = .next t ∧
        (∃ g ∈ t.faults.groups, ∃ r ∈ g.reports, r.reporter = reporter ∧ r.unit = unit ∧
          r.code = BitVec.ofNat 16 (silentCode unit.level.toNat) ∧ r.time = s.time.now) ∧
        t = { s with
          objs := t.objs, dict := { s.dict with copies := t.dict.copies },
          faults := { s.faults with groups := t.faults.groups } } ∧
        s.RowsOnly (oneRow Obj.faultReports 0) t) ∧
      (∀ b c r : Nat, b = bits unit.unit.toNat 24 6 → c = bits unit.unit.toNat 20 4 → r = bits unit.unit.toNat 16 4 →
        unit.level.toNat = lvSpindle → (s.logicalOf b c r).isSome = true → bits (s.obj Obj.cardingMap b) (4 * c) 4 = 15 →
        (∀ d ∈ s.faults.dueFence, ¬(d.1 = b ∧ d.2.1 = c)) → s.step.mbRunning = true → s.mode = stRun →
        (s.hasReported unit = false → ∃ t, exec (.livenessMiss reporter unit) s = .next t ∧
          t.faults.dueFence = s.faults.dueFence ++ [(b, c, r + 16)] ∧ t.faults.stopped = true ∧
          t.step.mbRunning = false ∧ t.mode = stRecover) ∧
        (∀ detail : W32, ∃ t, exec (.hardIndicator unit detail) s = .next t ∧
          t.faults.dueFence = s.faults.dueFence ++ [(b, c, r + 32)] ∧ t.faults.stopped = true ∧
          t.step.mbRunning = false ∧ t.mode = stRecover))) ∧
    (∀ (unit : UnitId) (detail : W32),
      (unit.level.toNat = lvBolt → s.field Obj.boltState (bits unit.unit.toNat 0 6) 0 4 = 0 → s.mode = stRun →
        ∃ t, exec (.hardIndicator unit detail) s = .next t ∧ t.prog.unrunnable = true ∧ t.link.member = false ∧
        t.mode = stStandby ∧ t.phase = 0 ∧ t.field Obj.boltState (bits unit.unit.toNat 0 6) 0 4 =
          (if detail.toNat = 2 ∨ detail.toNat = 5 then detail.toNat else 4)) ∧
      (unit.level.toNat = lvPort → s.portState (bits unit.unit.toNat 0 3) ≠ lkRetired →
        ∃ t, exec (.hardIndicator unit detail) s = .next t ∧ t.portState (bits unit.unit.toNat 0 3) = lkRetired ∧
        t.faults.hard = s.faults.hard ++ [{ time := s.time.now, unit := unit, code := 0x8202, detail := detail }]) ∧
      (∀ die k : Nat, unit.level.toNat = lvSlowdev → die = 24 + bits unit.unit.toNat 2 3 → k = bits unit.unit.toNat 0 2 →
        bitAt (s.retiredMap die) k = false → (∃ u, s.redirect die k = some u ∧ 0 < u.2) → s.mode = stRun →
        ∃ t, exec (.hardIndicator unit detail) s = .next t ∧ bitAt (t.retiredMap die) k = true ∧
          (die, k) ∈ t.faults.lost ∧ t.mode = stRecover))

/-- R352, R353, R357, R358, R361, R362, R366: a group of one report closes with one root record of it; a due spindle
is fenced by carding its column around the row, and a failed test of the newly occupied site loses the bolt. -/
def Obligations.GroupsCloseInARootRecordAndSitesAreFenced : Prop :=
  ∀ s : State, s.up = true →
    (s.faults.groups = [] → exec .reportGroupClose s = .next s) ∧
    (∀ (g : Group) (r : Report), s.faults.groups = [g] → g.reports = [r] → sameUnit r.reporter r.unit = false →
      s.faults.hard = [] → s.faults.owed = [] → ∃ t, exec .reportGroupClose s = .next t ∧ t.faults.groups = [] ∧
        t.obj Obj.faultSeqLast 0 = (s.lastSeq + 1) % 2 ^ 32 ∧
        (∀ w, w = t.obj Obj.faultLog ((s.lastSeq + 1) % 2 ^ 32 % 4096) →
          bitAt w 0 = true ∧ bits w 144 16 = r.code.toNat ∧ bits w 96 32 = r.unit.unit.toNat ∧
          bits w 64 32 = r.detail.toNat ∧ bits w 128 16 = 0 ∧ bits w 192 64 = r.time % 2 ^ 64)) ∧
    (∀ (b : BoltNo) (c : Fin 16) (r : Fin 13) (how : Nat), s.faults.dueFence = [(b.val, c.val, r.val + 16 * how)] →
      s.mayFence = true → s.inOpenGroup (unitId lvSpindle (s.physUnit b.val c.val r.val)) = false →
      bits (s.obj Obj.cardingMap b.val) (4 * c.val) 4 = 15 →
      (∃ t, exec (.fence b c r true) s = .next t ∧ bits (t.obj Obj.cardingMap b.val) (4 * c.val) 4 = r.val ∧
        (∀ k : Fin 16, k ≠ c → bits (t.obj Obj.cardingMap b.val) (4 * k.val) 4 =
          bits (s.obj Obj.cardingMap b.val) (4 * k.val) 4) ∧
        (∀ d : BoltNo, d ≠ b → t.obj Obj.cardingMap d.val = s.obj Obj.cardingMap d.val) ∧
        t.obj Obj.fences 0 = satAdd 32 (s.obj Obj.fences 0) 1 ∧ t.faults.dueFence = [] ∧
        t.field Obj.boltState b.val 8 8 = (s.field Obj.boltState b.val 8 8 + 1) % 2 ^ 8) ∧
      (s.field Obj.boltState b.val 0 4 = 0 → ∃ t, exec (.fence b c r false) s = .next t ∧
        t.field Obj.boltState b.val 0 4 = 2 ∧ t.prog.unrunnable = true ∧ t.step.mbRunning = false ∧
        t.obj Obj.cardingMap b.val = s.obj Obj.cardingMap b.val))

/-- R347, R360, R362, R364, R365, R369, R370, R374, R438: a stopped microbatch is replayed once it can be, discarding
what it had added; a refill without a source leaves its shards TORN and the module PAUSED, a complete one whose CRCs
agree ends it, and a mismatch is recorded; a firmware watchdog restarts its unit. -/
def Obligations.ReplaysRefillsAndRestartsRecover : Prop :=
  ∀ s : State, s.up = true →
    (s.canReplay = false → exec .microbatchReplay s = .next s) ∧
    (s.canReplay = true → ∃ t, exec .microbatchReplay s = .next t ∧
      t.obj Obj.replays 0 = satAdd 64 (s.obj Obj.replays 0) 1 ∧ t.step.mbRunning = true ∧ t.faults.stopped = false ∧
      t.faults.moved = [] ∧ t.step.gradSkip = s.skipsOf ∧ t.step.gradCount = s.skipsOf ∧
      t.mode = (if s.mode = stRecover then stRun else s.mode)) ∧
    (∀ crcs : List (BitVec 18 × W64),
      (s.needsRefill = false → exec (.refill crcs) s = .next s) ∧
      (s.needsRefill = true → (s.phase = 4 → ∀ e ∈ s.liveShards, s.step.updated.contains e.1 = true ∨
          s.refillsWhole e.2 = true) → s.refillDesc.hasSource = false → ∃ t, exec (.refill crcs) s = .next t ∧
        t.faults.lost = [] ∧ t.phase = 8 ∧ t.mode = (if s.mode = stRecover then stRun else s.mode) ∧
        (∀ e ∈ s.refillDesc.refillShards, (t.shard e.1).state = shTorn)) ∧
      (∀ u : State, u = s.refillDesc → s.needsRefill = true → u.hasSource = true →
        (s.phase = 4 → ∀ e ∈ s.liveShards, s.step.updated.contains e.1 = true ∨ s.refillsWhole e.2 = true) →
        (∀ k ∈ u.refillUnits, k ∈ u.link.copied) →
        ((∀ e ∈ u.refillShards, ∃ c ∈ crcs, c.1.toNat = e.1 ∧ c.2.toNat = u.crcNow e.1 (u.refillGen e)) →
          ∃ t, exec (.refill crcs) s = .next t ∧ t.faults.lost = [] ∧ t.obj Obj.refillStatus 0 = 0 ∧
            t.obj Obj.faultSeqLast 0 = (s.lastSeq + 1) % 2 ^ 32 ∧
            bits (t.obj Obj.faultLog ((s.lastSeq + 1) % 2 ^ 32 % 4096)) 144 16 = 0xB402 ∧
            t.mode = (if s.mode = stRecover ∧ s.faults.stopped = false ∧ s.link.member = true then stRun else s.mode)) ∧
        (∀ e ∈ u.refillShards, (∀ c ∈ crcs, ¬(c.1.toNat = e.1 ∧ c.2.toNat = u.crcNow e.1 (u.refillGen e))) →
          (∀ f ∈ u.refillShards, ∃ c ∈ crcs, c.1.toNat = f.1) → ∃ t, exec (.refill crcs) s = .next t ∧
            t.faults.lost = s.faults.lost ∧ t.obj Obj.faultSeqLast 0 = (s.lastSeq + 1) % 2 ^ 32 ∧
            bits (t.obj Obj.faultLog ((s.lastSeq + 1) % 2 ^ 32 % 4096)) 144 16 = 0xB403 ∧
            (∀ k ∈ t.link.copied, k ∈ s.link.copied ∧ ¬(k.1 = e.1 ∧ k.2.1 < 5))))) ∧
    ((∀ k : StackNo, (s.restartFw 2).isSome = true → ∃ t, exec (.firmwareWatchdog (.dudin k)) s = .next t ∧
        (unitId lvDudin k.val, s.time.now) ∈ t.faults.occurrences) ∧
      (∀ w : WeftNo, (s.restartFw 3).isSome = true → ∃ t, exec (.firmwareWatchdog (.weft w)) s = .next t ∧
        (unitId lvWeft w.val, s.time.now) ∈ t.faults.occurrences) ∧
      (∀ b : BoltNo, ((s.restartFw 1).isSome = true → ∃ t, exec (.firmwareWatchdog (.bolt b)) s = .next t ∧
          (unitId lvBolt b.val, s.time.now) ∈ t.faults.occurrences) ∧
        (s.restartFw 1 = none → s.field Obj.boltState b.val 0 4 = 0 → ∃ t,
          exec (.firmwareWatchdog (.bolt b)) s = .next t ∧ t.field Obj.boltState b.val 0 4 = 4 ∧ t.prog.unrunnable = true)) ∧
      (∃ t, exec (.firmwareWatchdog .service) s = .next t ∧ t.dict.lockOwner = none ∧
        (s.dict.lockOwner ≠ none → t.dict.lockWrites = []) ∧ t.dict.masters = List.replicate 5 {} ∧ t.dict.response = none ∧ t.cursor = (0, 0) ∧
        bits (t.obj Obj.faultLog (t.obj Obj.faultSeqLast 0 % 4096)) 144 16 = 0xA101 ∧
        (unitId lvService 0, s.time.now) ∈ t.faults.occurrences))

/-! ## The host port and the program -/

/-- R382, R396, R397, R420, R496: a reset of the host port ends the host's lock and disturbs nothing else; the load
window reads and writes the staging area and the tiers at the byte it selects, and a refused access reads all ones,
writes nothing and is counted. -/
def Obligations.HostResetsAndTheLoadWindowActOnTheirOwn : Prop :=
  ∀ s : State, s.up = true →
    (∀ kind : HostReset,
      (s.dict.lockOwner = some 0 → ∃ t, exec (.hostPortReset kind) s = .next t ∧ t.dict.lockOwner = none ∧
        t.dict.lockWrites = [] ∧ t.obj Obj.lockExpiries 0 = satAdd 64 (s.obj Obj.lockExpiries 0) 1 ∧
        t.host.enumerated = false ∧ t.spindles = s.spindles ∧ t.step = s.step ∧ t.link = s.link ∧ t.mode = s.mode) ∧
      (s.dict.lockOwner ≠ some 0 → ∃ t, exec (.hostPortReset kind) s = .next t ∧
        t.host = { s.host with
          enumerated := false, linkUp := s.host.linkUp && (kind == .hotReset || kind == .d3hot) } ∧
        ((kind = .linkDown ∨ kind = .perst) → t.obj Obj.hostLink 0 = 0) ∧
        s.OnlyRows (oneRow Obj.hostLink 0) { t with host := s.host })) ∧
    (∀ (u : State) (offset : BitVec 30), u = s.hostUp →
      (∀ n : Nat, n ≤ 2 ^ 30 - offset.toNat →
        (u.winRefused true (u.winAddr offset.toNat) n = true →
          ∃ t, exec (.loadWindowAccess (.rd offset n)) s = .next t ∧ t.host.readData = 2 ^ (8 * n) - 1 ∧
          t.obj Obj.windowRefused 0 = satAdd 64 (u.obj Obj.windowRefused 0) 1 ∧
          u.OnlyRows (oneRow Obj.windowRefused 0) { t with host := u.host }) ∧
        (u.winRefused true (u.winAddr offset.toNat) n = false →
          exec (.loadWindowAccess (.rd offset n)) s = .next { u with
            host := { u.host with
              readData := memNat (if u.winTarget = 0 then u.host.staging else u.tier (u.winTarget == 2))
                (u.winAddr offset.toNat) n } })) ∧
      (∀ data : List Byte, data.length ≤ 2 ^ 30 - offset.toNat →
        (u.winRefused false (u.winAddr offset.toNat) data.length = true →
          ∃ t, exec (.loadWindowAccess (.wr offset data)) s = .next t ∧
          t.obj Obj.windowRefused 0 = satAdd 64 (u.obj Obj.windowRefused 0) 1 ∧
          u.OnlyRows (oneRow Obj.windowRefused 0) t) ∧
        (u.winTarget = 0 → ∃ t, exec (.loadWindowAccess (.wr offset data)) s = .next t ∧
          memRead t.host.staging (u.winAddr offset.toNat) data.length = data ∧
          (∀ a, (a < u.winAddr offset.toNat ∨ u.winAddr offset.toNat + data.length ≤ a) →
            memGet t.host.staging a = memGet u.host.staging a) ∧
          t = { u with host := { u.host with staging := t.host.staging } }) ∧
        (u.winTarget = 1 ∨ u.winTarget = 2 → u.winRefused false (u.winAddr offset.toNat) data.length = false →
          ∃ t, exec (.loadWindowAccess (.wr offset data)) s = .next t ∧
          memRead (t.tier (u.winTarget == 2)) (u.winAddr offset.toNat) data.length = data ∧
          (∀ a, (a < u.winAddr offset.toNat ∨ u.winAddr offset.toNat + data.length ≤ a) →
            memGet (t.tier (u.winTarget == 2)) a = memGet (u.tier (u.winTarget == 2)) a) ∧
          t.tier (u.winTarget != 2) = u.tier (u.winTarget != 2) ∧
          t = { u with
            fast := t.fast, slow := t.slow, fastPoison := t.fastPoison,
            faults := { u.faults with readErrs := t.faults.readErrs } })))

/-- R276, R314, R362, R399, R401, R403, R404, R405, R406, R438: LOAD judges the staged image and either refuses it
with a cause, changing nothing else, or places it; RESTART rewrites every spindle from the retained copy; UNLOAD
forgets the program; RUN takes the module from LOADED to RUN and starts microbatch 0; STOP_AT_BOUNDARY asks for a
stop. -/
def Obligations.ProgramsLoadRestartUnloadAndRun : Prop :=
  ∀ (m : MasterNo) (s : State), s.MayWrite m →
    (∀ u : State, u = s.bump Obj.topRequests m.val 1 →
      (∀ c k : Nat, s.loadable = true → u.judge u.host.staging = .inl (c, k) →
        ∃ t, exec (.imageLoad m) s = .next t ∧ t.obj Obj.loadStatus 0 = 5 + k % 2 ^ 12 * 2 ^ 12 + c * 2 ^ 24 ∧
          s.OnlyRows (rowsOf (Obj.loadStatus :: accessRows)) t) ∧
      (s.loadable = false → ∀ i, (i = Instr.imageLoad m ∨ i = Instr.unload m) →
        ∃ t, exec i s = .next t ∧ t.obj Obj.loadStatus 0 = 5 + 0x18 * 2 ^ 24 ∧
          s.OnlyRows (rowsOf (Obj.loadStatus :: accessRows)) t) ∧
      (∀ i : Img, s.loadable = true → u.judge u.host.staging = .inr i → ∃ t, exec (.imageLoad m) s = .next t ∧
        t.prog = i.prog ∧ t.obj Obj.imageId 0 = i.id_ ∧ t.field Obj.loadStatus 0 0 4 = 4 ∧ t.phase = 0 ∧
        bitAt (t.obj Obj.stepControl 0) 0 = false ∧ t.epoch = 0 ∧
        (∀ a, a < i.total → memGet t.host.retained a = memGet s.host.staging a) ∧
        (∀ r, r < 9216 → bitAt i.absent r = false → ∃ x, tget t.spindles r = some x ∧ x.halted = true ∧ x.pc = 0 ∧
          x.codeLines = (spEntry (i.bytes scBolt (boltPlace r).1) (boltPlace r).2).lines) ∧
        t.mode = (if s.mode = stReady ∨ s.mode = stStandby then stLoaded else s.mode))) ∧
    ((s.mode = stLoaded ∨ (s.mode = stRun ∧ s.stepping = false)) → ∃ t, exec (.restart m) s = .next t ∧
      t.prog = { s.prog with halted173 := false } ∧ t.mode = s.mode ∧ t.host.staging = s.host.staging ∧
      (∀ r, r < 9216 → s.isAbsent r = false → ∃ x, tget t.spindles r = some x ∧ x.halted = true ∧ x.pc = 0 ∧
        x.loops = [] ∧ x.accs = List.replicate 8 zeroAcc ∧ (∀ e ∈ x.bufs, e.2.gen = 0) ∧
        x.codeLines = (spEntry (s.retainedImg.bytes scBolt (boltPlace r).1) (boltPlace r).2).lines) ∧
      (∀ b : BoltNo, (t.bolt b.val).decTable = [])) ∧
    (¬(s.mode = stLoaded ∨ (s.mode = stRun ∧ s.stepping = false)) → ∃ t, exec (.restart m) s = .next t ∧
      t.obj Obj.loadStatus 0 = 5 + 0x18 * 2 ^ 24 ∧ s.OnlyRows (rowsOf (Obj.loadStatus :: accessRows)) t) ∧
    (s.loadable = true → ∃ t, exec (.unload m) s = .next t ∧ t.mode = stReady ∧ t.prog = {} ∧ t.link.member = false ∧
      t.obj Obj.imageId 0 = 0 ∧ t.obj Obj.loadedId 0 = 0 ∧ t.phase = 0 ∧ t.step.mbRunning = false) ∧
    (s.prog.halted173 = false → s.prog.unrunnable = false → s.step.leaveAsked = false →
      (s.mode = stLoaded ∨ (s.mode = stRun ∧ (s.phase = 0 ∨ s.phase = 8))) → ∃ t, exec (.run m) s = .next t ∧
        bitAt (t.obj Obj.stepControl 0) 0 = true ∧
        ((∀ w, s.link.early = some w → stepOf w ≠ s.stepCount) →
          t.mode = stRun ∧ t.phase = 1 ∧ t.mbIndex = 0 ∧ t.step.decision = none ∧
          t.step.total = t.obj Obj.stepMicrobatches 0 ∧
          (s.mode = stLoaded → t.link.member = true ∧ t.link.joinSent = true))) ∧
    ((s.prog.halted173 = true ∨ s.prog.unrunnable = true) → ∃ t, exec (.run m) s = .next t ∧
      s.OnlyRows (rowsOf accessRows) t) ∧
    (∃ t, exec (.stopAtBoundary m) s = .next t ∧ bitAt (t.obj Obj.stepControl 0) 1 = true ∧
      bitAt (t.obj Obj.stepControl 0) 0 = bitAt (s.obj Obj.stepControl 0) 0 ∧
      bitAt (t.obj Obj.stepControl 0) 2 = bitAt (s.obj Obj.stepControl 0) 2 ∧
      s.OnlyRows (rowsOf (Obj.stepControl :: accessRows)) t)

/-! ## Power, heat and clocks -/

/-- R264, R441, R442, R443, R447, R448, R455, R463, R470: power applied within the operating range starts the module,
which waits for its address, or runs the recovery subset in QUIET; power removed and a trip leave only what flash
keeps; an input window is measured and may request a throttle or trip; and a bolt whose rail fails is lost. -/
def Obligations.PowerComesGoesAndTrips : Prop :=
  (∀ (mv : Nat) (s : State),
    ((s.power.on = true ∨ s.power.tripped = true ∨ mv < 40000 ∨ 54000 < mv) → exec (.powerApplied mv) s = .next s) ∧
    (s.power.on = false → s.power.tripped = false → 40000 ≤ mv → mv ≤ 54000 →
      ∃ t, exec (.powerApplied mv) s = .next t ∧ t.up = true ∧ t.obj Obj.inputVolt 0 = mv / 10 ∧
        ((s.pickBank s.sec.preferred 0).isSome = true → t.mode = stUnaddressed ∧ t.sec.recovery = s.sec.recovery) ∧
        (s.pickBank s.sec.preferred 0 = none → t.mode = stQuiet ∧ t.sec.recovery = true))) ∧
  (∀ s : State, ∃ t, exec .powerRemoved s = .next t ∧ t.up = false ∧ t.power.tripped = false ∧ t.pending = s.pending ∧
    t.prog = {} ∧ t.spindles = [] ∧ t.link.member = false ∧ t.dict.lockOwner = none ∧ t.sec.banks = s.sec.banks ∧
    (∀ a, memGet t.fast a = 0 ∧ memGet t.slow a = 0 ∧ memGet t.host.staging a = 0 ∧ memGet t.host.retained a = 0) ∧
    (∀ id row, row < 2 ^ 20 → t.obj id row = (if inFlash id then s.obj id row else objDefault id row))) ∧
  (∀ s : State, s.up = true →
    (∀ (volt current : W16) (power : W32) (v : Nat), v = volt.toNat →
      (5600 < v → ∃ t, exec (.inputWindow volt current power) s = .next t ∧ t.up = false ∧ t.power.tripped = true ∧
        bits (t.obj Obj.lastShutdown 0) 128 8 = 2 ∧ t.pending = s.pending) ∧
      (v < 3800 → 9 ≤ s.power.below38 → ∃ t, exec (.inputWindow volt current power) s = .next t ∧ t.up = false ∧
        t.power.tripped = true ∧ bits (t.obj Obj.lastShutdown 0) 128 8 = 1) ∧
      (v ≤ 5600 → (3800 ≤ v ∨ s.power.below38 < 9) → ∃ t, exec (.inputWindow volt current power) s = .next t ∧
        t.up = true ∧ t.obj Obj.inputVolt 0 = v ∧ t.obj Obj.inputCurrent 0 = current.toNat ∧
        t.obj Obj.inputPower 0 = power.toNat ∧ t.power.below38 = (if v < 3800 then s.power.below38 + 1 else 0) ∧
        t.obj Obj.inputEvents 0 = (if v < 4000 ∨ 5400 < v then satAdd 64 (s.obj Obj.inputEvents 0) 1
          else s.obj Obj.inputEvents 0) ∧
        (v < 4000 → t.power.lowRequest = true) ∧
        (4000 ≤ v → t.power.lowRequest = (s.power.lowRequest && decide (s.power.inputClear + 1 < 100))) ∧
        (s.obj Obj.powerLimit 0 < power.toNat → t.power.powerRequest = some (slowerDiv (s.obj Obj.coreDiv 0))) ∧
        t.mode = s.mode ∧ t.spindles = s.spindles)) ∧
    (∀ b : BoltNo,
      (∃ t, exec (.railNotRemoved b) s = .next t ∧ t.up = false ∧ t.power.tripped = true ∧
        bits (t.obj Obj.lastShutdown 0) 128 8 = 4) ∧
      (∀ i, (i = Instr.boltOvercurrent b ∨ i = Instr.boltUndervoltage b) →
        (s.power.railsOff.contains b.val = true → exec i s = .next s) ∧
        (s.power.railsOff.contains b.val = false → s.field Obj.boltState b.val 0 4 = 0 → ∃ t, exec i s = .next t ∧
          t.field Obj.boltState b.val 0 4 = 1 ∧ b.val ∈ t.power.railsOff ∧ t.prog.unrunnable = true ∧
          t.step.mbRunning = false))))

/-- R444, R445, R446, R449, R450, R455, R456, R457, R458, R459: rails boost, shunt and disengage; samples of current
and of the sense points are stored; the throttle slows at once, and speeds up by one step once its requests have been
clear for 100 windows and its setpoints have settled; heat requests divisors 6 and 16, costs a bolt, and trips the
module. -/
def Obligations.RailsThrottleAndHeatAreJudged : Prop :=
  ∀ s : State, s.up = true →
    (∀ rail : Fin 96, s.power.railsOff.contains (rail.val % 48) = false →
      (s.power.boost.contains rail.val = false → ∃ t, exec (.railBoost rail) s = .next t ∧
        t.power = { s.power with boost := s.power.boost ++ [rail.val] } ∧
        t.obj Obj.railBoosts rail.val = satAdd 64 (s.obj Obj.railBoosts rail.val) 1 ∧
        s.OnlyRows (oneRow Obj.railBoosts rail.val) { t with power := s.power }) ∧
      (s.power.shunt.contains rail.val = false → ∃ t, exec (.railShunt rail) s = .next t ∧
        t.power = { s.power with shunt := s.power.shunt ++ [rail.val] } ∧
        t.obj Obj.railShunts rail.val = satAdd 64 (s.obj Obj.railShunts rail.val) 1 ∧
        s.OnlyRows (oneRow Obj.railShunts rail.val) { t with power := s.power })) ∧
    (∀ rail : Fin 96, ∃ t, exec (.railDisengage rail) s = .next t ∧
      (∀ r, (r ∈ t.power.boost ↔ r ∈ s.power.boost ∧ r ≠ rail.val) ∧
        (r ∈ t.power.shunt ↔ r ∈ s.power.shunt ∧ r ≠ rail.val)) ∧
      t = { s with power := { s.power with boost := t.power.boost, shunt := t.power.shunt } }) ∧
    (∀ (samples : List (Fin 154 × W16)) (sense : List (BoltNo × W64)), (samples.map (·.1)).Nodup →
      (sense.map (·.1)).Nodup → ∃ t, exec (.currentSample samples sense) s = .next t ∧
        t.obj Obj.currentSample 0 = satAdd 64 (s.obj Obj.currentSample 0) 1 ∧
        (∀ e ∈ samples, t.obj Obj.current e.1.val = e.2.toNat ∧
          t.obj Obj.currentHistory (1024 * e.1.val + t.obj Obj.currentSample 0 % 1024) = e.2.toNat) ∧
        (∀ k : Fin 154, (∀ e ∈ samples, e.1 ≠ k) → t.obj Obj.current k.val = s.obj Obj.current k.val) ∧
        (∀ e ∈ sense, t.obj Obj.boltVsense e.1.val = e.2.toNat ∧
          t.obj Obj.senseSpread e.1.val = (if spreadBad e.2.toNat then satAdd 64 (s.obj Obj.senseSpread e.1.val) 1
            else s.obj Obj.senseSpread e.1.val)) ∧
        s.OnlyRows (rowsOf [Obj.currentSample, Obj.current, Obj.currentHistory, Obj.boltVsense, Obj.senseSpread]) t) ∧
    (∃ t, exec .throttleEvaluation s = .next t ∧
      t.obj Obj.throttleReason 0 = (s.requests.map (·.2.1)).foldl (· + ·) 0 ∧
      (s.changing = true → t.hold = s.hold ∧ t.power.raising = s.power.raising) ∧
      (s.changing = false → s.obj Obj.coreDiv 0 < s.targetDiv → t.hold.newDiv = some s.targetDiv ∧
        t.hold.raises = s.hold.raises ++ [{ kind := hoClock, number := 0, source := 3, at_ := s.time.core, entry := [serviceRow], cost := 0 }] ∧
        t.obj Obj.holdCount 0 = satAdd 64 (s.obj Obj.holdCount 0) 1) ∧
      (s.changing = false → s.targetDiv < s.obj Obj.coreDiv 0 → 99 ≤ s.power.allClear →
        (∀ r ∈ s.requests, s.obj Obj.coreDiv 0 ≤ r.1 → r.2.2 = true) →
        t.power.raising = some (fasterDiv (s.obj Obj.coreDiv 0)) ∧ t.hold = s.hold) ∧
      (s.targetDiv = s.obj Obj.coreDiv 0 → t.hold = s.hold ∧ t.power.raising = s.power.raising) ∧
      t.obj Obj.coreDiv 0 = s.obj Obj.coreDiv 0) ∧
    ((∀ d, s.power.raising = some d → ∃ t, exec .vsetSettled s = .next t ∧ t.power.raising = none ∧
        t.hold.newDiv = some d ∧ t.obj Obj.holdCount 0 = satAdd 64 (s.obj Obj.holdCount 0) 1) ∧
      (s.power.raising = none → exec .vsetSettled s = .next { s with power := { s.power with settling := false } })) ∧
    (∀ (bolts : List (Fin 768 × BitVec 32)) (dies : List (Fin 57 × BitVec 32)), (bolts.map (·.1)).Nodup →
      (dies.map (·.1)).Nodup →
      ((∃ e ∈ dies, 105000 ≤ signed 32 e.2.toNat) → ∃ t, exec (.sensorRead bolts dies) s = .next t ∧ t.up = false ∧
        t.power.tripped = true ∧ bits (t.obj Obj.lastShutdown 0) 128 8 = 3) ∧
      ((∀ e ∈ dies, signed 32 e.2.toNat < 105000) → (∀ i : Fin 57, signed 32 (s.obj Obj.dieTemp i.val) < 105000) →
        ∃ t, exec (.sensorRead bolts dies) s = .next t ∧ t.up = true ∧
          (∀ e ∈ bolts, t.obj Obj.sensorTemp e.1.val = e.2.toNat) ∧ (∀ e ∈ dies, t.obj Obj.dieTemp e.1.val = e.2.toNat) ∧
          ((∃ e ∈ bolts, 85000 ≤ signed 32 e.2.toNat) ∨ (∃ e ∈ dies, 85000 ≤ signed 32 e.2.toNat) →
            t.power.req6 = true ∧ t.power.clear6 = 0) ∧
          ((∃ e ∈ bolts, 92000 ≤ signed 32 e.2.toNat) ∨ (∃ e ∈ dies, 92000 ≤ signed 32 e.2.toNat) →
            t.power.req16 = true ∧ t.power.clear16 = 0) ∧
          (∀ e ∈ bolts, 95000 ≤ signed 32 e.2.toNat → s.field Obj.boltState (e.1.val / 16) 0 4 = 0 →
            t.field Obj.boltState (e.1.val / 16) 0 4 = 3)))

/-- R452, R453, R454: a bolt whose parent delivers no edge re-parents to the live neighbour with the fewest hops, and
is lost without one; the root follows REF_IN where it is wanted and good, and its loss is recorded once. -/
def Obligations.ClocksReparentAndFollowTheirReference : Prop :=
  ∀ s : State, s.up = true →
    (∀ b : BoltNo,
      (s.field Obj.boltState b.val 0 4 ≠ 0 → exec (.clockParentLoss b) s = .next s) ∧
      (s.field Obj.boltState b.val 0 4 = 0 →
        (∀ d, s.newParent b.val = some d → ∃ t, exec (.clockParentLoss b) s = .next t ∧
          t.field Obj.clockParent b.val 0 3 = d ∧ d ≠ s.field Obj.clockParent b.val 0 3 ∧
          t.obj Obj.clockReparents 0 = satAdd 64 (s.obj Obj.clockReparents 0) 1 ∧
          t.obj Obj.faultSeqLast 0 = (s.lastSeq + 1) % 2 ^ 32 ∧
          bits (t.obj Obj.faultLog ((s.lastSeq + 1) % 2 ^ 32 % 4096)) 144 16 = 0x2402 ∧
          (∀ c : BoltNo, c ≠ b → t.field Obj.clockParent c.val 0 3 = s.field Obj.clockParent c.val 0 3)) ∧
        (s.newParent b.val = none → ∃ t, exec (.clockParentLoss b) s = .next t ∧
          t.field Obj.boltState b.val 0 4 = 5 ∧ t.prog.unrunnable = true ∧ t.step.mbRunning = false))) ∧
    (∀ (i : Instr) (v : Nat), (i = .refInLost ∧ v = 0x80000000) ∨ (∃ o : BitVec 32, i = .refInRestored o ∧ v = o.toNat) →
      ∀ u : State, u = s.setObj Obj.refInOffset 0 v →
        (u.refWanted = true → u.refGood = true → ∃ t, exec i s = .next t ∧ t.obj Obj.refInOffset 0 = v ∧
          t.field Obj.clockState 0 0 4 = 1 ∧ t.time = { s.time with refLost := false } ∧ t.lastSeq = s.lastSeq) ∧
        (u.refWanted = true → u.refGood = false → ∃ t, exec i s = .next t ∧ t.obj Obj.refInOffset 0 = v ∧
          t.field Obj.clockState 0 0 4 = 0 ∧ t.time = { s.time with refLost := true } ∧
          t.lastSeq = (if s.time.refLost then s.lastSeq else (s.lastSeq + 1) % 2 ^ 32)) ∧
        (u.refWanted = false → ∃ t, exec i s = .next t ∧ t.obj Obj.refInOffset 0 = v ∧
          t.field Obj.clockState 0 0 4 = 0 ∧ t.time = { s.time with refLost := false } ∧ t.lastSeq = s.lastSeq)) ∧
    (∀ t, exec .refInLost s = .next t → t.refGood = false)

/-! ## Security -/

/-- R438, R469, R470, R471, R472, R474, R477, R487: RETRY starts a QUIET module up again, to READY or back to QUIET;
INSTALL takes the staged images into the bank not preferred where all four verify, and names the first that does not;
SWITCH prefers an installed bank; and GENERATE fills the attestation report. -/
def Obligations.FirmwareIsInstalledAndAttested : Prop :=
  ∀ (m : MasterNo) (s : State), s.MayWrite m →
    (∀ outcome : StartupOutcome,
      ((s.mode = stQuiet ∨ s.mode = stSelftest) → ∃ t, exec (.retry m outcome) s = .next t ∧
        (t.mode = stReady ∨ t.mode = stQuiet) ∧ t.obj Obj.chainAddress 0 = s.obj Obj.chainAddress 0) ∧
      (s.mode ≠ stQuiet → s.mode ≠ stSelftest → ∃ t, exec (.retry m outcome) s = .next t ∧
        s.OnlyRows (rowsOf accessRows) t)) ∧
    (s.mayInstall = false → ∃ t, exec (.install m) s = .next t ∧ s.OnlyRows (rowsOf accessRows) t) ∧
    (s.mayInstall = true →
      (∀ xs : List FwImage, (List.range 4).map s.stagedImage = xs.map some → ∃ t, exec (.install m) s = .next t ∧
        t.sec = { s.sec with
          banks := setNth s.sec.banks (!s.sec.preferred).toNat xs, installed := some (!s.sec.preferred) } ∧
        t.obj Obj.fwStatus 0 = 2 ∧ s.OnlyRows (rowsOf (Obj.fwStatus :: accessRows)) { t with sec := s.sec }) ∧
      (∀ c, c < 4 → s.stagedImage c = none → (∀ d, d < c → (s.stagedImage d).isSome = true) →
        ∃ t, exec (.install m) s = .next t ∧ t.obj Obj.fwStatus 0 = 3 + c * 2 ^ 4 ∧
          s.OnlyRows (rowsOf (Obj.fwStatus :: accessRows)) t)) ∧
    (∃ t, exec (.switch m) s = .next t ∧ t.sec.preferred = s.sec.installed.getD s.sec.preferred ∧
      s.OnlyRows (rowsOf accessRows) { t with sec := s.sec } ∧ t.sec = { s.sec with preferred := t.sec.preferred }) ∧
    (∀ (u : State) (all : Nat), u = s.bump Obj.topRequests m.val 1 →
      all = leNat (u.reportBody ++
        leBytes 96 (Config.attestSignature (BitVec.ofNat 384 (digestNat u.reportBody)) s.sec.reports).toNat) →
      ∃ t, exec (.generate m) s = .next t ∧ (∀ r, r < 9 → t.obj Obj.attestReport r = bits all (512 * r) 512) ∧
        t.sec = { s.sec with reports := s.sec.reports + 1 } ∧
        s.OnlyRows (rowsOf (Obj.attestReport :: accessRows)) { t with sec := s.sec })

/-- R473, R476, R480, R481, R482, R483, R484, R498: a good token raises the debug state, releases the owner or clears
the field maps, is measured and draws a fresh nonce, and a bad one is recorded and does nothing; the settings are
written once or within their bounds and measured; and the debug pins step the test access port only under CONTROL. -/
def Obligations.TokensSettingsAndDebugPinsAreGuarded : Prop :=
  (∀ (m : MasterNo) (s : State), s.MayWrite m →
    (∀ (token : BitVec 2048) (u : State) (w kind level : Nat), u = s.bump Obj.topRequests m.val 1 → w = token.toNat →
      kind = bits w 64 8 → level = bits w 72 8 →
      (∀ i : Instr, (i = .debug m token ∧ kind = 1) ∨ (i = .ownerRelease m token ∧ kind = 2) ∨
          (i = .fieldClear m token ∧ kind = 3) →
        (¬(kind = 1 ∧ level = 2 ∧ s.prog.loaded = true) → u.tokenGood w = true → ∃ t, exec i s = .next t ∧
          (kind = 1 → t.obj Obj.debugState 0 = max level (s.obj Obj.debugState 0)) ∧
          (kind = 2 → t.obj Obj.ownerKeyHash 0 = 0 ∧ t.obj Obj.imageSignRequired 0 = 0) ∧
          (kind = 3 → t.sec.clearField = true) ∧
          t.obj Obj.measurement 7 = leNat (sha384 (leBytes 48 (s.obj Obj.measurement 7) ++ leBytes 256 w)) ∧
          t.sec.nonceDraws = s.sec.nonceDraws + 1 ∧
          t.obj Obj.debugNonce 0 = (Config.debugNonce (s.sec.nonceDraws + 1)).toNat ∧ t.mode = s.mode) ∧
        (((kind = 1 ∧ level = 2 ∧ s.prog.loaded = true) ∨ u.tokenGood w = false) → ∃ t, exec i s = .next t ∧
          t.obj Obj.faultSeqLast 0 = (s.lastSeq + 1) % 2 ^ 32 ∧
          bits (t.obj Obj.faultLog ((s.lastSeq + 1) % 2 ^ 32 % 4096)) 144 16 = 0xB641 ∧
          s.OnlyRows (rowsOf ([Obj.faultLog, Obj.faultSeqLast, Obj.faultReports] ++ accessRows)) t)) ∧
      (∀ i : Instr, (i = .debug m token ∧ kind ≠ 1) ∨ (i = .ownerRelease m token ∧ kind ≠ 2) ∨
        (i = .fieldClear m token ∧ kind ≠ 3) → exec i s = .next s)) ∧
    (∀ v : BitVec 384,
      (s.obj Obj.ownerKeyHash 0 = 0 → ∃ t, exec (.ownerKeyHash m v) s = .next t ∧ t.obj Obj.ownerKeyHash 0 = v.toNat ∧
        t.obj Obj.measurement 6 = leNat (sha384 (leBytes 48 (s.obj Obj.measurement 6) ++ t.settings)) ∧
        s.OnlyRows (rowsOf ([Obj.ownerKeyHash, Obj.measurement] ++ accessRows)) t) ∧
      (s.obj Obj.ownerKeyHash 0 ≠ 0 → ∃ t, exec (.ownerKeyHash m v) s = .next t ∧ s.OnlyRows (rowsOf accessRows) t)) ∧
    (∀ v : Byte,
      ((v = 1 ∧ s.obj Obj.ownerKeyHash 0 ≠ 0) ∨ (v = 0 ∧ s.obj Obj.ownerKeyHash 0 = 0) →
        ∃ t, exec (.imageSignRequired m v) s = .next t ∧ t.obj Obj.imageSignRequired 0 = v.toNat ∧
          s.OnlyRows (rowsOf ([Obj.imageSignRequired, Obj.measurement] ++ accessRows)) t) ∧
      ((1 < v.toNat ∨ (v = 0 ∧ s.obj Obj.ownerKeyHash 0 ≠ 0) ∨ (v = 1 ∧ s.obj Obj.ownerKeyHash 0 = 0)) →
        ∃ t, exec (.imageSignRequired m v) s = .next t ∧ s.OnlyRows (rowsOf accessRows) t) ∧
      (∃ t, exec (.clearOnUnload m v) s = .next t ∧ t.obj Obj.clearOnUnload 0 = v.toNat % 16 ∧
        s.OnlyRows (rowsOf ([Obj.clearOnUnload, Obj.measurement] ++ accessRows)) t)) ∧
    (∀ v : W32,
      (s.obj Obj.fwMinSvn 0 ≤ v.toNat → v.toNat ≤ s.lowestSvn → ∃ t, exec (.fwMinSvn m v) s = .next t ∧
        t.obj Obj.fwMinSvn 0 = v.toNat ∧ s.OnlyRows (rowsOf ([Obj.fwMinSvn, Obj.measurement] ++ accessRows)) t) ∧
      ((v.toNat < s.obj Obj.fwMinSvn 0 ∨ s.lowestSvn < v.toNat) → ∃ t, exec (.fwMinSvn m v) s = .next t ∧
        s.OnlyRows (rowsOf accessRows) t))) ∧
  (∀ (tms tdi halt : Bool) (s : State), s.up = true →
    (s.obj Obj.debugState 0 ≠ 2 →
      exec (.scanAndHaltAccess tms tdi halt) s = .next { s with pins := { s.pins with tdo := none } }) ∧
    (s.obj Obj.debugState 0 = 2 → ∃ t, exec (.scanAndHaltAccess tms tdi halt) s = .next t ∧
      t.pins.tap = tapNext s.pins.tap tms ∧ t.pins.dbgHalt = halt ∧
      (t.pins.tdo.isSome = true ↔ (t.pins.tap = 4 ∨ t.pins.tap = 11)) ∧
      t = { s with pins := t.pins, free := s.free + 1 }))
end

