-- ==== Sys2Proof/Laws/Tables.lean ====
section
/-! SUPPORT. The laws of sorted tables and byte memory: a read after a write to the same place gives the value
written, a write leaves every other place alone, and every memory operation keeps the canonical form. -/

namespace Sys2Proof.Machine

/-! ## Tables -/

theorem tget_tput {β : Type} (v : β) (i j : Nat) : ∀ m : SMap β, tget (tput m i v) j = if i = j then some v else tget m j
  | [] => by simp [tput, tget]
  | (k, w) :: m => by
    unfold tput
    split
    · simp [tget]
    · split
      · subst_vars; by_cases h : k = j <;> simp [tget, h]
      · by_cases h : k = j
        · subst h; simp [tget]; omega
        · simp [tget, h, tget_tput v i j m]

theorem tget_tdel {β : Type} (i j : Nat) : ∀ m : SMap β, tget (tdel m i) j = if i = j then none else tget m j
  | [] => by simp [tdel, tget]
  | (k, w) :: m => by
    unfold tdel
    by_cases hk : k = i
    · subst hk
      rw [if_pos rfl, tget_tdel k j m]
      by_cases hj : k = j <;> simp [tget, hj]
    · rw [if_neg hk]
      by_cases h : k = j
      · subst h; simp [tget, Ne.symm hk]
      · simp [tget, h, tget_tdel i j m]

@[simp] theorem tget_tput_self {β : Type} (m : SMap β) (i : Nat) (v : β) : tget (tput m i v) i = some v := by
  simp [tget_tput]

@[simp] theorem tget_tdel_self {β : Type} (m : SMap β) (i : Nat) : tget (tdel m i) i = none := by simp [tget_tdel]

theorem tget_tput_ne {β : Type} {i j : Nat} (h : i ≠ j) (m : SMap β) (v : β) : tget (tput m i v) j = tget m j := by
  simp [tget_tput, h]

theorem tget_tdel_ne {β : Type} {i j : Nat} (h : i ≠ j) (m : SMap β) : tget (tdel m i) j = tget m j := by
  simp [tget_tdel, h]

theorem tput_tput {β : Type} (i : Nat) (v w : β) : ∀ m : SMap β, tput (tput m i v) i w = tput m i w
  | [] => by simp [tput]
  | (k, u) :: m => by
    by_cases h1 : i < k
    · simp [tput, h1]
    · by_cases h2 : k = i
      · subst h2; simp [tput]
      · simp [tput, h1, h2, tput_tput i v w m]

theorem keysFrom_mono {β : Type} {a b : Nat} (h : a ≤ b) : ∀ {m : SMap β}, keysFrom b m = true → keysFrom a m = true
  | [], _ => rfl
  | (k, v) :: m, e => by
    simp only [keysFrom, Bool.and_eq_true, decide_eq_true_eq] at e ⊢
    exact ⟨by omega, e.2⟩

theorem keysFrom_tput {β : Type} {b i : Nat} (v : β) (h : b ≤ i) : ∀ {m : SMap β}, keysFrom b m = true →
    keysFrom b (tput m i v) = true
  | [], _ => by simp [tput, keysFrom, h]
  | (k, w) :: m, e => by
    simp only [keysFrom, Bool.and_eq_true, decide_eq_true_eq] at e
    unfold tput
    split
    · simp only [keysFrom, Bool.and_eq_true, decide_eq_true_eq]
      exact ⟨h, by omega, e.2⟩
    · split
      · subst_vars; simp only [keysFrom, Bool.and_eq_true, decide_eq_true_eq]; exact e
      · simp only [keysFrom, Bool.and_eq_true, decide_eq_true_eq]
        exact ⟨e.1, keysFrom_tput v (by omega) e.2⟩

theorem keysFrom_tdel {β : Type} (i : Nat) : ∀ {b : Nat} {m : SMap β}, keysFrom b m = true → keysFrom b (tdel m i) = true
  | _, [], _ => rfl
  | b, (k, w) :: m, e => by
    simp only [keysFrom, Bool.and_eq_true, decide_eq_true_eq] at e
    unfold tdel
    split
    · exact keysFrom_tdel i (keysFrom_mono (by omega) e.2)
    · simp only [keysFrom, Bool.and_eq_true, decide_eq_true_eq]
      exact ⟨e.1, keysFrom_tdel i e.2⟩

theorem keysFrom_filter {β : Type} (f : Nat × β → Bool) : ∀ {b : Nat} {m : SMap β}, keysFrom b m = true →
    keysFrom b (m.filter f) = true
  | _, [], _ => rfl
  | b, (k, w) :: m, e => by
    simp only [keysFrom, Bool.and_eq_true, decide_eq_true_eq] at e
    simp only [List.filter]
    split
    · simp only [keysFrom, Bool.and_eq_true, decide_eq_true_eq]
      exact ⟨e.1, keysFrom_filter f e.2⟩
    · exact keysFrom_filter f (keysFrom_mono (by omega) e.2)

theorem all_tput {β : Type} {f : Nat × β → Bool} {i : Nat} {v : β} (h : f (i, v) = true) :
    ∀ {m : SMap β}, m.all f = true → (tput m i v).all f = true
  | [], _ => by simp [tput, h]
  | (k, w) :: m, e => by
    simp only [List.all_cons, Bool.and_eq_true] at e
    unfold tput
    split
    · simp only [List.all_cons, Bool.and_eq_true]; exact ⟨h, e.1, e.2⟩
    · split
      · subst_vars; simp only [List.all_cons, Bool.and_eq_true]; exact ⟨h, e.2⟩
      · simp only [List.all_cons, Bool.and_eq_true]; exact ⟨e.1, all_tput h e.2⟩

theorem all_tdel {β : Type} {f : Nat × β → Bool} (i : Nat) : ∀ {m : SMap β}, m.all f = true → (tdel m i).all f = true
  | [], _ => rfl
  | (k, w) :: m, e => by
    simp only [List.all_cons, Bool.and_eq_true] at e
    unfold tdel
    split
    · exact all_tdel i e.2
    · simp only [List.all_cons, Bool.and_eq_true]; exact ⟨e.1, all_tdel i e.2⟩

/-! ## Byte memory -/

theorem memGet_memPut (m : Mem) (a c : Nat) (b : Byte) : memGet (memPut m a b) c = if a = c then b else memGet m c := by
  unfold memGet memPut
  by_cases hb : b = 0
  · rw [if_pos hb, tget_tdel]
    by_cases h : a = c <;> simp [hb, h]
  · rw [if_neg hb, tget_tput]
    by_cases h : a = c <;> simp [h]

theorem memGet_memWrite (c : Nat) : ∀ (bs : List Byte) (m : Mem) (a : Nat),
    memGet (memWrite m a bs) c = if a ≤ c ∧ c < a + bs.length then bs.getD (c - a) 0 else memGet m c
  | [], m, a => by rw [memWrite, if_neg (by rw [List.length_nil]; omega)]
  | b :: bs, m, a => by
    rw [memWrite, memGet_memWrite c bs, memGet_memPut]
    by_cases h1 : a = c
    · subst h1; simp
    · by_cases h2 : a + 1 ≤ c ∧ c < a + 1 + bs.length
      · have h3 : a ≤ c ∧ c < a + (b :: bs).length := by simp; omega
        have h4 : c - a = (c - (a + 1)) + 1 := by omega
        rw [if_pos h2, if_pos h3, h4, List.getD_cons_succ]
      · have h3 : ¬(a ≤ c ∧ c < a + (b :: bs).length) := by simp; omega
        rw [if_neg h2, if_neg h3, if_neg h1]

theorem memGet_memWrite_out {m : Mem} {a c : Nat} {bs : List Byte} (h : c < a ∨ a + bs.length ≤ c) :
    memGet (memWrite m a bs) c = memGet m c := by
  rw [memGet_memWrite, if_neg (by omega)]

theorem Mem.wf_iff {m : Mem} : m.wf = true ↔ keysFrom 0 m = true ∧ m.all (fun c => c.2 != 0) = true := by
  simp [Mem.wf]

theorem memPut_wf {m : Mem} (a : Nat) (b : Byte) (h : m.wf = true) : (memPut m a b).wf = true := by
  rw [Mem.wf_iff] at h ⊢
  unfold memPut
  by_cases hb : b = 0
  · rw [if_pos hb]
    exact ⟨keysFrom_tdel a h.1, all_tdel a h.2⟩
  · rw [if_neg hb]
    exact ⟨keysFrom_tput b (Nat.zero_le a) h.1, all_tput (by simpa using hb) h.2⟩

theorem memWrite_wf : ∀ (bs : List Byte) {m : Mem} (a : Nat), m.wf = true → (memWrite m a bs).wf = true
  | [], _, _, h => h
  | b :: bs, _, a, h => memWrite_wf bs (a + 1) (memPut_wf a b h)

theorem memFilter_wf {m : Mem} (f : Host.Cell → Bool) (h : m.wf = true) : Mem.wf (m.filter f) = true := by
  rw [Mem.wf_iff] at h ⊢
  refine ⟨keysFrom_filter f h.1, ?_⟩
  have h2 := h.2
  rw [List.all_eq_true] at h2 ⊢
  exact fun x hx => h2 x ((List.mem_filter.mp hx).1)

theorem memClear_wf {m : Mem} (a n : Nat) (h : m.wf = true) : (memClear m a n).wf = true := memFilter_wf _ h

theorem memPutNat_wf {m : Mem} (a n v : Nat) (h : m.wf = true) : (memPutNat m a n v).wf = true := memWrite_wf _ _ h

theorem memRead_length (m : Mem) : ∀ (n a : Nat), (memRead m a n).length = n
  | 0, _ => rfl
  | n + 1, a => by simp [memRead, memRead_length m n]

theorem memRead_congr {m k : Mem} (h : ∀ a, memGet m a = memGet k a) : ∀ (n a : Nat), memRead m a n = memRead k a n
  | 0, _ => rfl
  | n + 1, a => by simp [memRead, h, memRead_congr h n]

end Sys2Proof.Machine
end

