-- ==== Sys2Proof/Laws/State.lean ====
section
/-! SUPPORT. What each operation of Machine/Ops.lean leaves alone: one lemma for each field and operation, and the reads
of object rows, spindles and bolts after them. -/

namespace Sys2Proof.Machine

/-! ## Fields -/

@[simp] theorem State.setObj_pending (s : State) (id row v : Nat) : (s.setObj id row v).pending = s.pending := rfl
@[simp] theorem State.setObj_spindles (s : State) (id row v : Nat) : (s.setObj id row v).spindles = s.spindles := rfl
@[simp] theorem State.setObj_bolts (s : State) (id row v : Nat) : (s.setObj id row v).bolts = s.bolts := rfl
@[simp] theorem State.setObj_fabric (s : State) (id row v : Nat) : (s.setObj id row v).fabric = s.fabric := rfl
@[simp] theorem State.setObj_streams (s : State) (id row v : Nat) : (s.setObj id row v).streams = s.streams := rfl
@[simp] theorem State.setObj_hold (s : State) (id row v : Nat) : (s.setObj id row v).hold = s.hold := rfl
@[simp] theorem State.setObj_prog (s : State) (id row v : Nat) : (s.setObj id row v).prog = s.prog := rfl
@[simp] theorem State.setObj_fast (s : State) (id row v : Nat) : (s.setObj id row v).fast = s.fast := rfl
@[simp] theorem State.setObj_fastPoison (s : State) (id row v : Nat) : (s.setObj id row v).fastPoison = s.fastPoison := rfl
@[simp] theorem State.setObj_slow (s : State) (id row v : Nat) : (s.setObj id row v).slow = s.slow := rfl
@[simp] theorem State.setObj_step (s : State) (id row v : Nat) : (s.setObj id row v).step = s.step := rfl
@[simp] theorem State.setObj_stones (s : State) (id row v : Nat) : (s.setObj id row v).stones = s.stones := rfl
@[simp] theorem State.setObj_link (s : State) (id row v : Nat) : (s.setObj id row v).link = s.link := rfl
@[simp] theorem State.setObj_time (s : State) (id row v : Nat) : (s.setObj id row v).time = s.time := rfl
@[simp] theorem State.setObj_faults (s : State) (id row v : Nat) : (s.setObj id row v).faults = s.faults := rfl
@[simp] theorem State.setObj_host (s : State) (id row v : Nat) : (s.setObj id row v).host = s.host := rfl
@[simp] theorem State.setObj_power (s : State) (id row v : Nat) : (s.setObj id row v).power = s.power := rfl
@[simp] theorem State.setObj_sec (s : State) (id row v : Nat) : (s.setObj id row v).sec = s.sec := rfl
@[simp] theorem State.setObj_pins (s : State) (id row v : Nat) : (s.setObj id row v).pins = s.pins := rfl
@[simp] theorem State.setObj_free (s : State) (id row v : Nat) : (s.setObj id row v).free = s.free := rfl

@[simp] theorem State.bump_pending (s : State) (id row n : Nat) : (s.bump id row n).pending = s.pending := rfl
@[simp] theorem State.bump_spindles (s : State) (id row n : Nat) : (s.bump id row n).spindles = s.spindles := rfl
@[simp] theorem State.bump_bolts (s : State) (id row n : Nat) : (s.bump id row n).bolts = s.bolts := rfl
@[simp] theorem State.bump_fabric (s : State) (id row n : Nat) : (s.bump id row n).fabric = s.fabric := rfl
@[simp] theorem State.bump_streams (s : State) (id row n : Nat) : (s.bump id row n).streams = s.streams := rfl
@[simp] theorem State.bump_hold (s : State) (id row n : Nat) : (s.bump id row n).hold = s.hold := rfl
@[simp] theorem State.bump_prog (s : State) (id row n : Nat) : (s.bump id row n).prog = s.prog := rfl
@[simp] theorem State.bump_fast (s : State) (id row n : Nat) : (s.bump id row n).fast = s.fast := rfl
@[simp] theorem State.bump_fastPoison (s : State) (id row n : Nat) : (s.bump id row n).fastPoison = s.fastPoison := rfl
@[simp] theorem State.bump_slow (s : State) (id row n : Nat) : (s.bump id row n).slow = s.slow := rfl
@[simp] theorem State.bump_step (s : State) (id row n : Nat) : (s.bump id row n).step = s.step := rfl
@[simp] theorem State.bump_stones (s : State) (id row n : Nat) : (s.bump id row n).stones = s.stones := rfl
@[simp] theorem State.bump_link (s : State) (id row n : Nat) : (s.bump id row n).link = s.link := rfl
@[simp] theorem State.bump_time (s : State) (id row n : Nat) : (s.bump id row n).time = s.time := rfl
@[simp] theorem State.bump_faults (s : State) (id row n : Nat) : (s.bump id row n).faults = s.faults := rfl
@[simp] theorem State.bump_host (s : State) (id row n : Nat) : (s.bump id row n).host = s.host := rfl
@[simp] theorem State.bump_power (s : State) (id row n : Nat) : (s.bump id row n).power = s.power := rfl
@[simp] theorem State.bump_sec (s : State) (id row n : Nat) : (s.bump id row n).sec = s.sec := rfl
@[simp] theorem State.bump_pins (s : State) (id row n : Nat) : (s.bump id row n).pins = s.pins := rfl
@[simp] theorem State.bump_free (s : State) (id row n : Nat) : (s.bump id row n).free = s.free := rfl

@[simp] theorem State.setField_pending (s : State) (id row lo w v : Nat) : (s.setField id row lo w v).pending = s.pending := rfl
@[simp] theorem State.setField_spindles (s : State) (id row lo w v : Nat) : (s.setField id row lo w v).spindles = s.spindles := rfl
@[simp] theorem State.setField_bolts (s : State) (id row lo w v : Nat) : (s.setField id row lo w v).bolts = s.bolts := rfl
@[simp] theorem State.setField_fabric (s : State) (id row lo w v : Nat) : (s.setField id row lo w v).fabric = s.fabric := rfl
@[simp] theorem State.setField_streams (s : State) (id row lo w v : Nat) : (s.setField id row lo w v).streams = s.streams := rfl
@[simp] theorem State.setField_hold (s : State) (id row lo w v : Nat) : (s.setField id row lo w v).hold = s.hold := rfl
@[simp] theorem State.setField_prog (s : State) (id row lo w v : Nat) : (s.setField id row lo w v).prog = s.prog := rfl
@[simp] theorem State.setField_fast (s : State) (id row lo w v : Nat) : (s.setField id row lo w v).fast = s.fast := rfl
@[simp] theorem State.setField_fastPoison (s : State) (id row lo w v : Nat) : (s.setField id row lo w v).fastPoison = s.fastPoison := rfl
@[simp] theorem State.setField_slow (s : State) (id row lo w v : Nat) : (s.setField id row lo w v).slow = s.slow := rfl
@[simp] theorem State.setField_step (s : State) (id row lo w v : Nat) : (s.setField id row lo w v).step = s.step := rfl
@[simp] theorem State.setField_stones (s : State) (id row lo w v : Nat) : (s.setField id row lo w v).stones = s.stones := rfl
@[simp] theorem State.setField_link (s : State) (id row lo w v : Nat) : (s.setField id row lo w v).link = s.link := rfl
@[simp] theorem State.setField_time (s : State) (id row lo w v : Nat) : (s.setField id row lo w v).time = s.time := rfl
@[simp] theorem State.setField_faults (s : State) (id row lo w v : Nat) : (s.setField id row lo w v).faults = s.faults := rfl
@[simp] theorem State.setField_host (s : State) (id row lo w v : Nat) : (s.setField id row lo w v).host = s.host := rfl
@[simp] theorem State.setField_power (s : State) (id row lo w v : Nat) : (s.setField id row lo w v).power = s.power := rfl
@[simp] theorem State.setField_sec (s : State) (id row lo w v : Nat) : (s.setField id row lo w v).sec = s.sec := rfl
@[simp] theorem State.setField_pins (s : State) (id row lo w v : Nat) : (s.setField id row lo w v).pins = s.pins := rfl
@[simp] theorem State.setField_free (s : State) (id row lo w v : Nat) : (s.setField id row lo w v).free = s.free := rfl

@[simp] theorem State.setFlag_pending (s : State) (id row i : Nat) : (s.setFlag id row i).pending = s.pending := rfl
@[simp] theorem State.setFlag_spindles (s : State) (id row i : Nat) : (s.setFlag id row i).spindles = s.spindles := rfl
@[simp] theorem State.setFlag_bolts (s : State) (id row i : Nat) : (s.setFlag id row i).bolts = s.bolts := rfl
@[simp] theorem State.setFlag_fabric (s : State) (id row i : Nat) : (s.setFlag id row i).fabric = s.fabric := rfl
@[simp] theorem State.setFlag_streams (s : State) (id row i : Nat) : (s.setFlag id row i).streams = s.streams := rfl
@[simp] theorem State.setFlag_hold (s : State) (id row i : Nat) : (s.setFlag id row i).hold = s.hold := rfl
@[simp] theorem State.setFlag_prog (s : State) (id row i : Nat) : (s.setFlag id row i).prog = s.prog := rfl
@[simp] theorem State.setFlag_fast (s : State) (id row i : Nat) : (s.setFlag id row i).fast = s.fast := rfl
@[simp] theorem State.setFlag_fastPoison (s : State) (id row i : Nat) : (s.setFlag id row i).fastPoison = s.fastPoison := rfl
@[simp] theorem State.setFlag_slow (s : State) (id row i : Nat) : (s.setFlag id row i).slow = s.slow := rfl
@[simp] theorem State.setFlag_step (s : State) (id row i : Nat) : (s.setFlag id row i).step = s.step := rfl
@[simp] theorem State.setFlag_stones (s : State) (id row i : Nat) : (s.setFlag id row i).stones = s.stones := rfl
@[simp] theorem State.setFlag_link (s : State) (id row i : Nat) : (s.setFlag id row i).link = s.link := rfl
@[simp] theorem State.setFlag_time (s : State) (id row i : Nat) : (s.setFlag id row i).time = s.time := rfl
@[simp] theorem State.setFlag_faults (s : State) (id row i : Nat) : (s.setFlag id row i).faults = s.faults := rfl
@[simp] theorem State.setFlag_host (s : State) (id row i : Nat) : (s.setFlag id row i).host = s.host := rfl
@[simp] theorem State.setFlag_power (s : State) (id row i : Nat) : (s.setFlag id row i).power = s.power := rfl
@[simp] theorem State.setFlag_sec (s : State) (id row i : Nat) : (s.setFlag id row i).sec = s.sec := rfl
@[simp] theorem State.setFlag_pins (s : State) (id row i : Nat) : (s.setFlag id row i).pins = s.pins := rfl
@[simp] theorem State.setFlag_free (s : State) (id row i : Nat) : (s.setFlag id row i).free = s.free := rfl

@[simp] theorem State.drew_pending (s : State) (n : Nat) : (s.drew n).pending = s.pending := rfl
@[simp] theorem State.drew_objs (s : State) (n : Nat) : (s.drew n).objs = s.objs := rfl
@[simp] theorem State.drew_dict (s : State) (n : Nat) : (s.drew n).dict = s.dict := rfl
@[simp] theorem State.drew_spindles (s : State) (n : Nat) : (s.drew n).spindles = s.spindles := rfl
@[simp] theorem State.drew_bolts (s : State) (n : Nat) : (s.drew n).bolts = s.bolts := rfl
@[simp] theorem State.drew_fabric (s : State) (n : Nat) : (s.drew n).fabric = s.fabric := rfl
@[simp] theorem State.drew_streams (s : State) (n : Nat) : (s.drew n).streams = s.streams := rfl
@[simp] theorem State.drew_hold (s : State) (n : Nat) : (s.drew n).hold = s.hold := rfl
@[simp] theorem State.drew_prog (s : State) (n : Nat) : (s.drew n).prog = s.prog := rfl
@[simp] theorem State.drew_fast (s : State) (n : Nat) : (s.drew n).fast = s.fast := rfl
@[simp] theorem State.drew_fastPoison (s : State) (n : Nat) : (s.drew n).fastPoison = s.fastPoison := rfl
@[simp] theorem State.drew_slow (s : State) (n : Nat) : (s.drew n).slow = s.slow := rfl
@[simp] theorem State.drew_step (s : State) (n : Nat) : (s.drew n).step = s.step := rfl
@[simp] theorem State.drew_stones (s : State) (n : Nat) : (s.drew n).stones = s.stones := rfl
@[simp] theorem State.drew_link (s : State) (n : Nat) : (s.drew n).link = s.link := rfl
@[simp] theorem State.drew_time (s : State) (n : Nat) : (s.drew n).time = s.time := rfl
@[simp] theorem State.drew_faults (s : State) (n : Nat) : (s.drew n).faults = s.faults := rfl
@[simp] theorem State.drew_host (s : State) (n : Nat) : (s.drew n).host = s.host := rfl
@[simp] theorem State.drew_power (s : State) (n : Nat) : (s.drew n).power = s.power := rfl
@[simp] theorem State.drew_sec (s : State) (n : Nat) : (s.drew n).sec = s.sec := rfl
@[simp] theorem State.drew_pins (s : State) (n : Nat) : (s.drew n).pins = s.pins := rfl

@[simp] theorem State.bumpFree_pending (s : State) (id row : Nat) : (s.bumpFree id row).pending = s.pending := rfl
@[simp] theorem State.bumpFree_spindles (s : State) (id row : Nat) : (s.bumpFree id row).spindles = s.spindles := rfl
@[simp] theorem State.bumpFree_bolts (s : State) (id row : Nat) : (s.bumpFree id row).bolts = s.bolts := rfl
@[simp] theorem State.bumpFree_fabric (s : State) (id row : Nat) : (s.bumpFree id row).fabric = s.fabric := rfl
@[simp] theorem State.bumpFree_streams (s : State) (id row : Nat) : (s.bumpFree id row).streams = s.streams := rfl
@[simp] theorem State.bumpFree_hold (s : State) (id row : Nat) : (s.bumpFree id row).hold = s.hold := rfl
@[simp] theorem State.bumpFree_prog (s : State) (id row : Nat) : (s.bumpFree id row).prog = s.prog := rfl
@[simp] theorem State.bumpFree_fast (s : State) (id row : Nat) : (s.bumpFree id row).fast = s.fast := rfl
@[simp] theorem State.bumpFree_fastPoison (s : State) (id row : Nat) : (s.bumpFree id row).fastPoison = s.fastPoison := rfl
@[simp] theorem State.bumpFree_slow (s : State) (id row : Nat) : (s.bumpFree id row).slow = s.slow := rfl
@[simp] theorem State.bumpFree_step (s : State) (id row : Nat) : (s.bumpFree id row).step = s.step := rfl
@[simp] theorem State.bumpFree_stones (s : State) (id row : Nat) : (s.bumpFree id row).stones = s.stones := rfl
@[simp] theorem State.bumpFree_link (s : State) (id row : Nat) : (s.bumpFree id row).link = s.link := rfl
@[simp] theorem State.bumpFree_time (s : State) (id row : Nat) : (s.bumpFree id row).time = s.time := rfl
@[simp] theorem State.bumpFree_faults (s : State) (id row : Nat) : (s.bumpFree id row).faults = s.faults := rfl
@[simp] theorem State.bumpFree_host (s : State) (id row : Nat) : (s.bumpFree id row).host = s.host := rfl
@[simp] theorem State.bumpFree_power (s : State) (id row : Nat) : (s.bumpFree id row).power = s.power := rfl
@[simp] theorem State.bumpFree_sec (s : State) (id row : Nat) : (s.bumpFree id row).sec = s.sec := rfl
@[simp] theorem State.bumpFree_pins (s : State) (id row : Nat) : (s.bumpFree id row).pins = s.pins := rfl

@[simp] theorem State.setSpindle_pending (s : State) (p : Site) (x : Spindle) : (s.setSpindle p x).pending = s.pending := rfl
@[simp] theorem State.setSpindle_objs (s : State) (p : Site) (x : Spindle) : (s.setSpindle p x).objs = s.objs := rfl
@[simp] theorem State.setSpindle_dict (s : State) (p : Site) (x : Spindle) : (s.setSpindle p x).dict = s.dict := rfl
@[simp] theorem State.setSpindle_bolts (s : State) (p : Site) (x : Spindle) : (s.setSpindle p x).bolts = s.bolts := rfl
@[simp] theorem State.setSpindle_fabric (s : State) (p : Site) (x : Spindle) : (s.setSpindle p x).fabric = s.fabric := rfl
@[simp] theorem State.setSpindle_streams (s : State) (p : Site) (x : Spindle) : (s.setSpindle p x).streams = s.streams := rfl
@[simp] theorem State.setSpindle_hold (s : State) (p : Site) (x : Spindle) : (s.setSpindle p x).hold = s.hold := rfl
@[simp] theorem State.setSpindle_prog (s : State) (p : Site) (x : Spindle) : (s.setSpindle p x).prog = s.prog := rfl
@[simp] theorem State.setSpindle_fast (s : State) (p : Site) (x : Spindle) : (s.setSpindle p x).fast = s.fast := rfl
@[simp] theorem State.setSpindle_fastPoison (s : State) (p : Site) (x : Spindle) : (s.setSpindle p x).fastPoison = s.fastPoison := rfl
@[simp] theorem State.setSpindle_slow (s : State) (p : Site) (x : Spindle) : (s.setSpindle p x).slow = s.slow := rfl
@[simp] theorem State.setSpindle_step (s : State) (p : Site) (x : Spindle) : (s.setSpindle p x).step = s.step := rfl
@[simp] theorem State.setSpindle_stones (s : State) (p : Site) (x : Spindle) : (s.setSpindle p x).stones = s.stones := rfl
@[simp] theorem State.setSpindle_link (s : State) (p : Site) (x : Spindle) : (s.setSpindle p x).link = s.link := rfl
@[simp] theorem State.setSpindle_time (s : State) (p : Site) (x : Spindle) : (s.setSpindle p x).time = s.time := rfl
@[simp] theorem State.setSpindle_faults (s : State) (p : Site) (x : Spindle) : (s.setSpindle p x).faults = s.faults := rfl
@[simp] theorem State.setSpindle_host (s : State) (p : Site) (x : Spindle) : (s.setSpindle p x).host = s.host := rfl
@[simp] theorem State.setSpindle_power (s : State) (p : Site) (x : Spindle) : (s.setSpindle p x).power = s.power := rfl
@[simp] theorem State.setSpindle_sec (s : State) (p : Site) (x : Spindle) : (s.setSpindle p x).sec = s.sec := rfl
@[simp] theorem State.setSpindle_pins (s : State) (p : Site) (x : Spindle) : (s.setSpindle p x).pins = s.pins := rfl
@[simp] theorem State.setSpindle_free (s : State) (p : Site) (x : Spindle) : (s.setSpindle p x).free = s.free := rfl

@[simp] theorem State.setBolt_pending (s : State) (b : Nat) (x : Bolt) : (s.setBolt b x).pending = s.pending := rfl
@[simp] theorem State.setBolt_objs (s : State) (b : Nat) (x : Bolt) : (s.setBolt b x).objs = s.objs := rfl
@[simp] theorem State.setBolt_dict (s : State) (b : Nat) (x : Bolt) : (s.setBolt b x).dict = s.dict := rfl
@[simp] theorem State.setBolt_spindles (s : State) (b : Nat) (x : Bolt) : (s.setBolt b x).spindles = s.spindles := rfl
@[simp] theorem State.setBolt_fabric (s : State) (b : Nat) (x : Bolt) : (s.setBolt b x).fabric = s.fabric := rfl
@[simp] theorem State.setBolt_streams (s : State) (b : Nat) (x : Bolt) : (s.setBolt b x).streams = s.streams := rfl
@[simp] theorem State.setBolt_hold (s : State) (b : Nat) (x : Bolt) : (s.setBolt b x).hold = s.hold := rfl
@[simp] theorem State.setBolt_prog (s : State) (b : Nat) (x : Bolt) : (s.setBolt b x).prog = s.prog := rfl
@[simp] theorem State.setBolt_fast (s : State) (b : Nat) (x : Bolt) : (s.setBolt b x).fast = s.fast := rfl
@[simp] theorem State.setBolt_fastPoison (s : State) (b : Nat) (x : Bolt) : (s.setBolt b x).fastPoison = s.fastPoison := rfl
@[simp] theorem State.setBolt_slow (s : State) (b : Nat) (x : Bolt) : (s.setBolt b x).slow = s.slow := rfl
@[simp] theorem State.setBolt_step (s : State) (b : Nat) (x : Bolt) : (s.setBolt b x).step = s.step := rfl
@[simp] theorem State.setBolt_stones (s : State) (b : Nat) (x : Bolt) : (s.setBolt b x).stones = s.stones := rfl
@[simp] theorem State.setBolt_link (s : State) (b : Nat) (x : Bolt) : (s.setBolt b x).link = s.link := rfl
@[simp] theorem State.setBolt_time (s : State) (b : Nat) (x : Bolt) : (s.setBolt b x).time = s.time := rfl
@[simp] theorem State.setBolt_faults (s : State) (b : Nat) (x : Bolt) : (s.setBolt b x).faults = s.faults := rfl
@[simp] theorem State.setBolt_host (s : State) (b : Nat) (x : Bolt) : (s.setBolt b x).host = s.host := rfl
@[simp] theorem State.setBolt_power (s : State) (b : Nat) (x : Bolt) : (s.setBolt b x).power = s.power := rfl
@[simp] theorem State.setBolt_sec (s : State) (b : Nat) (x : Bolt) : (s.setBolt b x).sec = s.sec := rfl
@[simp] theorem State.setBolt_pins (s : State) (b : Nat) (x : Bolt) : (s.setBolt b x).pins = s.pins := rfl
@[simp] theorem State.setBolt_free (s : State) (b : Nat) (x : Bolt) : (s.setBolt b x).free = s.free := rfl

@[simp] theorem State.setMode_pending (s : State) (m c : Nat) : (s.setMode m c).pending = s.pending := 
    ((State.setObj_pending ..).trans (State.setObj_pending ..)).trans (State.setObj_pending ..)
@[simp] theorem State.setMode_spindles (s : State) (m c : Nat) : (s.setMode m c).spindles = s.spindles := 
    ((State.setObj_spindles ..).trans (State.setObj_spindles ..)).trans (State.setObj_spindles ..)
@[simp] theorem State.setMode_bolts (s : State) (m c : Nat) : (s.setMode m c).bolts = s.bolts := 
    ((State.setObj_bolts ..).trans (State.setObj_bolts ..)).trans (State.setObj_bolts ..)
@[simp] theorem State.setMode_fabric (s : State) (m c : Nat) : (s.setMode m c).fabric = s.fabric := 
    ((State.setObj_fabric ..).trans (State.setObj_fabric ..)).trans (State.setObj_fabric ..)
@[simp] theorem State.setMode_streams (s : State) (m c : Nat) : (s.setMode m c).streams = s.streams := 
    ((State.setObj_streams ..).trans (State.setObj_streams ..)).trans (State.setObj_streams ..)
@[simp] theorem State.setMode_hold (s : State) (m c : Nat) : (s.setMode m c).hold = s.hold := 
    ((State.setObj_hold ..).trans (State.setObj_hold ..)).trans (State.setObj_hold ..)
@[simp] theorem State.setMode_prog (s : State) (m c : Nat) : (s.setMode m c).prog = s.prog := 
    ((State.setObj_prog ..).trans (State.setObj_prog ..)).trans (State.setObj_prog ..)
@[simp] theorem State.setMode_fast (s : State) (m c : Nat) : (s.setMode m c).fast = s.fast := 
    ((State.setObj_fast ..).trans (State.setObj_fast ..)).trans (State.setObj_fast ..)
@[simp] theorem State.setMode_fastPoison (s : State) (m c : Nat) : (s.setMode m c).fastPoison = s.fastPoison := 
    ((State.setObj_fastPoison ..).trans (State.setObj_fastPoison ..)).trans (State.setObj_fastPoison ..)
@[simp] theorem State.setMode_slow (s : State) (m c : Nat) : (s.setMode m c).slow = s.slow := 
    ((State.setObj_slow ..).trans (State.setObj_slow ..)).trans (State.setObj_slow ..)
@[simp] theorem State.setMode_step (s : State) (m c : Nat) : (s.setMode m c).step = s.step := 
    ((State.setObj_step ..).trans (State.setObj_step ..)).trans (State.setObj_step ..)
@[simp] theorem State.setMode_stones (s : State) (m c : Nat) : (s.setMode m c).stones = s.stones := 
    ((State.setObj_stones ..).trans (State.setObj_stones ..)).trans (State.setObj_stones ..)
@[simp] theorem State.setMode_link (s : State) (m c : Nat) : (s.setMode m c).link = s.link := 
    ((State.setObj_link ..).trans (State.setObj_link ..)).trans (State.setObj_link ..)
@[simp] theorem State.setMode_time (s : State) (m c : Nat) : (s.setMode m c).time = s.time := 
    ((State.setObj_time ..).trans (State.setObj_time ..)).trans (State.setObj_time ..)
@[simp] theorem State.setMode_faults (s : State) (m c : Nat) : (s.setMode m c).faults = s.faults := 
    ((State.setObj_faults ..).trans (State.setObj_faults ..)).trans (State.setObj_faults ..)
@[simp] theorem State.setMode_host (s : State) (m c : Nat) : (s.setMode m c).host = s.host := 
    ((State.setObj_host ..).trans (State.setObj_host ..)).trans (State.setObj_host ..)
@[simp] theorem State.setMode_power (s : State) (m c : Nat) : (s.setMode m c).power = s.power := 
    ((State.setObj_power ..).trans (State.setObj_power ..)).trans (State.setObj_power ..)
@[simp] theorem State.setMode_sec (s : State) (m c : Nat) : (s.setMode m c).sec = s.sec := 
    ((State.setObj_sec ..).trans (State.setObj_sec ..)).trans (State.setObj_sec ..)
@[simp] theorem State.setMode_pins (s : State) (m c : Nat) : (s.setMode m c).pins = s.pins := 
    ((State.setObj_pins ..).trans (State.setObj_pins ..)).trans (State.setObj_pins ..)
@[simp] theorem State.setMode_free (s : State) (m c : Nat) : (s.setMode m c).free = s.free := 
    ((State.setObj_free ..).trans (State.setObj_free ..)).trans (State.setObj_free ..)

@[simp] theorem State.setPhase_pending (s : State) (p : Nat) : (s.setPhase p).pending = s.pending := rfl
@[simp] theorem State.setPhase_spindles (s : State) (p : Nat) : (s.setPhase p).spindles = s.spindles := rfl
@[simp] theorem State.setPhase_bolts (s : State) (p : Nat) : (s.setPhase p).bolts = s.bolts := rfl
@[simp] theorem State.setPhase_fabric (s : State) (p : Nat) : (s.setPhase p).fabric = s.fabric := rfl
@[simp] theorem State.setPhase_streams (s : State) (p : Nat) : (s.setPhase p).streams = s.streams := rfl
@[simp] theorem State.setPhase_hold (s : State) (p : Nat) : (s.setPhase p).hold = s.hold := rfl
@[simp] theorem State.setPhase_prog (s : State) (p : Nat) : (s.setPhase p).prog = s.prog := rfl
@[simp] theorem State.setPhase_fast (s : State) (p : Nat) : (s.setPhase p).fast = s.fast := rfl
@[simp] theorem State.setPhase_fastPoison (s : State) (p : Nat) : (s.setPhase p).fastPoison = s.fastPoison := rfl
@[simp] theorem State.setPhase_slow (s : State) (p : Nat) : (s.setPhase p).slow = s.slow := rfl
@[simp] theorem State.setPhase_step (s : State) (p : Nat) : (s.setPhase p).step = s.step := rfl
@[simp] theorem State.setPhase_stones (s : State) (p : Nat) : (s.setPhase p).stones = s.stones := rfl
@[simp] theorem State.setPhase_link (s : State) (p : Nat) : (s.setPhase p).link = s.link := rfl
@[simp] theorem State.setPhase_time (s : State) (p : Nat) : (s.setPhase p).time = s.time := rfl
@[simp] theorem State.setPhase_faults (s : State) (p : Nat) : (s.setPhase p).faults = s.faults := rfl
@[simp] theorem State.setPhase_host (s : State) (p : Nat) : (s.setPhase p).host = s.host := rfl
@[simp] theorem State.setPhase_power (s : State) (p : Nat) : (s.setPhase p).power = s.power := rfl
@[simp] theorem State.setPhase_sec (s : State) (p : Nat) : (s.setPhase p).sec = s.sec := rfl
@[simp] theorem State.setPhase_pins (s : State) (p : Nat) : (s.setPhase p).pins = s.pins := rfl
@[simp] theorem State.setPhase_free (s : State) (p : Nat) : (s.setPhase p).free = s.free := rfl

@[simp] theorem State.setMb_pending (s : State) (k : Nat) : (s.setMb k).pending = s.pending := rfl
@[simp] theorem State.setMb_spindles (s : State) (k : Nat) : (s.setMb k).spindles = s.spindles := rfl
@[simp] theorem State.setMb_bolts (s : State) (k : Nat) : (s.setMb k).bolts = s.bolts := rfl
@[simp] theorem State.setMb_fabric (s : State) (k : Nat) : (s.setMb k).fabric = s.fabric := rfl
@[simp] theorem State.setMb_streams (s : State) (k : Nat) : (s.setMb k).streams = s.streams := rfl
@[simp] theorem State.setMb_hold (s : State) (k : Nat) : (s.setMb k).hold = s.hold := rfl
@[simp] theorem State.setMb_prog (s : State) (k : Nat) : (s.setMb k).prog = s.prog := rfl
@[simp] theorem State.setMb_fast (s : State) (k : Nat) : (s.setMb k).fast = s.fast := rfl
@[simp] theorem State.setMb_fastPoison (s : State) (k : Nat) : (s.setMb k).fastPoison = s.fastPoison := rfl
@[simp] theorem State.setMb_slow (s : State) (k : Nat) : (s.setMb k).slow = s.slow := rfl
@[simp] theorem State.setMb_step (s : State) (k : Nat) : (s.setMb k).step = s.step := rfl
@[simp] theorem State.setMb_stones (s : State) (k : Nat) : (s.setMb k).stones = s.stones := rfl
@[simp] theorem State.setMb_link (s : State) (k : Nat) : (s.setMb k).link = s.link := rfl
@[simp] theorem State.setMb_time (s : State) (k : Nat) : (s.setMb k).time = s.time := rfl
@[simp] theorem State.setMb_faults (s : State) (k : Nat) : (s.setMb k).faults = s.faults := rfl
@[simp] theorem State.setMb_host (s : State) (k : Nat) : (s.setMb k).host = s.host := rfl
@[simp] theorem State.setMb_power (s : State) (k : Nat) : (s.setMb k).power = s.power := rfl
@[simp] theorem State.setMb_sec (s : State) (k : Nat) : (s.setMb k).sec = s.sec := rfl
@[simp] theorem State.setMb_pins (s : State) (k : Nat) : (s.setMb k).pins = s.pins := rfl
@[simp] theorem State.setMb_free (s : State) (k : Nat) : (s.setMb k).free = s.free := rfl

@[simp] theorem State.record_pending (s : State) (r : Rec) : (s.record r).pending = s.pending := 
    (State.setObj_pending ..).trans (State.setObj_pending ..)
@[simp] theorem State.record_spindles (s : State) (r : Rec) : (s.record r).spindles = s.spindles := 
    (State.setObj_spindles ..).trans (State.setObj_spindles ..)
@[simp] theorem State.record_bolts (s : State) (r : Rec) : (s.record r).bolts = s.bolts := 
    (State.setObj_bolts ..).trans (State.setObj_bolts ..)
@[simp] theorem State.record_fabric (s : State) (r : Rec) : (s.record r).fabric = s.fabric := 
    (State.setObj_fabric ..).trans (State.setObj_fabric ..)
@[simp] theorem State.record_streams (s : State) (r : Rec) : (s.record r).streams = s.streams := 
    (State.setObj_streams ..).trans (State.setObj_streams ..)
@[simp] theorem State.record_hold (s : State) (r : Rec) : (s.record r).hold = s.hold := 
    (State.setObj_hold ..).trans (State.setObj_hold ..)
@[simp] theorem State.record_prog (s : State) (r : Rec) : (s.record r).prog = s.prog := 
    (State.setObj_prog ..).trans (State.setObj_prog ..)
@[simp] theorem State.record_fast (s : State) (r : Rec) : (s.record r).fast = s.fast := 
    (State.setObj_fast ..).trans (State.setObj_fast ..)
@[simp] theorem State.record_fastPoison (s : State) (r : Rec) : (s.record r).fastPoison = s.fastPoison := 
    (State.setObj_fastPoison ..).trans (State.setObj_fastPoison ..)
@[simp] theorem State.record_slow (s : State) (r : Rec) : (s.record r).slow = s.slow := 
    (State.setObj_slow ..).trans (State.setObj_slow ..)
@[simp] theorem State.record_step (s : State) (r : Rec) : (s.record r).step = s.step := 
    (State.setObj_step ..).trans (State.setObj_step ..)
@[simp] theorem State.record_stones (s : State) (r : Rec) : (s.record r).stones = s.stones := 
    (State.setObj_stones ..).trans (State.setObj_stones ..)
@[simp] theorem State.record_link (s : State) (r : Rec) : (s.record r).link = s.link := 
    (State.setObj_link ..).trans (State.setObj_link ..)
@[simp] theorem State.record_time (s : State) (r : Rec) : (s.record r).time = s.time := 
    (State.setObj_time ..).trans (State.setObj_time ..)
@[simp] theorem State.record_faults (s : State) (r : Rec) : (s.record r).faults = s.faults := 
    (State.setObj_faults ..).trans (State.setObj_faults ..)
@[simp] theorem State.record_host (s : State) (r : Rec) : (s.record r).host = s.host := 
    (State.setObj_host ..).trans (State.setObj_host ..)
@[simp] theorem State.record_power (s : State) (r : Rec) : (s.record r).power = s.power := 
    (State.setObj_power ..).trans (State.setObj_power ..)
@[simp] theorem State.record_sec (s : State) (r : Rec) : (s.record r).sec = s.sec := 
    (State.setObj_sec ..).trans (State.setObj_sec ..)
@[simp] theorem State.record_pins (s : State) (r : Rec) : (s.record r).pins = s.pins := 
    (State.setObj_pins ..).trans (State.setObj_pins ..)
@[simp] theorem State.record_free (s : State) (r : Rec) : (s.record r).free = s.free := 
    (State.setObj_free ..).trans (State.setObj_free ..)

@[simp] theorem State.fault_pending (s : State) (code unit detail : Nat) : (s.fault code unit detail).pending = s.pending := 
    (State.record_pending ..).trans (State.bump_pending ..)
@[simp] theorem State.fault_spindles (s : State) (code unit detail : Nat) : (s.fault code unit detail).spindles = s.spindles := 
    (State.record_spindles ..).trans (State.bump_spindles ..)
@[simp] theorem State.fault_bolts (s : State) (code unit detail : Nat) : (s.fault code unit detail).bolts = s.bolts := 
    (State.record_bolts ..).trans (State.bump_bolts ..)
@[simp] theorem State.fault_fabric (s : State) (code unit detail : Nat) : (s.fault code unit detail).fabric = s.fabric := 
    (State.record_fabric ..).trans (State.bump_fabric ..)
@[simp] theorem State.fault_streams (s : State) (code unit detail : Nat) : (s.fault code unit detail).streams = s.streams := 
    (State.record_streams ..).trans (State.bump_streams ..)
@[simp] theorem State.fault_hold (s : State) (code unit detail : Nat) : (s.fault code unit detail).hold = s.hold := 
    (State.record_hold ..).trans (State.bump_hold ..)
@[simp] theorem State.fault_prog (s : State) (code unit detail : Nat) : (s.fault code unit detail).prog = s.prog := 
    (State.record_prog ..).trans (State.bump_prog ..)
@[simp] theorem State.fault_fast (s : State) (code unit detail : Nat) : (s.fault code unit detail).fast = s.fast := 
    (State.record_fast ..).trans (State.bump_fast ..)
@[simp] theorem State.fault_fastPoison (s : State) (code unit detail : Nat) : (s.fault code unit detail).fastPoison = s.fastPoison := 
    (State.record_fastPoison ..).trans (State.bump_fastPoison ..)
@[simp] theorem State.fault_slow (s : State) (code unit detail : Nat) : (s.fault code unit detail).slow = s.slow := 
    (State.record_slow ..).trans (State.bump_slow ..)
@[simp] theorem State.fault_step (s : State) (code unit detail : Nat) : (s.fault code unit detail).step = s.step := 
    (State.record_step ..).trans (State.bump_step ..)
@[simp] theorem State.fault_stones (s : State) (code unit detail : Nat) : (s.fault code unit detail).stones = s.stones := 
    (State.record_stones ..).trans (State.bump_stones ..)
@[simp] theorem State.fault_link (s : State) (code unit detail : Nat) : (s.fault code unit detail).link = s.link := 
    (State.record_link ..).trans (State.bump_link ..)
@[simp] theorem State.fault_time (s : State) (code unit detail : Nat) : (s.fault code unit detail).time = s.time := 
    (State.record_time ..).trans (State.bump_time ..)
@[simp] theorem State.fault_faults (s : State) (code unit detail : Nat) : (s.fault code unit detail).faults = s.faults := 
    (State.record_faults ..).trans (State.bump_faults ..)
@[simp] theorem State.fault_host (s : State) (code unit detail : Nat) : (s.fault code unit detail).host = s.host := 
    (State.record_host ..).trans (State.bump_host ..)
@[simp] theorem State.fault_power (s : State) (code unit detail : Nat) : (s.fault code unit detail).power = s.power := 
    (State.record_power ..).trans (State.bump_power ..)
@[simp] theorem State.fault_sec (s : State) (code unit detail : Nat) : (s.fault code unit detail).sec = s.sec := 
    (State.record_sec ..).trans (State.bump_sec ..)
@[simp] theorem State.fault_pins (s : State) (code unit detail : Nat) : (s.fault code unit detail).pins = s.pins := 
    (State.record_pins ..).trans (State.bump_pins ..)
@[simp] theorem State.fault_free (s : State) (code unit detail : Nat) : (s.fault code unit detail).free = s.free := 
    (State.record_free ..).trans (State.bump_free ..)

@[simp] theorem State.taint_pending (s : State) : (s.taint).pending = s.pending := rfl
@[simp] theorem State.taint_objs (s : State) : (s.taint).objs = s.objs := rfl
@[simp] theorem State.taint_dict (s : State) : (s.taint).dict = s.dict := rfl
@[simp] theorem State.taint_spindles (s : State) : (s.taint).spindles = s.spindles := rfl
@[simp] theorem State.taint_bolts (s : State) : (s.taint).bolts = s.bolts := rfl
@[simp] theorem State.taint_fabric (s : State) : (s.taint).fabric = s.fabric := rfl
@[simp] theorem State.taint_streams (s : State) : (s.taint).streams = s.streams := rfl
@[simp] theorem State.taint_hold (s : State) : (s.taint).hold = s.hold := rfl
@[simp] theorem State.taint_prog (s : State) : (s.taint).prog = s.prog := rfl
@[simp] theorem State.taint_fast (s : State) : (s.taint).fast = s.fast := rfl
@[simp] theorem State.taint_fastPoison (s : State) : (s.taint).fastPoison = s.fastPoison := rfl
@[simp] theorem State.taint_slow (s : State) : (s.taint).slow = s.slow := rfl
@[simp] theorem State.taint_stones (s : State) : (s.taint).stones = s.stones := rfl
@[simp] theorem State.taint_link (s : State) : (s.taint).link = s.link := rfl
@[simp] theorem State.taint_time (s : State) : (s.taint).time = s.time := rfl
@[simp] theorem State.taint_faults (s : State) : (s.taint).faults = s.faults := rfl
@[simp] theorem State.taint_host (s : State) : (s.taint).host = s.host := rfl
@[simp] theorem State.taint_power (s : State) : (s.taint).power = s.power := rfl
@[simp] theorem State.taint_sec (s : State) : (s.taint).sec = s.sec := rfl
@[simp] theorem State.taint_pins (s : State) : (s.taint).pins = s.pins := rfl
@[simp] theorem State.taint_free (s : State) : (s.taint).free = s.free := rfl

@[simp] theorem State.poisonStep_pending (s : State) : (s.poisonStep).pending = s.pending := rfl
@[simp] theorem State.poisonStep_objs (s : State) : (s.poisonStep).objs = s.objs := rfl
@[simp] theorem State.poisonStep_dict (s : State) : (s.poisonStep).dict = s.dict := rfl
@[simp] theorem State.poisonStep_spindles (s : State) : (s.poisonStep).spindles = s.spindles := rfl
@[simp] theorem State.poisonStep_bolts (s : State) : (s.poisonStep).bolts = s.bolts := rfl
@[simp] theorem State.poisonStep_fabric (s : State) : (s.poisonStep).fabric = s.fabric := rfl
@[simp] theorem State.poisonStep_streams (s : State) : (s.poisonStep).streams = s.streams := rfl
@[simp] theorem State.poisonStep_hold (s : State) : (s.poisonStep).hold = s.hold := rfl
@[simp] theorem State.poisonStep_prog (s : State) : (s.poisonStep).prog = s.prog := rfl
@[simp] theorem State.poisonStep_fast (s : State) : (s.poisonStep).fast = s.fast := rfl
@[simp] theorem State.poisonStep_fastPoison (s : State) : (s.poisonStep).fastPoison = s.fastPoison := rfl
@[simp] theorem State.poisonStep_slow (s : State) : (s.poisonStep).slow = s.slow := rfl
@[simp] theorem State.poisonStep_stones (s : State) : (s.poisonStep).stones = s.stones := rfl
@[simp] theorem State.poisonStep_link (s : State) : (s.poisonStep).link = s.link := rfl
@[simp] theorem State.poisonStep_time (s : State) : (s.poisonStep).time = s.time := rfl
@[simp] theorem State.poisonStep_faults (s : State) : (s.poisonStep).faults = s.faults := rfl
@[simp] theorem State.poisonStep_host (s : State) : (s.poisonStep).host = s.host := rfl
@[simp] theorem State.poisonStep_power (s : State) : (s.poisonStep).power = s.power := rfl
@[simp] theorem State.poisonStep_sec (s : State) : (s.poisonStep).sec = s.sec := rfl
@[simp] theorem State.poisonStep_pins (s : State) : (s.poisonStep).pins = s.pins := rfl
@[simp] theorem State.poisonStep_free (s : State) : (s.poisonStep).free = s.free := rfl

@[simp] theorem State.drew_free (s : State) (n : Nat) : (s.drew n).free = s.free + n := rfl
@[simp] theorem State.bumpFree_free (s : State) (id row : Nat) : (s.bumpFree id row).free = s.free + 1 := rfl
@[simp] theorem State.taint_tainted (s : State) : s.taint.step.tainted = true := rfl
@[simp] theorem State.poisonStep_poisoned (s : State) : s.poisonStep.step.poisoned = true := rfl

/-! ## Object rows -/

theorem objKey_inj {id row id' row' : Nat} (h : row < 2 ^ 20) (h' : row' < 2 ^ 20) :
    objKey id row = objKey id' row' ↔ id = id' ∧ row = row' := by
  unfold objKey; omega

theorem objKey_ne_of_id {id id' row row' : Nat} (h : row < 2 ^ 20) (h' : row' < 2 ^ 20) (n : id ≠ id') :
    objKey id row ≠ objKey id' row' := fun e => n ((objKey_inj h h').mp e).1

theorem objKey_ne_of_row {id id' row row' : Nat} (h : row < 2 ^ 20) (h' : row' < 2 ^ 20) (n : row ≠ row') :
    objKey id row ≠ objKey id' row' := fun e => n ((objKey_inj h h').mp e).2

@[simp] theorem State.obj_setObj_self (s : State) (id row v : Nat) : (s.setObj id row v).obj id row = v := by
  unfold State.obj State.raw State.setObj putRow
  simp only [tget_tdel_self]
  split
  · subst_vars; simp
  · simp

theorem State.obj_setObj_ne {s : State} {id row id' row' v : Nat} (h : objKey id row ≠ objKey id' row') :
    (s.setObj id row v).obj id' row' = s.obj id' row' := by
  have r : (s.setObj id row v).raw id' row' = s.raw id' row' := by
    unfold State.raw State.setObj putRow
    dsimp only
    split
    · rw [tget_tdel_ne h]
    · rw [tget_tput_ne h]
  have c : tget (s.setObj id row v).dict.copies (objKey id' row') = tget s.dict.copies (objKey id' row') :=
    tget_tdel_ne h _
  unfold State.obj State.voteFailed
  rw [c, r]

@[simp] theorem State.obj_bump_self (s : State) (id row n : Nat) :
    (s.bump id row n).obj id row = satAdd (objBits id) (s.obj id row) n := State.obj_setObj_self ..

theorem State.obj_bump_ne {s : State} {id row id' row' n : Nat} (h : objKey id row ≠ objKey id' row') :
    (s.bump id row n).obj id' row' = s.obj id' row' := State.obj_setObj_ne h

@[simp] theorem State.obj_setField_self (s : State) (id row lo w v : Nat) :
    (s.setField id row lo w v).obj id row = setBits (s.obj id row) lo w v := State.obj_setObj_self ..

theorem State.obj_setField_ne {s : State} {id row id' row' lo w v : Nat} (h : objKey id row ≠ objKey id' row') :
    (s.setField id row lo w v).obj id' row' = s.obj id' row' := State.obj_setObj_ne h

@[simp] theorem State.obj_setFlag_self (s : State) (id row i : Nat) :
    (s.setFlag id row i).obj id row = setBit (s.obj id row) i true := State.obj_setObj_self ..

theorem State.obj_setFlag_ne {s : State} {id row id' row' i : Nat} (h : objKey id row ≠ objKey id' row') :
    (s.setFlag id row i).obj id' row' = s.obj id' row' := State.obj_setObj_ne h

theorem State.obj_bumpFree_ne {s : State} {id row id' row' : Nat} (h : objKey id row ≠ objKey id' row') :
    (s.bumpFree id row).obj id' row' = s.obj id' row' := State.obj_setObj_ne (s := s) h

@[simp] theorem State.obj_drew (s : State) (n id row : Nat) : (s.drew n).obj id row = s.obj id row := rfl
@[simp] theorem State.obj_setSpindle (s : State) (p : Site) (x : Spindle) (id row : Nat) :
    (s.setSpindle p x).obj id row = s.obj id row := rfl
@[simp] theorem State.obj_setBolt (s : State) (b : Nat) (x : Bolt) (id row : Nat) :
    (s.setBolt b x).obj id row = s.obj id row := rfl
@[simp] theorem State.obj_taint (s : State) (id row : Nat) : s.taint.obj id row = s.obj id row := rfl
@[simp] theorem State.obj_poisonStep (s : State) (id row : Nat) : s.poisonStep.obj id row = s.obj id row := rfl

/-! ## Units -/

@[simp] theorem State.spindle_setSpindle (s : State) (p : Site) (x : Spindle) : (s.setSpindle p x).spindle p = x := by
  simp [State.spindle, State.setSpindle]

@[simp] theorem State.setSpindle_spindles (s : State) (p : Site) (x : Spindle) :
    (s.setSpindle p x).spindles = tput s.spindles p.row x := rfl

@[simp] theorem State.spindle_setObj (s : State) (id row v : Nat) (p : Site) : (s.setObj id row v).spindle p = s.spindle p := by
 simp only [State.spindle, State.setObj_spindles]
@[simp] theorem State.spindle_bump (s : State) (id row n : Nat) (p : Site) : (s.bump id row n).spindle p = s.spindle p := by
 simp only [State.spindle, State.bump_spindles]
@[simp] theorem State.spindle_setField (s : State) (id row lo w v : Nat) (p : Site) : (s.setField id row lo w v).spindle p = s.spindle p := by
 simp only [State.spindle, State.setField_spindles]
@[simp] theorem State.spindle_setFlag (s : State) (id row i : Nat) (p : Site) : (s.setFlag id row i).spindle p = s.spindle p := by
 simp only [State.spindle, State.setFlag_spindles]
@[simp] theorem State.spindle_drew (s : State) (n : Nat) (p : Site) : (s.drew n).spindle p = s.spindle p := by
 simp only [State.spindle, State.drew_spindles]
@[simp] theorem State.spindle_bumpFree (s : State) (id row : Nat) (p : Site) : (s.bumpFree id row).spindle p = s.spindle p := by
 simp only [State.spindle, State.bumpFree_spindles]
@[simp] theorem State.spindle_setBolt (s : State) (b : Nat) (x : Bolt) (p : Site) : (s.setBolt b x).spindle p = s.spindle p := by
 simp only [State.spindle, State.setBolt_spindles]
@[simp] theorem State.spindle_setMode (s : State) (m c : Nat) (p : Site) : (s.setMode m c).spindle p = s.spindle p := by
 simp only [State.spindle, State.setMode_spindles]
@[simp] theorem State.spindle_setPhase (s : State) (q : Nat) (p : Site) : (s.setPhase q).spindle p = s.spindle p := by
 simp only [State.spindle, State.setPhase_spindles]
@[simp] theorem State.spindle_setMb (s : State) (k : Nat) (p : Site) : (s.setMb k).spindle p = s.spindle p := by
 simp only [State.spindle, State.setMb_spindles]
@[simp] theorem State.spindle_record (s : State) (r : Rec) (p : Site) : (s.record r).spindle p = s.spindle p := by
 simp only [State.spindle, State.record_spindles]
@[simp] theorem State.spindle_fault (s : State) (code unit detail : Nat) (p : Site) : (s.fault code unit detail).spindle p = s.spindle p := by
 simp only [State.spindle, State.fault_spindles]
@[simp] theorem State.spindle_taint (s : State) (p : Site) : (s.taint).spindle p = s.spindle p := by
 simp only [State.spindle, State.taint_spindles]
@[simp] theorem State.spindle_poisonStep (s : State) (p : Site) : (s.poisonStep).spindle p = s.spindle p := by
 simp only [State.spindle, State.poisonStep_spindles]

@[simp] theorem State.bolt_setBolt (s : State) (b : Nat) (x : Bolt) : (s.setBolt b x).bolt b = x := by
  simp [State.bolt, State.setBolt]

theorem State.bolt_setBolt_ne {s : State} {b c : Nat} {x : Bolt} (h : b ≠ c) : (s.setBolt b x).bolt c = s.bolt c := by
  simp [State.bolt, State.setBolt, tget_tput_ne h]

@[simp] theorem State.setBolt_bolts (s : State) (b : Nat) (x : Bolt) : (s.setBolt b x).bolts = tput s.bolts b x := rfl

@[simp] theorem State.bolt_setObj (s : State) (id row v : Nat) (k : Nat) : (s.setObj id row v).bolt k = s.bolt k := by
 simp only [State.bolt, State.setObj_bolts]
@[simp] theorem State.bolt_bump (s : State) (id row n : Nat) (k : Nat) : (s.bump id row n).bolt k = s.bolt k := by
 simp only [State.bolt, State.bump_bolts]
@[simp] theorem State.bolt_setField (s : State) (id row lo w v : Nat) (k : Nat) : (s.setField id row lo w v).bolt k = s.bolt k := by
 simp only [State.bolt, State.setField_bolts]
@[simp] theorem State.bolt_setFlag (s : State) (id row i : Nat) (k : Nat) : (s.setFlag id row i).bolt k = s.bolt k := by
 simp only [State.bolt, State.setFlag_bolts]
@[simp] theorem State.bolt_drew (s : State) (n : Nat) (k : Nat) : (s.drew n).bolt k = s.bolt k := by
 simp only [State.bolt, State.drew_bolts]
@[simp] theorem State.bolt_bumpFree (s : State) (id row : Nat) (k : Nat) : (s.bumpFree id row).bolt k = s.bolt k := by
 simp only [State.bolt, State.bumpFree_bolts]
@[simp] theorem State.bolt_setSpindle (s : State) (p : Site) (x : Spindle) (k : Nat) : (s.setSpindle p x).bolt k = s.bolt k := by
 simp only [State.bolt, State.setSpindle_bolts]
@[simp] theorem State.bolt_setMode (s : State) (m c : Nat) (k : Nat) : (s.setMode m c).bolt k = s.bolt k := by
 simp only [State.bolt, State.setMode_bolts]
@[simp] theorem State.bolt_setPhase (s : State) (p : Nat) (k : Nat) : (s.setPhase p).bolt k = s.bolt k := by
 simp only [State.bolt, State.setPhase_bolts]
@[simp] theorem State.bolt_setMb (s : State) (j k : Nat) : (s.setMb j).bolt k = s.bolt k := by
 simp only [State.bolt, State.setMb_bolts]
@[simp] theorem State.bolt_record (s : State) (r : Rec) (k : Nat) : (s.record r).bolt k = s.bolt k := by
 simp only [State.bolt, State.record_bolts]
@[simp] theorem State.bolt_fault (s : State) (code unit detail : Nat) (k : Nat) : (s.fault code unit detail).bolt k = s.bolt k := by
 simp only [State.bolt, State.fault_bolts]
@[simp] theorem State.bolt_taint (s : State) (k : Nat) : (s.taint).bolt k = s.bolt k := by
 simp only [State.bolt, State.taint_bolts]
@[simp] theorem State.bolt_poisonStep (s : State) (k : Nat) : (s.poisonStep).bolt k = s.bolt k := by
 simp only [State.bolt, State.poisonStep_bolts]

end Sys2Proof.Machine
end

