-- ==== Sys2Proof/Laws/Frames.lean ====
section
/-! SUPPORT. The laws of the frame predicates of Safety.lean: they compose, they widen, and each operation over State
meets them. -/

namespace Sys2Proof.Machine

/-! ## Bytes -/

theorem State.SameBytes.refl (s : State) : s.SameBytes s := fun _ => ⟨rfl, rfl, rfl, rfl⟩

theorem State.SameBytes.trans {s t u : State} (h : s.SameBytes t) (k : t.SameBytes u) : s.SameBytes u := fun a =>
  ⟨(k a).1.trans (h a).1, (k a).2.1.trans (h a).2.1, (k a).2.2.1.trans (h a).2.2.1, (k a).2.2.2.trans (h a).2.2.2⟩

theorem State.SameBytes.of_eq {s t : State} (h1 : t.fast = s.fast) (h2 : t.slow = s.slow) (h3 : t.host = s.host) :
    s.SameBytes t := fun a => by rw [h1, h2, h3]; exact ⟨rfl, rfl, rfl, rfl⟩

/-! ## Rows -/

theorem State.RowsOnly.refl (ch : Nat → Nat → Prop) (s : State) : s.RowsOnly ch s := fun _ _ _ _ => rfl

theorem State.RowsOnly.trans {ch : Nat → Nat → Prop} {s t u : State} (h : s.RowsOnly ch t) (k : t.RowsOnly ch u) :
    s.RowsOnly ch u := fun id row hr n => (k id row hr n).trans (h id row hr n)

theorem State.RowsOnly.mono {ch dh : Nat → Nat → Prop} {s t : State} (i : ∀ id row, ch id row → dh id row)
    (h : s.RowsOnly ch t) : s.RowsOnly dh t := fun id row hr n => h id row hr (fun c => n (i id row c))

theorem State.RowsOnly.of_obj {ch : Nat → Nat → Prop} {s t : State} (h : t.objs = s.objs)
    (k : t.dict.copies = s.dict.copies) : s.RowsOnly ch t := by
  intro id row _ _
  unfold State.obj State.voteFailed State.raw
  rw [h, k]

theorem State.RowsOnly.setObj {ch : Nat → Nat → Prop} {s : State} {id row v : Nat} (hr : row < 2 ^ 20) (h : ch id row) :
    s.RowsOnly ch (s.setObj id row v) := by
  intro i r hi n
  refine State.obj_setObj_ne (fun e => n ?_)
  have := (objKey_inj hr hi).mp e
  rw [← this.1, ← this.2]
  exact h

/-! ## States that differ in object rows -/

theorem State.OnlyRows.refl (ch : Nat → Nat → Prop) (s : State) : s.OnlyRows ch s :=
  ⟨rfl, .refl ch s, .refl s⟩

theorem State.OnlyRows.trans {ch : Nat → Nat → Prop} {s t u : State} (h : s.OnlyRows ch t) (k : t.OnlyRows ch u) :
    s.OnlyRows ch u := by
  refine ⟨?_, h.2.1.trans k.2.1, h.2.2.trans k.2.2⟩
  have a := h.1
  have b := k.1
  generalize t.objs = o at a
  generalize t.dict.copies = c at a
  generalize t.free = f at a
  subst a
  exact b

theorem State.OnlyRows.mono {ch dh : Nat → Nat → Prop} {s t : State} (i : ∀ id row, ch id row → dh id row)
    (h : s.OnlyRows ch t) : s.OnlyRows dh t := ⟨h.1, h.2.1.mono i, h.2.2⟩

theorem State.OnlyRows.setObj {ch : Nat → Nat → Prop} {s : State} {id row v : Nat} (hr : row < 2 ^ 20) (h : ch id row) :
    s.OnlyRows ch (s.setObj id row v) := ⟨rfl, .setObj hr h, .of_eq rfl rfl rfl⟩

theorem State.OnlyRows.bump {ch : Nat → Nat → Prop} {s : State} {id row n : Nat} (hr : row < 2 ^ 20) (h : ch id row) :
    s.OnlyRows ch (s.bump id row n) := .setObj hr h

theorem State.OnlyRows.drew {ch : Nat → Nat → Prop} {s : State} {n : Nat} : s.OnlyRows ch (s.drew n) :=
  ⟨rfl, .of_obj rfl rfl, .of_eq rfl rfl rfl⟩

theorem State.OnlyRows.bumpFree {ch : Nat → Nat → Prop} {s : State} {id row : Nat} (hr : row < 2 ^ 20) (h : ch id row) :
    s.OnlyRows ch (s.bumpFree id row) := (State.OnlyRows.bump hr h).trans .drew

theorem State.OnlyRows.record {ch : Nat → Nat → Prop} {s : State} {r : Rec} (h : ∀ k, ch Obj.faultLog k)
    (k : ch Obj.faultSeqLast 0) : s.OnlyRows ch (s.record r) := by
  unfold State.record
  exact (State.OnlyRows.setObj (by omega) (h _)).trans (.setObj (by decide) k)

theorem State.OnlyRows.fault {ch : Nat → Nat → Prop} {s : State} {c u d : Nat} (h : ∀ k, ch Obj.faultLog k)
    (k : ch Obj.faultSeqLast 0) (l : ch Obj.faultReports 0) : s.OnlyRows ch (s.fault c u d) := by
  unfold State.fault
  exact (State.OnlyRows.bump (by decide) l).trans (.record h k)

/-! ## States that differ at one spindle -/

theorem site_row_lt (p : Site) : p.row < 2 ^ 20 := by
  have := p.x.isLt; have := p.y.isLt; unfold Site.row; omega

theorem State.OnlySpindle.refl (p : Site) (ch : Nat → Nat → Prop) (s : State) : s.OnlySpindle p ch s :=
  ⟨rfl, fun _ _ => rfl, .refl ch s, .refl s⟩

theorem State.OnlySpindle.trans {p : Site} {ch : Nat → Nat → Prop} {s t u : State} (h : s.OnlySpindle p ch t)
    (k : t.OnlySpindle p ch u) : s.OnlySpindle p ch u := by
  refine ⟨?_, fun r n => (k.2.1 r n).trans (h.2.1 r n), h.2.2.1.trans k.2.2.1, h.2.2.2.trans k.2.2.2⟩
  have a := h.1
  have b := k.1
  generalize t.objs = o at a
  generalize t.dict.copies = c at a
  generalize t.free = f at a
  generalize t.spindles = x at a
  subst a
  exact b

theorem State.OnlySpindle.mono {p : Site} {ch dh : Nat → Nat → Prop} {s t : State} (i : ∀ id row, ch id row → dh id row)
    (h : s.OnlySpindle p ch t) : s.OnlySpindle p dh t := ⟨h.1, h.2.1, h.2.2.1.mono i, h.2.2.2⟩

theorem State.OnlyRows.atSpindle {p : Site} {ch : Nat → Nat → Prop} {s t : State} (h : s.OnlyRows ch t) :
    s.OnlySpindle p ch t := by
  have e : t.spindles = s.spindles := by rw [h.1]
  refine ⟨?_, fun r _ => by rw [e], h.2.1, h.2.2⟩
  rw [e]; exact h.1

theorem State.OnlySpindle.setSpindle {p : Site} {ch : Nat → Nat → Prop} {s : State} {x : Spindle} :
    s.OnlySpindle p ch (s.setSpindle p x) :=
  ⟨rfl, fun _ n => tget_tput_ne (Ne.symm n) _ _, .of_obj rfl rfl, .of_eq rfl rfl rfl⟩

/-! ## States that differ at one bolt controller -/

theorem State.OnlyBolt.trans {b : BoltNo} {ch : Nat → Nat → Prop} {s t u : State} (h : s.OnlyBolt b ch t)
    (k : t.OnlyBolt b ch u) : s.OnlyBolt b ch u := by
  refine ⟨?_, fun r n => (k.2.1 r n).trans (h.2.1 r n), h.2.2.1.trans k.2.2.1, h.2.2.2.trans k.2.2.2⟩
  have a := h.1
  have c := k.1
  generalize t.objs = o at a
  generalize t.dict.copies = d at a
  generalize t.bolts = x at a
  subst a
  exact c

theorem State.OnlyBolt.setBolt {b : BoltNo} {ch : Nat → Nat → Prop} {s : State} {x : Bolt} :
    s.OnlyBolt b ch (s.setBolt b.val x) :=
  ⟨rfl, fun _ n => tget_tput_ne (Ne.symm n) _ _, .of_obj rfl rfl, .of_eq rfl rfl rfl⟩

theorem State.OnlyBolt.setObj {b : BoltNo} {ch : Nat → Nat → Prop} {s : State} {id row v : Nat} (hr : row < 2 ^ 20)
    (h : ch id row) : s.OnlyBolt b ch (s.setObj id row v) :=
  ⟨rfl, fun _ _ => rfl, .setObj hr h, .of_eq rfl rfl rfl⟩

end Sys2Proof.Machine
end

