-- ==== Sys2Proof/Laws/Issue.lean ====
section
/-! SUPPORT. What issuing an instruction does at its spindle. -/

namespace Sys2Proof.Machine

theorem State.runAt_issues {s : State} {p : Site} (h : s.issues p = true) (f : State → State) :
    s.runAt p f = (f (s.issued p)).advance p := by simp [State.runAt, h]

theorem State.runAt_idle {s : State} {p : Site} (h : s.issues p = false) (f : State → State) : s.runAt p f = s := by
  simp [State.runAt, h]

@[simp] theorem State.spindle_issued (s : State) (p : Site) :
    (s.issued p).spindle p = { s.spindle p with justWrote := (s.spindle p).nowWrote, nowWrote := none } := by
  simp [State.issued]

/-- Issuing moves the scoreboard of the spindle alone. -/
@[simp] theorem State.calm_issued (s : State) (p : Site) : ((s.issued p).spindle p).calm = (s.spindle p).calm := by
  simp [Spindle.calm]

/-- Issuing leaves every other spindle. -/
theorem State.tget_issued_ne (s : State) (p : Site) {r : Nat} (h : r ≠ p.row) :
    tget (s.issued p).spindles r = tget s.spindles r := by
  simp [State.issued, State.setSpindle, tget_tput_ne (Ne.symm h)]

theorem State.issued_frame (s : State) (p : Site) : s.OnlySpindle p (issueRows p) (s.issued p) := by
  unfold State.issued
  have hr := site_row_lt p
  refine State.OnlySpindle.trans (State.OnlySpindle.setSpindle (x := { s.spindle p with
    justWrote := (s.spindle p).nowWrote, nowWrote := none })) (State.OnlyRows.atSpindle ?_)
  refine ((State.OnlyRows.bump hr ?_).trans (.bumpFree hr ?_)).trans (.bumpFree hr ?_) <;>
    exact ⟨rfl, by decide⟩

theorem issueRows_spindleRows (p : Site) (id row : Nat) (h : issueRows p id row) : spindleRows p id row := by
  obtain ⟨h1, h2⟩ := h
  refine .inl ⟨h1, ?_⟩
  simp only [List.mem_cons, List.mem_nil_iff, or_false] at h2
  rcases h2 with rfl | rfl | rfl <;> decide

theorem State.issued_count (s : State) (p : Site) :
    (s.issued p).obj Obj.spindleIssued p.row = satAdd 64 (s.obj Obj.spindleIssued p.row) 1 := by
  unfold State.issued
  have hr := site_row_lt p
  rw [State.obj_bumpFree_ne (objKey_ne_of_id hr hr (by decide)), State.obj_bumpFree_ne (objKey_ne_of_id hr hr (by decide)),
    State.obj_bump_self, State.obj_setSpindle]
  rfl

/-- An instruction that changes its spindle alone. -/
theorem State.Issued.of_setSpindle (s : State) (p : Site) (x : Spindle) : s.Issued p ((s.issued p).setSpindle p x) :=
  ⟨s.issued_count p, (s.issued_frame p).trans .setSpindle⟩

theorem State.setSpindle_twice (s : State) (p : Site) (x y : Spindle) :
    (s.setSpindle p x).setSpindle p y = s.setSpindle p y := by
  simp [State.setSpindle, tput_tput]

theorem State.advance_setSpindle (s : State) (p : Site) (x : Spindle) :
    (s.setSpindle p x).advance p = s.setSpindle p x.next := by
  unfold State.advance
  rw [State.spindle_setSpindle, State.setSpindle_twice]

end Sys2Proof.Machine
end

