-- ==== Sys2Proof/WellFormed.lean ====
section
/-! DEFINITION. Well-formed commands: the ranges of operands that the types of `Instr` do not hold, and the spindle site a
command names. A command of any other operands is one that no party can send; `exec` is total on it all the same. -/

namespace Sys2Proof

/-- Store lines of a spindle (R70). -/
abbrev eccLines : Nat := 98304

/-- The lines found bad are lines of the store, each named once (R75). -/
def EccResult.wf (e : EccResult) : Bool := e.bad.all (fun i => decide (i < eccLines)) && decide e.bad.Nodup

/-- The level is one of the levels that a fault record names (R354). -/
def UnitId.wf (u : UnitId) : Bool := decide (u.level.toNat ≤ 12)

/-- LENGTH counts the data bytes of a frame, 0 to 1,440; a READ and a LOCK carry no data and name what they want (R424). -/
def TopReq.wf (r : TopReq) : Bool := decide (r.data.length ≤ 1440)

/-- A READ by TOP is well formed as its request is; a BAR0 access has a byte at least and lies within
BAR0 (R381). -/
def ReadReq.wf : ReadReq → Bool
  | .top r => r.wf
  | .bar0 offset size => decide (1 ≤ size ∧ offset.toNat + size ≤ 2 ^ 27)
  | .config _ => true

/-- A lock operation by TOP is well formed as its request is. -/
def LockReq.wf : LockReq → Bool
  | .top r => r.wf
  | .mirror _ => true

/-- Each unit stands once in the outcome of a start-up (R463 to R468). -/
def StartupOutcome.wf (o : StartupOutcome) : Bool :=
  decide (o.lostBolts.map (·.1)).Nodup && decide o.failedSites.Nodup && decide (o.memory.map (·.1)).Nodup &&
    decide o.lanes.Nodup

/-- A BAR4 access lies within the window of 1 GiB (R381). -/
def WindowAccess.wf : WindowAccess → Bool
  | .rd offset bytes => decide (offset.toNat + bytes ≤ 2 ^ 30)
  | .wr offset data => decide (offset.toNat + data.length ≤ 2 ^ 30)

/-- Payload bytes a link frame carries at most (R307). -/
abbrev frameBytes : Nat := 4096

/-- Bytes one write carries at most: LENGTH of a TOP request (R424). -/
abbrev writeBytes : Nat := 1440

/-- Instances of an arbiter kind (R175). -/
def arbiterInstances : Nat → Nat
  | 0 => 1536
  | 1 => 768
  | 2 => 32
  | 3 => 8
  | 4 => 48
  | 5 => 1
  | _ => 0

/-- Requester classes of an arbiter kind (R175). -/
def arbiterClasses : Nat → Nat
  | 0 => 6
  | 1 => 4
  | 2 => 5
  | 3 => 4
  | 4 => 2
  | 5 => 5
  | _ => 0

/-- The instance is one of its kind. -/
def arbiterOk (kind inst : Nat) : Bool := decide (inst < arbiterInstances kind)

/-- The operands lie in the ranges that the types do not hold. -/
def Instr.wellFormed : Instr → Bool
  | .nop _ => true
  | .halt _ => true
  | .codeRegionEnd _ => true
  | .loop _ _ _ => true
  | .jump _ _ => true
  | .branchG _ _ _ _ => true
  | .drain _ => true
  | .mma _ _ _ _ _ _ _ _ _ => true
  | .mmaPacked _ _ _ _ _ _ _ _ _ _ _ _ ecc => ecc.wf
  | .accOut _ _ _ _ => true
  | .accZero _ _ => true
  | .accAddpair _ _ _ => true
  | .vchain _ _ _ _ _ _ _ _ _ => true
  | .vredRow _ _ _ _ _ _ _ _ _ => true
  | .vredCol _ _ _ _ _ _ _ _ _ => true
  | .vwide _ _ _ _ _ _ _ _ _ => true
  | .load _ _ _ _ _ ecc => ecc.wf
  | .store _ _ _ _ _ => true
  | .loadT _ _ _ _ ecc => ecc.wf
  | .copy _ _ _ _ => true
  | .cvt _ _ _ _ _ _ _ _ _ => true
  | .rctx _ _ _ _ _ _ => true
  | .rdraw _ _ _ _ _ => true
  | .rmask _ _ _ _ _ => true
  | .sopen _ _ _ _ _ => true
  | .sclose _ _ => true
  | .send _ _ _ _ _ _ ecc => ecc.wf
  | .recv _ _ _ _ _ _ => true
  | .recvComplete _ => true
  | .sendh _ _ _ _ _ => true
  | .recvh _ _ _ _ _ => true
  | .rdecl _ _ _ _ _ _ => true
  | .rsend _ _ _ _ ecc => ecc.wf
  | .rrecv _ _ _ _ => true
  | .qput _ _ _ => true
  | .qget _ _ _ => true
  | .qrel _ _ => true
  | .qmake _ _ _ _ => true
  | .doff _ _ => true
  | .doffArrive _ => true
  | .doffComplete => true
  | .doffWatchdogExpiry unanswered => decide unanswered.Nodup
  | .summary _ _ _ _ => true
  | .summaryResultsArrive => true
  | .suWait _ _ => true
  | .f64Add _ _ _ => true
  | .f64Sub _ _ _ => true
  | .f64Mul _ _ _ => true
  | .f64Div _ _ _ => true
  | .f64Sqrt _ _ => true
  | .f64Min _ _ _ => true
  | .f64Max _ _ _ => true
  | .f64Cmplt _ _ _ => true
  | .f64Cmpeq _ _ _ => true
  | .f64Isfin _ _ => true
  | .f64Toi64 _ _ => true
  | .f64Fromi64 _ _ => true
  | .decPost _ _ _ => true
  | .spStart _ _ => true
  | .boltProgramTrap _ _ _ => true
  | .flitLate _ => true
  | .reductionCombine _ _ => true
  | .gradientAdd _ => true
  | .maskReport _ => true
  | .arbiterDecision kind inst requests => arbiterOk kind.val inst && requests.all (fun r => decide (r.1.val < arbiterClasses kind.val)) && decide requests.Nodup
  | .grantWatchdog kind inst => arbiterOk kind.val inst
  | .streamStart _ => true
  | .descriptorRead _ => true
  | .leaFetch _ _ bad => decide bad.Nodup
  | .leaInject _ => true
  | .leaLate _ _ => true
  | .creditReturn _ => true
  | .leaArrive _ _ => true
  | .decisionRelay => true
  | .holdArrive _ _ => true
  | .holdRelease _ => true
  | .divisorChange => true
  | .weftInjectLate _ => true
  | .replayBoundExpiry _ => true
  | .inputDeliveryLate _ => true
  | .evalResultLate _ => true
  | .bobbinScan => true
  | .bobbinWindowWrite offset data => decide (offset.toNat + data.length ≤ 2 ^ 32)
  | .microbatchStart => true
  | .microbatchEnd => true
  | .evalResultWrite _ => true
  | .layerExchangeStart _ => true
  | .exchangeEnd => true
  | .voteReportSend => true
  | .voteFrame _ _ _ => true
  | .commitFrame _ _ _ => true
  | .shardUpdate _ _ => true
  | .bandRepack _ _ _ band => decide (band < 2 ^ 32)
  | .updateComplete => true
  | .journalRedo _ => true
  | .digestReport _ _ entries => decide (entries.length ≤ 32)
  | .digestVerdict _ _ _ _ _ => true
  | .stepBoundary => true
  | .gradFrame _ _ _ _ _ data => decide (4 * data.length ≤ frameBytes)
  | .reweaveFrame _ _ _ _ _ data => decide (data.length ≤ frameBytes)
  | .timeFrame _ _ _ _ _ _ => true
  | .timeFrameSend _ => true
  | .idle _ _ => true
  | .hello _ _ _ _ _ _ _ => true
  | .memberLost _ _ _ _ => true
  | .leave _ _ _ _ => true
  | .membership _ _ _ _ => true
  | .decisionQuery _ _ => true
  | .decisionAnswer _ _ _ => true
  | .join _ _ _ _ _ => true
  | .laneRetire _ _ => true
  | .laneFecWindow _ _ _ _ => true
  | .laneLossOfLock _ _ => true
  | .laneRetrainDone _ => true
  | .portTrained _ => true
  | .linkAckTimeout _ => true
  | .peerLost _ => true
  | .linkCableConnect _ => true
  | .linkCableRemove _ => true
  | .markIn => true
  | .markOutPulse => true
  | .assign req _ outcome => req.wf && outcome.wf
  | .chainAddress _ _ => true
  | .chainIndex _ _ => true
  | .chainPositions _ _ => true
  | .gridChains _ _ => true
  | .chainLeave _ _ => true
  | .reweaveStart _ => true
  | .reweaveAbort _ => true
  | .livenessMiss reporter unit => reporter.wf && unit.wf
  | .reportGroupClose => true
  | .hardIndicator unit _ => unit.wf
  | .fence _ _ _ _ => true
  | .microbatchReplay => true
  | .refill crcs => decide (crcs.map (·.1)).Nodup
  | .firmwareWatchdog _ => true
  | .hostPortReset _ => true
  | .loadWindowAccess a => a.wf
  | .imageLoad _ => true
  | .restart _ => true
  | .unload _ => true
  | .read req => req.wf
  | .write req => req.wf
  | .describe req => req.wf
  | .echo req => req.wf
  | .lock req => req.wf
  | .commit req => req.wf
  | .unlock req => req.wf
  | .lockExpiry => true
  | .readShadowExpiry _ => true
  | .writeShadowExpiry _ => true
  | .objectWrite _ _ _ _ _ data => decide (data.length ≤ writeBytes)
  | .windowNext => true
  | .windowFetch => true
  | .windowStore => true
  | .spindleFlagsClear _ _ _ => true
  | .zeroStreakClear _ _ _ => true
  | .boltProgTrapClear _ _ => true
  | .run _ => true
  | .stopAtBoundary _ => true
  | .powerApplied _ => true
  | .powerRemoved => true
  | .inputWindow _ _ _ => true
  | .railNotRemoved _ => true
  | .boltOvercurrent _ => true
  | .boltUndervoltage _ => true
  | .railBoost _ => true
  | .railShunt _ => true
  | .currentSample samples sense => decide (samples.map (·.1)).Nodup && decide (sense.map (·.1)).Nodup
  | .throttleEvaluation => true
  | .vsetSettled => true
  | .sensorRead bolts dies => decide (bolts.map (·.1)).Nodup && decide (dies.map (·.1)).Nodup
  | .clockParentLoss _ => true
  | .refInLost => true
  | .refInRestored _ => true
  | .retry _ outcome => outcome.wf
  | .install _ => true
  | .switch _ => true
  | .generate _ => true
  | .debug _ _ => true
  | .ownerRelease _ _ => true
  | .fieldClear _ _ => true
  | .ownerKeyHash _ _ => true
  | .imageSignRequired _ _ => true
  | .fwMinSvn _ _ => true
  | .clearOnUnload _ _ => true
  | .railDisengage _ => true
  | .frameDiscarded _ _ => true
  | .chainTimeRefresh => true
  | .scanAndHaltAccess _ _ _ => true

/-- The spindle site a command names, if it names one. -/
def Instr.site? : Instr → Option Site
  | .nop p => some p
  | .halt p => some p
  | .codeRegionEnd p => some p
  | .loop p _ _ => some p
  | .jump p _ => some p
  | .branchG p _ _ _ => some p
  | .drain p => some p
  | .mma p _ _ _ _ _ _ _ _ => some p
  | .mmaPacked p _ _ _ _ _ _ _ _ _ _ _ _ => some p
  | .accOut p _ _ _ => some p
  | .accZero p _ => some p
  | .accAddpair p _ _ => some p
  | .vchain p _ _ _ _ _ _ _ _ => some p
  | .vredRow p _ _ _ _ _ _ _ _ => some p
  | .vredCol p _ _ _ _ _ _ _ _ => some p
  | .vwide p _ _ _ _ _ _ _ _ => some p
  | .load p _ _ _ _ _ => some p
  | .store p _ _ _ _ => some p
  | .loadT p _ _ _ _ => some p
  | .copy p _ _ _ => some p
  | .cvt p _ _ _ _ _ _ _ _ => some p
  | .rctx p _ _ _ _ _ => some p
  | .rdraw p _ _ _ _ => some p
  | .rmask p _ _ _ _ => some p
  | .sopen p _ _ _ _ => some p
  | .sclose p _ => some p
  | .send p _ _ _ _ _ _ => some p
  | .recv p _ _ _ _ _ => some p
  | .recvComplete p => some p
  | .sendh p _ _ _ _ => some p
  | .recvh p _ _ _ _ => some p
  | .rdecl p _ _ _ _ _ => some p
  | .rsend p _ _ _ _ => some p
  | .rrecv p _ _ _ => some p
  | .qput p _ _ => some p
  | .qget p _ _ => some p
  | .qrel p _ => some p
  | .qmake p _ _ _ => some p
  | .doff p _ => some p
  | .doffArrive p => some p
  | .doffComplete => none
  | .doffWatchdogExpiry _ => none
  | .summary p _ _ _ => some p
  | .summaryResultsArrive => none
  | .suWait _ _ => none
  | .f64Add _ _ _ => none
  | .f64Sub _ _ _ => none
  | .f64Mul _ _ _ => none
  | .f64Div _ _ _ => none
  | .f64Sqrt _ _ => none
  | .f64Min _ _ _ => none
  | .f64Max _ _ _ => none
  | .f64Cmplt _ _ _ => none
  | .f64Cmpeq _ _ _ => none
  | .f64Isfin _ _ => none
  | .f64Toi64 _ _ => none
  | .f64Fromi64 _ _ => none
  | .decPost _ _ _ => none
  | .spStart _ _ => none
  | .boltProgramTrap _ _ _ => none
  | .flitLate _ => none
  | .reductionCombine p _ => some p
  | .gradientAdd _ => none
  | .maskReport _ => none
  | .arbiterDecision _ _ _ => none
  | .grantWatchdog _ _ => none
  | .streamStart _ => none
  | .descriptorRead _ => none
  | .leaFetch _ _ _ => none
  | .leaInject _ => none
  | .leaLate _ _ => none
  | .creditReturn _ => none
  | .leaArrive p _ => some p
  | .decisionRelay => none
  | .holdArrive p _ => some p
  | .holdRelease p => some p
  | .divisorChange => none
  | .weftInjectLate _ => none
  | .replayBoundExpiry _ => none
  | .inputDeliveryLate _ => none
  | .evalResultLate _ => none
  | .bobbinScan => none
  | .bobbinWindowWrite _ _ => none
  | .microbatchStart => none
  | .microbatchEnd => none
  | .evalResultWrite _ => none
  | .layerExchangeStart _ => none
  | .exchangeEnd => none
  | .voteReportSend => none
  | .voteFrame _ _ _ => none
  | .commitFrame _ _ _ => none
  | .shardUpdate _ _ => none
  | .bandRepack _ _ _ _ => none
  | .updateComplete => none
  | .journalRedo _ => none
  | .digestReport _ _ _ => none
  | .digestVerdict _ _ _ _ _ => none
  | .stepBoundary => none
  | .gradFrame _ _ _ _ _ _ => none
  | .reweaveFrame _ _ _ _ _ _ => none
  | .timeFrame _ _ _ _ _ _ => none
  | .timeFrameSend _ => none
  | .idle _ _ => none
  | .hello _ _ _ _ _ _ _ => none
  | .memberLost _ _ _ _ => none
  | .leave _ _ _ _ => none
  | .membership _ _ _ _ => none
  | .decisionQuery _ _ => none
  | .decisionAnswer _ _ _ => none
  | .join _ _ _ _ _ => none
  | .laneRetire _ _ => none
  | .laneFecWindow _ _ _ _ => none
  | .laneLossOfLock _ _ => none
  | .laneRetrainDone _ => none
  | .portTrained _ => none
  | .linkAckTimeout _ => none
  | .peerLost _ => none
  | .linkCableConnect _ => none
  | .linkCableRemove _ => none
  | .markIn => none
  | .markOutPulse => none
  | .assign _ _ _ => none
  | .chainAddress _ _ => none
  | .chainIndex _ _ => none
  | .chainPositions _ _ => none
  | .gridChains _ _ => none
  | .chainLeave _ _ => none
  | .reweaveStart _ => none
  | .reweaveAbort _ => none
  | .livenessMiss _ _ => none
  | .reportGroupClose => none
  | .hardIndicator _ _ => none
  | .fence _ _ _ _ => none
  | .microbatchReplay => none
  | .refill _ => none
  | .firmwareWatchdog _ => none
  | .hostPortReset _ => none
  | .loadWindowAccess _ => none
  | .imageLoad _ => none
  | .restart _ => none
  | .unload _ => none
  | .read _ => none
  | .write _ => none
  | .describe _ => none
  | .echo _ => none
  | .lock _ => none
  | .commit _ => none
  | .unlock _ => none
  | .lockExpiry => none
  | .readShadowExpiry _ => none
  | .writeShadowExpiry _ => none
  | .objectWrite _ _ _ _ _ _ => none
  | .windowNext => none
  | .windowFetch => none
  | .windowStore => none
  | .spindleFlagsClear _ p _ => some p
  | .zeroStreakClear _ _ _ => none
  | .boltProgTrapClear _ _ => none
  | .run _ => none
  | .stopAtBoundary _ => none
  | .powerApplied _ => none
  | .powerRemoved => none
  | .inputWindow _ _ _ => none
  | .railNotRemoved _ => none
  | .boltOvercurrent _ => none
  | .boltUndervoltage _ => none
  | .railBoost _ => none
  | .railShunt _ => none
  | .currentSample _ _ => none
  | .throttleEvaluation => none
  | .vsetSettled => none
  | .sensorRead _ _ => none
  | .clockParentLoss _ => none
  | .refInLost => none
  | .refInRestored _ => none
  | .retry _ _ => none
  | .install _ => none
  | .switch _ => none
  | .generate _ => none
  | .debug _ _ => none
  | .ownerRelease _ _ => none
  | .fieldClear _ _ => none
  | .ownerKeyHash _ _ => none
  | .imageSignRequired _ _ => none
  | .fwMinSvn _ _ => none
  | .clearOnUnload _ _ => none
  | .railDisengage _ => none
  | .frameDiscarded _ _ => none
  | .chainTimeRefresh => none
  | .scanAndHaltAccess _ _ _ => none

end Sys2Proof
end

