-- ==== Sys2Proof/Laws/PerInstr.lean ====
section
/-! SUPPORT. Statements for all commands, made one constructor at a time. SiteOf: the site a command names has a row in the
spindle tables. -/

namespace Sys2Proof.Laws

/-- The site's row lies in the spindle tables (R9, R104). -/
theorem row_lt (p : Site) : p.row < 9216 := by
  have hx := p.x.isLt
  have hy := p.y.isLt
  unfold Site.row
  omega

namespace SiteOf

/-- A command that names a spindle names one of the 9,216 rows. -/
def Statement (i : Instr) : Prop := ∀ p : Site, i.site? = some p → p.row < 9216

theorem nop (x0 : Site) : Statement (.nop x0) := fun p _ => row_lt p
theorem halt (x0 : Site) : Statement (.halt x0) := fun p _ => row_lt p
theorem codeRegionEnd (x0 : Site) : Statement (.codeRegionEnd x0) := fun p _ => row_lt p
theorem loop (x0 : Site) (x1 : BitVec 20) (x2 : BitVec 16) : Statement (.loop x0 x1 x2) := fun p _ => row_lt p
theorem jump (x0 : Site) (x1 : BitVec 20) : Statement (.jump x0 x1) := fun p _ => row_lt p
theorem branchG (x0 : Site) (x1 : W16) (x2 : BitVec 5) (x3 : BitVec 20) : Statement (.branchG x0 x1 x2 x3) := fun p _ => row_lt p
theorem drain (x0 : Site) : Statement (.drain x0) := fun p _ => row_lt p
theorem mma (x0 : Site) (x1 : Bool) (x2 : BitVec 2) (x3 : BitVec 4) (x4 : BitVec 4) (x5 : BitVec 3) (x6 : BitVec 5) (x7 : BitVec 5) (x8 : BitVec 4) : Statement (.mma x0 x1 x2 x3 x4 x5 x6 x7 x8) := fun p _ => row_lt p
theorem mmaPacked (x0 : Site) (x1 : Bool) (x2 : BitVec 2) (x3 : BitVec 4) (x4 : BitVec 4) (x5 : BitVec 3) (x6 : BitVec 5) (x7 : BitVec 4) (x8 : BitVec 4) (x9 : W16) (x10 : BitVec 36) (x11 : BitVec 12) (x12 : EccResult) : Statement (.mmaPacked x0 x1 x2 x3 x4 x5 x6 x7 x8 x9 x10 x11 x12) := fun p _ => row_lt p
theorem accOut (x0 : Site) (x1 : BitVec 2) (x2 : BitVec 3) (x3 : BitVec 4) : Statement (.accOut x0 x1 x2 x3) := fun p _ => row_lt p
theorem accZero (x0 : Site) (x1 : BitVec 3) : Statement (.accZero x0 x1) := fun p _ => row_lt p
theorem accAddpair (x0 : Site) (x1 : BitVec 3) (x2 : BitVec 5) : Statement (.accAddpair x0 x1 x2) := fun p _ => row_lt p
theorem vchain (x0 : Site) (x1 : BitVec 5) (x2 : BitVec 5) (x3 : BitVec 5) (x4 : BitVec 3) (x5 : BitVec 36) (x6 : BitVec 2) (x7 : Bool) (x8 : Bool) : Statement (.vchain x0 x1 x2 x3 x4 x5 x6 x7 x8) := fun p _ => row_lt p
theorem vredRow (x0 : Site) (x1 : BitVec 5) (x2 : BitVec 5) (x3 : BitVec 5) (x4 : BitVec 3) (x5 : BitVec 36) (x6 : BitVec 2) (x7 : Bool) (x8 : Bool) : Statement (.vredRow x0 x1 x2 x3 x4 x5 x6 x7 x8) := fun p _ => row_lt p
theorem vredCol (x0 : Site) (x1 : BitVec 5) (x2 : BitVec 5) (x3 : BitVec 5) (x4 : BitVec 3) (x5 : BitVec 36) (x6 : BitVec 2) (x7 : Bool) (x8 : Bool) : Statement (.vredCol x0 x1 x2 x3 x4 x5 x6 x7 x8) := fun p _ => row_lt p
theorem vwide (x0 : Site) (x1 : BitVec 5) (x2 : BitVec 5) (x3 : BitVec 5) (x4 : BitVec 3) (x5 : BitVec 36) (x6 : BitVec 2) (x7 : Bool) (x8 : Bool) : Statement (.vwide x0 x1 x2 x3 x4 x5 x6 x7 x8) := fun p _ => row_lt p
theorem load (x0 : Site) (x1 : BitVec 4) (x2 : BitVec 5) (x3 : BitVec 36) (x4 : BitVec 36) (x5 : EccResult) : Statement (.load x0 x1 x2 x3 x4 x5) := fun p _ => row_lt p
theorem store (x0 : Site) (x1 : BitVec 4) (x2 : BitVec 5) (x3 : BitVec 36) (x4 : BitVec 36) : Statement (.store x0 x1 x2 x3 x4) := fun p _ => row_lt p
theorem loadT (x0 : Site) (x1 : BitVec 4) (x2 : BitVec 5) (x3 : BitVec 36) (x4 : EccResult) : Statement (.loadT x0 x1 x2 x3 x4) := fun p _ => row_lt p
theorem copy (x0 : Site) (x1 : BitVec 4) (x2 : BitVec 5) (x3 : BitVec 5) : Statement (.copy x0 x1 x2 x3) := fun p _ => row_lt p
theorem cvt (x0 : Site) (x1 : BitVec 4) (x2 : BitVec 4) (x3 : BitVec 5) (x4 : BitVec 5) (x5 : Bool) (x6 : Bool) (x7 : BitVec 2) (x8 : Byte) : Statement (.cvt x0 x1 x2 x3 x4 x5 x6 x7 x8) := fun p _ => row_lt p
theorem rctx (x0 : Site) (x1 : BitVec 2) (x2 : Bool) (x3 : W32) (x4 : BitVec 48) (x5 : W32) : Statement (.rctx x0 x1 x2 x3 x4 x5) := fun p _ => row_lt p
theorem rdraw (x0 : Site) (x1 : BitVec 2) (x2 : BitVec 5) (x3 : Byte) (x4 : Bool) : Statement (.rdraw x0 x1 x2 x3 x4) := fun p _ => row_lt p
theorem rmask (x0 : Site) (x1 : BitVec 2) (x2 : BitVec 5) (x3 : Byte) (x4 : W16) : Statement (.rmask x0 x1 x2 x3 x4) := fun p _ => row_lt p
theorem sopen (x0 : Site) (x1 : W16) (x2 : BitVec 3) (x3 : Byte) (x4 : Byte) : Statement (.sopen x0 x1 x2 x3 x4) := fun p _ => row_lt p
theorem sclose (x0 : Site) (x1 : W16) : Statement (.sclose x0 x1) := fun p _ => row_lt p
theorem send (x0 : Site) (x1 : BitVec 2) (x2 : BitVec 12) (x3 : BitVec 36) (x4 : BitVec 18) (x5 : BitVec 3) (x6 : EccResult) : Statement (.send x0 x1 x2 x3 x4 x5 x6) := fun p _ => row_lt p
theorem recv (x0 : Site) (x1 : BitVec 2) (x2 : BitVec 12) (x3 : BitVec 36) (x4 : BitVec 18) (x5 : BitVec 3) : Statement (.recv x0 x1 x2 x3 x4 x5) := fun p _ => row_lt p
theorem recvComplete (x0 : Site) : Statement (.recvComplete x0) := fun p _ => row_lt p
theorem sendh (x0 : Site) (x1 : BitVec 2) (x2 : BitVec 12) (x3 : BitVec 5) (x4 : BitVec 18) : Statement (.sendh x0 x1 x2 x3 x4) := fun p _ => row_lt p
theorem recvh (x0 : Site) (x1 : BitVec 2) (x2 : BitVec 12) (x3 : BitVec 5) (x4 : BitVec 18) : Statement (.recvh x0 x1 x2 x3 x4) := fun p _ => row_lt p
theorem rdecl (x0 : Site) (x1 : W16) (x2 : BitVec 5) (x3 : BitVec 3) (x4 : Bool) (x5 : BitVec 18) : Statement (.rdecl x0 x1 x2 x3 x4 x5) := fun p _ => row_lt p
theorem rsend (x0 : Site) (x1 : W16) (x2 : BitVec 36) (x3 : BitVec 18) (x4 : EccResult) : Statement (.rsend x0 x1 x2 x3 x4) := fun p _ => row_lt p
theorem rrecv (x0 : Site) (x1 : W16) (x2 : BitVec 36) (x3 : BitVec 18) : Statement (.rrecv x0 x1 x2 x3) := fun p _ => row_lt p
theorem qput (x0 : Site) (x1 : BitVec 3) (x2 : BitVec 3) : Statement (.qput x0 x1 x2) := fun p _ => row_lt p
theorem qget (x0 : Site) (x1 : BitVec 3) (x2 : BitVec 3) : Statement (.qget x0 x1 x2) := fun p _ => row_lt p
theorem qrel (x0 : Site) (x1 : BitVec 3) : Statement (.qrel x0 x1) := fun p _ => row_lt p
theorem qmake (x0 : Site) (x1 : BitVec 3) (x2 : Byte) (x3 : BitVec 18) : Statement (.qmake x0 x1 x2 x3) := fun p _ => row_lt p
theorem doff (x0 : Site) (x1 : W16) : Statement (.doff x0 x1) := fun p _ => row_lt p
theorem doffArrive (x0 : Site) : Statement (.doffArrive x0) := fun p _ => row_lt p
theorem doffComplete : Statement (.doffComplete) := fun p _ => row_lt p
theorem doffWatchdogExpiry (x0 : List Site) : Statement (.doffWatchdogExpiry x0) := fun p _ => row_lt p
theorem summary (x0 : Site) (x1 : BitVec 5) (x2 : BitVec 3) (x3 : BitVec 12) : Statement (.summary x0 x1 x2 x3) := fun p _ => row_lt p
theorem summaryResultsArrive : Statement (.summaryResultsArrive) := fun p _ => row_lt p
theorem suWait (x0 : BoltNo) (x1 : W16) : Statement (.suWait x0 x1) := fun p _ => row_lt p
theorem f64Add (x0 : BoltNo) (x1 : W64) (x2 : W64) : Statement (.f64Add x0 x1 x2) := fun p _ => row_lt p
theorem f64Sub (x0 : BoltNo) (x1 : W64) (x2 : W64) : Statement (.f64Sub x0 x1 x2) := fun p _ => row_lt p
theorem f64Mul (x0 : BoltNo) (x1 : W64) (x2 : W64) : Statement (.f64Mul x0 x1 x2) := fun p _ => row_lt p
theorem f64Div (x0 : BoltNo) (x1 : W64) (x2 : W64) : Statement (.f64Div x0 x1 x2) := fun p _ => row_lt p
theorem f64Sqrt (x0 : BoltNo) (x1 : W64) : Statement (.f64Sqrt x0 x1) := fun p _ => row_lt p
theorem f64Min (x0 : BoltNo) (x1 : W64) (x2 : W64) : Statement (.f64Min x0 x1 x2) := fun p _ => row_lt p
theorem f64Max (x0 : BoltNo) (x1 : W64) (x2 : W64) : Statement (.f64Max x0 x1 x2) := fun p _ => row_lt p
theorem f64Cmplt (x0 : BoltNo) (x1 : W64) (x2 : W64) : Statement (.f64Cmplt x0 x1 x2) := fun p _ => row_lt p
theorem f64Cmpeq (x0 : BoltNo) (x1 : W64) (x2 : W64) : Statement (.f64Cmpeq x0 x1 x2) := fun p _ => row_lt p
theorem f64Isfin (x0 : BoltNo) (x1 : W64) : Statement (.f64Isfin x0 x1) := fun p _ => row_lt p
theorem f64Toi64 (x0 : BoltNo) (x1 : W64) : Statement (.f64Toi64 x0 x1) := fun p _ => row_lt p
theorem f64Fromi64 (x0 : BoltNo) (x1 : W64) : Statement (.f64Fromi64 x0 x1) := fun p _ => row_lt p
theorem decPost (x0 : BoltNo) (x1 : W16) (x2 : W32) : Statement (.decPost x0 x1 x2) := fun p _ => row_lt p
theorem spStart (x0 : BoltNo) (x1 : W64) : Statement (.spStart x0 x1) := fun p _ => row_lt p
theorem boltProgramTrap (x0 : BoltNo) (x1 : Byte) (x2 : W32) : Statement (.boltProgramTrap x0 x1 x2) := fun p _ => row_lt p
theorem flitLate (x0 : BitVec 2) : Statement (.flitLate x0) := fun p _ => row_lt p
theorem reductionCombine (x0 : Site) (x1 : W16) : Statement (.reductionCombine x0 x1) := fun p _ => row_lt p
theorem gradientAdd (x0 : EdgeNo) : Statement (.gradientAdd x0) := fun p _ => row_lt p
theorem maskReport (x0 : EdgeNo) : Statement (.maskReport x0) := fun p _ => row_lt p
theorem arbiterDecision (x0 : Fin 6) (x1 : Nat) (x2 : List (Fin 6 × Nat)) : Statement (.arbiterDecision x0 x1 x2) := fun p _ => row_lt p
theorem grantWatchdog (x0 : Fin 6) (x1 : Nat) : Statement (.grantWatchdog x0 x1) := fun p _ => row_lt p
theorem streamStart (x0 : W16) : Statement (.streamStart x0) := fun p _ => row_lt p
theorem descriptorRead (x0 : W16) : Statement (.descriptorRead x0) := fun p _ => row_lt p
theorem leaFetch (x0 : W16) (x1 : Nat) (x2 : List Nat) : Statement (.leaFetch x0 x1 x2) := fun p _ => row_lt p
theorem leaInject (x0 : W16) : Statement (.leaInject x0) := fun p _ => row_lt p
theorem leaLate (x0 : W16) (x1 : Option Site) : Statement (.leaLate x0 x1) := fun p _ => row_lt p
theorem creditReturn (x0 : W16) : Statement (.creditReturn x0) := fun p _ => row_lt p
theorem leaArrive (x0 : Site) (x1 : W16) : Statement (.leaArrive x0 x1) := fun p _ => row_lt p
theorem decisionRelay : Statement (.decisionRelay) := fun p _ => row_lt p
theorem holdArrive (x0 : Site) (x1 : Fin 513) : Statement (.holdArrive x0 x1) := fun p _ => row_lt p
theorem holdRelease (x0 : Site) : Statement (.holdRelease x0) := fun p _ => row_lt p
theorem divisorChange : Statement (.divisorChange) := fun p _ => row_lt p
theorem weftInjectLate (x0 : WeftNo) : Statement (.weftInjectLate x0) := fun p _ => row_lt p
theorem replayBoundExpiry (x0 : PortNo) : Statement (.replayBoundExpiry x0) := fun p _ => row_lt p
theorem inputDeliveryLate (x0 : WeftNo) : Statement (.inputDeliveryLate x0) := fun p _ => row_lt p
theorem evalResultLate (x0 : WeftNo) : Statement (.evalResultLate x0) := fun p _ => row_lt p
theorem bobbinScan : Statement (.bobbinScan) := fun p _ => row_lt p
theorem bobbinWindowWrite (x0 : W32) (x1 : List Byte) : Statement (.bobbinWindowWrite x0 x1) := fun p _ => row_lt p
theorem microbatchStart : Statement (.microbatchStart) := fun p _ => row_lt p
theorem microbatchEnd : Statement (.microbatchEnd) := fun p _ => row_lt p
theorem evalResultWrite (x0 : BitVec 12) : Statement (.evalResultWrite x0) := fun p _ => row_lt p
theorem layerExchangeStart (x0 : W16) : Statement (.layerExchangeStart x0) := fun p _ => row_lt p
theorem exchangeEnd : Statement (.exchangeEnd) := fun p _ => row_lt p
theorem voteReportSend : Statement (.voteReportSend) := fun p _ => row_lt p
theorem voteFrame (x0 : PortNo) (x1 : FrameHdr) (x2 : BitVec 512) : Statement (.voteFrame x0 x1 x2) := fun p _ => row_lt p
theorem commitFrame (x0 : PortNo) (x1 : FrameHdr) (x2 : BitVec 512) : Statement (.commitFrame x0 x1 x2) := fun p _ => row_lt p
theorem shardUpdate (x0 : BitVec 18) (x1 : Option UpdateStop) : Statement (.shardUpdate x0 x1) := fun p _ => row_lt p
theorem bandRepack (x0 : W32) (x1 : StackNo) (x2 : Bool) (x3 : Nat) : Statement (.bandRepack x0 x1 x2 x3) := fun p _ => row_lt p
theorem updateComplete : Statement (.updateComplete) := fun p _ => row_lt p
theorem journalRedo (x0 : Fin 32) : Statement (.journalRedo x0) := fun p _ => row_lt p
theorem digestReport (x0 : PortNo) (x1 : FrameHdr) (x2 : List (BitVec 128)) : Statement (.digestReport x0 x1 x2) := fun p _ => row_lt p
theorem digestVerdict (x0 : PortNo) (x1 : FrameHdr) (x2 : Option W64) (x3 : W32) (x4 : BitVec 56) : Statement (.digestVerdict x0 x1 x2 x3 x4) := fun p _ => row_lt p
theorem stepBoundary : Statement (.stepBoundary) := fun p _ => row_lt p
theorem gradFrame (x0 : PortNo) (x1 : FrameHdr) (x2 : W16) (x3 : W32) (x4 : BitVec 2) (x5 : List W32) : Statement (.gradFrame x0 x1 x2 x3 x4 x5) := fun p _ => row_lt p
theorem reweaveFrame (x0 : PortNo) (x1 : FrameHdr) (x2 : BitVec 18) (x3 : BitVec 4) (x4 : BitVec 42) (x5 : List Byte) : Statement (.reweaveFrame x0 x1 x2 x3 x4 x5) := fun p _ => row_lt p
theorem timeFrame (x0 : PortNo) (x1 : Bool) (x2 : W64) (x3 : W64) (x4 : W64) (x5 : BitVec 4) : Statement (.timeFrame x0 x1 x2 x3 x4 x5) := fun p _ => row_lt p
theorem timeFrameSend (x0 : PortNo) : Statement (.timeFrameSend x0) := fun p _ => row_lt p
theorem idle (x0 : PortNo) (x1 : FrameHdr) : Statement (.idle x0 x1) := fun p _ => row_lt p
theorem hello (x0 : PortNo) (x1 : FrameHdr) (x2 : BitVec 5) (x3 : BitVec 6) (x4 : BitVec 3) (x5 : BitVec 6) (x6 : BitVec 6) : Statement (.hello x0 x1 x2 x3 x4 x5 x6) := fun p _ => row_lt p
theorem memberLost (x0 : PortNo) (x1 : FrameHdr) (x2 : BitVec 5) (x3 : BitVec 6) : Statement (.memberLost x0 x1 x2 x3) := fun p _ => row_lt p
theorem leave (x0 : PortNo) (x1 : FrameHdr) (x2 : BitVec 5) (x3 : BitVec 6) : Statement (.leave x0 x1 x2 x3) := fun p _ => row_lt p
theorem membership (x0 : PortNo) (x1 : FrameHdr) (x2 : W32) (x3 : W16) : Statement (.membership x0 x1 x2 x3) := fun p _ => row_lt p
theorem decisionQuery (x0 : PortNo) (x1 : FrameHdr) : Statement (.decisionQuery x0 x1) := fun p _ => row_lt p
theorem decisionAnswer (x0 : PortNo) (x1 : FrameHdr) (x2 : Option (BitVec 512)) : Statement (.decisionAnswer x0 x1 x2) := fun p _ => row_lt p
theorem join (x0 : PortNo) (x1 : FrameHdr) (x2 : BitVec 5) (x3 : BitVec 6) (x4 : W64) : Statement (.join x0 x1 x2 x3 x4) := fun p _ => row_lt p
theorem laneRetire (x0 : PortNo) (x1 : Fin 4) : Statement (.laneRetire x0 x1) := fun p _ => row_lt p
theorem laneFecWindow (x0 : PortNo) (x1 : Fin 4) (x2 : Nat) (x3 : Nat) : Statement (.laneFecWindow x0 x1 x2 x3) := fun p _ => row_lt p
theorem laneLossOfLock (x0 : PortNo) (x1 : Fin 4) : Statement (.laneLossOfLock x0 x1) := fun p _ => row_lt p
theorem laneRetrainDone (x0 : PortNo) : Statement (.laneRetrainDone x0) := fun p _ => row_lt p
theorem portTrained (x0 : PortNo) : Statement (.portTrained x0) := fun p _ => row_lt p
theorem linkAckTimeout (x0 : PortNo) : Statement (.linkAckTimeout x0) := fun p _ => row_lt p
theorem peerLost (x0 : Neighbour) : Statement (.peerLost x0) := fun p _ => row_lt p
theorem linkCableConnect (x0 : PortNo) : Statement (.linkCableConnect x0) := fun p _ => row_lt p
theorem linkCableRemove (x0 : PortNo) : Statement (.linkCableRemove x0) := fun p _ => row_lt p
theorem markIn : Statement (.markIn) := fun p _ => row_lt p
theorem markOutPulse : Statement (.markOutPulse) := fun p _ => row_lt p
theorem assign (x0 : TopReq) (x1 : Bool) (x2 : StartupOutcome) : Statement (.assign x0 x1 x2) := fun p _ => row_lt p
theorem chainAddress (x0 : MasterNo) (x1 : Byte) : Statement (.chainAddress x0 x1) := fun p _ => row_lt p
theorem chainIndex (x0 : MasterNo) (x1 : Byte) : Statement (.chainIndex x0 x1) := fun p _ => row_lt p
theorem chainPositions (x0 : MasterNo) (x1 : Byte) : Statement (.chainPositions x0 x1) := fun p _ => row_lt p
theorem gridChains (x0 : MasterNo) (x1 : Byte) : Statement (.gridChains x0 x1) := fun p _ => row_lt p
theorem chainLeave (x0 : MasterNo) (x1 : Byte) : Statement (.chainLeave x0 x1) := fun p _ => row_lt p
theorem reweaveStart (x0 : MasterNo) : Statement (.reweaveStart x0) := fun p _ => row_lt p
theorem reweaveAbort (x0 : MasterNo) : Statement (.reweaveAbort x0) := fun p _ => row_lt p
theorem livenessMiss (x0 : UnitId) (x1 : UnitId) : Statement (.livenessMiss x0 x1) := fun p _ => row_lt p
theorem reportGroupClose : Statement (.reportGroupClose) := fun p _ => row_lt p
theorem hardIndicator (x0 : UnitId) (x1 : W32) : Statement (.hardIndicator x0 x1) := fun p _ => row_lt p
theorem fence (x0 : BoltNo) (x1 : Fin 16) (x2 : Fin 13) (x3 : Bool) : Statement (.fence x0 x1 x2 x3) := fun p _ => row_lt p
theorem microbatchReplay : Statement (.microbatchReplay) := fun p _ => row_lt p
theorem refill (x0 : List (BitVec 18 × W64)) : Statement (.refill x0) := fun p _ => row_lt p
theorem firmwareWatchdog (x0 : FwUnit) : Statement (.firmwareWatchdog x0) := fun p _ => row_lt p
theorem hostPortReset (x0 : HostReset) : Statement (.hostPortReset x0) := fun p _ => row_lt p
theorem loadWindowAccess (x0 : WindowAccess) : Statement (.loadWindowAccess x0) := fun p _ => row_lt p
theorem imageLoad (x0 : MasterNo) : Statement (.imageLoad x0) := fun p _ => row_lt p
theorem restart (x0 : MasterNo) : Statement (.restart x0) := fun p _ => row_lt p
theorem unload (x0 : MasterNo) : Statement (.unload x0) := fun p _ => row_lt p
theorem read (x0 : ReadReq) : Statement (.read x0) := fun p _ => row_lt p
theorem write (x0 : TopReq) : Statement (.write x0) := fun p _ => row_lt p
theorem describe (x0 : TopReq) : Statement (.describe x0) := fun p _ => row_lt p
theorem echo (x0 : TopReq) : Statement (.echo x0) := fun p _ => row_lt p
theorem lock (x0 : LockReq) : Statement (.lock x0) := fun p _ => row_lt p
theorem commit (x0 : LockReq) : Statement (.commit x0) := fun p _ => row_lt p
theorem unlock (x0 : LockReq) : Statement (.unlock x0) := fun p _ => row_lt p
theorem lockExpiry : Statement (.lockExpiry) := fun p _ => row_lt p
theorem readShadowExpiry (x0 : MasterNo) : Statement (.readShadowExpiry x0) := fun p _ => row_lt p
theorem writeShadowExpiry (x0 : MasterNo) : Statement (.writeShadowExpiry x0) := fun p _ => row_lt p
theorem objectWrite (x0 : MasterNo) (x1 : W16) (x2 : Byte) (x3 : W32) (x4 : Half) (x5 : List Byte) : Statement (.objectWrite x0 x1 x2 x3 x4 x5) := fun p _ => row_lt p
theorem windowNext : Statement (.windowNext) := fun p _ => row_lt p
theorem windowFetch : Statement (.windowFetch) := fun p _ => row_lt p
theorem windowStore : Statement (.windowStore) := fun p _ => row_lt p
theorem spindleFlagsClear (x0 : MasterNo) (x1 : Site) (x2 : W32) : Statement (.spindleFlagsClear x0 x1 x2) := fun p _ => row_lt p
theorem zeroStreakClear (x0 : MasterNo) (x1 : Fin 64) (x2 : W64) : Statement (.zeroStreakClear x0 x1 x2) := fun p _ => row_lt p
theorem boltProgTrapClear (x0 : MasterNo) (x1 : BoltNo) : Statement (.boltProgTrapClear x0 x1) := fun p _ => row_lt p
theorem run (x0 : MasterNo) : Statement (.run x0) := fun p _ => row_lt p
theorem stopAtBoundary (x0 : MasterNo) : Statement (.stopAtBoundary x0) := fun p _ => row_lt p
theorem powerApplied (x0 : Nat) : Statement (.powerApplied x0) := fun p _ => row_lt p
theorem powerRemoved : Statement (.powerRemoved) := fun p _ => row_lt p
theorem inputWindow (x0 : W16) (x1 : W16) (x2 : W32) : Statement (.inputWindow x0 x1 x2) := fun p _ => row_lt p
theorem railNotRemoved (x0 : BoltNo) : Statement (.railNotRemoved x0) := fun p _ => row_lt p
theorem boltOvercurrent (x0 : BoltNo) : Statement (.boltOvercurrent x0) := fun p _ => row_lt p
theorem boltUndervoltage (x0 : BoltNo) : Statement (.boltUndervoltage x0) := fun p _ => row_lt p
theorem railBoost (x0 : Fin 96) : Statement (.railBoost x0) := fun p _ => row_lt p
theorem railShunt (x0 : Fin 96) : Statement (.railShunt x0) := fun p _ => row_lt p
theorem currentSample (x0 : List (Fin 154 × W16)) (x1 : List (BoltNo × W64)) : Statement (.currentSample x0 x1) := fun p _ => row_lt p
theorem throttleEvaluation : Statement (.throttleEvaluation) := fun p _ => row_lt p
theorem vsetSettled : Statement (.vsetSettled) := fun p _ => row_lt p
theorem sensorRead (x0 : List (Fin 768 × BitVec 32)) (x1 : List (Fin 57 × BitVec 32)) : Statement (.sensorRead x0 x1) := fun p _ => row_lt p
theorem clockParentLoss (x0 : BoltNo) : Statement (.clockParentLoss x0) := fun p _ => row_lt p
theorem refInLost : Statement (.refInLost) := fun p _ => row_lt p
theorem refInRestored (x0 : BitVec 32) : Statement (.refInRestored x0) := fun p _ => row_lt p
theorem retry (x0 : MasterNo) (x1 : StartupOutcome) : Statement (.retry x0 x1) := fun p _ => row_lt p
theorem install (x0 : MasterNo) : Statement (.install x0) := fun p _ => row_lt p
theorem switch (x0 : MasterNo) : Statement (.switch x0) := fun p _ => row_lt p
theorem generate (x0 : MasterNo) : Statement (.generate x0) := fun p _ => row_lt p
theorem debug (x0 : MasterNo) (x1 : BitVec 2048) : Statement (.debug x0 x1) := fun p _ => row_lt p
theorem ownerRelease (x0 : MasterNo) (x1 : BitVec 2048) : Statement (.ownerRelease x0 x1) := fun p _ => row_lt p
theorem fieldClear (x0 : MasterNo) (x1 : BitVec 2048) : Statement (.fieldClear x0 x1) := fun p _ => row_lt p
theorem ownerKeyHash (x0 : MasterNo) (x1 : BitVec 384) : Statement (.ownerKeyHash x0 x1) := fun p _ => row_lt p
theorem imageSignRequired (x0 : MasterNo) (x1 : Byte) : Statement (.imageSignRequired x0 x1) := fun p _ => row_lt p
theorem fwMinSvn (x0 : MasterNo) (x1 : W32) : Statement (.fwMinSvn x0 x1) := fun p _ => row_lt p
theorem clearOnUnload (x0 : MasterNo) (x1 : Byte) : Statement (.clearOnUnload x0 x1) := fun p _ => row_lt p
theorem railDisengage (x0 : Fin 96) : Statement (.railDisengage x0) := fun p _ => row_lt p
theorem frameDiscarded (x0 : PortNo) (x1 : DiscardReason) : Statement (.frameDiscarded x0 x1) := fun p _ => row_lt p
theorem chainTimeRefresh : Statement (.chainTimeRefresh) := fun p _ => row_lt p
theorem scanAndHaltAccess (x0 : Bool) (x1 : Bool) (x2 : Bool) : Statement (.scanAndHaltAccess x0 x1 x2) := fun p _ => row_lt p

end SiteOf

end Sys2Proof.Laws
end

