-- ==== Sys2Proof/Laws/Spindle.lean ====
section
/-! SUPPORT. What the shared operations of a spindle instruction do to its spindle, and that they leave everything else
alone. -/

namespace Sys2Proof.Machine

/-- What an instruction's body may move beyond its spindle: the spindle's flags and counters but SPINDLE_ISSUED, and what
a fault record writes. -/
def bodyRows (p : Site) : Nat → Nat → Prop := fun id row =>
  (row = p.row ∧ Obj.spindleFlags ≤ id ∧ id ≤ Obj.spindleRejects ∧ id ≠ Obj.spindleIssued) ∨
    id ∈ [Obj.faultLog, Obj.faultSeqLast, Obj.faultReports]

/-- A body changes its spindle, its flags and counters, and the record tables alone. -/
def State.Body (p : Site) (s t : State) : Prop := s.OnlySpindle p (bodyRows p) t

theorem bodyRows_spindleRows (p : Site) (id row : Nat) (h : bodyRows p id row) : spindleRows p id row := by
  rcases h with ⟨h1, h2, h3, _⟩ | h
  · exact .inl ⟨h1, h2, h3⟩
  · exact .inr h

theorem State.Body.refl (p : Site) (s : State) : s.Body p s := State.OnlySpindle.refl ..

theorem State.Body.trans {p : Site} {s t u : State} (h : s.Body p t) (k : t.Body p u) : s.Body p u :=
  State.OnlySpindle.trans h k

theorem State.Body.bump {p : Site} {s : State} {id n : Nat} (h1 : Obj.spindleFlags ≤ id) (h2 : id ≤ Obj.spindleRejects)
    (h3 : id ≠ Obj.spindleIssued) : s.Body p (s.bump id p.row n) :=
  (State.OnlyRows.bump (site_row_lt p) (.inl ⟨rfl, h1, h2, h3⟩)).atSpindle

theorem State.Body.spFlag {p : Site} {s : State} {i : Nat} : s.Body p (s.spFlag p i) :=
  (State.OnlyRows.setObj (site_row_lt p) (.inl ⟨rfl, by decide, by decide, by decide⟩)).atSpindle

theorem State.Body.drew {p : Site} {s : State} {n : Nat} : s.Body p (s.drew n) := State.OnlyRows.drew.atSpindle

theorem State.Body.fault {p : Site} {s : State} {c u d : Nat} : s.Body p (s.fault c u d) :=
  (State.OnlyRows.fault (fun _ => .inr (by decide)) (.inr (by decide)) (.inr (by decide))).atSpindle

theorem State.Body.setSpindle {p : Site} {s : State} {x : Spindle} : s.Body p (s.setSpindle p x) :=
  State.OnlySpindle.setSpindle

theorem State.Body.issued {p : Site} {s t : State} (h : (s.issued p).Body p t) : s.IssuedFlags p t := by
  refine ⟨?_, ((s.issued_frame p).mono (issueRows_spindleRows p)).trans (h.mono (bodyRows_spindleRows p))⟩
  rw [← s.issued_count p]
  refine h.2.2.1 _ _ (site_row_lt p) ?_
  rintro (⟨_, _, _, h4⟩ | h4)
  · exact h4 rfl
  · exact absurd h4 (by decide)

theorem State.Body.advance {p : Site} {s : State} : s.Body p (s.advance p) := .setSpindle

theorem State.runOn_issues {s : State} {p : Site} {os : List Opd} (h : s.issuesOn p os) (f : State → State) :
    s.runOn p os f = (f ((s.issued p).mayWait p os)).advance p := by
  simp [State.runOn, h.2, State.runAt_issues h.1]

theorem State.spindle_advance (s : State) (p : Site) : (s.advance p).spindle p = (s.spindle p).next := by
  simp [State.advance]

theorem Spindle.calm_next (x : Spindle) : x.next.calm = x.calm.next := rfl

/-! ## The scoreboard -/

@[simp] theorem Spindle.calm_writing (x : Spindle) (k : Nat) (m : Bool) : (x.writing k m).calm = x.calm := rfl

@[simp] theorem Spindle.calm_settledAcc (x : Spindle) (k : Nat) : (x.settledAcc k).calm = x.calm := by
  unfold Spindle.settledAcc; split <;> rfl

/-- Two spindles that differ in the scoreboard alone read every operand alike. -/
theorem State.view_of_spindle {s t : State} {p : Site} (h : (t.spindle p).calm = (s.spindle p).calm) (o : Opd) :
    t.view p o = s.view p o := by
  have h1 : (t.spindle p).hanks = (s.spindle p).hanks := (congrArg (fun x : Spindle => x.hanks) h :)
  have h2 : (t.spindle p).accs = (s.spindle p).accs := (congrArg (fun x : Spindle => x.accs) h :)
  unfold State.view
  cases o <;> simp only [Spindle.hank, Spindle.acc, h1, h2]

@[simp] theorem State.view_issued (s : State) (p : Site) (o : Opd) : (s.issued p).view p o = s.view p o :=
  State.view_of_spindle (s.calm_issued p) o

theorem State.Body.mayWait {p : Site} {s : State} {os : List Opd} : s.Body p (s.mayWait p os) := by
  unfold State.mayWait
  dsimp only
  split
  · exact .setSpindle
  · exact State.Body.refl ..

@[simp] theorem State.calm_mayWait (s : State) (p : Site) (os : List Opd) :
    ((s.mayWait p os).spindle p).calm = (s.spindle p).calm := by
  unfold State.mayWait
  dsimp only
  split
  · rw [State.spindle_setSpindle]; rfl
  · rfl

/-! ## Flags, poison and the scoreboard -/

@[simp] theorem State.spindle_spFlag (s : State) (p q : Site) (i : Nat) : (s.spFlag p i).spindle q = s.spindle q := rfl

@[simp] theorem State.spindle_sawPoison (s : State) (p q : Site) (b : Bool) : (s.sawPoison p b).spindle q = s.spindle q := by
  unfold State.sawPoison; split <;> rfl

theorem State.Body.sawPoison {p : Site} {s : State} {b : Bool} : s.Body p (s.sawPoison p b) := by
  unfold State.sawPoison
  split
  · exact State.Body.spFlag.trans (.bump (by decide) (by decide) (by decide))
  · exact State.Body.refl ..

theorem Spindle.acc_of_calm {x y : Spindle} (h : x.calm = y.calm) (k : Nat) : x.acc k = y.acc k := by
  have h2 : x.accs = y.accs := (congrArg (fun x : Spindle => x.accs) h :)
  simp only [Spindle.acc, h2]

theorem State.Body.writesAcc {p : Site} {s : State} {k : Nat} {m c : Bool} : s.Body p (s.writesAcc p k m c) := by
  unfold State.writesAcc
  dsimp only
  split
  · exact .setSpindle
  · split
    · exact ((State.Body.setSpindle.trans .drew).trans
        (State.Body.spFlag.trans (.bump (by decide) (by decide) (by decide)))).trans .fault
    · exact State.Body.setSpindle.trans .drew

@[simp] theorem State.calm_writesAcc (s : State) (p : Site) (k : Nat) (m c : Bool) :
    ((s.writesAcc p k m c).spindle p).calm = (s.spindle p).calm := by
  unfold State.writesAcc
  dsimp only
  split
  · simp only [State.spindle_setSpindle, Spindle.calm_writing]
  · split <;> simp only [State.spindle_fault, State.spindle_bump, State.spindle_spFlag, State.spindle_drew,
      State.spindle_setSpindle, Spindle.calm_writing]

theorem State.Body.readsOpd {p : Site} {s : State} {o : Opd} : s.Body p (s.readsOpd p o) := by
  cases o
  · exact .setSpindle
  · exact .setSpindle
  · exact .setSpindle

@[simp] theorem State.calm_readsOpd (s : State) (p : Site) (o : Opd) :
    ((s.readsOpd p o).spindle p).calm = (s.spindle p).calm := by
  cases o
  · simp only [State.readsOpd, State.spindle_setSpindle]; rfl
  · simp only [State.readsOpd, State.spindle_setSpindle, Spindle.calm_settledAcc]
  · simp only [State.readsOpd, State.spindle_setSpindle, Spindle.calm_settledAcc]

theorem State.Body.writesOpd {p : Site} {s : State} {o : Opd} : s.Body p (s.writesOpd p o) := by
  cases o
  · exact State.Body.refl ..
  · exact .writesAcc
  · exact .writesAcc

@[simp] theorem State.calm_writesOpd (s : State) (p : Site) (o : Opd) :
    ((s.writesOpd p o).spindle p).calm = (s.spindle p).calm := by
  cases o <;> simp [State.writesOpd]

theorem State.Body.freshen {p : Site} {s : State} {os : List Opd} : s.Body p (s.freshen p os) := .setSpindle

@[simp] theorem State.calm_freshen (s : State) (p : Site) (os : List Opd) :
    ((s.freshen p os).spindle p).calm = (s.spindle p).calm := by
  unfold State.freshen
  dsimp only
  rw [State.spindle_setSpindle]; rfl

theorem State.Body.fold {p : Site} {f : State → Opd → State} (h : ∀ (s : State) (o : Opd), s.Body p (f s o)) (os : List Opd) (s : State) :
    s.Body p (os.foldl f s) := by
  induction os generalizing s with
  | nil => exact State.Body.refl ..
  | cons o os ih => exact (h s o).trans (ih _)

theorem State.calm_fold {p : Site} {f : State → Opd → State} (h : ∀ (s : State) (o : Opd), ((f s o).spindle p).calm = (s.spindle p).calm)
    (os : List Opd) (s : State) : ((os.foldl f s).spindle p).calm = (s.spindle p).calm := by
  induction os generalizing s with
  | nil => rfl
  | cons o os ih => exact (ih _).trans (h s o)

/-- The scoreboard met by an instruction's operands: the spindle keeps all its registers. -/
theorem State.Body.uses {p : Site} {s : State} {rs ws : List Opd} : s.Body p (s.uses p rs ws) := by
  unfold State.uses
  exact ((State.Body.fold (fun _ _ => .writesOpd) ws s).trans (State.Body.fold (fun _ _ => .readsOpd) rs _)).trans .freshen

@[simp] theorem State.calm_uses (s : State) (p : Site) (rs ws : List Opd) :
    ((s.uses p rs ws).spindle p).calm = (s.spindle p).calm := by
  unfold State.uses
  rw [State.calm_freshen, State.calm_fold (fun s o => s.calm_readsOpd p o), State.calm_fold (fun s o => s.calm_writesOpd p o)]

@[simp] theorem State.view_uses (s : State) (p : Site) (rs ws : List Opd) (o : Opd) : (s.uses p rs ws).view p o = s.view p o :=
  State.view_of_spindle (s.calm_uses p rs ws) o

/-! ## Operands written -/

theorem State.Body.writeOpd {p : Site} {s : State} {o : Opd} {w : Nat} {vs : List W32} {sc : Option (List Byte)} {b : Bool} :
    s.Body p (s.writeOpd p o w vs sc b) := by
  unfold State.writeOpd
  cases o <;> exact State.Body.setSpindle.trans .drew

theorem padElems_full (seed base : Nat) (l : List W32) : padElems seed base 32 l = l := by
  unfold padElems padElem
  simp only [Nat.le_refl, if_true]
  apply List.ext_getElem? ; intro i; simp

/-- A hank register written with binary32 elements. -/
theorem State.writeOpd_hank (s : State) (p : Site) (k : Nat) (vs : List W32) (b : Bool) :
    ∃ h : Hank, h.Holds ((s.spindle p).hank k) vs b ∧
      (s.writeOpd p (.h k) 32 vs none b).spindle p = { s.spindle p with hanks := (s.spindle p).hanks.set k h } := by
  refine ⟨((s.spindle p).hank k).write (s.free + 1) (regBase p k) 32 vs none b, ?_, ?_⟩
  · unfold Hank.write Hank.Holds
    cases b <;> simp [padElems_full]
  · simp [State.writeOpd, State.setHank, setNth]

/-- The read-out of an accumulator. -/
theorem State.readOut_spec (s : State) (p : Site) (ro : BitVec 2) (k rod : Nat) :
    ∃ hs, ReadOut p ro rod k ((s.spindle p).acc k) (s.spindle p).hanks hs ∧
      (s.readOut p ro k rod).spindle p = { s.spindle p with hanks := hs } := by
  unfold State.readOut ReadOut
  dsimp only
  by_cases h1 : ro = 1
  · obtain ⟨h, hh, e⟩ := s.writeOpd_hank p rod ((((s.spindle p).acc k).pairs p k).map Pair.fold) ((s.spindle p).acc k).poison
    refine ⟨(s.spindle p).hanks.set rod h, ⟨?_, ?_, ?_⟩, ?_⟩
    · intro h0; subst h0; exact absurd h1 (by decide)
    · exact fun _ => ⟨h, hh, rfl⟩
    · intro h0; subst h0; exact absurd h1 (by decide)
    · rw [if_pos h1]; exact e
  · by_cases h2 : ro = 2
    · obtain ⟨h, hh, e⟩ := s.writeOpd_hank p rod ((((s.spindle p).acc k).pairs p k).map (·.s)) ((s.spindle p).acc k).poison
      obtain ⟨g, hg, e2⟩ := (s.writeOpd p (.h rod) 32 ((((s.spindle p).acc k).pairs p k).map (·.s)) none
        ((s.spindle p).acc k).poison).writeOpd_hank p (rod + 1) ((((s.spindle p).acc k).pairs p k).map (·.c))
        ((s.spindle p).acc k).poison
      rw [e] at hg e2
      refine ⟨((s.spindle p).hanks.set rod h).set (rod + 1) g, ⟨?_, ?_, ?_⟩, ?_⟩
      · intro h0; subst h0; exact absurd h2 (by decide)
      · intro h0; exact absurd h0 h1
      · exact fun _ => ⟨h, g, hh, hg, rfl⟩
      · rw [if_neg h1, if_pos h2]; exact e2
    · refine ⟨(s.spindle p).hanks, ⟨fun _ => rfl, fun h => absurd h h1, fun h => absurd h h2⟩, ?_⟩
      rw [if_neg h1, if_neg h2]

theorem State.Body.readOut {p : Site} {s : State} {ro : BitVec 2} {k rod : Nat} : s.Body p (s.readOut p ro k rod) := by
  unfold State.readOut
  dsimp only
  split
  · exact .writeOpd
  · split
    · exact State.Body.writeOpd.trans .writeOpd
    · exact State.Body.refl ..

/-! ## Accumulators written -/

theorem State.Body.setAcc {p : Site} {s : State} {k : Nat} {a : Acc} : s.Body p (s.setAcc p k a) := .setSpindle

theorem State.Body.putAcc {p : Site} {s : State} {k n : Nat} {a : Acc} : s.Body p (s.putAcc p k n a) := by
  unfold State.putAcc
  dsimp only
  split
  · exact (State.Body.setAcc.trans .spFlag).trans .fault
  · exact .setAcc

theorem State.Body.storePairs {p : Site} {s : State} {k n : Nat} {a : Acc} {qs : List Pair} {b : Bool} :
    s.Body p (s.storePairs p k n a qs b) := by
  unfold State.storePairs
  exact State.Body.drew.trans .putAcc

/-- An accumulator written with pairs. -/
theorem State.storePairs_spec (s : State) (p : Site) (k n : Nat) (old : Acc) (qs : List Pair) (b : Bool) :
    ∃ a : Acc, a.Holds qs (old.count + n) old.long b ∧
      (s.storePairs p k n old qs b).spindle p = { s.spindle p with accs := (s.spindle p).accs.set k a } := by
  unfold State.storePairs State.putAcc
  dsimp only
  generalize hb : (if b = true then _ else _ : Acc) = a0
  refine ⟨{ a0 with count := min (a0.count + n) (2 ^ 21 - 1), long := a0.long || decide (2 ^ 20 < min (a0.count + n) (2 ^ 21 - 1)) },
    ?_, ?_⟩
  · subst hb
    unfold Acc.Holds
    cases b <;> simp
  · split <;> simp [State.setAcc, setNth]

end Sys2Proof.Machine
end

