-- ==== Sys2Proof/Tests/Slice0.lean ====
section
/-! SUPPORT. Tests of the model's own: for every statement with premises a concrete state and operands that meet them
together (witness_ and the statement's name), terms that well-formedness refuses, and worked examples and published
vectors of the manual. The witnesses stand in the order of the statements. -/

namespace Sys2Proof.Tests

open Sys2Proof Sys2Proof.Machine

set_option Elab.async false

def p0 : Site := ⟨0, 0⟩

def onState : State := { power := { on := true } }

def withSp (x : Spindle) : State := { onState with prog := { loaded := true }, spindles := [(0, x)] }

def runSp : Spindle := { halted := false, codeLines := 1 }

def run0 : State := withSp runSp

theorem witness_StepRunsTheFrontCommand :
    ({ State.reset with pending := [.markIn, .doffComplete] } : State).pending = .markIn :: [.doffComplete] ∧
    State.reset.pending = [] ∧ State.reset.up = false ∧
    (∀ m ∈ [({} : Time), { slew := -15, slewPhase := 623 }],
      let s : State := { onState with time := m }
      s.pending = [] ∧ s.up = true ∧ s.time.still = 0 ∧
      ((s.time.slew = 0 ∧ s.timeState ≠ tsHoldover) ∨ s.time.slewPhase + 1 < slewGrains)) := by decide +kernel

theorem witness_MemoriesStayCanonicalOverEveryStep :
    (∃ t, ({ onState with pending := [.nop p0], fast := [(0, 1), (7, 255)] } : State).MemOk ∧
      step { onState with pending := [.nop p0], fast := [(0, 1), (7, 255)] } = .next t) :=
  ⟨_, by unfold State.MemOk; decide +kernel, rfl⟩

theorem witness_NopHaltDrainAndCodeEnd :
    run0.issues p0 = true ∧ run0.enginesIdle p0 = true ∧
    (withSp { runSp with puts := [(0, 0)] }).enginesIdle p0 = false ∧ (withSp { runSp with pc := 4 }).pastCode p0 = true := by
  decide +kernel

def loopSp (n i : Nat) : Spindle := { runSp with pc := 2, loops := [{ first := 1, last := 2, count := n, iter := i }] }

theorem witness_BranchesJumpsAndLoopsTakeTheirTargets :
    run0.issues p0 = true ∧ (run0.spindle p0).loopOk 3 = true ∧
    (run0.spindle p0).targetOk ((run0.spindle p0).pc + (3 : BitVec 20).toInt) = true ∧
    (let s := run0.setBolt (boltOf 0 0) { decTable := [(1, (65, 4))] }
     s.issues p0 = true ∧ tget (s.bolt (boltOf 0 0)).decTable ((65 : W16).toNat % 64) = some (65, 4)) ∧
    (∀ w : W32, tget (run0.bolt (boltOf 0 0)).decTable ((65 : W16).toNat % 64) ≠ some (65, w)) ∧
    runSp.loops = [] ∧ (loopSp 2 0).loops = [] ++ [{ first := 1, last := 2, count := 2, iter := 0 }] ∧
    (loopSp 2 0).pc = 2 := by
  refine ⟨by decide +kernel, by decide +kernel, by decide +kernel, by decide +kernel, ?_, by decide +kernel, by decide +kernel,
    by decide +kernel⟩
  intro w h; cases h

theorem witness_AccumulatorOperationsActOnOneAccumulator :
    run0.issuesOn p0 [.a 7] ∧
    (∃ opa : BitVec 5, opa.toNat < 16 ∧ opa.toNat % 2 = 0 ∧ run0.issuesOn p0 [.a 7, .h opa.toNat, .h (opa.toNat + 1)]) ∧
    (∀ ro : BitVec 2, ro ≠ 3 → readOutBad ro 14 = none ∧
      run0.issuesOn p0 (if ro = 0 then [] else .a 7 :: readOutDsts ro 14)) := by
  refine ⟨⟨by decide +kernel, by decide +kernel⟩, ⟨14, by decide, by decide, by decide +kernel, by decide +kernel⟩, ?_⟩
  unfold State.issuesOn
  decide +kernel

theorem witness_MmaAccumulatesRowAgainstRow :
    mmaBad 2 0 0 0 24 14 = none ∧ run0.issuesOn p0 (.a 7 :: opd 0 :: opd 24 :: readOutDsts 2 14) :=
  ⟨by decide +kernel, by decide +kernel, by decide +kernel⟩

/-- A spindle with two lines of zeros stored after its code. -/
def storeSp : Spindle := { runSp with store := { lines := [(4, {}), (5, {})] } }

/-- A store reference of line 4, AM 0b00. -/
def line4 : BitVec 36 := 0x80000

theorem witness_MmaPackedAddsTheWindowOfItsSegment :
    packedBad 1 0 0 0 0 15 (sref line4) = none ∧
    (withSp storeSp).issuesOn p0 (.a 7 :: (List.range 16).map (fun r => Opd.h (0 + r)) ++ readOutDsts 1 0) ∧
    ((withSp storeSp).spindle p0).extent (sref line4) (2 : BitVec 12).toNat = .ok 4 ∧
    ((withSp storeSp).spindle p0).Clean (sref line4).direct 4 (2 : BitVec 12).toNat ∧
    List.length (List.replicate 4096 (⟨0, 0⟩ : Pair)) = 4096 := by
  refine ⟨by decide +kernel, ⟨by decide +kernel, by decide +kernel⟩, by decide +kernel, ?_, List.length_replicate⟩
  unfold Spindle.Clean
  decide +kernel

/-- A store reference of a line of handle slot 0, AM 0b01. -/
def handleRef (offset : Nat) : BitVec 36 := BitVec.ofNat 36 (2 ^ 34 + offset * 2 ^ 17)

/-- A spindle whose handle slot 0 holds a handle of buffer 3: 300 lines from line 10. -/
def handleSp : Spindle :=
  { runSp with bufs := [(3, { base := 10, size := 300, gen := 5 })]
               slots := { handle := mkHandle 3 5 300, valid := true } :: List.replicate 7 {} }

theorem witness_LoadsAndCopyWriteTheirHank :
    (moveBad 0 15 (sref line4) (sref 0) = none ∧ run0.issuesOn p0 [opd 15] ∧
      Regions (run0.spindle p0) 0 (sref line4) (sref 0) 4 0 ∧
      (run0.spindle p0).Clean (sref line4).direct 4 (hankLines (0 : BitVec 4).toNat)) ∧
    (∃ f : BitVec 4, isMx f.toNat = true ∧ moveBad f 15 (sref (handleRef 0)) (sref (handleRef 298)) = none ∧
      Regions ((withSp handleSp).spindle p0) f.toNat (sref (handleRef 0)) (sref (handleRef 298)) 10 308 ∧
      ((withSp handleSp).spindle p0).Clean (sref (handleRef 0)).direct 10 (hankLines f.toNat) ∧
      ((withSp handleSp).spindle p0).Clean (sref (handleRef 298)).direct 308 2) ∧
    (loadTBad 0 (sref line4) = none ∧ run0.issuesOn p0 [opd 31] ∧
      (run0.spindle p0).extent (sref line4) (hankLines (0 : BitVec 4).toNat) = .ok 4) ∧
    (copyBad 0 0 31 = none ∧ run0.issuesOn p0 [opd 0, opd 31]) := by
  refine ⟨⟨by decide +kernel, ⟨by decide +kernel, by decide +kernel⟩, ⟨by decide +kernel, by decide +kernel⟩, ?_⟩,
    ⟨4, by decide +kernel, by decide +kernel, ⟨by decide +kernel, by decide +kernel⟩, ?_, ?_⟩,
    ⟨by decide +kernel, ⟨by decide +kernel, by decide +kernel⟩, by decide +kernel⟩,
    by decide +kernel, by decide +kernel, by decide +kernel⟩ <;>
  (unfold Spindle.Clean; decide +kernel)

theorem witness_StoreWritesItsRegionsAndReadsBack :
    moveBad 0 31 (sref line4) (sref 0) = none ∧ run0.issuesOn p0 [opd 31] ∧
      Regions (run0.spindle p0) (0 : BitVec 4).toNat (sref line4) (sref 0) 4 0 :=
  ⟨by decide +kernel, ⟨by decide +kernel, by decide +kernel⟩, by decide +kernel, by decide +kernel⟩

/-- Line 0 lies in the code region; line 45 of the buffer lies 255 lines before its end; the slot's generation is old. -/
theorem witness_RejectedMovesPoisonAndTaint :
    moveBad 0 31 (sref 0) (sref 0) = none ∧ run0.issuesOn p0 [opd 31] ∧
    (run0.spindle p0).extent (sref 0) (hankLines 0) = .bad .storeRange ∧
    ((withSp handleSp).spindle p0).extent (sref (handleRef 45)) (hankLines 0) = .bad .extent ∧
    ((withSp { handleSp with bufs := [(3, { base := 10, size := 300, gen := 6 })] }).spindle p0).extent
      (sref (handleRef 0)) (hankLines 0) = .bad .handleGen :=
  ⟨by decide +kernel, ⟨by decide +kernel, by decide +kernel⟩, by decide +kernel, by decide +kernel, by decide +kernel⟩

theorem witness_ConvertWritesConvertedElements :
    cvtBad 0 0 0 16 true false 1 = none ∧ run0.issuesOn p0 [opd 0, opd 16] :=
  ⟨by decide +kernel, by decide +kernel, by decide +kernel⟩

theorem witness_RandomInstructionsDrawThroughTheirContext :
    run0.issues p0 = true ∧ purposeOk (16 : Byte).toNat = true ∧ run0.issuesOn p0 [opd 31] :=
  ⟨by decide +kernel, by decide +kernel, by decide +kernel, by decide +kernel⟩

/-- The descriptor of one stage whose header names a reduction, or none. -/
def chainSp (header : Nat) : Spindle :=
  { runSp with store := { lines := [(4, {}), (5, { data := BitVec.ofNat 512 header })] } }

theorem witness_VectorChainsRunTheirStages :
    (sref line4).reserved = false ∧ (sref line4).am = 0 ∧ (sref line4).lsel = 0 ∧
    (∀ x ∈ [(VOp.chain, 0), (VOp.redRow, 2 ^ 48), (VOp.redCol, 6 * 2 ^ 48)],
      let s := withSp (chainSp x.2)
      let c := chainOf (linesNat (s.readLines p0 4 2)) (0 : BitVec 3).toNat
      (s.spindle p0).extent (sref line4) 2 = .ok 4 ∧ (s.spindle p0).Clean true 4 2 ∧
      (s.readLines p0 4 2).any (·.poison) = false ∧ c.bad x.1 0 1 2 (sref line4) (true || false) = none ∧
      s.issuesOn p0 (c.reads x.1 (opd 0) (opd 1) ++ vectorDsts x.1 c 2)) := by
  unfold Spindle.Clean State.issuesOn
  decide +kernel

theorem witness_WideChainsRunOnPairs :
    ∀ header ∈ [0, 2 ^ 37], let s := withSp (chainSp header)
      let c := chainOf (linesNat (s.readLines p0 4 2)) (0 : BitVec 3).toNat
      (s.spindle p0).extent (sref line4) 2 = .ok 4 ∧ (s.spindle p0).Clean true 4 2 ∧
      (s.readLines p0 4 2).any (·.poison) = false ∧ c.bad .wide 0 1 14 (sref line4) (false || false) = none ∧
      (c.pair = true ↔ header ≠ 0) ∧ s.issuesOn p0 (c.reads .wide (opd 0) (opd 1) ++ vectorDsts .wide c 14) := by
  unfold Spindle.Clean State.issuesOn
  decide +kernel

theorem witness_SummariesCombineAndReachEveryBolt :
    ((4088 : BitVec 12).toNat + (7 : BitVec 3).toNat ≤ 4095 ∧ run0.issuesOn p0 [opd 31]) ∧
    (let s : State := { onState with fabric := { results := [{ dseq := 3, values := [], empty := 0, poison := 0 }] } }
     s.up = true ∧ s.fabric.results = { dseq := 3, values := [], empty := 0, poison := 0 } :: []) ∧
    (let s := onState.setBolt 47 { progRunning := true }
     s.up = true ∧ (s.bolt 47).progRunning = true ∧ (s.bolt 47).suBlocked = false) := by
  refine ⟨⟨by decide +kernel, by decide +kernel, by decide +kernel⟩, by decide +kernel, by decide +kernel⟩

/-- A program with stream 9 at edge port 20 for site (0, 0). -/
def streamProg : Prog := { loaded := true, streams := [(9, 20 * 2 ^ 119)] }

theorem witness_StreamsOpenAndCloseAtTheSpindle :
    (let s : State := { run0 with prog := streamProg }
     s.sopenBad p0 9 255 1 = false ∧ s.queuesOn p0 []) ∧
    (∀ e ∈ [true, false],
     let s : State := { withSp { runSp with streams := [{ stream := 9, queue := 0, first := 0, count := 2, ended := e }] } with
       prog := streamProg }
     (s.streamRow? 9).isSome = true ∧
     (s.spindle p0).stream? 9 = some { stream := 9, queue := 0, first := 0, count := 2, ended := e } ∧ s.queuesOn p0 []) ∧
    (∀ o ∈ [Xfer.sopen 9 7 255 1, .sclose 9],
     let s := withSp { runSp with streams := [{ stream := 9, queue := 0, first := 0, count := 2, ended := true }], xq := [o] }
     s.engineFree p0.row = true ∧ (s.spindle p0).xq = o :: [] ∧ ((s.spindle p0).stream? 9).isSome = true) := by
  unfold State.queuesOn State.issuesOn
  decide +kernel

/-- A flit of a message of n flits under shape entry 0, on VC0. -/
def msgFlit (i n : Nat) : NetFlit :=
  { sb := { vc := 0, kind := 0, dx := 0, dy := 0, tag := 0, first := i == 0, last := i + 1 == n, poison := false, twin := false
            seq := i, budget := 0 }
    words := List.replicate 32 7, id := 2, shape := 0, born := 0, todo := [4] }

/-- A spindle whose local input holds n flits on VC0. -/
def localSp (n : Nat) : Spindle := { runSp with router := { bufs := [(16, List.replicate n (msgFlit 0 1))] } }

theorem witness_SendsPostOneCopyPerDestination :
    (run0.sendBad p0 0 0 (sref line4) true = none ∧ run0.queuesOn p0 [] ∧
      (run0.spindle p0).extent (sref line4) (98300 : BitVec 18).toNat = .ok 4) ∧
    (∀ n ∈ [256, 128, 66, 50, 34], (hankWidth n).isSome = true ∧ run0.sendhBad p0 0 0 15 n true = none) ∧
    run0.queuesOn p0 [opd 15] ∧
    (∀ o ∈ [({ vc := 0, shape := 0, line := 0, length := 3, hank := some [{}, {}, {}] } : SendOp),
        { vc := 3, shape := 0, line := 4, length := 2 }],
      let s := withSp { storeSp with xq := [.send o] }
      s.engineFree p0.row = true ∧ (s.spindle p0).xq = .send o :: [] ∧ o.started = false ∧
      (o.hank = none → o.ecc = .clean ∧ o.undef = [] ∧ (s.spindle p0).store.errors o.line o.length = .clean ∧
        o.handle = none ∧ (s.spindle p0).storedIn o.line o.length = [])) ∧
    (∀ n ∈ [7, 8],
      let o : SendOp := { vc := 0, shape := 0, line := 4, length := 2, started := true, left := [msgFlit 0 1] }
      let s := withSp { localSp n with xq := [.send o] }
      s.engineFree p0.row = true ∧ (s.spindle p0).xq = .send o :: [] ∧ o.left = msgFlit 0 1 :: [] ∧ (msgFlit 0 1).sb.vc < 4 ∧
      ((s.spindle p0).router.credit 4 (msgFlit 0 1).sb.vc = true ↔ n = 7)) := by
  unfold State.queuesOn State.issuesOn
  decide +kernel

/-- Two sites: site (0, 0) has a flit for its outputs east and south, and site (1, 0) has n flits at its west input. -/
def giveState (n : Nat) : State :=
  { onState with
    spindles := [(0, { runSp with router := { bufs := [(16, [{ msgFlit 0 1 with todo := [2, 3] }])] } }),
      (1, { runSp with router := { bufs := [(0, List.replicate n (msgFlit 0 1))] } })] }

theorem witness_SendsPostOneCopyPerDestination_moves :
    (∀ n ∈ [7, 8], meshNext (siteRow 0) 2 = some 1 ∧ (giveState n).heldAt 1 = false ∧
      (((giveState n).at 1).router.credit (opposite 2) 0 = true ↔ n = 7)) ∧
    ((giveState 7).give 0 2 { msgFlit 0 1 with todo := [2, 3] }).isSome = true ∧
    getList ((giveState 7).at 0).router.bufs (4 * 4 + 0) = { msgFlit 0 1 with todo := [2, 3] } :: [] ∧
    ({ msgFlit 0 1 with todo := [2, 3] } : NetFlit).todo.contains 2 = true ∧
    (let h : Shape := { skind := 2, yx := false, sx := 127, sy := 0, x0 := 0, y0 := 71, x1 := 0, y1 := 71 }
     h.x0 ≤ h.x1 ∧ h.x1 < 128 ∧ h.y0 ≤ h.y1 ∧ h.y1 < 72 ∧ h.sx < 128 ∧ h.sy < 72) := by
  decide +kernel

/-- Site (0, 0) with this receive at the head of its engine, and transmission 2 under shape entry 0 of so many lines. -/
def recvState (o : RecvOp) (lines : Nat) : State :=
  { withSp { runSp with xq := [.recv o] } with fabric := { sending := [(2, { shape := 0, src := 1, lines, due := [0] })] } }

theorem witness_ReceivesWaitAndCompleteWithTheirMessage :
    (run0.sendBad p0 0 0 (sref line4) false = none ∧ run0.queuesOn p0 [] ∧
      (run0.spindle p0).extent (sref line4) (98300 : BitVec 18).toNat = .ok 4 ∧
      run0.sendhBad p0 0 0 15 34 false = none ∧ run0.queuesOn p0 [opd 15]) ∧
    (let o : RecvOp := { shape := 0, line := 4, length := 3, queue := 7, handle := none }
     o.shape = (msgFlit 0 2).shape ∧ o.shape ≠ ({ msgFlit 0 2 with shape := 4095 } : NetFlit).shape ∧
     some 3 ≠ some (msgFlit 0 2).id ∧ ({ o with id := some 2 } : RecvOp).id = some (msgFlit 1 2).id ∧
     o.id = none ∧ (msgFlit 0 2).sb.first = true ∧
     (recvState o 3).nextFor o.shape p0.row =
       some ((msgFlit 0 2).id, { shape := 0, src := 1, lines := 3, due := [0] }) ∧ 3 = o.length) ∧
    (∀ h ∈ [none, some (15 : BitVec 5)],
      let o : RecvOp := { shape := 0, line := 4, length := 34, queue := 7, handle := some 5, hank := h, id := some 2
                          got := List.replicate 34 {} }
      let s := recvState o 34
      s.up = true ∧ s.engineFree p0.row = true ∧ (s.spindle p0).xq = .recv o :: [] ∧ o.length ≤ o.got.length ∧
      o.queue < (s.spindle p0).queues.length ∧ o.undef = [] ∧ hankWidth o.got.length = some (4, true) ∧
      tget s.fabric.sending 2 = some { shape := 0, src := 1, lines := 34, due := [0] }) := by
  unfold State.queuesOn State.issuesOn
  decide +kernel

/-- n reductions declared at a router, from RID 1, and this in the engine's queue. -/
def declSp (n : Nat) (xq : List Xfer) : Spindle :=
  { runSp with
    xq, router := { decls := (List.range n).map (fun i => { rid := i + 1, inputs := 1, out := 4, twin := false, lines := 1 }) } }

/-- An RDECL that waits in the queue, of RID 16. -/
def decl16 : Decl := { rid := 16, inputs := 31, out := 4, twin := false, lines := 262143 }

theorem witness_ReductionsAreDeclaredFedAndAwaited :
    (withSp (declSp 15 [])).queuesOn p0 [] ∧ rdeclBad p0 4 = none ∧ rdeclBad p0 1 = none ∧
    ((withSp (declSp 15 [])).spindle p0).mayDeclare 16 = true ∧ ((withSp (declSp 16 [])).spindle p0).mayDeclare 17 = false ∧
    ((withSp (declSp 15 [.rdecl decl16])).spindle p0).mayDeclare 17 = false ∧
    (((withSp (declSp 15 [])).spindle p0).router.decl 15).isSome = true ∧
    ((withSp (declSp 15 [])).spindle p0).router.decl 16 = none ∧ (sref line4).reserved = false ∧
    ((withSp (declSp 15 [])).spindle p0).extent (sref line4) (1 : BitVec 18).toNat = .ok 4 ∧
    (∀ n ∈ [15, 16],
      let s := withSp (declSp n [.rdecl decl16])
      s.engineFree p0.row = true ∧ (s.spindle p0).xq = .rdecl decl16 :: [] ∧
      (if n = 15 then (s.spindle p0).router.decls.length < 16 ∧ (s.spindle p0).router.decl decl16.rid = none
       else 16 ≤ (s.spindle p0).router.decls.length)) ∧
    (let o : RsendOp := { rid := 1, line := 4, length := 1, handle := none, ecc := .clean }
     let s := withSp (declSp 1 [.rsend o])
     s.engineFree p0.row = true ∧ (s.spindle p0).xq = .rsend o :: [] ∧ o.started = false ∧ o.ecc = .clean ∧ o.undef = [] ∧
     (s.spindle p0).store.errors o.line o.length = .clean ∧ (s.spindle p0).storedIn o.line o.length = []) ∧
    (∀ rid ∈ [1, 2],
      let o : RsendOp := { rid, line := 4, length := 1, handle := none, ecc := .clean, started := true, left := [{ words := [1] }] }
      let s := withSp (declSp 1 [.rsend o])
      (s.spindle p0).xq = .rsend o :: [] ∧ o.left = { words := [1] } :: [] ∧
      ((s.spindle p0).router.absorbs o.rid 4 = true ↔ rid = 1)) := by
  unfold State.queuesOn State.issuesOn
  decide +kernel

/-- A reduction of two inputs, of which n flits have come locally and one from the west, and the RRECV of a RID. -/
def combineSp (out n : Nat) (rid : Option Nat) : Spindle :=
  { runSp with
    xq := rid.toList.map (fun r => .rrecv { rid := r, line := 4, length := 2, handle := none })
    router := { decls := [{ rid := 1, inputs := 17, out, twin := true, lines := 2
                            inq := [[{ words := [1, 2] }], [], [], [], List.replicate n { words := [3, 4] }] }] } }

/-- Site (0, 0) with that reduction, and n flits of other RIDs in the overflow buffer of its east neighbour's west input. -/
def combineState (out n : Nat) : State :=
  { onState with spindles := [(0, combineSp out 1 none), (1, { runSp with
      router := { overflow := [List.replicate n (9, {}), [], [], []] } })] }

theorem witness_CombinationAddsInPortOrderAndLeavesByItsOutput :
    (∀ g ∈ [({ words := [3, 4] } : Flit)], g.words.length = ({ words := [1, 2] } : Flit).words.length) ∧
    (1 < ({ words := [1, 2] } : Flit).words.length ∧ ({ words := [1, 2] } : Flit).words.length % 2 = 0 ∧
      2 * 0 < ({ words := [1, 2] } : Flit).words.length) ∧
    (∃ d, ((withSp (combineSp 4 0 none)).spindle p0).router.decl 1 = some d ∧
      ∃ i, i < 5 ∧ d.takes i = true ∧ nth d.inq i [] = []) ∧
    (∀ x ∈ [(4, some 1), (4, some 2), (4, none), (2, none), (1, none)],
      let s := withSp (combineSp x.1 1 x.2)
      ∃ d, (s.spindle p0).router.decl 1 = some d ∧ s.up = true ∧ s.isHeld p0 = false ∧ d.out = x.1 ∧
        d.heads = some [{ words := [1, 2] }, { words := [3, 4] }] ∧ (s.spindle p0).puts = []) ∧
    (∃ o, ((withSp (combineSp 4 1 (some 1))).spindle p0).xq = .rrecv o :: [] ∧ o.rid = 1 ∧ o.undef = []) ∧
    meshNext p0 2 = some 1 ∧ (combineState 2 7).heldAt 1 = false ∧
    (((combineState 2 7).at 1).router.arrive 1 (opposite 2)
      (combineAll true [{ words := [1, 2] }, { words := [3, 4] }])).isSome = true ∧
    (((combineState 2 8).at 1).router.arrive 1 (opposite 2)
      (combineAll true [{ words := [1, 2] }, { words := [3, 4] }])) = none ∧
    meshNext p0 1 = none ∧ edgePort p0 1 = some 0 ∧ (combineState 1 0).portLive 0 = true ∧
    ((combineState 1 0).arbiter 1 (portInst 0 1)).holder = none ∧
    tget (combineState 1 0).dict.pending (objKey Obj.arbPrio 1) = none ∧
    (let s := (combineState 1 0).setArbiter 1 (portInst 0 1) { prio := 0, holder := some (2, 0), passed := 1 }
     (s.arbiter 1 (portInst 0 1)).holder = some (2, 0) ∧ 2 ≠ 1 ∧ (s.arbiter 1 (portInst 0 1)).passed ≠ 0) := by
  refine ⟨by decide, by decide, ⟨_, rfl, 4, by decide +kernel⟩, ?_, ⟨_, rfl, by decide +kernel⟩, by decide +kernel⟩
  intro x h
  simp only [List.mem_cons, List.not_mem_nil, or_false] at h
  rcases h with rfl | rfl | rfl | rfl | rfl <;> exact ⟨_, rfl, by decide +kernel⟩

theorem witness_HandlesMoveThroughSlotsAndQueues :
    255 < 256 ∧ 98304 < 2 ^ 18 ∧
    (let s := withSp { handleSp with queues := List.replicate 8 (List.replicate 15 0) }
     s.issues p0 = true ∧ (300 : BitVec 18).toNat ≤ ((s.spindle p0).buf 3).size ∧ (s.spindle p0).slotLive 0 = true ∧
     s.bufferFree p0 (handleBuf ((s.spindle p0).slot 0).handle) = true ∧
     (nth (s.spindle p0).queues 7 []).length < 16 ∧ nth (s.spindle p0).queues 7 [] = 0 :: List.replicate 14 0 ∧
     (s.spindle p0).puts = [] ∧ (∀ e ∈ (s.spindle p0).streams, handleBuf ((s.spindle p0).slot 0).handle ∉ e.busy)) ∧
    (let e : SpStream := { stream := 9, queue := 7, first := 3, count := 2, busy := [4, 3] }
     let s : State := { withSp { handleSp with streams := [e] } with streams := { engines := [(9, {})] } }
     (s.spindle p0).slotLive 0 = true ∧ s.bufferFree p0 (handleBuf ((s.spindle p0).slot 0).handle) = true ∧
     (s.spindle p0).streams = [e] ∧ handleBuf ((s.spindle p0).slot 0).handle ∈ e.busy ∧
     tget s.streams.engines e.stream = some {}) ∧
    16 ≤ (nth ((withSp { handleSp with queues := List.replicate 8 (List.replicate 16 0) }).spindle p0).queues 7 []).length ∧
    nth (run0.spindle p0).queues 7 [] = [] := by
  decide +kernel

/-- A program in which only the sites (0, 0) and (1, 0) are present. -/
def twoSites : Prog := { loaded := true, absent := 2 ^ 9216 - 4 }

/-- Two spindles at the doffs a and b, in a running microbatch. -/
def doffState (a b : Option W16) (evaluating : Bool) : State :=
  { onState with
    prog := twoSites
    spindles := [(0, { runSp with atDoff := a, arrived := a }), (1, { runSp with atDoff := b, arrived := b })]
    step := { mbRunning := true, evaluating }
    fabric := { watchdogOn := true } }

/-- A fold that leaves the empty list alone at every element. -/
theorem foldr_skip {f : Nat → Option (List Nat) → Option (List Nat)} (q : Nat → Bool)
    (hf : ∀ r, q r = true → f r (some []) = some []) : ∀ l : List Nat, l.all q = true → l.foldr f (some []) = some []
  | [], _ => rfl
  | x :: l, h => by
    rw [List.all_cons, Bool.and_eq_true] at h
    rw [List.foldr_cons, foldr_skip q hf l h.2, hf x h.1]

/-- Only the two present sites count at a doff. -/
theorem arrivals_of_two (s : State) (a b : W16) (h : s.prog = twoSites)
    (ha : ((tget s.spindles 0).getD {}).arrived = some a) (hb : ((tget s.spindles 1).getD {}).arrived = some b) :
    s.arrivals = some [a.toNat, b.toNat] := by
  have hr : List.range 9216 = 0 :: 1 :: List.range' 2 9214 := by
    rw [List.range_eq_range', List.range'_succ, List.range'_succ]
  have h0 : s.isAbsent 0 = false := by simp only [State.isAbsent, h]; decide +kernel
  have h1 : s.isAbsent 1 = false := by simp only [State.isAbsent, h]; decide +kernel
  unfold State.arrivals
  rw [hr, List.foldr_cons, List.foldr_cons, foldr_skip (fun r => bitAt twoSites.absent r)]
  · simp only [h0, h1, ha, hb, Bool.false_eq_true, if_false]
  · intro r hr
    simp only [State.isAbsent, h, hr, if_true]
  · decide +kernel

theorem witness_DoffWaitsCompletesOrHaltsTheProgram :
    run0.issues p0 = true ∧ (withSp { runSp with atDoff := some 9 }).mayArrive p0 = true ∧
    (withSp { runSp with atDoff := some 9, puts := [(0, 0)] }).mayArrive p0 = false ∧
    (let s := doffState (some 9) (some 9) false
     s.up = true ∧ s.step.mbRunning = true ∧ s.hold.counts = [] ∧ s.arrivals = some ((9 : W16).toNat :: [9]) ∧
     (∀ e ∈ [9], e = (9 : W16).toNat) ∧ s.faults.doffsAtStop = 0) ∧
    (let s := doffState (some 9) (some 8) true
     s.up = true ∧ s.step.mbRunning = true ∧ s.hold.counts = [] ∧ s.step.evaluating = true ∧ s.step.slots = [] ∧
     s.arrivals = some (9 :: [8]) ∧ 8 ∈ [8] ∧ 8 ≠ 9) ∧
    (let s := doffState (some 9) none true
     s.step.slots = [] ∧ s.fabric.watchdogOn = true ∧ s.missing = [1] ∧ s.missing ≠ []) := by
  refine ⟨by decide +kernel, by decide +kernel, by decide +kernel,
    ⟨by decide, by decide, by decide, arrivals_of_two _ 9 9 rfl rfl rfl, by decide, by decide⟩,
    ⟨by decide, by decide, by decide, by decide, by decide, arrivals_of_two _ 9 8 rfl rfl rfl, by decide, by decide⟩, ?_⟩
  decide +kernel

theorem witness_BoltProgramsComputePostRestartAndTrap :
    (∀ b ∈ [(0 : BoltNo), 27, 47],
      let s := { run0.setBolt b.val { progRunning := true } with step := { mbRunning := true } }
      s.up = true ∧ (s.bolt b.val).progRunning = true ∧ (s.bolt b.val).suBlocked = false ∧ s.step.mbRunning = true ∧
      s.allHalted = false ∧ (withSp {}).allHalted = true) ∧
    (0 = 0 ∧ 0xD ≤ 0xD) := by
  decide +kernel

/-- A lea of one line that can be late. -/
def lateLea (fetched : Bool) : Lea := { kind := .data, fetched }

/-- Stream 9 on Dudin die 1 with these leas. -/
def streamState (g : StreamEng) : State :=
  { onState with prog := { loaded := true, streams := [(9, 20 * 2 ^ 119)] }, streams := { engines := [(9, g)] } }

/-- The raises of a hold that has reached every site. -/
def raised (kind number source at_ : Nat) : HoldRaise :=
  { kind, number, source, at_, entry := [0], cost := 1, reached := 2 ^ 9216 - 1 }

theorem witness_LateTransfersRaiseTheHoldThatCountsAndReleases :
    onState.up = true ∧ (run0.markLate 0).isNone = true ∧
    (let s := withSp (localSp 2)
     (s.markLate 0).isSome = true ∧ s.heldAt 0 = false ∧ (4 : Nat) < 6 ∧
     s.spindles = [(0, localSp 2)] ∧ getList (localSp 2).router.bufs (4 * 4 + 0) = msgFlit 0 1 :: [msgFlit 0 1] ∧
     (msgFlit 0 1).late = false ∧ (∀ j, j < 4 → getList (localSp 2).router.bufs (4 * j + 0) = [])) ∧
    (∀ f ∈ [true, false], ∃ r, (streamState { leas := [lateLea f] }).streamRow? (9 : W16).toNat = some r ∧ r.die = 1 ∧
      ((streamState { leas := [lateLea f] }).engine (9 : W16).toNat).leas.find? Lea.canBeLate = some (lateLea f) ∧
      (streamState { leas := [lateLea f] }).isHeld (siteOfPort r.port) = false ∧
      ({ streamState { leas := [lateLea f] } with hold := { counts := [((siteOfPort r.port).row, 0)] } } : State).isHeld
        (siteOfPort r.port) = true) := by
  refine ⟨by decide, by decide +kernel, by decide +kernel, ?_⟩
  intro f h
  simp only [List.mem_cons, List.not_mem_nil, or_false] at h
  rcases h with rfl | rfl <;> exact ⟨_, rfl, by decide +kernel, by decide +kernel, by decide +kernel, by decide +kernel⟩

theorem witness_LateTransfersRaiseTheHoldThatCountsAndReleases_waves :
    (let r : HoldRaise := { kind := 0, number := 0, source := 0, at_ := 0, entry := [0], cost := 1 }
     0 ∈ r.entry ∧ r.entry = [0] ∧ waveCycles 0 9215 ≤ 512 ∧ r.comesTo p0 = true ∧ r.countAt p0.row = (511 : Fin 513).val ∧
     ({ r with reached := 1 } : HoldRaise).comesTo ⟨1, 0⟩ = true ∧
     ({ r with reached := 1 } : HoldRaise).countAt (Site.row ⟨1, 0⟩) = (510 : Fin 513).val ∧
     ({ r with reached := 1 } : HoldRaise).comesTo p0 = false ∧ r.comesTo ⟨1, 0⟩ = false) ∧
    (let s : State := { onState with hold := { counts := [(0, 256), (1, 0)], newDiv := some 6 } }
     s.hold.counts ≠ [] ∧ (∀ e ∈ s.hold.counts, e.2 ≤ 256) ∧ s.hold.newDiv = some 6) ∧
    (∃ e ∈ ({ counts := [(0, 257)] } : Hold).counts, 256 < e.2) ∧
    (∀ rs ∈ [[raised 1 7 1 0], [raised 3 9215 0 10, raised 4 0 3 700]],
      let s : State := { onState with hold := { raises := rs, counts := [(0, 0)] } }
      s.isHeld p0 = true ∧ s.hold.over = true ∧ s.hold.newDiv = none ∧ (s.hold.counts.map (·.1)).Nodup ∧
      0 ∈ s.hold.counts.map (·.1) ∧ (∀ r ∈ rs, r.number < 2 ^ 16)) ∧
    (raised 3 9215 0 10).at_ ≤ (raised 4 0 3 700).at_ ∧
    ({ onState with hold := { raises := [{ raised 1 7 1 0 with reached := 1 }], counts := [(0, 0)] } } : State).hold.over =
      false := by
  decide +kernel

theorem witness_ArbitersGrantByPriorityAndFreeStuckResources :
    onState.up = true ∧ ([(5, 0), (0, 3)] : List (Fin 6 × Nat)) ≠ [] ∧ (onState.arbiter 0 3).holder = none ∧
    (∀ x ∈ [((1 : Fin 6), 767), (3, 7), (5, 0)],
      let s := onState.setArbiter x.1.val x.2 { prio := 0, holder := some (2, 0) }
      (s.arbiter x.1.val x.2).holder ≠ none ∧ s.heldAt (portSite (x.2 / 2)).row = false ∧ s.portState 7 ≠ lkRetired ∧
      s.isRetired (unitId lvPort 7) = false ∧ s.isRetired (unitId lvWafer (portUnit (767 / 2))) = false ∧ s.up = true) ∧
    ({ onState with hold := { counts := [((portSite (767 / 2)).row, 5)] } } : State).heldAt (portSite (767 / 2)).row = true := by
  decide +kernel

/-- A residence entry: a FAST SGD shard of these elements of a tensor, home stack 1. -/
def shardWord (tensor efirst ecount rule wbase fbase : Nat) : Nat :=
  tensor * 2 ^ 224 + efirst * 2 ^ 168 + ecount * 2 ^ 147 + rule * 2 ^ 137 + 2 ^ 109 + wbase * 2 ^ 74 + fbase * 2 ^ 50

/-- A result under RID 5 at edge port 0, taken by target row 3 into elements 0 to n - 1 of tensor 2. -/
def gradState (step : Step) (n : Nat) : State :=
  { onState.setObj Obj.residence 0 (shardWord 2 0 8 1 1 2) with
    prog := { loaded := true, grads := [(3, BitVec.ofNat 128 (5 * 2 ^ 112 + 2 * 2 ^ 64 + n))] }
    fabric := { edge := [(0, [{ rid := 5, flit := { words := [0x3F800000] }, twin := false, last := true }])] }
    step := step }

theorem witness_GradientsAreAddedIntoTheirElements :
    (∀ st ∈ [({ evaluating := true } : Step), { gradCount := [(3, 7)] }, { gradSkip := [(3, 1)] }],
      let s := gradState st 8
      let f : EdgeFlit := { rid := 5, flit := { words := [0x3F800000] }, twin := false, last := true }
      s.up = true ∧ (tget s.fabric.edge 0).getD [] = [f] ∧
      [f].find? (fun g => !((s.maskStreams 0).map (·.2.mrid)).contains g.rid) = some f ∧
      s.gradRows.filter (fun e => e.2.rid == f.rid && e.2.port == 0) =
        [(3, { rid := 5, port := 0, tensor := 2, efirst := 0, ecount := 8 })] ∧ f.values = [0x3F800000]) ∧
    (let s := gradState { gradCount := [(3, 7)] } 8
     (tget s.step.gradSkip 3).getD 0 = 0 ∧ (tget s.step.gradCount 3).getD 0 < 8 ∧
     s.gradAddr 2 (0 + (tget s.step.gradCount 3).getD 0) = some (2 ^ 36 + 0x2000 + 28)) ∧
    0 < (tget (gradState { gradSkip := [(3, 1)] } 8).step.gradSkip 3).getD 0 ∧
    (∀ g ∈ (tget onState.fabric.edge 0).getD [], ((onState.maskStreams 0).map (·.2.mrid)).contains g.rid = true) := by
  decide +kernel

/-- Stream 9 on edge port 20 under MRID 5, with a complete report of two groups at the port. -/
def maskState (pred : Nat) (g : StreamEng) : State :=
  { onState with
    prog := { loaded := true, streams := [(9, BitVec.ofNat 128 (20 * 2 ^ 119 + pred * 2 ^ 105 + 5 * 2 ^ 89))] }
    fabric := { edge := [(20, [{ rid := 5, flit := { words := [0, 0x7FC00000] }, twin := false, last := true }])] }
    streams := { engines := [(9, g)] } }

theorem witness_MaskReportsJudgeThePredictions :
    ∀ pred ∈ [3, 0],
      let g : StreamEng := { running := true, leas := [{ kind := .group, group := 1, active := none, predicted := false }] }
      let s := maskState pred g
      let fs : List EdgeFlit := [{ rid := 5, flit := { words := [0, 0x7FC00000] }, twin := false, last := true }]
      s.up = true ∧
      takeReport ((s.maskStreams 20).map (·.2.mrid)) ((tget s.fabric.edge 20).getD []) = some (fs, []) ∧
      nth (fs.map (·.rid)) 0 0 = 5 ∧
      (s.maskStreams 20).filter (fun e => e.2.mrid == 5) =
        [(9, { port := 20, shape := 0, pred, mrid := 5, dbase := 0 })] ∧
      tget s.streams.engines 9 = some g ∧ g.ended = false ∧ g.passReport = none := by
  decide +kernel

/-- What stream 9 is in `streamState`. -/
def row9 : StreamRow := { port := 20, shape := 0, pred := 0, mrid := 0, dbase := 0 }

/-- Stream 9 with this descriptor at address 0 of stack 1, and a STREAM region from page 16 to 32. -/
def descState (g : StreamEng) (word : Nat) : State :=
  { (streamState g).setObj Obj.tierLayout 1 (16 * 2 ^ 88 + 32 * 2 ^ 64 + 16) with fast := memPutNat [] (2 ^ 36) 32 word }

/-- A FETCH of a dense binary32 hank from page 16. -/
def fetchWord : Nat := 9 * 2 ^ 236 + 0x10000 * 2 ^ 104 + 256 * 2 ^ 93 + 256 * 2 ^ 61

/-- A BRANCH of stream 9 on bit 31 of decision 65, predicted taken, two descriptors on. -/
def branchWord : Nat := 3 * 2 ^ 252 + 9 * 2 ^ 236 + 65 * 2 ^ 208 + (31 * 2 ^ 27 + 2 ^ 26 + 2 * 2 ^ 8) * 2 ^ 176

/-- A FETCH_GROUP of group 1 of a dense binary32 tensor. -/
def groupWord : Nat := 2 ^ 252 + 9 * 2 ^ 236 + 2 ^ 77 + 0x10000 * 2 ^ 104 + 256 * 2 ^ 93 + 256 * 2 ^ 61

theorem witness_StreamsStartAndReadTheirDescriptors :
    (let g : StreamEng := { opened := [(0, 2, 300)] }
     let s := streamState g
     s.up = true ∧ s.streamRow? 9 = some row9 ∧ tget s.streams.engines 9 = some g ∧ g.running = false ∧ g.ended = false ∧
     (∀ d ∈ (s.shape row9.shape).dests, ∃ o ∈ g.opened, o.1 = d) ∧ (s.running row9.die).length < 64) ∧
    (let g : StreamEng := { opened := [(0, 2, 300)] }
     let s : State := { onState with
       prog := { streams := (List.range 65).map (fun i => (i, 20 * 2 ^ 119)) }
       streams := { engines := (List.range 64).map (fun i => (i, { running := true })) ++ [(64, g)] } }
     s.streamRow? 64 = some row9 ∧ 64 ≤ (s.running row9.die).length) ∧
    (let g : StreamEng := { running := true, credits := 1, bufLimit := 257 }
     (∀ w ∈ [4 * 2 ^ 252 + 9 * 2 ^ 236, 5 * 2 ^ 252, 9 * 2 ^ 236, fetchWord, branchWord],
       let s := descState g w
       s.streamRow? 9 = some row9 ∧ tget s.streams.engines 9 = some g ∧ g.running = true ∧ g.ended = false ∧
       g.stopped = false ∧ ((s.desc row9.die g.dptr).stream = 9 ∨ 4 < (s.desc row9.die g.dptr).dkind) ∧
       s.inFlight row9.die < 2048 ∧ g.beyond < 64 ∧ 0 < g.credits ∧ g.epochs.length < 16) ∧
     ((descState g (4 * 2 ^ 252 + 9 * 2 ^ 236)).desc row9.die g.dptr).dkind = 4 ∧
     4 < ((descState g (5 * 2 ^ 252)).desc row9.die g.dptr).dkind ∧
     ((descState g (9 * 2 ^ 236)).desc row9.die g.dptr).dkind ≤ 2 ∧
     ((descState g (9 * 2 ^ 236)).desc row9.die g.dptr).lines = 0 ∧
     (let s := descState g fetchWord
      let d := s.desc row9.die g.dptr
      let ds := s.leaDescs row9.die g.bufLimit d g.dptr
      d.dkind = 0 ∧ d.lines ≠ 0 ∧ s.mayTake 9 row9 g (totalLines ds) ds.length = true ∧
      s.descFault row9.die g.bufLimit d = none) ∧
     (let h : StreamEng := { g with bufLimit := 256 }
      let s := descState h fetchWord
      s.descFault row9.die h.bufLimit (s.desc row9.die h.dptr) = some 0x4501) ∧
     (let s := descState g branchWord
      let d := s.desc row9.die g.dptr
      d.dkind = 3 ∧ tget s.streams.relayed (BitVec.ofNat 16 d.layer).toNat = none ∧
      tget ({ s with streams := { s.streams with relayed := [(65, 0x80000000)] } } : State).streams.relayed
        (BitVec.ofNat 16 d.layer).toNat = some 0x80000000)) := by
  decide +kernel

theorem witness_StreamsStartAndReadTheirDescriptors_groups :
    (let g : StreamEng := { running := true, credits := 1, bufLimit := 257 }
     2048 ≤ ({ descState g fetchWord with streams := { engines := [(9, { g with leas := List.replicate 2048 {
       kind := .data, parts := [(1, 0, 1)] } })] } } : State).inFlight row9.die) ∧
    (∀ n ∈ [15, 16],
      let g : StreamEng := { running := true, credits := 1, bufLimit := 257
                             epochs := (List.range n).map (fun i => { number := i + 1, branch := none }) }
      let s := descState g groupWord
      let r : StreamRow := { row9 with pred := 1 }
      let d := s.desc row9.die g.dptr
      d.dkind = 1 ∧ d.lines ≠ 0 ∧ d.stream = 9 ∧ s.mayTake 9 r g d.lines 1 = true ∧
      s.descFault row9.die g.bufLimit d = none ∧ s.selection r g = none ∧ r.pred = 1 ∧
      ((s.selection r { g with passReport := some { values := [0, 1], poison := false } }).isSome = true) ∧
      (if n = 15 then g.epochs.length < 16 else 16 ≤ g.epochs.length)) := by
  decide +kernel

theorem witness_LeasAreFetchedInjectedAndCredited :
    (let l : Lea := { kind := .data, parts := [(256, 0x10000, 256)] }
     let g : StreamEng := { leas := [{ kind := .data, fetched := true }, l] }
     let s := streamState g
     s.up = true ∧ s.streamRow? 9 = some row9 ∧ tget s.streams.engines 9 = some g ∧
     g.leas.findIdx? Lea.wantsFetch = some 1 ∧ g.leas[1]? = some l ∧ l.parts = [(256, 0x10000, 256)] ∧ l.maskmode = 0 ∧
     l.orient = false ∧ l.sfmt = l.format ∧ streamPairOk l.sfmt.toNat l.format.toNat = true ∧ s.readsAverages = false ∧
     s.faults.readErrs = []) ∧
    (∀ l ∈ [({ kind := .data, fetched := true } : Lea), { kind := .group, skip := true }, { kind := .fin, skip := true },
        { kind := .reject, fetched := true }, { kind := .badKind, fetched := true }],
      l.ready = true ∧ (streamState { leas := [l] }).isHeld (siteOfPort row9.port) = false ∧
      getList (streamState { leas := [l] }).fabric.portIn (4 * row9.port + 2) = []) ∧
    ({ kind := .data } : Lea).ready = false ∧
    (let g : StreamEng := { running := true, releases := [(0, 1)] }
     let s := streamState g
     g.running = true ∧ (s.shape row9.shape).dests ≠ [] ∧ (s.shape row9.shape).dests.Nodup ∧
     (∀ d ∈ (s.shape row9.shape).dests, tget g.releases d = some (0 + 1))) := by
  decide +kernel

/-- A lea header of stream 9 and LEA_SEQ 0 with these further bits and a good CRC. -/
def goodHeader (more : Nat) : BitVec 512 :=
  let n := 9 * 2 ^ 432 + more
  BitVec.ofNat 512 (n + (crc32c (leBytes 60 n)).toNat * 2 ^ 480)

/-- The flits of a lea of stream 9 with this header and a payload of zeros. -/
def leaFlits (more : Nat) : List NetFlit :=
  [{ msgFlit 0 2 with words := Line.words { data := goodHeader more } ++ List.replicate 16 0 }, msgFlit 1 2]

/-- A lea for stream 9 has come to site (0, 0), whose pool is buffers 3 and 4. -/
def arriveState (e : SpStream) (queued : Nat) : State :=
  withSp { runSp with
    streams := [e], bufs := [(3, { base := 10, size := 3 }), (4, { base := 13, size := 3 })]
    queues := List.replicate 8 (List.replicate queued 0) }

theorem witness_LeasArriveAndDecisionsAreRelayed :
    (∀ more ∈ [2 ^ 302, 2 ^ 303, 2 ^ 420],
      let e : SpStream := { stream := 9, queue := 7, first := 3, count := 2, busy := [3], inbox := leaFlits more }
      let s := arriveState e 15
      s.up = true ∧ s.engineFree p0.row = true ∧ (s.spindle p0).stream? 9 = some e ∧ e.inbox.any (·.sb.last) = true ∧
      bitAt e.header.toNat 420 = (more == 2 ^ 420) ∧ e.free? = some 4 ∧ { e with busy := [4, 3] }.free? = none ∧
      (nth (s.spindle p0).queues e.queue []).length < 16 ∧ e.queue < (s.spindle p0).queues.length ∧
      16 ≤ (nth ((arriveState e 16).spindle p0).queues e.queue []).length ∧
      headerGood e.header e.stream e.expect ((s.spindle p0).buf 4).size = (more != 2 ^ 303)) ∧
    (withSp { runSp with puts := [(0, 0)] }).engineFree p0.row = false ∧
    (let q : List (W16 × W32) := [(65, 0x80000000)]
     ({ onState with streams := { relayQueue := q } } : State).streams.engines = [] ∧
     ∀ predict ∈ [true, false],
       let g : StreamEng := { epochs := [{ number := 1, branch := some (65, 31, predict, 64) }] }
       let s : State := { streamState g with streams := { engines := [(9, g)], relayQueue := q } }
       s.streams.relayQueue = (65, 0x80000000) :: [] ∧ s.streams.engines = [(9, g)] ∧ s.streamRow? 9 = some row9 ∧
       ((0x80000000 : W32).getLsbD 31 = predict ∨ predict = false)) := by
  decide +kernel

/-- One INPUT slot, role 2, at the bobbin window's page 1, in a stepping module at a microbatch boundary. -/
def bobbinProg : Prog :=
  { loaded := true, bobbins := [(4, BitVec.ofNat 128 (2 ^ 124 + 2 * 2 ^ 112 + 1024 * 2 ^ 82 + 2 ^ 48 + 2 ^ 32))] }

/-- A slot header: OWNER, KIND, MB 0, STEP 0 and the CRC of an empty payload, or another. -/
def slotState (kind crc : Nat) : State :=
  let s := { (onState.setObj Obj.moduleState 0 stRun).setPhase 1 with prog := bobbinProg, step := { total := 1 } }
  ((s.putHdr 4 0 4 2).putHdr 4 12 2 kind).putHdr 4 40 4 crc

/-- What slot 4 is in `bobbinProg`. -/
def slot4 : BobbinRow := { kind := 1, role := 2, shape := 0, dlines := 1024, base := 1, size := 1 }

theorem witness_TheScanJudgesTakesAndHandsBackSlots :
    ∀ x ∈ [(1, 0), (1, 1), (2, 0)],
      let s := slotState x.1 x.2
      s.atBoundary = true ∧ s.bobbins = [(4, slot4)] ∧ s.bobbin 4 = slot4 ∧ s.owner 4 = 2 ∧ s.isTaken 4 = false ∧
      s.headerFault 4 slot4 = (if x.1 = 2 then some 7 else none) ∧ slot4.kind = bkInput ∧ s.step.evaluating = false ∧
      s.hdr 4 16 8 = s.stepCount ∧ s.hdr 4 24 4 = s.mbIndex ∧ s.hasRole bkInput slot4.role = false ∧
      s.crcGood 4 = (x.2 == 0) := by
  decide +kernel

theorem witness_TheBobbinWindowIsWrittenByHostAndResults :
    (let s : State := { onState.setObj Obj.moduleState 0 stReady with host := { linkUp := true } }
     s.up = true ∧ s.tiersReady = true ∧ s.host.linkUp = true ∧ (0xFFFFFFFE : W32).toNat + [1, 2].length ≤ 2 ^ 32) ∧
    (let k : Taken := { slot := 4, kind := bkEvalResult, role := 2, written := 64 }
     let s : State := { onState with
       prog := bobbinProg, step := { slots := [k] }
       fabric := { portOut := [(352, [msgFlit 0 2, msgFlit 1 2])], sending := [(2, { shape := 0, src := 1, lines := 4, due := [0] })] } }
     s.step.slots.find? (fun t => t.slot == (4 : BitVec 12).toNat && t.kind == bkEvalResult) = some k ∧
     s.leftMessage (s.bobbin k.slot).shape = some (352, 2) ∧
     (((getList s.fabric.portOut 352).filter (fun f => f.id == 2)).flatMap NetFlit.lines).all (fun l => !l.poison) = true ∧
     tget s.fabric.sending 2 = some { shape := 0, src := 1, lines := 4, due := [0] }) := by
  decide +kernel

/-- A module in RUN, stepping at phase n and microbatch k. -/
def stepState (n k : Nat) (st : Step) : State :=
  { ((onState.setObj Obj.moduleState 0 stRun).setPhase n).setMb k with prog := { loaded := true }, step := st }

theorem witness_MicrobatchesStartAndEnd :
    (stepState 1 0 { total := 1 }).mayStart = true ∧ (stepState 1 1 { total := 1 }).mayStart = false ∧
    (∀ k ∈ [0, 1],
      let s := { stepState 1 k { total := 2, mbRunning := true, gradCount := [(3, 8)] } with
        prog := { loaded := true, grads := [(3, BitVec.ofNat 128 (5 * 2 ^ 112 + 2 * 2 ^ 64 + 8))] }
        spindles := [(0, { runSp with halted := true })] }
      s.up = true ∧ s.step.mbRunning = true ∧ s.allHalted = true ∧ s.step.evaluating = false ∧ s.step.slots = [] ∧
      s.step.total ≤ 2 ^ 16 ∧ (∀ e ∈ s.gradRows, (tget s.step.gradCount e.1).getD 0 = e.2.ecount) ∧
      (if k = 0 then s.mbIndex + 1 < s.step.total else s.step.total ≤ s.mbIndex + 1) ∧
      s.gradRows = [(3, { rid := 5, port := 0, tensor := 2, efirst := 0, ecount := 8 })]) ∧
    (tget ({ gradCount := [(3, 7)] } : Step).gradCount 3).getD 0 ≠ 8 ∧
    (let s := stepState 6 0 { evalTotal := 1, evaluating := true, mbRunning := true }
     s.up = true ∧ s.step.mbRunning = true ∧ s.allHalted = true ∧ s.step.evaluating = true ∧ s.step.slots = []) := by
  decide +kernel

/-- Position pos of chain c in a grid of C chains of P positions with these live positions and members. -/
def inGrid (s : State) (P C pos c live members : Nat) : State :=
  let s := (((s.setObj Obj.chainPositions 0 P).setObj Obj.gridChains 0 C).setObj Obj.chainAddress 0 pos).setObj Obj.chainIndex 0 c
  let s := s.setObj Obj.membership 0 (members + live * 2 ^ 32)
  { s with link := { s.link with member := true } }

/-- A frame header of sequence 0 in membership epoch 0. -/
def hdr0 : FrameHdr :=
  { poison := false, nak := false, txseq := 0, ackseq := 0, ccred := 1, bcred := 2, srcPos := 2, srcChain := 0, srcPort := 3
    step := 0, mepoch := 0 }

/-- A module with layer 1 of the exchange plan, one shard of 8 elements in layer 0, and port 0 up. -/
def exchangeState (n : Nat) (st : Step) : State :=
  let s := { stepState n 0 st with prog := { loaded := true, exchange := [(0, 7)] } }
  (s.setObj Obj.residence 0 (shardWord 2 0 8 1 1 2)).setPortState 0 lkUp

theorem witness_ExchangesSumEveryBlockAndKeepOrWriteIt :
    (∀ s ∈ [exchangeState 2 { total := 1 }, exchangeState 1 { total := 1, mbRunning := true }],
      s.up = true ∧ (0 : W16).toNat ∈ s.planLayers ∧
      (s.phase = 2 ∨ (s.phase = 1 ∧ s.step.mbRunning = true ∧ s.step.evaluating = false ∧ s.mbIndex + 1 = s.step.total)) ∧
      (0 : W16).toNat ∉ s.step.layersStarted ∧ s.layerFinal 0 = false ∧
      ({ s with fabric := { s.fabric with doneSeqs := [7] } } : State).layerFinal 0 = true ∧
      (let t := inGrid s 1 1 1 0 1 1
       t.gridP = 1 ∧ t.gridC = 1 ∧ t.liveMap = 1 ∧ t.myPos = 1)) ∧
    (let s := exchangeState 2 { layersStarted := [0], summed := [blockKey 0 0] }
     (0 : W16).toNat ∈ s.step.layersStarted ∧ s.step.exchangeEnded = false ∧ s.allSummed = true) ∧
    (exchangeState 2 { layersStarted := [0] }).allSummed = false ∧
    (let s := inGrid (exchangeState 2 {}) 2 1 1 0 3 2
     s.Arrives 0 hdr0 ∧ s.link.reweaving = false ∧ s.link.member = true ∧ (0 : PortNo).val < 6 ∧
     (1 : BitVec 2).toNat ≤ 1 ∧ (0 : W16).toNat ∉ s.step.layersStarted ∧ 2 ≤ (2 : BitVec 2).toNat ∧
     hdr0.step.toNat = s.stepTag ∧ { hdr0 with step := 1 }.step.toNat ≠ s.stepTag ∧ blockKey 0 0 ∉ s.step.summed ∧
     (s.blocks 0)[0]? = some { addr := 2 ^ 36 + 0x2000, len := 8 } ∧ (List.replicate 8 (0 : W32)).length = 8) := by
  unfold State.Arrives
  decide +kernel

/-- A member whose exchange has ended, with what it needs for its report. -/
def voteState (st : Step) : State :=
  (stepState 3 0 { st with exchangeEnded := true }).setPortState 3 lkUp

theorem witness_VotesAreGatheredAndDecided :
    (let s := inGrid (voteState {}) 2 1 2 0 3 2
     s.up = true ∧ s.link.member = true ∧ s.phase = 3 ∧ s.step.decision = none ∧ s.step.exchangeEnded = true ∧
     s.step.voteSent = false ∧ s.haveAggregates = true ∧ s.link.ports.length = 8 ∧ s.isGridHead = false ∧
     s.towardsHead = some .prev ∧ s.livePort .prev = some 3) ∧
    (∀ poisoned ∈ [false, true],
      let s := (inGrid (voteState { poisoned }) 1 1 1 0 1 1).setObj Obj.gradDivisor 0 0x3FF0000000000000
      s.haveAggregates = true ∧ s.isGridHead = true ∧ s.allJoined = true ∧ s.stepCount < 2 ^ 64 ∧
      (s.causeOf s.aggregate = if poisoned then 2 else 0)) ∧
    (let s := inGrid (voteState { voteNext := some 0 }) 2 1 1 0 3 3
     s.haveAggregates = true ∧ s.isGridHead = true ∧ s.allJoined = false ∧ s.link.decided = false ∧
     ({ s with link := { s.link with decided := true } } : State).link.decided = true) ∧
    (stepState 3 0 {}).up = true ∧ (stepState 3 0 {}).step.exchangeEnded = false ∧
    (inGrid (voteState {}) 2 1 2 0 3 2).Arrives 3 hdr0 := by
  unfold State.Arrives
  decide +kernel

/-- A decision payload of step 0. -/
def decision0 (d : Nat) : BitVec 512 := BitVec.ofNat 512 (d * 2 ^ 440)

theorem witness_DecisionsAreTakenOnceAndAnswered :
    (∀ s ∈ [inGrid (voteState {}) 2 1 2 0 3 2, inGrid (voteState { decision := some (decision0 1) }) 2 1 2 0 3 2],
      s.Arrives 3 hdr0 ∧ s.link.reweaving = false ∧ s.link.member = true ∧ s.undecided = s.step.decision.isNone ∧
      stepOf (decision0 1) = s.stepCount ∧ s.isGridHead = false ∧ s.towardsHead = some .prev ∧ s.livePort .prev = some 3 ∧
      s.link.early = none ∧ s.link.asked ≠ some s.epoch) ∧
    (let s := inGrid (voteState { decision := some (decision0 1) }) 2 1 2 0 3 2
     s.isEarly (decision0 1 + BitVec.ofNat 512 (2 ^ 448)) = true ∧ s.isEarly (decision0 1) = false) ∧
    decisionOf (decision0 1) = 1 ∧ decisionOf (decision0 2) = 2 ∧
    (∀ n ∈ [1, 2],
      let s := inGrid ((voteState {}).setPortState 0 lkUp) 2 1 1 0 3 2
      let s := { s with link := { s.link with queries := n } }
      s.Arrives 0 hdr0 ∧ s.isGridHead = true ∧ s.undecided = true ∧ s.link.queries = n ∧ s.stepCount < 2 ^ 64 ∧
      stepOf (decision0 1) = s.stepCount) := by
  unfold State.Arrives
  decide +kernel

/-- The update of one shard of 8 elements, under a rule, in a state, with or without the journal. -/
def shardState (rule st : Nat) (jrnl : Bool) : State :=
  { (stepState 4 0 { scalars := some {} }) with }.setObj Obj.residence 0
    (shardWord 2 0 8 rule 1 2 + jrnl.toNat * 2 ^ 134 + st * 2 ^ 130)

theorem witness_ShardUpdatesFollowTheirRuleAndJournal :
    (∀ j ∈ [false, true],
      let s := shardState 4 shDone j
      s.step.scalars = some {} ∧ s.canUpdate 0 = true ∧ (s.shard 0).jrnl = j ∧ (s.shard 0).maskmode = 0 ∧
      (s.shard 0).spans.Pairwise (fun x y => meet x y = false) ∧ (s.shard 0).cls ≠ clsCompact ∧ (s.shard 0).rule ≤ 6 ∧
      0 < (s.shard 0).ecount ∧ 2 ≤ (s.shard 0).rule ∧ s.freeSlot (s.shard 0).die = some 0 ∧ s.faults.readErrs = [] ∧
      min 2047 (ceilDiv (s.shard 0).ecount 1024) = 1) ∧
    (let s := (List.range 8).foldl (fun t j => t.setObj Obj.journalSlot (journalRow 1 j) (2 ^ 63 + (j + 1) * 2 ^ 45))
       (shardState 4 shDone true)
     s.canUpdate 0 = true ∧ (s.shard 0).jrnl = true ∧ s.freeSlot (s.shard 0).die = none) := by
  decide +kernel

/-- A PRUNE tensor of 8 by 8 with row bands. -/
def maskedState : State :=
  ((stepState 4 0 { repack := [bandKey 2 1 false 0] }).setObj Obj.residence 0 (shardWord 2 0 64 1 1 2)).setObj Obj.maskTable 0
    (2 * 2 ^ 224 + 8 * 2 ^ 192 + 8 * 2 ^ 171 + 2 * 2 ^ 169 + 2 * 2 ^ 162 + 2 ^ 158 + 2 ^ 157 + 5 * 2 ^ 124 + 9 * 2 ^ 76 + 4 * 2 ^ 52 + 2 ^ 40)

/-- The mask entry of `maskedState`. -/
def maskEntry : MaskRow :=
  { tensor := 2, rows := 8, rowlen := 8, mode := 2, dbound := 2, pfmt := 1, rpack := true, cpack := false, evFirst := 5
    evPeriod := 0, evLast := 9, dirbase := 4, rsegs := 1, csegs := 0, mbase := 0 }

theorem maskedState_segs : (maskedState.bandSegs maskEntry.tensor 1 maskEntry false 0).length = 1 := by
  have h : maskedState.part maskEntry.tensor 1 = [(0, shardOf (shardWord 2 0 64 1 1 2))] := by decide +kernel
  simp only [State.bandSegs, State.partRows, State.partKept, h, List.mergeSort_singleton]
  decide +kernel

theorem witness_UpdatesResumeRepackAndComplete :
    (∀ x ∈ [(shDone, 0xFFFF), (shDone, 0), (shJournaled, 0)],
      let s := (shardState 4 x.1 true).setObj Obj.journalSlot (journalRow 1 0) (2 ^ 63 + x.2 * 2 ^ 29)
      let w := s.obj Obj.journalSlot (journalRow 1 0)
      s.up = true ∧ s.step.scalars = some {} ∧ bitAt w 63 = true ∧ bits w 45 18 = 0 ∧ (s.shard 0).die = 1 ∧
      (∀ j, j < 8 → 0 < j → bitAt (s.obj Obj.journalSlot (journalRow 1 j)) 63 = false) ∧
      (s.shard 0).state = x.1 ∧ (s.shard 0).jrnl = true ∧
      ((s.shard 0).gen = (bits w 29 16 + 1) % 2 ^ 16 ↔ x.2 = 0xFFFF)) ∧
    (maskedState.maskOf 2 = some (0, maskEntry) ∧ bandKey 2 1 false 0 ∈ maskedState.step.repack ∧
      (maskedState.bandSegs maskEntry.tensor 1 maskEntry false 0).length = 1 ∧ 1 < 2 ^ 12) ∧
    (let s := (stepState 4 0 { updated := [0] }).setObj Obj.residence 0 (shardWord 2 0 8 1 1 2)
     s.up = true ∧ s.phase = 4 ∧ s.updateDone = true) ∧
    (shardState 4 shDone false).updateDone = false := by
  refine ⟨by decide +kernel, ⟨by decide +kernel, by decide +kernel, maskedState_segs, by decide⟩, by decide +kernel, by decide +kernel⟩

/-- The chain head of two modules, with this module's entry sent and n entries held. -/
def digestState (st : Step) (held : List (BitVec 128)) : State :=
  let s := inGrid ((stepState 5 0 st).setPortState 0 lkUp) 2 1 1 0 3 2
  { s with link := { s.link with digestList := held } }

theorem witness_DigestsAreGatheredAndJudged :
    (∀ s ∈ [digestState {} [], digestState { digestSent := true } [1], digestState { verdictSeen := true } []],
      s.Arrives 0 hdr0 ∧ s.link.member = true ∧ s.link.reweaving = false) ∧
    (digestState {} []).step.digestSent = false ∧ (digestState { verdictSeen := true } []).step.verdictSeen = true ∧
    (let s := digestState { digestSent := true } [1]
     let new := [(2 : BitVec 128), 1].filter (fun e => !s.link.digestList.any (fun k => bits k.toNat 0 8 == bits e.toNat 0 8))
     new = [2] ∧ s.step.digestSent = true ∧ s.step.verdictSeen = false ∧ s.isChainHead = true ∧
     s.entriesAwaited + 1 ≤
       ((s.link.digestList ++ new).filter (fun e => bitAt s.liveMap (bits e.toNat 0 8 - 1))).length ∧
     s.phase = 5 ∧ bits (s.obj Obj.evalControl 0) 0 16 = 0) ∧
    (let s := inGrid (((stepState 5 0 { digestSent := true }).setPortState 0 lkUp).setPortState 3 lkUp) 3 1 2 0 7 2
     let new := [(3 : BitVec 128), 2].filter (fun e => !s.link.digestList.any (fun k => bits k.toNat 0 8 == bits e.toNat 0 8))
     s.Arrives 0 hdr0 ∧ s.step.digestSent = true ∧ s.step.verdictSeen = false ∧ s.isChainHead = false ∧
     s.entriesAwaited + 1 ≤
       ((s.link.digestList ++ new).filter (fun e => bitAt s.liveMap (bits e.toNat 0 8 - 1))).length ∧
     s.towardsHead = some .prev ∧ s.livePort .prev = some 3) := by
  unfold State.Arrives
  decide +kernel

theorem witness_TheStepBoundaryClosesTheStep :
    (∀ c ∈ [0, 1, 2, 5], ∀ st ∈ [({} : Step), { decision := some (decision0 1) }, { mustPause := true }],
      let s := (stepState 7 0 st).setObj Obj.stepControl 0 c
      s.up = true ∧ s.phase = 7 ∧ s.dict.voteLost = [] ∧ s.link.reweaving = false ∧ s.dict.pending = [] ∧
      s.faults.dueRetire = [] ∧ s.lateness = [] ∧ s.faults.window = [] ∧ s.link.member = false ∧ s.link.pendingLoss = [] ∧
      s.link.early = none ∧ s.step.leaveAsked = false ∧ s.faults.dropSince = none) ∧
    (let s := (stepState 7 0 { decision := some (decision0 1) }).setObj Obj.stepControl 0 5
     bitAt (s.obj Obj.stepControl 0) 0 = true ∧ bitAt (s.obj Obj.stepControl 0) 1 = false ∧
     bitAt (s.obj Obj.stepControl 0) 2 = true ∧ s.committed = true) ∧
    (stepState 7 0 {}).committed = false := by
  decide +kernel

/-- A sequenced frame that waits for its acknowledgement. -/
def frame0 : OutFrame := { typ := 6, tag := 0, step := 0 }

/-- The middle module of a chain of three, with port 0 in this state and these frames unacknowledged. -/
def portState (state : Nat) (sent : List (W16 × OutFrame)) : State :=
  let s := inGrid ((onState.setObj Obj.moduleState 0 stReady).setField Obj.linkState 0 0 8 (state + 15 * 16)) 3 1 2 0 7 3
  s.setPort 0 { (s.port 0) with unacked := sent, txNext := BitVec.ofNat 16 sent.length }

theorem witness_PortsTrainSayHelloAndAcknowledge :
    (let f : OutFrame := { typ := 7, tag := 5, step := 9, poison := true, payload := 2 ^ 32767, bytes := 4096 }
     let h : FrameHdr := { hdr0 with step := 9, poison := true }
     h.step = f.step ∧ h.poison = f.poison ∧ 1 ≤ f.typ.toNat ∧ f.typ.toNat ≤ 7 ∧ f.bytes ≤ 4096 ∧ f.bytes % 8 = 0 ∧
     f.payload < 2 ^ (8 * f.bytes)) ∧
    (let s := portState lkUp [(0, frame0), (1, frame0)]
     s.up = true ∧ s.link.ports.length = 8 ∧ s.receives 0 = true ∧ (s.port 0).waiting = [] ∧ hdr0.nak = false ∧
     { hdr0 with nak := true }.nak = true ∧ acked hdr0.ackseq (s.port 0).unacked ≠ []) ∧
    (portState lkTraining []).portState 0 = lkTraining ∧ (portState lkDown []).receives 0 = false ∧
    (let s := portState lkHello []
     s.Arrives 0 hdr0 ∧ (3 : BitVec 6).toNat = s.gridP ∧ (1 : BitVec 6).toNat = s.gridC ∧
     s.unusedPort 0 = false ∧ ((0 : BitVec 5).toNat, (3 : BitVec 6).toNat, (3 : BitVec 3).toNat) = s.peerOf 0 ∧
     ((0 : BitVec 5).toNat, (1 : BitVec 6).toNat, (3 : BitVec 3).toNat) ≠ s.peerOf 0 ∧ (4 : BitVec 6).toNat ≠ s.gridP) := by
  unfold State.Arrives
  decide +kernel

/-- A frame of one word of payload, with the header the port puts before it, is read back from its bytes. -/
theorem test_frame_reads_back :
    (let f : OutFrame := { typ := 6, tag := 0xA5, step := 9, payload := 0x0123456789ABCDEF, bytes := 8 }
     readFrame (wireBytes { hdr0 with step := 9 } f) = some ({ hdr0 with step := 9 }, f)) := by
  decide +kernel

theorem witness_LanesRetireRetrainAndReplay :
    (let s := portState lkUp [(0, frame0)]
     s.up = true ∧ s.link.ports.length = 8 ∧ s.receives 0 = true ∧ (s.port 0).unacked ≠ [] ∧ bitAt (s.lanes 0) 3 = true ∧
     s.lanes 0 ≠ 2 ^ 3 ∧ s.portState 0 = lkUp ∧ s.recent (unitId lvLane (8 * 0 + 3)) < s.obj Obj.faultPermRecur 0) ∧
    ((portState lkUp []).setField Obj.linkState 0 4 4 8).lanes 0 = 2 ^ 3 ∧
    (stepState 1 0 {}).stepping = true ∧ (portState lkRetraining []).portState 0 = lkRetraining ∧
    (let s := portState lkDown []
     s.portState 0 ≠ lkRetired ∧ s.portState 0 ≠ lkUnused ∧ s.unusedPort 0 = false ∧ s.linksTrain = true ∧
     s.goodLanes 0 ≠ 0 ∧ (s.port 0).cable = false) := by
  decide +kernel

theorem witness_TimeIsMeasuredMarkedAndCopied :
    (let s := (portState lkUp []).setField Obj.timeState 0 0 4 tsLocked
     let s := s.setPortState 3 lkUp
     s.up = true ∧ s.receives 3 = true ∧ s.link.ports.length = 8 ∧ s.isTimeMaster = false ∧ s.timeParent.1 = some 3 ∧
     s.timeState = tsLocked ∧ ¬((16 : W64) = 0 ∧ (0 : W64) = 0) ∧
     (timeOffset 16 32 100 (s.stamp 0)).2.natAbs < 1024 ∧ 1024 ≤ (timeOffset 16 0x100000 100 (s.stamp 0)).2.natAbs) ∧
    (∀ a ∈ [false, true],
      let s := { onState.setObj Obj.timeSource 0 2 with
        time := { now := 5000, aligned := a }, pins := { lastMark := some (if a then 2500 else 0) } }
      (∀ m ∈ s.pins.lastMark, m + 2500 ≤ s.time.now) ∧ s.isTimeMaster = true ∧ s.obj Obj.timeSource 0 = 2 ∧
      s.time.aligned = a) ∧
    onState.obj Obj.timeSource 0 ≠ 2 ∧
    (let s : State := { onState with time := { now := 5000 }, pins := { lastMark := some 2501 } }
     s.pins.lastMark = some 2501 ∧ s.time.now < 2501 + 2500) ∧
    (let s := { (onState.setObj Obj.moduleState 0 stReady).setObj Obj.markOutMode 0 1 with time := { now := 2 * grainsPerSecond } }
     s.mode ≠ stBoot ∧ s.obj Obj.markOutMode 0 = 1 ∧ s.time.now % grainsPerSecond = 0) ∧
    (let s := { (stepState 4 0 { commitTime := 7 }).setObj Obj.markOutMode 0 2 with time := { now := 7 } }
     s.mode ≠ stBoot ∧ s.obj Obj.markOutMode 0 = 2 ∧ s.phase = 4 ∧ s.time.now = s.step.commitTime) := by
  decide +kernel

/-- A member of a chain of three at this position, stepping before the decision, with port 0 up. -/
def memberState (pos : Nat) : State := inGrid ((stepState 3 0 {}).setPortState 0 lkUp) 3 1 pos 0 7 3

theorem witness_TimeIsMeasuredMarkedAndCopied_advance :
    0 < ({ still := 1 } : Time).still ∧ Time.direction {} false = 0 ∧ Time.direction { rate := 1 } true ≠ 0 ∧
    (∀ t ∈ [({ slew := 15, slewPhase := 623 } : Time), { slew := -1, slewPhase := 624 }],
      t.still = 0 ∧ t.direction false ≠ 0 ∧ (t.direction false = 1 ∨ t.direction false = -1) ∧
      (t.slewPhase + 1 < 625 ↔ t.slew = 15)) := by
  decide +kernel

theorem witness_MembershipFollowsLossesLeavesAndJoins :
    (let s := memberState 1
     s.Arrives 0 hdr0 ∧ s.link.member = true ∧ s.lostEnd (some 0) 0 4 3 = 4 ∧ s.lostEnd (some 0) 0 2 2 = 3 ∧
     s.link.recorded.contains ((0 : BitVec 5).toNat, (4 : BitVec 6).toNat) = false ∧
     s.link.recorded.contains ((0 : BitVec 5).toNat, (2 : BitVec 6).toNat) = false ∧
     bitAt s.liveMap (4 - 1) = false ∧ (3 ≠ 0 ∧ bitAt s.liveMap (3 - 1) = true) ∧ s.isGridHead = true ∧ s.undecided = true ∧
     s.link.queries = 0 ∧ s.stepCount < 2 ^ 64 ∧ s.without 3 < 2 ^ 32 ∧ bitAt (s.without 3) (s.myPos - 1) = true ∧
     0 < s.myPos ∧ s.link.reweaving = false ∧ epochOlder s.epoch (32767 : W16).toNat = true ∧
     epochOlder s.epoch (65535 : W16).toNat = false ∧
     bitAt (1 : W32).toNat (s.myPos - 1) = true ∧ bitAt (6 : W32).toNat (s.myPos - 1) = false) ∧
    (let s := memberState 1
     let s := { s with link := { s.link with recorded := [(0, 4)] } }
     s.link.recorded.contains ((0 : BitVec 5).toNat, (4 : BitVec 6).toNat) = true) ∧
    (let s := (memberState 2).setPortState 3 lkUp
     s.lostEnd (some 0) 0 3 2 = 3 ∧ bitAt s.liveMap (3 - 1) = true ∧ s.isGridHead = false ∧ ¬(s.myChain = 0 ∧ 3 = s.head) ∧
     s.fromHead 0 = false ∧ s.headPathBroken = false ∧ s.towardsHead = some .prev ∧ s.livePort .prev = some 3) ∧
    (let s := memberState 1
     let s := { s with link := { s.link with member := false } }
     s.link.member = false ∧ s.link.reweaving = false ∧ bitAt (6 : W32).toNat (s.myPos - 1) = false) := by
  unfold State.Arrives
  decide +kernel

/-- A TOP request of master 1 for an object row, SEQ 1, SESSION 2. -/
def req (id row len : Nat) (data : List Byte) : TopReq :=
  { frameOk := true, reservedZero := true, version := 1, master := 1, seq := 1, session := 2
    index := BitVec.ofNat 16 (id / 256), subindex := BitVec.ofNat 8 id, flags := 0, row := BitVec.ofNat 32 row, offset := 0
    length := BitVec.ofNat 16 len, arg := 0, data }

/-- A module in this state with the host's link up, its address set, and master 1's session 2 open. -/
def servedState (mode : Nat) : State :=
  let s := (onState.setObj Obj.moduleState 0 mode).setObj Obj.chainAddress 0 3
  { s with host := { linkUp := true }
           dict := { s.dict with masters := [{}, { session := some 2 }, {}, {}, {}] } }

theorem witness_AddressesShapeAndReweaveAreCommanded :
    (let s := onState.setObj Obj.moduleState 0 stUnaddressed
     let r := { req 0 0 0 [] with arg := 32 }
     s.dictServed = true ∧ reqDiscarded r = false ∧ s.keptAnswer r = none ∧ s.obj Obj.chainAddress 0 = 0 ∧
     1 ≤ r.arg.toNat % 256 ∧ r.arg.toNat % 256 ≤ 32 ∧ r.reservedZero = true ∧ r.flags.toNat ≤ 3 ∧ s.dict.masters.length = 5 ∧
     s.mode = stUnaddressed) ∧
    (let s := servedState stReady
     s.dictServed = true ∧ s.keptAnswer (req 0 0 0 []) = none ∧ s.obj Obj.chainAddress 0 ≠ 0) ∧
    (∀ m : MasterNo, ∀ mode ∈ [stReady, stLoaded],
      let s := servedState mode
      s.dictServed = true ∧ s.sec.recovery = false ∧ s.dict.lockOwner = none ∧ s.dict.voteLost = [] ∧
      (m.val = 0 → s.host.linkUp = true) ∧ (m.val ≠ 0 → s.obj Obj.chainAddress 0 ≠ 0) ∧ s.mode = mode) ∧
    (31 : Byte).toNat ≤ 31 ∧ 1 ≤ (32 : Byte).toNat ∧ (32 : Byte).toNat ≤ 32 ∧
    (let s := (inGrid (servedState stRecover) 2 1 1 0 2 1).setPortState 0 lkUp
     let s := { s with prog := { loaded := true }, link := { s.link with member := false } }
     s.link.reweaving = false ∧ s.canWeave = true ∧ s.mode = stRecover ∧ s.link.member = false) := by
  decide +kernel

theorem witness_ReadsDescribesAndEchoesAnswer :
    (let s := servedState stReady
     let r := req Obj.stepMicrobatches 0 4 []
     s.Serves r) ∧
    (objInfo? (reqId (req Obj.stepMicrobatches 0 4 []))).any (fun o =>
      decide (o.access ≠ 2 ∧ 0 < o.rows ∧ o.rowBytes = 4)) = true ∧ (servedState stReady).dict.copies = [] ∧
    (∀ c ∈ [(1, 2), (3, 3)],
      let s := servedState stReady
      let s := { s with dict := { s.dict with copies := [(objKey Obj.stepMicrobatches 0, c)] } }
      (objInfo? Obj.stepMicrobatches).map (fun o => (o.access != 2 && o.vote && decide (0 < o.rows ∧ o.rowBytes = 4))) = some true ∧
      tget s.dict.copies (objKey Obj.stepMicrobatches 0) = some c ∧
      s.voteFailed Obj.stepMicrobatches 0 = decide (c = (1, 2)) ∧ ¬(s.raw Obj.stepMicrobatches 0 = c.1 ∧ c.1 = c.2)) ∧
    objInfo? (reqId (req 0xFFFFFF 0 0 [])) = none ∧
    (let s := servedState stReady
     s.dictServed = true ∧ s.host.linkUp = true ∧ s.sec.recovery = false ∧
     (let offset : BitVec 27 := BitVec.ofNat 27 (Obj.stepMicrobatches / 256 * 2 ^ 11 + Obj.stepMicrobatches % 256 * 8)
      offset.toNat % 8 = 0 ∧ (objInfo? (offset.toNat / 2 ^ 11 * 256 + offset.toNat % 2 ^ 11 / 8)).any (fun o =>
        decide (isWide o = false ∧ o.access ≠ 2 ∧ o.rowBytes = 4 ∧ 0 < o.rows)) = true)) := by
  exact ⟨by unfold State.Serves; decide +kernel, by decide +kernel, by decide +kernel, by decide +kernel, by decide +kernel,
    by decide +kernel⟩

theorem witness_WritesWaitFlagsClearAndTheWindowMoves :
    (let r := req Obj.stepMicrobatches 0 4 [1, 0, 0, 0]
     (servedState stReady).Serves r ∧
     r.length.toNat = r.data.length ∧ r.offset = 0 ∧ r.flags = 0 ∧
     (objInfo? (reqId r)).any (fun o => decide (o.access = 3 ∧ r.row.toNat < o.rows ∧ r.data.length = o.rowBytes ∧
       0 < o.rowBytes ∧ o.rowBytes ≤ 1440 ∧ isWide o = false ∧
       (servedState stReady).valueBad o.id (leNat r.data) = false)) = true) ∧
    (servedState stReady).dict.lockOwner = none ∧ (servedState stReady).dict.voteLost = [] ∧
    (∀ q ∈ [1, 2],
      let s := servedState stReady
      let s := { s with dict := { s.dict with lockOwner := some q } }
      s.dict.lockWrites.length < 4096 ∧ s.lockBytes + 4 ≤ 2 ^ 18 ∧
      (q = (req 0 0 0 []).master.toNat ∨ q ≠ (req 0 0 0 []).master.toNat)) ∧
    (let s := (servedState stReady).setField Obj.dictCursor 0 40 24 Obj.stepMicrobatches
     let s := s.setObj Obj.dictWindow 0 1
     s.MayWrite 0 ∧
     (objInfo? s.cursor.1).any (fun o => decide (s.cursor.2 < o.rows ∧ 0 < o.rowBytes ∧ o.access = 3 ∧ s.dict.copies = [] ∧
       o.rowBytes ≤ 256 ∧ s.valueBad o.id (leNat (s.window.take o.rowBytes)) = false)) = true) := by
  exact ⟨⟨by unfold State.Serves; decide +kernel, by decide +kernel⟩, by decide +kernel, by decide +kernel,
    by decide +kernel, by unfold State.MayWrite; decide +kernel, by decide +kernel⟩

/-- The lock held by this master with these writes. -/
def lockedState (m : Nat) (ws : List LockWrite) : State :=
  let s := servedState stReady
  { s with dict := { s.dict with lockOwner := some m, lockWrites := ws } }

/-- A lock-pending write of STEP_MICROBATCHES. -/
def lockWrite : LockWrite := { id := Obj.stepMicrobatches, row := 0, data := [1, 0, 0, 0], master := 1 }

/-- A lock-pending write of GRID_CHAINS, which a module in RUN refuses. -/
def badWrite : LockWrite := { id := Obj.gridChains, row := 0, data := [1], master := 1 }

/-- A module in RUN that holds the refused write under master 1's lock. -/
def failingState : State :=
  { lockedState 1 [badWrite] with host := { linkUp := true } }.setObj Obj.moduleState 0 stRun

/-- The request of the lock tests. -/
def lockReq : TopReq := req 0 0 0 []

/-- The response of an earlier LOCK of that request. -/
def keptResp : TopResp := responseTo 4 lockReq 0 [] 0

/-- A module that keeps this response for master 1. -/
def keptState : State :=
  let s := servedState stReady
  { s with dict := { s.dict with masters := [{}, { session := some 2, kept := [(1, keptResp)] }, {}, {}, {}] } }

theorem witness_LocksAreTakenAndHeld :
    (servedState stReady).Serves lockReq ∧ (lockedState 1 [lockWrite]).Serves lockReq ∧ (lockedState 2 []).Serves lockReq ∧
    2 ≠ lockReq.master.toNat ∧ lockReq.master.toNat = 1 := by
  unfold State.Serves
  decide +kernel

theorem witness_LockLeases :
    (100 ≤ (100 : W16).toNat ∧ (60000 : W16).toNat ≤ 60000) ∧ (99 : W16) ≠ 0 ∧ (99 : W16).toNat < 100 ∧
    60000 < (60001 : W16).toNat := by decide

theorem witness_LockCommits :
    (lockedState 1 [lockWrite]).dict.voteLost = [] ∧
    (objInfo? lockWrite.id).any (fun o => decide (o.access = 3 ∧ lockWrite.data.length = o.rowBytes ∧ 0 < o.rowBytes)) = true ∧
    (((failingState.respond none).bump Obj.topRequests 1 1).firstFailing (tokenOf failingState.dict.lockWrites) 1
      failingState.dict.lockWrites).isSome = true := by decide +kernel

theorem witness_KeptResponses :
    keptState.dictServed = true ∧ reqDiscarded lockReq = false ∧ keptState.obj Obj.chainAddress 0 ≠ 0 ∧
    (keptState.master lockReq.master.toNat).session = some lockReq.session ∧
    (keptState.master lockReq.master.toNat).kept.find? (fun e => e.1 == lockReq.seq) = some (1, keptResp) := by decide +kernel

theorem witness_MirrorLocks :
    (lockedState 0 []).dictServed = true ∧ (lockedState 0 []).sec.recovery = false ∧ (lockedState 0 []).host.linkUp = true ∧
    (lockedState 0 []).dict.lockOwner = some 0 ∧ (lockedState 0 []).dict.lockWrites = [] := by decide +kernel

/-- A spindle site of bolt 5, column 15, row 11. -/
def siteUnit5 : UnitId := unitId lvSpindle (5 * 2 ^ 24 + 15 * 2 ^ 20 + 11 * 2 ^ 16)

theorem witness_SilentAndFailedUnitsAreRetired :
    (let s := stepState 1 0 { mbRunning := true }
     s.up = true ∧ s.mode = stRun ∧ s.step.mbRunning = true ∧ s.hasReported (unitId lvSpindle 0) = false ∧
     siteUnit5.level.toNat = lvSpindle ∧ bits siteUnit5.unit.toNat 24 6 = 5 ∧ bits siteUnit5.unit.toNat 20 4 = 15 ∧
     bits siteUnit5.unit.toNat 16 4 = 11 ∧ (s.logicalOf 5 15 11).isSome = true ∧ bits (s.obj Obj.cardingMap 5) (4 * 15) 4 = 15 ∧
     (∀ d ∈ s.faults.dueFence, ¬(d.1 = 5 ∧ d.2.1 = 15)) ∧
     s.field Obj.boltState (bits (unitId lvBolt 47).unit.toNat 0 6) 0 4 = 0 ∧ (unitId lvBolt 47).level.toNat = lvBolt ∧
     (unitId lvPort 7).level.toNat = lvPort ∧ s.portState (bits (unitId lvPort 7).unit.toNat 0 3) ≠ lkRetired) ∧
    (let r : Report := { time := 0, reporter := siteUnit5, unit := unitId lvSpindle 0, code := 0x1401, detail := 0 }
     let s : State := { onState with faults := { groups := [{ opened := 0, reports := [r] }] } }
     s.hasReported siteUnit5 = true) ∧
    (let s := (stepState 1 0 {}).setObj Obj.residence 0 (shardWord 2 0 8 1 1 2 + 2 * 2 ^ 145)
     let u := unitId lvSlowdev 0
     u.level.toNat = lvSlowdev ∧ 24 + bits u.unit.toNat 2 3 = 24 ∧ bits u.unit.toNat 0 2 = 0 ∧
     bitAt (s.retiredMap 24) 0 = false ∧ (s.redirect 24 0).any (fun u => decide (0 < u.2)) = true ∧ s.mode = stRun) := by
  decide +kernel

/-- One open report of unit 5 by another unit. -/
def groupState : State :=
  { onState with faults := { groups := [{ opened := 0, reports :=
      [{ time := 9, reporter := unitId lvBolt 3, unit := siteUnit5, code := 0x1401, detail := 0 }] }] } }

theorem witness_GroupsCloseInARootRecordAndSitesAreFenced :
    onState.faults.groups = [] ∧
    (groupState.up = true ∧ ∃ g r, groupState.faults.groups = [g] ∧ g.reports = [r] ∧ sameUnit r.reporter r.unit = false ∧
      groupState.faults.hard = [] ∧ groupState.faults.owed = []) ∧
    (let s := { (stepState 1 1 {}) with faults := { stopped := true, dueFence := [(47, 15, 12 + 16 * 2)] } }
     s.faults.dueFence = [((47 : BoltNo).val, (15 : Fin 16).val, (12 : Fin 13).val + 16 * 2)] ∧ s.mayFence = true ∧
     s.inOpenGroup (unitId lvSpindle (s.physUnit 47 15 12)) = false ∧ bits (s.obj Obj.cardingMap 47) (4 * 15) 4 = 15 ∧
     s.field Obj.boltState 47 0 4 = 0) := by
  exact ⟨rfl, ⟨rfl, _, _, rfl, rfl, by decide +kernel, rfl, rfl⟩, by decide +kernel⟩

/-- Pseudo-channel 2 of stack 1 is lost; with it the work values of a shard, and a neighbour has them. -/
def lostState : State :=
  let s := (inGrid (stepState 1 0 {}) 2 1 1 0 3 2).setObj Obj.residence 0 (shardWord 2 0 8 1 1 2)
  let s := { s with faults := { lost := [(1, 2)] } }
  { s with link := { s.link with copied := s.refillUnits } }

/-- Component 2 runs from a genuine image, component 3 has none. -/
def firmwareState (genuine : Bool) : State :=
  { onState with sec := { banks := List.replicate 2 (List.replicate 4 { header := 0, genuine }) } }

/-- A state that has lost a place and has no neighbour to refill it from. -/
def lostAlone : State := { stepState 1 0 {} with faults := { lost := [(1, 2)] } }

/-- The lost state with its descriptors rewritten. -/
def refilling : State := lostState.refillDesc

theorem witness_MembershipFollowsLossesLeavesAndJoins_joins :
    (∀ x ∈ [(7, 3, true), (3, 3, false), (5, 2, false)],
      let s := inGrid ((stepState 3 0 {}).setPortState 0 lkUp) 3 1 1 0 x.1 3
      s.Arrives 0 hdr0 ∧ s.link.member = true ∧ s.isGridHead = true ∧
      ¬((0 : BitVec 5).toNat = s.myChain ∧ (BitVec.ofNat 6 x.2.1).toNat = s.myPos) ∧ (0 : W64).toNat = s.obj Obj.loadedId 0 ∧
      bitAt s.liveMap ((BitVec.ofNat 6 x.2.1).toNat - 1) = x.2.2 ∧
      ((0 < 6 ∧ s.posAt (neighbourOf 0) = (BitVec.ofNat 6 x.2.1).toNat ∧ 0 = s.myChain) ↔ x.2.1 = 2)) ∧
    (let s := memberState 1
     (0 : BitVec 5).toNat = s.myChain ∧ (1 : BitVec 6).toNat = s.myPos ∧ (1 : W64).toNat ≠ s.obj Obj.loadedId 0) ∧
    (let s := inGrid (stepState 1 0 {}) 2 1 1 0 3 2
     let s := { s with link := { s.link with lostNeighbours := [.prev] } }
     s.hasPeer .next = true ∧ (∀ k ∈ [Neighbour.next, .prev, .columnLow, .columnHigh], k ≠ .next → s.hasPeer k = false) ∧
     1 < s.live.length) ∧
    (let s := (((memberState 2).setObj Obj.residence 5 (shardWord 2 0 8 1 1 2)).setObj Obj.moduleState 0 stRecover).setObj
       Obj.reweaveStatus 0 1
     let s := { s with link := { s.link with reweaving := true } }
     s.Arrives 0 hdr0 ∧ s.link.reweaving = true ∧ s.fromSource 0 5 = true ∧ (s.weavePhase = 1 ∨ s.weavePhase = 2) ∧
     (0 : BitVec 4) ≠ 8 ∧ s.copyExtent 5 0 = some (false, 2 ^ 36 + 0x1000, 4096) ∧ 4096 * (0 : BitVec 42).toNat < 4096 ∧
     (List.replicate 4096 (0 : Byte)).length = 4096) := by
  unfold State.Arrives
  decide +kernel

theorem witness_ReplaysAndLonelyLosses :
    onState.canReplay = false ∧
    ({ stepState 1 0 {} with faults := { stopped := true } } : State).canReplay = true ∧ onState.needsRefill = false ∧
    lostAlone.up = true ∧ lostAlone.needsRefill = true ∧ lostAlone.phase ≠ 4 ∧ lostAlone.refillDesc.hasSource = false := by
  decide +kernel

theorem witness_RefillsWithASource :
    lostState.up = true ∧ lostState.needsRefill = true ∧ lostState.phase ≠ 4 ∧ refilling.hasSource = true ∧
    refilling.refillShards.map (·.1) = [0] := by decide +kernel

theorem witness_RefillUnitsCopied : ∀ k ∈ refilling.refillUnits, k ∈ refilling.link.copied := by decide +kernel

theorem witness_RefillCrcsAgreeOrNot :
    refilling.refillShards.all (fun e =>
      (refilling.crcNow e.1 (refilling.refillGen e) < 2 ^ 64) && refilling.crcNow e.1 (refilling.refillGen e) != 1) = true := by
  decide +kernel

theorem witness_FirmwareRestartsOrNot :
    (∀ c ∈ [1, 2, 3], ((firmwareState true).restartFw c).isSome = true) ∧
    (firmwareState false).restartFw 1 = none ∧ (firmwareState false).field Obj.boltState 47 0 4 = 0 := by
  decide +kernel

/-- The load window on a target's unit at this GiB, in a module in READY with the host's link up. -/
def hostState (target unit gib : Nat) : State :=
  { onState.setObj Obj.moduleState 0 stReady with host := { linkUp := true } }.setObj Obj.loadWindow 0
    (target * 2 ^ 60 + unit * 2 ^ 55 + gib)

theorem witness_HostResetsAndTheLoadWindowActOnTheirOwn :
    (lockedState 0 []).up = true ∧ (lockedState 0 []).dict.lockOwner = some 0 ∧ onState.dict.lockOwner ≠ some 0 ∧
    (hostState 1 23 63).host.linkUp = true ∧
    (hostState 1 23 63).winRefused true ((hostState 1 23 63).winAddr (2 ^ 30 - 1)) 1 = true ∧
    (hostState 1 23 63).winRefused true ((hostState 1 23 63).winAddr 0) 1 = false ∧
    (hostState 2 7 511).winRefused false ((hostState 2 7 511).winAddr 0x1A000000) 1 = true ∧
    (hostState 0 0 7).winTarget = 0 ∧ (hostState 1 23 63).winTarget = 1 ∧ (hostState 2 7 510).winTarget = 2 ∧
    (hostState 1 23 63).winRefused false ((hostState 1 23 63).winAddr 0) 2 = false ∧
    (hostState 2 7 510).winRefused false ((hostState 2 7 510).winAddr (2 ^ 30 - 2)) 2 = false := by
  decide +kernel

/-- The bytes of a reduced image in which every site is absent: header and directory, GLOBAL with LS_LINE all ones, and
SITE_MAP. Its CRCs and IMAGE_ID were computed by R398 to R401 outside Lean. -/
def emptyImage : List Byte :=
  leBytes 192
    0x76def83300000000000004800000000000000440000000000000000200000000fb710a9d000000000000035400000000000000c0000000000000000125b1ab2c00000000000000000000000000000000000000000000000000000000000000000000000000000000000000000000000000000000000000000000000000000000000008c0000000800002000288bfa32d7c148665000000000000000000000000000000000000000000000000000000000000000131474d4952424f54 ++
    (List.replicate 8 0 ++ List.replicate 4 0xFF ++ List.replicate 840 0) ++ List.replicate 44 0 ++ List.replicate 1152 0xFF

/-- A store with these bytes from address 0. -/
def storeOf (l : List Byte) : Mem := (l.zipIdx.filter (fun e => e.1 != 0)).map (fun e => (e.2, e.1))

/-- A module in this state with an image staged. -/
def stagedState (mode : Nat) (l : List Byte) : State :=
  let s := servedState mode
  { s with host := { s.host with staging := storeOf l } }

/-- What the loader answers: a refusal's cause and index, or the identifier of an accepted image. -/
def verdictOf (s : State) : (Nat × Nat) ⊕ Nat :=
  match s.judge s.host.staging with
  | .inl c => .inl c
  | .inr i => .inr i.id_

set_option maxRecDepth 60000 in

theorem witness_AnImageIsAccepted :
    verdictOf ((stagedState stReady emptyImage).bump Obj.topRequests 1 1) = .inr 9853773925460510309 := by decide +kernel

theorem witness_ProgramsLoadRestartUnloadAndRun :
    (∀ mode ∈ [stReady, stStandby, stLoaded, stRun], (stagedState mode []).loadable = true) ∧
    verdictOf ((stagedState stReady []).bump Obj.topRequests 1 1) = .inl (0x10, 0) ∧
    (stepState 1 0 {}).loadable = false ∧
    (∀ mode ∈ [stReady, stLoaded, stRun],
      let s := stagedState mode []
      s.dictServed = true ∧ s.sec.recovery = false ∧ s.dict.lockOwner = none ∧ s.dict.voteLost = [] ∧
      s.host.linkUp = true ∧ s.obj Obj.chainAddress 0 ≠ 0 ∧ s.mode = mode ∧ s.stepping = false ∧ s.phase = 0 ∧
      s.prog.halted173 = false ∧ s.prog.unrunnable = false ∧ s.step.leaveAsked = false ∧ s.link.early = none) ∧
    ({ stagedState stRun [] with prog := { unrunnable := true } } : State).prog.unrunnable = true := by
  decide +kernel

/-- A module without power whose four images in both banks are these. -/
def unpowered (genuine : Bool) : State :=
  { State.reset with sec := { banks := List.replicate 2 (List.replicate 4 { header := 0, genuine }) } }

/-- A powered module with this history of its input and these rails off. -/
def supplied (p : Power) : State := { onState with power := { p with on := true } }

theorem witness_PowerComesGoesAndTrips :
    (State.reset.power.on = false ∧ State.reset.power.tripped = false ∧ 40000 ≤ 40000 ∧ 54000 ≤ 54000) ∧
    ((unpowered true).pickBank (unpowered true).sec.preferred 0).isSome = true ∧
    (unpowered false).pickBank (unpowered false).sec.preferred 0 = none ∧
    onState.up = true ∧ 5600 < (5601 : W16).toNat ∧ (5600 : W16).toNat ≤ 5600 ∧ (3799 : W16).toNat < 3800 ∧
    9 ≤ (supplied { below38 := 9 }).power.below38 ∧ (supplied { below38 := 8 }).power.below38 < 9 ∧
    3800 ≤ (3800 : W16).toNat ∧ (3999 : W16).toNat < 4000 ∧ 4000 ≤ (4000 : W16).toNat ∧ 5400 < (5401 : W16).toNat ∧
    onState.obj Obj.powerLimit 0 < (0xFFFFFFFF : W32).toNat ∧
    (supplied { railsOff := [47] }).power.railsOff.contains 47 = true ∧ onState.power.railsOff.contains 47 = false ∧
    onState.field Obj.boltState 47 0 4 = 0 := by
  decide +kernel

/-- A powered module whose core divisor is 8. -/
def slowed (p : Power) : State := (supplied p).setObj Obj.coreDiv 0 8

theorem witness_RailsThrottleAndHeatAreJudged :
    onState.power.railsOff.contains (95 % 48) = false ∧ onState.power.boost.contains 95 = false ∧
    onState.power.shunt.contains 95 = false ∧
    (([(0, 7), (153, 9)] : List (Fin 154 × W16)).map (·.1)).Nodup ∧ (([(0, 7), (47, 9)] : List (BoltNo × W64)).map (·.1)).Nodup ∧
    (slowed { req16 := true }).changing = false ∧
    (slowed { req16 := true }).obj Obj.coreDiv 0 < (slowed { req16 := true }).targetDiv ∧
    (slowed { allClear := 99 }).changing = false ∧
    (slowed { allClear := 99 }).targetDiv < (slowed { allClear := 99 }).obj Obj.coreDiv 0 ∧
    99 ≤ (slowed { allClear := 99 }).power.allClear ∧ (slowed { allClear := 99 }).requests = [] ∧
    (supplied { raising := some 6 }).changing = true ∧ onState.targetDiv = onState.obj Obj.coreDiv 0 ∧
    (supplied { raising := some 6 }).power.raising = some 6 ∧ onState.power.raising = none ∧
    (([(0, 85000), (767, 95000)] : List (Fin 768 × BitVec 32)).map (·.1)).Nodup ∧
    (([(0, 0xFFFFFFFF), (56, 105000)] : List (Fin 57 × BitVec 32)).map (·.1)).Nodup ∧
    105000 ≤ signed 32 105000 ∧ signed 32 104999 < 105000 ∧ signed 32 0xFFFFFFFF < 105000 ∧
    (∀ i : Fin 57, signed 32 (onState.obj Obj.dieTemp i.val) < 105000) ∧
    onState.field Obj.boltState (767 / 16) 0 4 = 0 := by
  decide +kernel

/-- B0 clocked from its neighbour in direction 0, B1 live and clocked. -/
def clocked : State := (onState.setObj Obj.clockParent 0 0).setObj Obj.clockParent 1 (16 + 0)

theorem witness_ClocksReparentAndFollowTheirReference :
    onState.up = true ∧ (clocked.newParent 0).isSome = true ∧ onState.newParent 0 = none ∧
    clocked.field Obj.boltState 0 0 4 = 0 ∧ (clocked.setField Obj.boltState 0 0 4 2).field Obj.boltState 0 0 4 ≠ 0 ∧
    (let s := onState.setObj Obj.clockRef 0 1
     (s.setObj Obj.refInOffset 0 50000).refWanted = true ∧ (s.setObj Obj.refInOffset 0 50000).refGood = true ∧
     (s.setObj Obj.refInOffset 0 50001).refGood = false ∧ (s.setObj Obj.refInOffset 0 0x80000000).refGood = false) ∧
    (onState.setObj Obj.refInOffset 0 0).refWanted = false := by
  decide +kernel

/-- A served module in this state with an image header installed everywhere, and these object rows of its keys. -/
def secured (mode nonce hash : Nat) : State :=
  let s := servedState mode
  { s with
    objs := [(Obj.serialNumber, 5), (Obj.debugNonce, nonce), (Obj.debugKeyHash, hash), (Obj.ownerKeyHash, hash)].foldl
      (fun m e => tput m (objKey e.1 0) e.2) s.objs
    sec := { banks := List.replicate 2 (List.replicate 4 { header := BitVec.ofNat 1024 (5 * 2 ^ 128), genuine := true }) } }

theorem witness_FirmwareIsInstalledAndAttested :
    (∀ mode ∈ [stReady, stQuiet, stSelftest, stRun],
      let s := secured mode 0 0
      s.dictServed = true ∧ s.sec.recovery = false ∧ s.dict.lockOwner = none ∧ s.dict.voteLost = [] ∧
      s.host.linkUp = true ∧ s.obj Obj.chainAddress 0 ≠ 0 ∧ s.mode = mode ∧
      s.mayInstall = decide (mode = stReady ∨ mode = stQuiet) ∧ s.stagedImage 0 = none) := by
  decide +kernel

/-- A token of kind 1. Its key and signature were made for its header so that both multipliers of the check are 1. -/
def token1 : BitVec 2048 :=
  0x32eeae4ebe54fd0beff059b0ab6b8c730645bc61ff2b1119f508bd0f25abaeb96ace0a5e9dcd0c69fcc4d0e23953a61932eeae4ebe54fd0beff059b0ab6b8c730645bc61ff2b1119f508bd0f25abaeb96ace0a5e9dcd0c69fcc4d0e23953a61912656e66144beb734c49dc54c4fca2c2dddd69c3271d6c60fd0b766a8342ba7acf446032c89a28126c69579ac6d48e7424e317cf4f8e358c61ba0d04135ea895d881a0f7b1ebb7c0b12f9673e65bd219dd6acdb47a1f3747c227ed589fecde640000000000000000000000000000000000000000000000000000000000000001000000000000000000000000000000050000000000000201314b544742445754

/-- A token of kind 2. Its key and signature were made for its header so that both multipliers of the check are 1. -/
def token2 : BitVec 2048 :=
  0x15c651e3d07631f85aedab475bad099506e0030c216138b0a82f6bc40b024fb057e7e01fcd619b4712671da571483e3315c651e3d07631f85aedab475bad099506e0030c216138b0a82f6bc40b024fb057e7e01fcd619b4712671da571483e334884140aa24d17d3bc2765078d4d9d4774b89cc28a7d24d8dc174d9dba7085ae61fb3b5ea28a32042e212a11fa2ee33a629664db454b170f7dfac9a34fedb2c03e2afe273d21180a29a889be8009f0a986d229468d9c80a21c6cef37fa164fd10000000000000000000000000000000000000000000000000000000000000003000000000000000000000000000000050000000000000002314b544742445754

/-- A token of kind 3. Its key and signature were made for its header so that both multipliers of the check are 1. -/
def token3 : BitVec 2048 :=
  0x52e53ec60b46c9fe7c3be109df7f75c7516285b6857f15bd8bdea2b30c2b5b86234d0dd5ad26746ac0ccd8d05daf1f1b52e53ec60b46c9fe7c3be109df7f75c7516285b6857f15bd8bdea2b30c2b5b86234d0dd5ad26746ac0ccd8d05daf1f1b881bacce2ca756ed173cce6bb3cfba31ce5554b411c2ac436d8fe26badcd9e45b3f3137eed7b1d5c9ce70267424230383640bf7523f5423058048ea4245d0e10358d8044f0f846d8d61235c25c89176d5dd38a5ae7427231f52c0b187bcfb5770000000000000000000000000000000000000000000000000000000000000004000000000000000000000000000000050000000000000003314b544742445754

theorem witness_DebugTokensAreGood :
    (secured stReady 1 0x8fab29f1a2407e47d7cd82724b19294f72a8ea3eda1c9a42f13a82ead4e54d1237ea387c290f8068ff51461ba8b1df7a).tokenGood
      token1.toNat = true ∧ bits token1.toNat 64 8 = 1 ∧ bits token1.toNat 72 8 = 2 := by decide +kernel

theorem witness_OwnerReleaseTokensAreGood :
    (secured stReady 3 0xf73b00506eeb23fc06e7e700d5e5d108c0c228cca1f1818777a18b130f9d71324805127e51b1411d41014e98af926488).tokenGood
      token2.toNat = true ∧ bits token2.toNat 64 8 = 2 := by decide +kernel

theorem witness_FieldClearTokensAreGood :
    (secured stReady 4 0xa2affe8a5ced8729c3b3fe9dc8c91ac1ef6017f37cf5257d42742c28ad2694f8d9b36b3f6dd302754e035025207008c).tokenGood
      token3.toNat = true ∧ bits token3.toNat 64 8 = 3 := by decide +kernel

theorem witness_TokensSettingsAndDebugPinsAreGuarded :
    (secured stReady 2 0).tokenGood token1.toNat = false ∧ (secured stReady 0 0).obj Obj.ownerKeyHash 0 = 0 ∧
    (secured stReady 0 7).obj Obj.ownerKeyHash 0 ≠ 0 ∧ (secured stReady 0 0).lowestSvn = 5 ∧
    (secured stReady 0 0).obj Obj.fwMinSvn 0 ≤ (5 : W32).toNat ∧ (5 : W32).toNat ≤ 5 ∧ 5 < (6 : W32).toNat ∧
    ((secured stReady 0 0).setObj Obj.fwMinSvn 0 2).obj Obj.fwMinSvn 0 = 2 ∧ (1 : W32).toNat < 2 ∧
    onState.up = true ∧ onState.obj Obj.debugState 0 ≠ 2 ∧ (onState.setObj Obj.debugState 0 2).obj Obj.debugState 0 = 2 := by
  decide +kernel

/-! ## Terms that well-formedness refuses -/

/-- A TOP request with this LENGTH's worth of data. -/
def reqOf (n : Nat) : TopReq :=
  { frameOk := true, reservedZero := true, version := 1, master := 1, seq := 0, session := 0, index := 0, subindex := 0,
    flags := 0, row := 0, offset := 0, length := 0, arg := 0, data := List.replicate n 0 }

/-- A header that is nothing but numbers. -/
def someHdr : FrameHdr :=
  { poison := false, nak := false, txseq := 0, ackseq := 0, ccred := 0, bcred := 0, srcPos := 0, srcChain := 0,
    srcPort := 0, step := 0, mepoch := 0 }

/-- A start-up that finds nothing. -/
def cleanStart : StartupOutcome :=
  { lostBolts := [], failedSites := [], waferFail := false, dieFail := false, memory := [], lanes := [], serviceRestarts := 0 }

theorem test_bad_line_past_the_store : (Instr.load ⟨0, 0⟩ 0 0 0 0 ⟨0, [98304]⟩).wellFormed = false := by decide +kernel

theorem test_bad_line_named_twice : (Instr.rsend ⟨0, 0⟩ 0 0 0 ⟨0, [3, 3]⟩).wellFormed = false := by decide +kernel

theorem test_hard_indicator_level_13 : (Instr.hardIndicator ⟨13, 0⟩ 0).wellFormed = false := by decide +kernel

theorem test_liveness_miss_reporter_level_15 : (Instr.livenessMiss ⟨15, 0⟩ ⟨1, 0⟩).wellFormed = false := by decide +kernel

theorem test_top_request_too_long : (Instr.write (reqOf 1441)).wellFormed = false := by decide +kernel

theorem test_bar0_read_of_no_bytes : (Instr.read (.bar0 0 0)).wellFormed = false := by decide +kernel

theorem test_bar0_read_past_the_bar : (Instr.read (.bar0 0x7FFFFFF 4)).wellFormed = false := by decide +kernel

theorem test_bar4_read_past_the_window : (Instr.loadWindowAccess (.rd 0x3FFFFFFF 2)).wellFormed = false := by decide +kernel

theorem test_bar4_write_past_the_window : (Instr.loadWindowAccess (.wr 0x3FFFFFFF [0, 0])).wellFormed = false := by
  decide +kernel

theorem test_lock_request_too_long : (Instr.lock (.top (reqOf 1441))).wellFormed = false := by decide +kernel

theorem test_bolt_lost_twice_in_one_start :
    (Instr.retry 0 { cleanStart with lostBolts := [(0, 3), (0, 4)] }).wellFormed = false := by decide +kernel

theorem test_lane_failed_twice_in_one_start :
    (Instr.assign (reqOf 0) false { cleanStart with lanes := [(0, 1), (0, 1)] }).wellFormed = false := by decide +kernel

theorem test_arbiter_past_its_kind : (Instr.arbiterDecision 5 1 []).wellFormed = false := by decide +kernel

theorem test_arbiter_class_past_its_kind : (Instr.arbiterDecision 4 0 [(2, 0)]).wellFormed = false := by decide +kernel

theorem test_arbiter_request_named_twice : (Instr.arbiterDecision 0 0 [(1, 0), (1, 0)]).wellFormed = false := by
  decide +kernel

theorem test_grant_watchdog_past_its_kind : (Instr.grantWatchdog 2 32).wellFormed = false := by decide +kernel

theorem test_doff_silence_named_twice : (Instr.doffWatchdogExpiry [⟨0, 0⟩, ⟨0, 0⟩]).wellFormed = false := by decide +kernel

theorem test_lea_block_named_twice : (Instr.leaFetch 0 0 [1, 1]).wellFormed = false := by decide +kernel

theorem test_bobbin_write_past_the_window : (Instr.bobbinWindowWrite 0xFFFFFFFF [0, 0]).wellFormed = false := by
  decide +kernel

theorem test_band_past_32_bits : (Instr.bandRepack 0 0 false (2 ^ 32)).wellFormed = false := by decide +kernel

theorem test_digest_report_too_long : (Instr.digestReport 0 someHdr (List.replicate 33 0)).wellFormed = false := by
  decide +kernel

theorem test_grad_frame_too_long : (Instr.gradFrame 0 someHdr 0 0 0 (List.replicate 1025 0)).wellFormed = false := by
  decide +kernel

theorem test_reweave_frame_too_long : (Instr.reweaveFrame 0 someHdr 0 0 0 (List.replicate 4097 0)).wellFormed = false := by
  decide +kernel

theorem test_refill_entry_named_twice : (Instr.refill [(0, 1), (0, 2)]).wellFormed = false := by decide +kernel

theorem test_object_write_too_long : (Instr.objectWrite 0 0 0 0 .whole (List.replicate 1441 0)).wellFormed = false := by
  decide +kernel

theorem test_rail_sampled_twice : (Instr.currentSample [(0, 1), (0, 2)] []).wellFormed = false := by decide +kernel

theorem test_bolt_sense_sampled_twice : (Instr.currentSample [] [(5, 1), (5, 2)]).wellFormed = false := by decide +kernel

theorem test_sensor_read_twice : (Instr.sensorRead [(0, 1), (0, 2)] []).wellFormed = false := by decide +kernel

theorem test_die_sensor_read_twice : (Instr.sensorRead [] [(9, 1), (9, 2)]).wellFormed = false := by decide +kernel

theorem test_plain_commands_are_well_formed :
    (Instr.halt ⟨0, 0⟩).wellFormed = true ∧ (Instr.write (reqOf 1440)).wellFormed = true ∧
      (Instr.grantWatchdog 2 31).wellFormed = true ∧ (Instr.retry 0 cleanStart).wellFormed = true := by decide +kernel

/-! ## Worked examples and vectors of the manual -/

/-- R69, tw24a-acc line 5. -/
theorem test_acc_vector : (Pair.mk 0x3F800000 0).addTerm 0x33000000 = ⟨0x3F800000, 0x33000000⟩ := by decide +kernel

/-- R69, tw24a-fold line 3. -/
theorem test_fold_vector : (Pair.mk 0x3F800000 0x34000000).fold = 0x3F800001 := by decide +kernel

/-- R69, tw24a-cvt fp32.bf16-rne lines 17 to 19. -/
theorem test_bf16_nearest_even :
    (convertAll 1 [(dec32 0x3F808000, .rne), (dec32 0x3F818000, .rne), (dec32 0x3F80A000, .rne)]).codes =
      [0x3F80, 0x3F82, 0x3F81] := by decide +kernel

/-- R69, tw24a-cvt fp32.bf16-sr lines 40 and 41. -/
theorem test_bf16_stochastic :
    (convertAll 1 [(dec32 0x3F80A000, .sr 0x5FFF), (dec32 0x3F80A000, .sr 0x6000)]).codes = [0x3F80, 0x3F81] := by
  decide +kernel

/-- R69, tw24a-cvt fp32.mxfp4_e2m1-sr lines 112 and 113: the element under a block scale of 1. -/
theorem test_e2m1_stochastic :
    (roundElem 7 (.sr 0x6666) (dec32 0x40266666)).code = 4 ∧ (roundElem 7 (.sr 0x6667) (dec32 0x40266666)).code = 5 := by
  decide +kernel

/-- R69, tw24a-cvt fp32.mxfp8_e4m3-rne lines 61 and 62: 500.0 saturates, an infinity is the NaN. -/
theorem test_e4m3_range :
    (roundElem 3 .rne (dec32 0x43FA0000)).code = 0x7E ∧ (roundElem 3 .rne (dec32 0x43FA0000)).sat = true ∧
      (roundElem 3 .rne (dec32 0x7F800000)).code = 0x7F ∧ (roundElem 3 .rne (dec32 0x7F800000)).nonfinite = true := by
  decide +kernel

/-- R69, tw24a-cvt fp32.fp16-rne line 90: 2^-25 is a tie that goes to zero, flushed. -/
theorem test_fp16_tie_to_zero :
    (roundElem 2 .rne (dec32 0x33000000)).code = 0 ∧ (roundElem 2 .rne (dec32 0x33000000)).flush = true := by decide +kernel

/-- The worked example of the numbers chapter: 100.0, -0.01, 0.5 and zeros to MXFP8 E4M3. -/
theorem test_mxfp8_block :
    let c := convertAll 3 (([0x42C80000, 0xBC23D70A, 0x3F000000] ++ List.replicate 29 0 : List W32).map (fun w => (dec32 w, Rnd.rne)))
    c.scales = [0x7D] ∧ c.codes = [0x7C, 0x92, 0x40] ++ List.replicate 29 0 := by decide +kernel

/-- The trace of the generator after round 1, key and counter zero. -/
theorem test_twist_round_1 :
    twistRounds 2 false ⟨0, 0, 0, 0, 0, 0⟩ =
      ⟨0xB219DA0C, 0x94BD26DA, 0x55D388FA, 0x68E31DA4, 0x6A52F49A, 0xD1C63B48⟩ := by decide +kernel

/-- The same trace after round 2. -/
theorem test_twist_round_2 :
    twistRounds 3 false ⟨0, 0, 0, 0, 0, 0⟩ =
      ⟨0x79830344, 0x0CF105DE, 0x5F44C2A6, 0x15D2FEDB, 0x1F7C6EE7, 0x3AA958EC⟩ := by decide +kernel

/-- The fabric chapter's example in plain mode: 2^24 + 1 at (1, y), then west, east, local at (2, y). -/
theorem test_plain_reduction_example :
    (combineAll false [combineAll false [⟨[0x4B800000], false⟩, ⟨[0x3F800000], false⟩], ⟨[0x3F800000], false⟩,
      ⟨[0xCB800000], false⟩]).words = [0x00000000] := by decide +kernel

/-- The same example in twin mode. -/
theorem test_twin_reduction_example :
    (combineAll true [combineAll true [⟨[0x4B800000, 0], false⟩, ⟨[0x3F800000, 0], false⟩], ⟨[0x3F800000, 0], false⟩,
      ⟨[0xCB800000, 0], false⟩]).words = [0x00000000, 0x40000000] := by decide +kernel

/-- The levels chapter's example: with column 5 of B18 whole, physical row 5 is logical spindle (37, 29). -/
theorem test_logical_spindle : (onState.setObj Obj.cardingMap 18 (2 ^ 64 - 1)).logicalOf 18 5 5 = some (37, 29) := by
  decide +kernel

/-- The same with physical row 3 of the column fenced: the spindle sits at physical row 6. -/
theorem test_logical_spindle_fenced :
    (onState.setObj Obj.cardingMap 18 (2 ^ 64 - 1 - 12 * 2 ^ 20)).logicalOf 18 5 6 = some (37, 29) ∧
      (onState.setObj Obj.cardingMap 18 (2 ^ 64 - 1 - 12 * 2 ^ 20)).logicalOf 18 5 3 = none := by decide +kernel

/-- One word of each class, its fields placed by the tables of R79 to R85. -/
theorem test_words_spell_their_instructions :
    Instr.ofWord p0 (0x02 * 2 ^ 120 + 1048575 * 2 ^ 100 + 3 * 2 ^ 84) = some (.loop p0 1048575 3) ∧
    Instr.ofWord p0 (0x04 * 2 ^ 120 + 9 * 2 ^ 104 + 31 * 2 ^ 99 + (2 ^ 20 - 2) * 2 ^ 79) = some (.branchG p0 9 31 (-2)) ∧
    Instr.ofWord p0 (0x10 * 2 ^ 120 + 2 ^ 119 + 2 * 2 ^ 117 + 1 * 2 ^ 112 + 2 * 2 ^ 108 + 7 * 2 ^ 105 + 15 * 2 ^ 100 + 31 * 2 ^ 95 +
      14 * 2 ^ 91) = some (.mma p0 true 2 1 2 7 15 31 14) ∧
    Instr.ofWord p0 (0x11 * 2 ^ 120 + 1 * 2 ^ 117 + 4 * 2 ^ 112 + 5 * 2 ^ 108 + 3 * 2 ^ 105 + 2 * 2 ^ 100 + 6 * 2 ^ 91 + 13 * 2 ^ 87 +
      40000 * 2 ^ 64 + 0x80000 * 2 ^ 28 + 4095 * 2 ^ 16) = some (.mmaPacked p0 false 1 4 5 3 2 6 13 40000 0x80000 4095 .clean) ∧
    Instr.ofWord p0 (0x23 * 2 ^ 120 + 16 * 2 ^ 115 + 1 * 2 ^ 110 + 2 * 2 ^ 105 + 7 * 2 ^ 102 + 0x80000 * 2 ^ 66 + 3 * 2 ^ 64 + 2 ^ 63) =
      some (.vwide p0 16 1 2 7 0x80000 3 true false) ∧
    Instr.ofWord p0 (0x31 * 2 ^ 120 + 4 * 2 ^ 116 + 9 * 2 ^ 111 + 0x80000 * 2 ^ 70 + 0x90000 * 2 ^ 34) =
      some (.store p0 4 9 0x80000 0x90000) ∧
    Instr.ofWord p0 (0x40 * 2 ^ 120 + 0 * 2 ^ 116 + 1 * 2 ^ 112 + 17 * 2 ^ 107 + 3 * 2 ^ 102 + 2 ^ 101 + 2 * 2 ^ 98 + 16 * 2 ^ 90) =
      some (.cvt p0 0 1 17 3 true false 2 16) ∧
    Instr.ofWord p0 (0x50 * 2 ^ 120 + 3 * 2 ^ 118 + 2 ^ 117 + 5 * 2 ^ 81 + 6 * 2 ^ 33 + 7 * 2) = some (.rctx p0 3 true 5 6 7) ∧
    Instr.ofWord p0 (0x52 * 2 ^ 120 + 1 * 2 ^ 118 + 31 * 2 ^ 113 + 17 * 2 ^ 105 + 65535 * 2 ^ 88) = some (.rmask p0 1 31 17 65535) ∧
    Instr.ofWord p0 (0x60 * 2 ^ 120 + 9 * 2 ^ 104 + 7 * 2 ^ 101 + 254 * 2 ^ 93 + 2 * 2 ^ 85) = some (.sopen p0 9 7 254 2) ∧
    Instr.ofWord p0 (0x72 * 2 ^ 120 + 3 * 2 ^ 118 + 4095 * 2 ^ 106 + 21 * 2 ^ 101 + 256 * 2 ^ 52) = some (.sendh p0 3 4095 21 256) ∧
    Instr.ofWord p0 (0x80 * 2 ^ 120 + 9 * 2 ^ 104 + 17 * 2 ^ 99 + 4 * 2 ^ 96 + 2 ^ 95 + 262143 * 2 ^ 41) =
      some (.rdecl p0 9 17 4 true 262143) ∧
    Instr.ofWord p0 (0x93 * 2 ^ 120 + 5 * 2 ^ 114 + 255 * 2 ^ 106 + 300 * 2 ^ 88) = some (.qmake p0 5 255 300) ∧
    Instr.ofWord p0 (0xA0 * 2 ^ 120 + 65535 * 2 ^ 104) = some (.doff p0 65535) ∧
    Instr.ofWord p0 (0xB0 * 2 ^ 120 + 31 * 2 ^ 115 + 7 * 2 ^ 112 + 4088 * 2 ^ 100) = some (.summary p0 31 7 4088) ∧
    Instr.ofWord p0 (0x05 * 2 ^ 120) = none ∧ Instr.ofWord p0 (0xC0 * 2 ^ 120) = none := by
  decide +kernel

/-- A bolt controller whose code memory begins with these words, in a running program. -/
def coreState (words : List Nat) (x : Bolt) : State :=
  { onState.setBolt 27 { x with
      progRunning := true, code := memPutNat [] 0 (4 * words.length) (packFields 32 words), codeLen := 4 * words.length } with
    step := { mbRunning := true } }

/-- addi x5, x0, -1; the compressed c.addi x5, 3; and ebreak, which traps with cause 3. -/
theorem test_bolt_core_steps :
    (let t := (coreState [0xFFF00293] {}).boltStep 27
     (t.bolt 27).reg 5 = 0xFFFFFFFFFFFFFFFF ∧ (t.bolt 27).pc = 4) ∧
    (let t := (coreState [0x028D] { regs := (List.replicate 32 0).set 5 4 }).boltStep 27
     (t.bolt 27).reg 5 = 7 ∧ (t.bolt 27).pc = 2) ∧
    (let t := (coreState [0x00100073] {}).boltStep 27
     (t.bolt 27).progRunning = false ∧ bits (t.obj Obj.boltProgTrap 27) 32 8 = 3) := by
  decide +kernel

/-- The scope chapter's bytes of CHAIN_TIME. -/
theorem test_chain_time_bytes : leBytes 8 0xEE6B2800 = [0x00, 0x28, 0x6B, 0xEE, 0x00, 0x00, 0x00, 0x00] := by decide +kernel

/-- The fields of a handle (R166): buffer 3, generation 5, 300 lines. -/
theorem test_handle_fields : mkHandle 3 5 300 = 0x0012C503 := by decide +kernel

end Sys2Proof.Tests
end

section
/-! SUPPORT. What the host's writes to the bobbin window and a message written into a result slot do to the state, and the
statement about both (O34). -/

namespace Sys2Proof.Machine

/-! ## Tables of lists, bytes and byte memory -/

@[simp] theorem getList_putList_self {α : Type} (m : SMap (List α)) (k : Nat) (l : List α) :
    getList (putList m k l) k = l := by
  unfold getList putList
  cases l <;> simp

theorem tget_putList_ne {α : Type} {k j : Nat} (h : k ≠ j) (m : SMap (List α)) (l : List α) :
    tget (putList m k l) j = tget m j := by
  unfold putList
  split
  · exact tget_tdel_ne h m
  · exact tget_tput_ne h m l

@[simp] theorem length_leBytes : ∀ n v : Nat, (leBytes n v).length = n
  | 0, _ => rfl
  | n + 1, v => by simp [leBytes, length_leBytes n]

/-- A read of just what was written. -/
theorem memRead_memWrite_self : ∀ (bs : List Byte) (m : Mem) (a : Nat), memRead (memWrite m a bs) a bs.length = bs
  | [], _, _ => rfl
  | b :: bs, m, a => by
    have first : memGet (memWrite (memPut m a b) (a + 1) bs) a = b := by
      rw [memGet_memWrite_out (.inl a.lt_succ_self), memGet_memPut, if_pos rfl]
    rw [List.length_cons, memRead, memWrite, first, memRead_memWrite_self bs]

theorem State.ifUp_of_up {s : State} (h : s.up = true) (f : State → State) : s.ifUp f = f s := if_pos h

/-! ## The bobbin window -/

/-- The slow-tier address of a byte of the bobbin window (R219, R381). -/
def windowAddr (o : Nat) : Nat := o / 2 ^ 29 * 2 ^ 39 + 0x7FE0000000 + o % 2 ^ 29

theorem windowAddr_inj {o p : Nat} : windowAddr o = windowAddr p ↔ o = p := by
  unfold windowAddr
  omega

/-- The byte of the window belongs to a declared slot's header and keeps its value (R6, R387). -/
def State.keepsAt (s : State) (o : Nat) : Bool :=
  s.bobbins.any (fun e => decide (e.2.base * 65536 ≤ o) && keepsByte (o - e.2.base * 65536))

/-- One byte of a host write to the window. -/
def State.putWindow (s : State) (o : Nat) (b : Byte) : State :=
  if s.keepsAt o ∨ 2 ^ 32 ≤ o then s else { s with slow := memPut s.slow (windowAddr o) b }

theorem State.writeWindow_cons (s : State) (o : Nat) (b : Byte) (bs : List Byte) :
    s.writeWindow o (b :: bs) = (s.putWindow o b).writeWindow (o + 1) bs := rfl

theorem State.putWindow_slow_only (s : State) (o : Nat) (b : Byte) :
    s.putWindow o b = { s with slow := (s.putWindow o b).slow } := by
  unfold State.putWindow
  split <;> rfl

@[simp] theorem State.keepsAt_putWindow (s : State) (o p : Nat) (b : Byte) : (s.putWindow o b).keepsAt p = s.keepsAt p := by
  rw [State.putWindow_slow_only]
  rfl

theorem State.memGet_putWindow (s : State) {o : Nat} (ho : o < 2 ^ 32) (b : Byte) (a : Nat) :
    memGet (s.putWindow o b).slow a = if a = windowAddr o ∧ s.keepsAt o = false then b else memGet s.slow a := by
  unfold State.putWindow
  by_cases hk : s.keepsAt o = true
  · simp [hk]
  · rw [if_neg (not_or.mpr ⟨hk, Nat.not_le.mpr ho⟩), memGet_memPut]
    simp [hk, eq_comm]

theorem State.memGet_putWindow_ne (s : State) {o a : Nat} (h : a ≠ windowAddr o) (b : Byte) :
    memGet (s.putWindow o b).slow a = memGet s.slow a := by
  unfold State.putWindow
  split
  · rfl
  · rw [memGet_memPut, if_neg (Ne.symm h)]

/-- A host write to the window changes the slow tier alone. -/
theorem State.writeWindow_slow_only : ∀ (bs : List Byte) (s : State) (o : Nat),
    s.writeWindow o bs = { s with slow := (s.writeWindow o bs).slow }
  | [], _, _ => rfl
  | b :: bs, s, o => by
    rw [State.writeWindow_cons]
    generalize ht : s.putWindow o b = t
    have first := s.putWindow_slow_only o b
    rw [ht] at first
    rw [State.writeWindow_slow_only bs t (o + 1)]
    generalize (t.writeWindow (o + 1) bs).slow = m
    rw [first]

/-- A host write leaves every byte outside the places it names. -/
theorem State.memGet_writeWindow_out {a : Nat} : ∀ (bs : List Byte) (s : State) (o : Nat),
    (∀ i, i < bs.length → a ≠ windowAddr (o + i)) → memGet (s.writeWindow o bs).slow a = memGet s.slow a
  | [], _, _, _ => rfl
  | b :: bs, s, o, h => by
    have rest : ∀ i, i < bs.length → a ≠ windowAddr (o + 1 + i) := fun i hi => by
      rw [Nat.add_right_comm]
      exact h (i + 1) (Nat.succ_lt_succ hi)
    rw [State.writeWindow_cons, State.memGet_writeWindow_out bs _ _ rest]
    exact s.memGet_putWindow_ne (h 0 bs.length.succ_pos) b

/-- A byte of a host write stands at its place, but where a header keeps its own. -/
theorem State.memGet_writeWindow {x : Byte} (bs : List Byte) (s : State) (o i : Nat) (h : o + bs.length ≤ 2 ^ 32)
    (hx : bs[i]? = some x) :
    memGet (s.writeWindow o bs).slow (windowAddr (o + i)) =
      if s.keepsAt (o + i) = true then memGet s.slow (windowAddr (o + i)) else x := by
  induction bs generalizing s o i with
  | nil => simp at hx
  | cons b bs ih =>
    rw [List.length_cons] at h
    rw [State.writeWindow_cons]
    cases i with
    | zero =>
      obtain rfl : b = x := by simpa using hx
      have later : ∀ i, i < bs.length → windowAddr (o + 0) ≠ windowAddr (o + 1 + i) := fun i _ => by
        rw [Ne, windowAddr_inj]
        omega
      rw [State.memGet_writeWindow_out bs _ _ later, State.memGet_putWindow s (by omega)]
      cases s.keepsAt o <;> simp
    | succ i =>
      have here : windowAddr (o + 1 + i) ≠ windowAddr o := by
        rw [Ne, windowAddr_inj]
        omega
      have shift : o + (i + 1) = o + 1 + i := by omega
      rw [shift, ih _ _ _ (by omega) (by simpa using hx), State.keepsAt_putWindow,
        State.memGet_putWindow_ne s here]

/-- BOBBIN_WINDOW_WRITE with the tiers powered and the host's link up. -/
theorem exec_bobbinWindowWrite {s : State} (hu : s.up = true) (ht : s.tiersReady = true) (hl : s.host.linkUp = true)
    (offset : W32) (data : List Byte) :
    exec (.bobbinWindowWrite offset data) s = .next (s.writeWindow offset.toNat data) := by
  have linked : s.hostUp = s := if_pos hl
  calc exec (.bobbinWindowWrite offset data) s
      = .next (s.ifUp (fun s => if s.tiersReady then s.hostUp.writeWindow offset.toNat data else s.hostUp)) := rfl
    _ = .next (s.writeWindow offset.toNat data) := by rw [State.ifUp_of_up hu, if_pos ht, linked]

/-! ## A transmission done at a destination -/

/-- A destination that has its copy changes the list of transmissions, and the queue of the spindle that waits for it. -/
theorem State.written_only (s : State) (id row : Nat) :
    s.written id row = { s with
      fabric := { s.fabric with sending := (s.written id row).fabric.sending }
      spindles := (s.written id row).spindles } := by
  unfold State.written State.putHandle
  dsimp only
  repeat' split
  all_goals rfl

/-- Without a handle no spindle changes, and the transmission loses this destination, or ends with it (R155). -/
theorem State.written_of_no_handle {s : State} {id row : Nat} {x : Sending} (hx : tget s.fabric.sending id = some x)
    (hh : x.handle = none) :
    (s.written id row).spindles = s.spindles ∧
      tget (s.written id row).fabric.sending id =
        if x.due.erase row = [] then none else some { x with due := x.due.erase row } := by
  unfold State.written
  simp only [hx, hh, List.isEmpty_iff]
  split <;> simp

/-! ## A message taken from behind a back port -/

/-- The lines of a message behind a port, in order. -/
def State.messageLines (s : State) (port id : Nat) : List Line :=
  ((getList s.fabric.portOut port).filter (fun f => f.id == id)).flatMap NetFlit.lines

/-- The bytes a message has, those of a poisoned line drawn freely. -/
def State.messageBytes (s : State) (port id : Nat) : List Byte :=
  ((s.messageLines port id).mapIdx (fun i l => l.bytes (s.free + 1) i)).flatten

/-- The message gone from behind its port. -/
def State.dropMessage (s : State) (port id : Nat) : State :=
  { s with fabric := { s.fabric with
      portOut := putList s.fabric.portOut port ((getList s.fabric.portOut port).filter (fun f => f.id != id)) } }

/-- The message in its result slot, before the fabric goes on. -/
def State.messageTaken (s : State) (k : Taken) (port id : Nat) : State :=
  (((s.dropMessage port id).drew 1).writeResult k (s.messageBytes port id)).written id (portSite port).row

theorem State.takeMessage_eq (s : State) (k : Taken) (port id : Nat) :
    s.takeMessage k port id = (s.messageTaken k port id).flow := rfl

/-- A message of lines without poison has their bytes. -/
theorem State.messageBytes_of_clean {s : State} {port id : Nat}
    (h : (s.messageLines port id).all (fun l => !l.poison) = true) :
    s.messageBytes port id = (s.messageLines port id).flatMap (fun l => leBytes 64 l.data.toNat) := by
  have clean : ∀ l ∈ s.messageLines port id, l.poison = false := by simpa using h
  unfold State.messageBytes
  rw [List.flatMap_def]
  congr 1
  apply List.ext_getElem
  · simp
  · intro i hi _
    rw [List.length_mapIdx] at hi
    simp [Line.bytes, clean _ (List.getElem_mem hi)]

theorem length_lineBytes (ls : List Line) : (ls.flatMap (fun l => leBytes 64 l.data.toNat)).length = 64 * ls.length := by
  simp [List.length_flatMap, Nat.mul_comm]

/-- After the result's bytes are written, the destination's completion moves only the transmissions and the spindles. -/
theorem State.messageTaken_only (s : State) (k : Taken) (port id : Nat) :
    s.messageTaken k port id = { ((s.dropMessage port id).drew 1).writeResult k (s.messageBytes port id) with
      fabric := { (s.dropMessage port id).fabric with sending := (s.messageTaken k port id).fabric.sending }
      spindles := (s.messageTaken k port id).spindles } :=
  State.written_only _ id (portSite port).row

@[simp] theorem State.messageTaken_portOut (s : State) (k : Taken) (port id : Nat) :
    (s.messageTaken k port id).fabric.portOut =
      putList s.fabric.portOut port ((getList s.fabric.portOut port).filter (fun f => f.id != id)) := by
  rw [State.messageTaken_only]
  rfl

/-- The payload goes after the bytes the slot has, as far as there is room (R391). -/
theorem State.messageTaken_slow (s : State) (k : Taken) (port id : Nat) :
    (s.messageTaken k port id).slow = memWrite s.slow (s.slotAddr k.slot + 256 + k.written)
      ((s.messageBytes port id).take ((s.bobbin k.slot).room - k.written)) := by
  rw [State.messageTaken_only]
  rfl

/-- The slot counts the bytes it has, and marks those it had no room for (R391). -/
theorem State.messageTaken_step (s : State) (k : Taken) (port id : Nat) :
    (s.messageTaken k port id).step = { s.step with slots := s.step.slots.map (fun x => if x.slot = k.slot then { k with
      written := k.written + min (s.messageBytes port id).length ((s.bobbin k.slot).room - k.written)
      overflow := k.overflow || decide ((s.bobbin k.slot).room - k.written < (s.messageBytes port id).length) } else x) } := by
  rw [State.messageTaken_only, Nat.min_comm, ← List.length_take]
  rfl

/-- Beyond the fabric, the step, the slow tier, the spindles and the places that do not read, only the counter of free
values moves. -/
theorem State.messageTaken_frame (s : State) (k : Taken) (port id : Nat) :
    s.OnlyRows noRows { s.messageTaken k port id with
      fabric := s.fabric, step := s.step, slow := s.slow, spindles := s.spindles
      faults := { (s.messageTaken k port id).faults with readErrs := s.faults.readErrs } } := by
  rw [State.messageTaken_only]
  exact State.OnlyRows.drew (n := 1)

/-- EVAL_RESULT_WRITE with the slot taken and a message of its role come out. -/
theorem exec_evalResultWrite {s : State} (hu : s.up = true) {slot : BitVec 12} {k : Taken} {port id : Nat}
    (hk : s.step.slots.find? (fun t => t.slot == slot.toNat && t.kind == bkEvalResult) = some k)
    (hm : s.leftMessage (s.bobbin k.slot).shape = some (port, id)) :
    exec (.evalResultWrite slot) s = .next (s.messageTaken k port id).flow := by
  show execEvalResultWrite slot s = _
  unfold execEvalResultWrite
  rw [State.ifUp_of_up hu]
  simp only [hk, hm, State.takeMessage_eq, done]

/-! ## The statement -/

/-- Settles O34: one lemma a clause, of the window's writes and of the message taken. -/
theorem theBobbinWindowIsWrittenByHostAndResults : Obligations.TheBobbinWindowIsWrittenByHostAndResults := by
  unfold Obligations.TheBobbinWindowIsWrittenByHostAndResults
  intro s hu
  constructor
  · intro offset data ht hl hlen
    exact ⟨_, exec_bobbinWindowWrite hu ht hl offset data, fun i x hx => State.memGet_writeWindow data s _ i hlen hx,
      fun a ha => State.memGet_writeWindow_out data s _ ha, State.writeWindow_slow_only data s _⟩
  · rintro slot k port id _ hk hm rfl hclean a room
    have hbytes := State.messageBytes_of_clean (s := s) hclean
    have hlen : (s.messageBytes port id).length = 64 * (s.messageLines port id).length := by
      rw [hbytes, length_lineBytes]
    have hslow := s.messageTaken_slow k port id
    refine ⟨s.messageTaken k port id, exec_evalResultWrite hu hk hm, ?_, ?_, ?_, ?_, ?_, ?_, s.messageTaken_frame k port id⟩
    · rw [State.messageTaken_portOut, getList_putList_self]
    · intro q hq
      rw [State.messageTaken_portOut, tget_putList_ne (Ne.symm hq)]
    · exact fun x hx hh => State.written_of_no_handle hx hh
    · have hread := memRead_memWrite_self ((s.messageBytes port id).take room) s.slow a
      rw [List.length_take, Nat.min_comm, hlen, ← hslow, hbytes] at hread
      exact hread
    · intro b hb
      rw [hslow]
      refine memGet_memWrite_out (hb.imp_right (le_trans ?_))
      exact Nat.add_le_add_left (List.length_take_le _ _) a
    · have hstep := s.messageTaken_step k port id
      rw [hlen] at hstep
      exact hstep

end Sys2Proof.Machine
end

section
/-! SUPPORT. How the hold is raised, carried from site to site, counted down and released, how a flit is marked late, and the
statement about them (O26). -/

namespace Sys2Proof.Machine

/-! ## Counters of a known width -/

/-- A counter advanced, where the width of its object is known. -/
theorem State.obj_bump_of_bits {id w : Nat} (h : objBits id = w) (s : State) (row n : Nat) :
    (s.bump id row n).obj id row = satAdd w (s.obj id row) n := by
  rw [State.obj_bump_self, h]

theorem vc_row_lt (vc : BitVec 2) : vc.toNat < 2 ^ 20 := by omega

/-! ## Late flits -/

/-- The oldest flit of a buffer marked late, where every buffer of its channel before it is empty. -/
theorem Router.markLate_of_first {r : Router} {vc i : Nat} {f : NetFlit} {fs : List NetFlit} (hi : i < 6)
    (hb : getList r.bufs (4 * i + vc) = f :: fs) (hf : f.late = false)
    (before : ∀ j, j < i → getList r.bufs (4 * j + vc) = []) :
    r.markLate vc = some { r with bufs := tput r.bufs (4 * i + vc) ({ f with late := true } :: fs) } := by
  have split : ∀ i, i < 6 → [0, 1, 2, 3, 4, 5] = List.range i ++ i :: List.range' (i + 1) (5 - i) := by decide
  have first : [0, 1, 2, 3, 4, 5].findSome?
      (fun i => (markFlit (getList r.bufs (4 * i + vc))).map (fun l => (4 * i + vc, l))) =
      some (4 * i + vc, { f with late := true } :: fs) := by
    refine List.findSome?_eq_some_iff.mpr ⟨_, i, _, split i hi, ?_, fun j hj => ?_⟩
    · simp [hb, markFlit, hf]
    · simp [before j (List.mem_range.mp hj), markFlit]
  unfold Router.markLate
  rw [first]

/-- With one spindle, which no hold stops, the flit marked late is its router's. -/
theorem State.markLate_single {s : State} {row vc : Nat} {x : Spindle} {r : Router} (hs : s.spindles = [(row, x)])
    (hh : s.heldAt row = false) (hr : x.router.markLate vc = some r) :
    ∃ u, s.markLate vc = some u ∧ u.spindles = [(row, { x with router := r })] := by
  refine ⟨s.setRouterAt row r, ?_, ?_⟩
  · simp [State.markLate, hs, hh, hr]
  · simp [State.setRouterAt, State.setAt, State.at, hs, tput, tget]

/-- Marking a flit late changes the spindles alone. -/
theorem State.markLate_only {s u : State} {vc : Nat} (h : s.markLate vc = some u) :
    u = { s with spindles := u.spindles } := by
  obtain ⟨e, -, he⟩ := List.exists_of_findSome?_eq_some h
  split at he
  · cases he
  · obtain ⟨r, -, rfl⟩ := Option.map_eq_some_iff.mp he
    rfl

theorem exec_flitLate {s : State} (hu : s.up = true) (vc : BitVec 2) :
    exec (.flitLate vc) s = .next (((s.markLate vc.toNat).map (·.bump Obj.fabricLate vc.toNat 1)).getD s) := by
  show execFlitLate vc s = _
  unfold execFlitLate
  rw [State.ifUp_of_up hu]
  cases s.markLate vc.toNat <;> rfl

/-- R151: the flit marked late is counted against its channel. -/
theorem flitLate_counts {s u : State} (hu : s.up = true) {vc : BitVec 2} (hm : s.markLate vc.toNat = some u) :
    ∃ t, exec (.flitLate vc) s = .next t ∧
      t.obj Obj.fabricLate vc.toNat = satAdd 64 (s.obj Obj.fabricLate vc.toNat) 1 ∧ t.spindles = u.spindles ∧
      s.OnlyRows (oneRow Obj.fabricLate vc.toNat) { t with spindles := s.spindles } := by
  have only := State.markLate_only hm
  have counted : exec (.flitLate vc) s = .next (u.bump Obj.fabricLate vc.toNat 1) := by
    rw [exec_flitLate hu, hm]
    rfl
  generalize u.spindles = x at only
  subst only
  refine ⟨_, counted, State.obj_bump_of_bits (by decide) _ _ _, rfl, ?_⟩
  exact State.OnlyRows.bump (s := s) (n := 1) (vc_row_lt vc) ⟨rfl, rfl⟩

/-! ## Raising the hold -/

theorem State.raised_raiseHold (s : State) (kind number source : Nat) (entry : List Nat) (cost : Nat) :
    s.Raised kind number source entry cost (s.raiseHold kind number source entry cost) :=
  ⟨State.obj_bump_of_bits (by decide) s 0 1, rfl, State.OnlyRows.bump (s := s) (n := 1) (by decide) ⟨rfl, rfl⟩⟩

/-- A lea that is late while its stream's port is held raises nothing: its due cycle has not passed (R210). -/
theorem exec_leaLate_of_held {s : State} (hu : s.up = true) {stream : W16} {r : StreamRow} {l : Lea}
    (hr : s.streamRow? stream.toNat = some r) (hl : (s.engine stream.toNat).leas.find? Lea.canBeLate = some l)
    (held : s.isHeld (siteOfPort r.port) = true) (blocker : Option Site) : exec (.leaLate stream blocker) s = .next s := by
  show execLeaLate stream blocker s = _
  unfold execLeaLate
  rw [State.ifUp_of_up hu]
  simp only [hr, hl, held, done, if_true]

/-- Kind and number of the origin of a late lea: its Dudin die until its data are complete, then the spindle that withheld
credit, if any (R215). -/
def Lea.origin (l : Lea) (die : Nat) (blocker : Option Site) : Nat × Nat :=
  if l.fetched then (blocker.map (fun p => (hoSpindle, p.row))).getD (hoDudin, die) else (hoDudin, die)

theorem Lea.origin_none (l : Lea) (die : Nat) : l.origin die none = (0, die) := by
  simp [Lea.origin]

theorem Lea.origin_of_unfetched {l : Lea} (h : l.fetched = false) (die : Nat) (p : Site) :
    l.origin die (some p) = (0, die) := by
  simp [Lea.origin, h]

theorem Lea.origin_of_fetched {l : Lea} (h : l.fetched = true) (die : Nat) (p : Site) :
    l.origin die (some p) = (3, p.row) := by
  simp [Lea.origin, h]

/-- Else the lea raises the hold at the site of the port, against its origin (R196, R208, R215). -/
theorem exec_leaLate_of_free {s : State} (hu : s.up = true) {stream : W16} {r : StreamRow} {l : Lea}
    (hr : s.streamRow? stream.toNat = some r) (hl : (s.engine stream.toNat).leas.find? Lea.canBeLate = some l)
    (free : s.isHeld (siteOfPort r.port) = false) (blocker : Option Site) :
    exec (.leaLate stream blocker) s = .next (s.raiseHold (l.origin r.die blocker).1 (l.origin r.die blocker).2 0
      [(siteOfPort r.port).row] 1) := by
  show execLeaLate stream blocker s = _
  unfold execLeaLate
  rw [State.ifUp_of_up hu]
  cases blocker with
  | none => simp [hr, hl, free, done, Lea.origin_none]
  | some p =>
    cases fetched : l.fetched with
    | false => simp [hr, hl, free, fetched, done, Lea.origin_of_unfetched fetched]
    | true => simp [hr, hl, free, fetched, done, Lea.origin_of_fetched fetched]

/-! ## The wave of a raise -/

@[simp] theorem waveCycles_self (a : Nat) : waveCycles a a = 0 := by
  simp [waveCycles, crossings]

/-- The least of some numbers is no larger than the start or than any of them. -/
theorem foldl_min_le (f : Nat → Nat) : ∀ (l : List Nat) (m : Nat),
    l.foldl (fun m e => min m (f e)) m ≤ m ∧ ∀ e ∈ l, l.foldl (fun m e => min m (f e)) m ≤ f e
  | [], m => ⟨Nat.le_refl m, by simp⟩
  | a :: l, m => by
    obtain ⟨start, rest⟩ := foldl_min_le f l (min m (f a))
    rw [List.foldl_cons, List.forall_mem_cons]
    exact ⟨start.trans (Nat.min_le_left ..), start.trans (Nat.min_le_right ..), rest⟩

/-- R209: an entry site takes the count left by the cycles into it. -/
theorem HoldRaise.countAt_of_entry {r : HoldRaise} {row : Nat} (h : row ∈ r.entry) : r.countAt row = 512 - r.cost := by
  have near := (foldl_min_le (waveCycles · row) r.entry 512).2 row h
  rw [waveCycles_self, Nat.le_zero] at near
  unfold HoldRaise.countAt
  rw [near, Nat.add_zero]

/-- R209: from a single entry site each cycle of the way takes one from the count. -/
theorem HoldRaise.countAt_of_single {r : HoldRaise} {row e : Nat} (h : r.entry = [e]) (hw : waveCycles e row ≤ 512) :
    r.countAt row = 512 - (r.cost + waveCycles e row) := by
  simp [HoldRaise.countAt, h, Nat.min_eq_right hw]

/-! ## Arrival at a site -/

/-- A raise that has reached one more site. -/
def HoldRaise.reach (r : HoldRaise) (row : Nat) : HoldRaise := { r with reached := r.reached ||| 2 ^ row }

theorem mapIdx_if_at_append {α : Type} (g : α → α) (as bs : List α) (a : α) :
    (as ++ a :: bs).mapIdx (fun k x => if k = as.length then g x else x) = as ++ g a :: bs := by
  have before : as.mapIdx (fun k x => if k = as.length then g x else x) = as :=
    List.mapIdx_eq_iff.mpr fun i => by
      cases h : as[i]? with
      | none => rfl
      | some x => simp [(List.getElem?_eq_some_iff.mp h).1.ne]
  have after : bs.mapIdx (fun k x => if k + 1 + as.length = as.length then g x else x) = bs :=
    List.mapIdx_eq_iff.mpr fun i => by simp
  rw [List.mapIdx_append, List.mapIdx_cons, before, after, if_pos (Nat.zero_add _)]

/-- HOLD_ARRIVE at the first raise that comes to the site with this count. -/
theorem exec_holdArrive_of_first {s : State} (hu : s.up = true) {p : Site} {count : Fin 513} {rs qs : List HoldRaise}
    {r : HoldRaise} (hs : s.hold.raises = rs ++ r :: qs) (hc : r.comesTo p = true) (hn : r.countAt p.row = count.val)
    (first : ∀ q ∈ rs, ¬ (q.comesTo p = true ∧ q.countAt p.row = count.val)) :
    exec (.holdArrive p count) s = .next
      (({ s with hold := { s.hold with raises := rs ++ r.reach p.row :: qs } } : State).holdSite p count.val) := by
  have found : (rs ++ r :: qs).findIdx? (fun r => r.comesTo p && r.countAt p.row == count.val) = some rs.length := by
    have skipped : rs.findIdx? (fun r => r.comesTo p && r.countAt p.row == count.val) = none := by
      simpa [List.findIdx?_eq_none_iff] using first
    simp [List.findIdx?_append, skipped, List.findIdx?_cons, hc, hn]
  show execHoldArrive p count s = _
  unfold execHoldArrive
  rw [State.ifUp_of_up hu]
  simp only [hs, found, done]
  exact congrArg (fun l => done (({ s with hold := { s.hold with raises := l } } : State).holdSite p count.val))
    (mapIdx_if_at_append (·.reach p.row) rs qs r)

/-- No raise comes to the site with this count: nothing happens. -/
theorem exec_holdArrive_of_none {s : State} (hu : s.up = true) {p : Site} {count : Fin 513}
    (h : ∀ r ∈ s.hold.raises, ¬ (r.comesTo p = true ∧ r.countAt p.row = count.val)) :
    exec (.holdArrive p count) s = .next s := by
  have none : s.hold.raises.findIdx? (fun r => r.comesTo p && r.countAt p.row == count.val) = none := by
    simpa [List.findIdx?_eq_none_iff] using h
  show execHoldArrive p count s = _
  unfold execHoldArrive
  rw [State.ifUp_of_up hu]
  simp only [none, done]

@[simp] theorem State.obj_skid (s : State) :
    s.skid.obj Obj.skidPeak 0 = max (s.obj Obj.skidPeak 0) (Config.freeNat s.free % 41) := by
  unfold State.skid
  rw [State.obj_drew, State.obj_setObj_self]

theorem State.OnlyRows.skid (s : State) : s.OnlyRows (oneRow Obj.skidPeak 0) s.skid :=
  (State.OnlyRows.setObj (by decide) ⟨rfl, rfl⟩).trans .drew

/-- A site held in a state with another hold: the site takes the larger count, its spindle's last write is done, and SKID_PEAK
may rise to 40 (R209, R212, R213). -/
theorem State.holdSite_spec {s t : State} {h : Hold} {p : Site} {count : Nat}
    (ht : ({ s with hold := h } : State).holdSite p count = t) :
    t.hold = { h with counts := tput h.counts p.row (max count ((tget h.counts p.row).getD 0)) } ∧
    t.spindle p = { s.spindle p with nowWrote := none } ∧
    s.obj Obj.skidPeak 0 ≤ t.obj Obj.skidPeak 0 ∧ t.obj Obj.skidPeak 0 ≤ max 40 (s.obj Obj.skidPeak 0) ∧
    s.OnlySpindle p (oneRow Obj.skidPeak 0) { t with hold := s.hold } := by
  subst ht
  have peak : (({ s with hold := h } : State).holdSite p count).obj Obj.skidPeak 0 =
      max (s.obj Obj.skidPeak 0) (Config.freeNat s.free % 41) := s.obj_skid
  have drawn : Config.freeNat s.free % 41 < 41 := Nat.mod_lt _ (by decide)
  refine ⟨rfl, State.spindle_setSpindle .., ?_, ?_, ?_⟩
  · rw [peak]
    exact Nat.le_max_left ..
  · rw [peak]
    exact Nat.max_le.mpr ⟨Nat.le_max_right .., (Nat.le_of_lt_succ drawn).trans (Nat.le_max_left ..)⟩
  · exact (State.OnlyRows.skid s).atSpindle.trans (.setSpindle (x := { s.spindle p with nowWrote := none }))

/-! ## The divisor change of a throttle hold -/

/-- The counts of the held sites have come to the divisor change (R214). -/
def Hold.halfway (h : Hold) : Bool := !h.counts.isEmpty && h.counts.all (fun e => decide (e.2 ≤ 256))

theorem Hold.halfway_iff {h : Hold} : h.halfway = true ↔ h.counts ≠ [] ∧ ∀ e ∈ h.counts, e.2 ≤ 256 := by
  simp [Hold.halfway]

theorem exec_divisorChange {s : State} (hu : s.up = true) :
    exec .divisorChange s = .next (if s.hold.halfway then s.takeDiv else s) := by
  show execDivisorChange s = _
  unfold execDivisorChange
  rw [State.ifUp_of_up hu]
  rfl

theorem State.takeDiv_of_none {s : State} (h : s.hold.newDiv = none) : s.takeDiv = s := by
  simp only [State.takeDiv, h]

/-- The divisor taken: its object, its count, the hold's request and the supplies alone (R214, R445, R456). -/
theorem State.takeDiv_spec {s : State} {d : Nat} (h : s.hold.newDiv = some d) :
    s.takeDiv.obj Obj.coreDiv 0 = d ∧
    s.takeDiv.obj Obj.throttleChanges 0 = satAdd 64 (s.obj Obj.throttleChanges 0) 1 ∧
    s.takeDiv.hold = { s.hold with newDiv := none } ∧
    s.takeDiv.power = { s.power with vsetDiv := d, allClear := 0, settling := decide (s.obj Obj.coreDiv 0 < d) } ∧
    s.OnlyRows (Machine.rowsOf [Obj.coreDiv, Obj.throttleChanges]) { s.takeDiv with hold := s.hold, power := s.power } := by
  simp only [State.takeDiv, h]
  refine ⟨?_, ?_, rfl, rfl, ?_⟩
  · exact (State.obj_bump_ne (by decide)).trans (s.obj_setObj_self ..)
  · refine (State.obj_bump_of_bits (by decide : objBits Obj.throttleChanges = 64) (s.setObj Obj.coreDiv 0 d) 0 1).trans ?_
    rw [State.obj_setObj_ne (by decide)]
  · exact (State.OnlyRows.setObj (v := d) (by decide) (List.mem_cons_self)).trans
      (.bump (n := 1) (by decide) (List.mem_cons_of_mem _ List.mem_cons_self))

/-! ## The release of the held sites -/

/-- The skid contents of one row's router given back (R212). -/
def State.unskidAt (s : State) (row : Nat) : State := s.setRouterAt row (s.at row).router.unskid

theorem State.at_unskidAt (s : State) (row k : Nat) :
    (s.unskidAt row).at k = if row = k then { s.at k with router := (s.at k).router.unskid } else s.at k := by
  unfold State.unskidAt State.setRouterAt State.setAt State.at
  dsimp only
  rw [tget_tput]
  split
  next h => rw [h]; rfl
  next => rfl

/-- The skid contents of some rows' routers given back, one row after another. -/
def State.unskidRows (s : State) (m : SMap Nat) : State := m.foldl (fun t e => t.unskidAt e.1) s

theorem State.unskidRows_cons (s : State) (e : Nat × Nat) (m : SMap Nat) :
    s.unskidRows (e :: m) = (s.unskidAt e.1).unskidRows m := rfl

theorem State.unskidRows_only : ∀ (m : SMap Nat) (s : State),
    s.unskidRows m = { s with spindles := (s.unskidRows m).spindles }
  | [], _ => rfl
  | e :: m, s => State.unskidRows_only m (s.unskidAt e.1)

theorem State.tget_unskidRows_out {k : Nat} : ∀ (m : SMap Nat) (s : State), k ∉ m.map (·.1) →
    tget (s.unskidRows m).spindles k = tget s.spindles k
  | [], _, _ => rfl
  | e :: m, s, h => by
    obtain ⟨here, later⟩ : k ≠ e.1 ∧ k ∉ m.map (·.1) := by simpa using h
    exact (State.tget_unskidRows_out m (s.unskidAt e.1) later).trans (tget_tput_ne here.symm _ _)

theorem State.at_unskidRows_out {k : Nat} {m : SMap Nat} (h : k ∉ m.map (·.1)) (s : State) :
    (s.unskidRows m).at k = s.at k := by
  unfold State.at
  rw [State.tget_unskidRows_out m s h]

/-- Each router of rows that name none twice gives its own skid contents back. -/
theorem State.router_unskidRows {k : Nat} {m : SMap Nat} (s : State) (h : k ∈ m.map (·.1)) (nodup : (m.map (·.1)).Nodup) :
    ((s.unskidRows m).at k).router = (s.at k).router.unskid := by
  induction m generalizing s with
  | nil => simp at h
  | cons e m ih =>
    rw [List.map_cons] at h nodup
    obtain ⟨fresh, rest⟩ := List.nodup_cons.mp nodup
    rw [State.unskidRows_cons]
    by_cases here : e.1 = k
    · rw [State.at_unskidRows_out (here ▸ fresh), State.at_unskidAt, if_pos here]
    · have later : k ∈ m.map (·.1) := (List.mem_cons.mp h).resolve_left (Ne.symm here)
      rw [ih _ later rest, State.at_unskidAt, if_neg here]

/-- The state with other spindles and another hold. -/
def State.withSites (s : State) (x : SMap Spindle) (h : Hold) : State := { s with spindles := x, hold := h }

@[simp] theorem State.withSites_hold (s : State) (x : SMap Spindle) (h : Hold) : (s.withSites x h).hold = h := rfl
@[simp] theorem State.withSites_spindles (s : State) (x : SMap Spindle) (h : Hold) : (s.withSites x h).spindles = x := rfl
@[simp] theorem State.obj_withSites (s : State) (x : SMap Spindle) (h : Hold) (id row : Nat) :
    (s.withSites x h).obj id row = s.obj id row := rfl
@[simp] theorem State.setObj_withSites (s : State) (x : SMap Spindle) (h : Hold) (id row v : Nat) :
    (s.withSites x h).setObj id row v = (s.setObj id row v).withSites x h := rfl
@[simp] theorem State.bump_withSites (s : State) (x : SMap Spindle) (h : Hold) (id row n : Nat) :
    (s.withSites x h).bump id row n = (s.bump id row n).withSites x h := rfl
@[simp] theorem State.withSites_withSites (s : State) (x y : SMap Spindle) (h k : Hold) :
    (s.withSites x h).withSites y k = s.withSites y k := rfl

theorem State.OnlyRows.restored_withSites {ch : Nat → Nat → Prop} {s t : State} (h : s.OnlyRows ch t)
    (x : SMap Spindle) (k : Hold) : s.OnlyRows ch { t.withSites x k with hold := s.hold, spindles := s.spindles } := by
  obtain ⟨same, rows, bytes⟩ := h
  have restored : ({ t.withSites x k with hold := s.hold, spindles := s.spindles } : State) = t := by
    generalize t.objs = o at same
    generalize t.dict.copies = c at same
    generalize t.free = f at same
    subst same
    rfl
  rw [restored]
  exact ⟨same, rows, bytes⟩

theorem State.releaseAll_eq (s : State) :
    s.releaseAll = s.withSites (s.unskidRows s.hold.counts).spindles { s.hold with counts := [] } := by
  have only := State.unskidRows_only s.hold.counts s
  show ({ s.unskidRows s.hold.counts with hold := { (s.unskidRows s.hold.counts).hold with counts := [] } } : State) = _
  generalize (s.unskidRows s.hold.counts).spindles = x at only
  rw [only]
  rfl

/-! ## The attribution of the raises -/

theorem lateRow_mem (kind number : Nat) :
    (lateRow kind number).1 ∈ [Obj.lateDudin, Obj.lateWeft, Obj.latePort, Obj.lateSpindle, Obj.lateClock] ∧
      (lateRow kind number).2 ≤ number := by
  unfold lateRow
  repeat' split
  all_goals simp

theorem objBits_lateRow (kind number : Nat) : objBits (lateRow kind number).1 = 64 := by
  have all : ∀ id ∈ [Obj.lateDudin, Obj.lateWeft, Obj.latePort, Obj.lateSpindle, Obj.lateClock], objBits id = 64 := by decide
  exact all _ (lateRow_mem kind number).1

/-- The objects that collect lateness are neither HOLD_CYCLES nor HOLD_LAST. -/
theorem lateRow_ne_hold (kind number : Nat) :
    (lateRow kind number).1 ≠ Obj.holdCycles ∧ (lateRow kind number).1 ≠ Obj.holdLast := by
  have all : ∀ id ∈ [Obj.lateDudin, Obj.lateWeft, Obj.latePort, Obj.lateSpindle, Obj.lateClock],
      id ≠ Obj.holdCycles ∧ id ≠ Obj.holdLast := by decide
  exact all _ (lateRow_mem kind number).1

/-- The cycles by which a raise moves on the release scheduled before it (R215). -/
def HoldRaise.moved (r : HoldRaise) (releaseAt : Nat) : Nat := r.at_ + holdCycles - max r.at_ releaseAt

theorem HoldRaise.moved_zero (r : HoldRaise) : r.moved 0 = 512 := by
  unfold HoldRaise.moved holdCycles
  omega

theorem HoldRaise.moved_after {r q : HoldRaise} (h : r.at_ ≤ q.at_) :
    q.moved (max (r.at_ + holdCycles) 0) = min 512 (q.at_ - r.at_) := by
  unfold HoldRaise.moved holdCycles
  omega

/-- HOLD_LAST as a raise writes it (R217). -/
def HoldRaise.lastWord (r : HoldRaise) (moved : Nat) : Nat :=
  moved % 2 ^ 32 + r.source * 2 ^ 32 + r.number % 2 ^ 16 * 2 ^ 40 + r.kind * 2 ^ 56

/-- The object rows of an attribution written. -/
def State.charge (s : State) (r : HoldRaise) (moved : Nat) : State :=
  ((s.bump (lateRow r.kind r.number).1 (lateRow r.kind r.number).2 moved).bump Obj.holdCycles 0 moved).setObj
    Obj.holdLast 0 (r.lastWord moved)

/-- The rows an attribution moves. -/
def chargeRows (r : HoldRaise) : Nat → Nat → Prop := fun id row =>
  oneRow (lateRow r.kind r.number).1 (lateRow r.kind r.number).2 id row ∨ oneRow Obj.holdCycles 0 id row ∨
    oneRow Obj.holdLast 0 id row

section Charge

variable {r : HoldRaise} (hn : r.number < 2 ^ 16) (s : State) (n : Nat)
include hn

theorem HoldRaise.lateRow_row_lt : (lateRow r.kind r.number).2 < 2 ^ 20 := by
  have := (lateRow_mem r.kind r.number).2
  omega

theorem State.obj_charge_late :
    (s.charge r n).obj (lateRow r.kind r.number).1 (lateRow r.kind r.number).2 =
      satAdd 64 (s.obj (lateRow r.kind r.number).1 (lateRow r.kind r.number).2) n := by
  have row := HoldRaise.lateRow_row_lt hn
  obtain ⟨cycles, last⟩ := lateRow_ne_hold r.kind r.number
  unfold State.charge
  rw [State.obj_setObj_ne (objKey_ne_of_id (by decide) row last.symm),
    State.obj_bump_ne (objKey_ne_of_id (by decide) row cycles.symm), State.obj_bump_of_bits (objBits_lateRow ..)]

theorem State.obj_charge_holdCycles :
    (s.charge r n).obj Obj.holdCycles 0 = satAdd 64 (s.obj Obj.holdCycles 0) n := by
  have row := HoldRaise.lateRow_row_lt hn
  unfold State.charge
  rw [State.obj_setObj_ne (by decide), State.obj_bump_of_bits (by decide : objBits Obj.holdCycles = 64),
    State.obj_bump_ne (objKey_ne_of_id row (by decide) (lateRow_ne_hold ..).1)]

theorem State.OnlyRows.charge : s.OnlyRows (chargeRows r) (s.charge r n) :=
  ((State.OnlyRows.bump (HoldRaise.lateRow_row_lt hn) (.inl ⟨rfl, rfl⟩)).trans
    (.bump (by decide) (.inr (.inl ⟨rfl, rfl⟩)))).trans (.setObj (by decide) (.inr (.inr ⟨rfl, rfl⟩)))

end Charge

theorem State.obj_charge_holdLast (s : State) (r : HoldRaise) (n : Nat) :
    (s.charge r n).obj Obj.holdLast 0 = r.lastWord n := State.obj_setObj_self ..

theorem HoldRaise.lastWord_512 {r : HoldRaise} (hn : r.number < 2 ^ 16) :
    r.lastWord 512 = 512 + r.source * 2 ^ 32 + r.number * 2 ^ 40 + r.kind * 2 ^ 56 := by
  have cycles : 512 % 2 ^ 32 = 512 := rfl
  rw [HoldRaise.lastWord, Nat.mod_eq_of_lt hn, cycles]

theorem State.charge_withSites (s : State) (x : SMap Spindle) (h : Hold) (r : HoldRaise) (n : Nat) :
    (s.withSites x h).charge r n = (s.charge r n).withSites x h := by
  rw [State.charge, State.bump_withSites, State.bump_withSites, State.setObj_withSites, State.charge]

/-- A release scheduled, if it is later than the one scheduled before it. -/
def State.schedule (s : State) (cycle : Nat) : State :=
  s.withSites s.spindles { s.hold with releaseAt := max cycle s.hold.releaseAt }

/-- One raise charged, and its release scheduled (R215). -/
def State.chargeNext (s : State) (r : HoldRaise) : State :=
  (s.charge r (r.moved s.hold.releaseAt)).schedule (r.at_ + holdCycles)

theorem State.chargeNext_withSites (s : State) (x : SMap Spindle) (h : Hold) (r : HoldRaise) :
    (s.withSites x h).chargeNext r =
      (s.charge r (r.moved h.releaseAt)).withSites x { h with releaseAt := max (r.at_ + holdCycles) h.releaseAt } := by
  rw [State.chargeNext, State.charge_withSites, State.schedule, State.withSites_withSites, State.withSites_hold,
    State.withSites_spindles, State.withSites_hold]

/-- The object rows that some raises are charged with, against the release scheduled before them. -/
def State.chargeAll : State → Nat → List HoldRaise → State
  | s, _, [] => s
  | s, releaseAt, r :: rs => (s.charge r (r.moved releaseAt)).chargeAll (max (r.at_ + holdCycles) releaseAt) rs

/-- Some raises charged: their rows are written, and of the hold the scheduled release alone moves. -/
theorem State.foldl_chargeNext_withSites (x : SMap Spindle) : ∀ (rs : List HoldRaise) (s : State) (h : Hold),
    ∃ n, rs.foldl State.chargeNext (s.withSites x h) = (s.chargeAll h.releaseAt rs).withSites x { h with releaseAt := n }
  | [], _, h => ⟨h.releaseAt, rfl⟩
  | r :: rs, s, h => by
    rw [List.foldl_cons, State.chargeNext_withSites]
    exact State.foldl_chargeNext_withSites x rs _ _

/-- The raises settled are charged one after another, from no release scheduled. -/
theorem State.settleHold_of_charged {s t : State}
    (h : s.hold.raises.foldl State.chargeNext { s with hold := { s.hold with raises := [], releaseAt := 0 } } = t) :
    s.settleHold = { t with hold := { t.hold with releaseAt := 0 } } := by
  rw [← h]
  rfl

/-- Every held site released and every raise charged: what HOLD_RELEASE does before flits go on. -/
def State.released (s : State) : State := s.releaseAll.settleHold

theorem State.released_eq (s : State) :
    s.released = (s.chargeAll 0 s.hold.raises).withSites (s.unskidRows s.hold.counts).spindles
      { s.hold with counts := [], raises := [], releaseAt := 0 } := by
  obtain ⟨n, charged⟩ := State.foldl_chargeNext_withSites (s.unskidRows s.hold.counts).spindles s.hold.raises s
    { s.hold with counts := [], raises := [], releaseAt := 0 }
  rw [State.released, State.releaseAll_eq]
  exact State.settleHold_of_charged (s := s.withSites (s.unskidRows s.hold.counts).spindles { s.hold with counts := [] }) charged

/-- A single raise is charged with the whole hold (R215). -/
theorem State.chargeAll_one (s : State) (r : HoldRaise) : s.chargeAll 0 [r] = s.charge r 512 := by
  rw [State.chargeAll, State.chargeAll, r.moved_zero]

/-- A second raise is charged with the cycles by which it moved the release on (R215). -/
theorem State.chargeAll_two (s : State) {r q : HoldRaise} (h : r.at_ ≤ q.at_) :
    s.chargeAll 0 [r, q] = (s.charge r 512).charge q (min 512 (q.at_ - r.at_)) := by
  rw [State.chargeAll, State.chargeAll, State.chargeAll, r.moved_zero, HoldRaise.moved_after h]

theorem exec_holdRelease {s : State} (hu : s.up = true) (p : Site) :
    exec (.holdRelease p) s = .next (if s.isHeld p && s.hold.over then s.takeDiv.released.flow else s) := by
  show execHoldRelease p s = _
  unfold execHoldRelease
  rw [State.ifUp_of_up hu]
  rfl

/-- HOLD_RELEASE once the hold is over, with no divisor change left to make. -/
theorem exec_holdRelease_at_end {s : State} (hu : s.up = true) {p : Site} (held : s.isHeld p = true)
    (ended : s.hold.over = true) (hd : s.hold.newDiv = none) : exec (.holdRelease p) s = .next s.released.flow := by
  rw [exec_holdRelease hu, held, ended, State.takeDiv_of_none hd]
  rfl

/-! ## The statement -/

/-- Settles O26: a late flit is marked and counted, a late transfer raises the hold at its entry sites, a raise's count falls by
its way, the hold of a site, the divisor change, and the release with its attributions, one lemma each. -/
theorem lateTransfersRaiseTheHoldThatCountsAndReleases : Obligations.LateTransfersRaiseTheHoldThatCountsAndReleases := by
  unfold Obligations.LateTransfersRaiseTheHoldThatCountsAndReleases
  refine ⟨fun s hu => ⟨fun vc => ⟨?unmarked, fun u => flitLate_counts hu, ?marked⟩, fun w => ?weft, fun port => ?port, ?lea⟩,
    fun r row e => ⟨HoldRaise.countAt_of_entry, HoldRaise.countAt_of_single⟩,
    fun s p count hu => ⟨?arrives, exec_holdArrive_of_none hu⟩, fun s hu => ⟨?divisor, ?early⟩,
    fun s p hu => ⟨?unreleased, ?released⟩⟩
  case unmarked =>
    intro none
    rw [exec_flitLate hu, none]
    rfl
  case marked =>
    intro row i x f fs hs hh hi hb hf before
    obtain ⟨u, marked, spindles⟩ := State.markLate_single hs hh (Router.markLate_of_first hi hb hf before)
    exact ⟨u, _, marked, spindles, rfl⟩
  case weft =>
    have late := s.ifUp_of_up hu (fun s => s.raiseHold 1 w.val 1 (backSites w.val) 1)
    exact ⟨_, congrArg done late, congrArg done late, congrArg done late, s.raised_raiseHold ..⟩
  case port =>
    have late := s.ifUp_of_up hu (fun s => s.raiseHold 2 port.val 2 (backSites port.val) 1)
    exact ⟨_, congrArg done late, s.raised_raiseHold ..⟩
  case lea =>
    intro stream r l hr hl
    refine ⟨fun held b => exec_leaLate_of_held hu hr hl held b, fun free => ?_⟩
    have late := exec_leaLate_of_free hu hr hl free
    refine ⟨⟨_, late none, ?_⟩, fun p fetched => ⟨_, late (some p), ?_⟩, fun p fetched => ⟨_, late (some p), ?_⟩⟩
    · rw [Lea.origin_none]
      exact s.raised_raiseHold ..
    · rw [Lea.origin_of_unfetched fetched]
      exact s.raised_raiseHold ..
    · rw [Lea.origin_of_fetched fetched]
      exact s.raised_raiseHold ..
  case arrives =>
    intro rs qs r hs hc hn first
    obtain ⟨hold, site⟩ := State.holdSite_spec (s := s) (h := { s.hold with raises := rs ++ r.reach p.row :: qs }) (p := p)
      (count := count.val) rfl
    refine ⟨_, exec_holdArrive_of_first hu hs hc hn first, ?_, fun k hk => ?_, ?_, site⟩
    · rw [hold, tget_tput_self]
    · rw [hold, tget_tput_ne hk.symm]
    · rw [hold]
      rfl
  case divisor =>
    intro d held few hd
    have late : s.hold.halfway = true := Hold.halfway_iff.mpr ⟨held, few⟩
    exact ⟨s.takeDiv, by rw [exec_divisorChange hu, if_pos late], State.takeDiv_spec hd⟩
  case early =>
    intro h
    have early : ¬ s.hold.halfway = true := by
      rw [Hold.halfway_iff]
      rintro ⟨held, few⟩
      rcases h with none | ⟨e, he, many⟩
      · exact held none
      · exact absurd (few e he) (Nat.not_le.mpr many)
    rw [exec_divisorChange hu, if_neg early]
  case unreleased =>
    intro h
    have early : (s.isHeld p && s.hold.over) = false := Bool.and_eq_false_iff.mpr h
    rw [exec_holdRelease hu, early]
    rfl
  case released =>
    intro held ended hd
    refine ⟨s.released, exec_holdRelease_at_end hu held ended hd, ?_⟩
    rw [s.released_eq]
    refine ⟨rfl, fun k => State.router_unskidRows s, fun k => State.tget_unskidRows_out _ s, ?one, ?two⟩
    case one =>
      intro r hr hn
      rw [hr, State.chargeAll_one, State.obj_withSites, State.obj_withSites, State.obj_withSites, State.obj_charge_late hn,
        State.obj_charge_holdCycles hn, State.obj_charge_holdLast, HoldRaise.lastWord_512 hn]
      exact ⟨rfl, rfl, rfl, (State.OnlyRows.charge hn s 512).restored_withSites ..⟩
    case two =>
      intro r q hrq hr hq hle
      rw [hrq, State.chargeAll_two s hle, State.obj_withSites, State.obj_charge_holdCycles hq, State.obj_charge_holdCycles hr]

end Sys2Proof.Machine
end

section
/-! SUPPORT. What an instruction's body finds when it runs: the state as it was but for the scoreboard (Scored), and what the
shared operations of the spindle's engines then do: operands written, conversions counted, store lines read. -/

namespace Sys2Proof.Machine

/-! ## The state at issue -/

/-- `t` is `s` but for the scoreboard of one spindle and the rows an issued instruction may move. -/
def State.Scored (p : Site) (s t : State) : Prop :=
  (t.spindle p).calm = (s.spindle p).calm ∧ s.OnlySpindle p (spindleRows p) t

theorem State.Scored.trans_body {p : Site} {s t u : State} (h : s.Scored p t) (b : t.Body p u)
    (c : (u.spindle p).calm = (t.spindle p).calm) : s.Scored p u :=
  ⟨c.trans h.1, h.2.trans (b.mono (bodyRows_spindleRows p))⟩

/-- The state in which the body of an issued instruction of these operands runs. -/
def State.atIssue (s : State) (p : Site) (os : List Opd) : State := (s.issued p).mayWait p os

theorem State.runOn_eq {s : State} {p : Site} {os : List Opd} (h : s.issuesOn p os) (f : State → State) :
    s.runOn p os f = (f (s.atIssue p os)).advance p := State.runOn_issues h f

theorem State.scored_atIssue (s : State) (p : Site) (os : List Opd) : s.Scored p (s.atIssue p os) :=
  State.Scored.trans_body ⟨s.calm_issued p, (s.issued_frame p).mono (issueRows_spindleRows p)⟩ .mayWait
    (State.calm_mayWait ..)

/-- What a body moves is all that its instruction moves, besides its issue. -/
theorem State.Body.flags {p : Site} {s t : State} {os : List Opd} (h : (s.atIssue p os).Body p t) :
    s.IssuedFlags p (t.advance p) :=
  (State.Body.mayWait.trans (h.trans .advance)).issued

theorem State.calm_advance (s : State) (p : Site) : ((s.advance p).spindle p).calm = (s.spindle p).calm.next := by
  rw [State.spindle_advance, Spindle.calm_next]

/-- Issuing an instruction with no effect of its own moves the issue's rows alone. -/
theorem State.issued_atIssue (s : State) (p : Site) (os : List Opd) : s.Issued p ((s.atIssue p os).advance p) := by
  have wait : ∃ x, (s.atIssue p os).advance p = (s.issued p).setSpindle p x := by
    unfold State.atIssue State.mayWait
    dsimp only
    split
    · exact ⟨_, State.advance_setSpindle ..⟩
    · exact ⟨_, rfl⟩
  obtain ⟨x, e⟩ := wait
  rw [e]
  exact .of_setSpindle s p x

/-! ## What the scoreboard leaves -/

section Scored

variable {p : Site} {s t : State} (h : s.Scored p t)
include h

theorem State.Scored.uses (rs ws : List Opd) : s.Scored p (t.uses p rs ws) := h.trans_body .uses (State.calm_uses ..)

theorem State.Scored.drew (n : Nat) : s.Scored p (t.drew n) := h.trans_body .drew (by rw [State.spindle_drew])

theorem State.Scored.sawPoison (b : Bool) : s.Scored p (t.sawPoison p b) :=
  h.trans_body .sawPoison (by rw [State.spindle_sawPoison])

theorem State.Scored.writesAcc (k : Nat) (m c : Bool) : s.Scored p (t.writesAcc p k m c) :=
  h.trans_body .writesAcc (State.calm_writesAcc ..)

theorem State.Scored.view (o : Opd) : t.view p o = s.view p o := State.view_of_spindle h.1 o

theorem State.Scored.acc (k : Nat) : (t.spindle p).acc k = (s.spindle p).acc k := Spindle.acc_of_calm h.1 k

theorem State.Scored.ctx (k : Nat) : (t.spindle p).ctx k = (s.spindle p).ctx k :=
  (congrArg (fun x : Spindle => x.ctx k) h.1 :)

theorem State.Scored.extent (r : SRef) (n : Nat) : (t.spindle p).extent r n = (s.spindle p).extent r n :=
  (congrArg (fun x : Spindle => x.extent r n) h.1 :)

theorem State.Scored.clean {direct : Bool} {line n : Nat} (c : (s.spindle p).Clean direct line n) :
    (t.spindle p).Clean direct line n :=
  (congrArg (fun x : Spindle => x.Clean direct line n) h.1 :).mpr c

theorem State.Scored.readLines (l n : Nat) : t.readLines p l n = s.readLines p l n := by
  have store : (t.spindle p).store = (s.spindle p).store := (congrArg (fun x : Spindle => x.store) h.1 :)
  unfold State.readLines
  rw [store]

theorem State.Scored.startPairs (k : Nat) (acc : Bool) : t.startPairs p k acc = s.startPairs p k acc := by
  unfold State.startPairs
  rw [h.acc]

/-- A chunk reads the run seed, the step's count and its purpose, none of which an instruction moves. -/
theorem State.Scored.chunk (c : Ctx) (purpose n : Nat) : t.chunk c purpose n = s.chunk c purpose n := by
  obtain ⟨only, _, rows, _⟩ := h.2
  have inUse : t.dict.inUse = s.dict.inUse := by rw [only]
  have step : t.step = s.step := by rw [only]
  have count : t.stepCount = s.stepCount := by
    refine rows _ _ (by decide) ?_
    rintro (⟨_, _, high⟩ | other)
    · exact absurd high (by decide)
    · exact absurd other (by decide)
  unfold State.chunk State.used State.purpose
  rw [inUse, step, count]

theorem State.Scored.rnd (c : Ctx) (sr : Bool) (purpose n : Nat) : t.rnd c sr purpose n = s.rnd c sr purpose n := by
  unfold State.rnd
  rw [h.chunk]

theorem State.Scored.values (o : Opd) (f : Nat) : t.values p o f = s.values p o f := by
  unfold State.values
  rw [h.view]
  cases o <;> simp only [h.acc]

theorem State.Scored.sources (c : Chain) (src src2 : Opd) : t.sources p c src src2 = s.sources p c src src2 := by
  unfold State.sources
  simp only [h.view]

theorem State.Scored.widePairs (c : Chain) (src : Opd) : t.widePairs p c src = s.widePairs p c src := by
  unfold State.widePairs
  cases src <;> simp only [h.view, h.acc]

theorem State.Scored.opdPoison : t.opdPoison p = s.opdPoison p :=
  funext fun o => congrArg View.poison (h.view o)

end Scored

/-! ## Operands written -/

/-- Of an element written with w bits, the low w bits are those of its value (R74). -/
theorem bits_padElem (seed base w i : Nat) (v : W32) : bits (padElem seed base w i v).toNat 0 w = bits v.toNat 0 w := by
  unfold padElem
  split
  · rfl
  · apply Nat.eq_of_testBit_eq
    intro j
    unfold bits
    rw [Nat.shiftRight_zero, Nat.shiftRight_zero, Nat.testBit_mod_two_pow, Nat.testBit_mod_two_pow, BitVec.testBit_toNat,
      BitVec.testBit_toNat]
    by_cases low : j < w
    · have inWord : j < 32 := by omega
      simp [low, inWord, BitVec.getLsbD_ofNat, Nat.testBit_two_pow_sub_one]
    · simp [low]

theorem agree_padElems (seed base w : Nat) (vs : List W32) : Agree w (padElems seed base w vs) vs := by
  refine ⟨List.length_mapIdx, fun i => ?_⟩
  unfold nth padElems
  rw [List.getElem?_mapIdx]
  cases vs[i]? with
  | none => rfl
  | some v => exact bits_padElem ..

theorem State.opdWritten_writeOpd (s : State) (p : Site) (o : Opd) (w : Nat) (vs : List W32) (sc : Option (List Byte))
    (b : Bool) : OpdWritten w vs sc b (s.spindle p) ((s.writeOpd p o w vs sc b).spindle p) o := by
  cases o with
  | h k =>
    refine ⟨((s.spindle p).hank k).write (s.free + 1) (regBase p k) w vs sc b, ?_, ?_⟩
    · simp [State.writeOpd, State.setHank, setNth]
    · cases b <;> simp [Hank.write, agree_padElems]
  | a k =>
    refine ⟨((s.spindle p).acc k).writePart (s.free + 1) false (padElems (s.free + 1) (regBase p (16 + k)) w vs) b, ?_, ?_⟩
    · simp [State.writeOpd, State.setAcc, setNth]
    · cases b <;> simp [Acc.writePart, agree_padElems]
  | p k =>
    refine ⟨((s.spindle p).acc k).writePart (s.free + 1) true (padElems (s.free + 1) (regBase p (24 + k)) w vs) b, ?_, ?_⟩
    · simp [State.writeOpd, State.setAcc, setNth]
    · cases b <;> simp [Acc.writePart, agree_padElems]

/-- An operand is written without regard to the scoreboard. -/
theorem OpdWritten.calm {w : Nat} {vs : List W32} {sc : Option (List Byte)} {b : Bool} {x y : Spindle} {o : Opd}
    (h : OpdWritten w vs sc b x y o) : OpdWritten w vs sc b x.calm y.calm o := by
  cases o <;> (obtain ⟨r, rfl, spec⟩ := h; exact ⟨r, rfl, spec⟩)

/-! ## Conversions counted -/

/-- Counting a conversion moves the running stones alone, and not them where nothing is counted. -/
theorem State.countConv_spec (s : State) (t : Nat) (c : Counts) :
    ∃ m, s.countConv t c = { s with stones := m } ∧ (c.flush = 0 ∧ c.sat = 0 ∧ c.nonfinite = 0 → m = s.stones) := by
  unfold State.countConv
  split
  · exact ⟨_, rfl, fun _ => rfl⟩
  case isFalse counted => exact ⟨_, rfl, fun uncounted => absurd uncounted counted⟩

@[simp] theorem State.spindle_countConv (s : State) (t : Nat) (c : Counts) (p : Site) :
    (s.countConv t c).spindle p = s.spindle p := by
  obtain ⟨m, e, _⟩ := s.countConv_spec t c
  rw [e]
  rfl

theorem State.IssuedFlags.stones {p : Site} {s t : State} (h : s.IssuedFlags p t) : t.stones = s.stones := by
  rw [h.2.1]

/-- An instruction that counts its conversion moves, besides the running stones, what it would move without. -/
theorem State.Body.flags_countConv {p : Site} {s t : State} {os : List Opd} (h : (s.atIssue p os).Body p t) (k : Nat)
    (c : Counts) : s.IssuedFlags p { (t.countConv k c).advance p with stones := s.stones } := by
  obtain ⟨m, e, _⟩ := t.countConv_spec k c
  have same := h.flags.stones
  rw [e, ← same]
  exact h.flags

theorem State.Body.stones_countConv {p : Site} {s t : State} {os : List Opd} (h : (s.atIssue p os).Body p t) (k : Nat)
    {c : Counts} (uncounted : c.flush = 0 ∧ c.sat = 0 ∧ c.nonfinite = 0) :
    ((t.countConv k c).advance p).stones = s.stones := by
  obtain ⟨m, e, same⟩ := t.countConv_spec k c
  rw [e, same uncounted]
  exact h.flags.stones

/-! ## Store lines read without an error -/

/-- A read of lines in which no bit error stands, and which names none itself, finds nothing (R75). -/
theorem State.eccRead_of_clean {s : State} {p : Site} {direct : Bool} {line n : Nat}
    (h : (s.spindle p).Clean direct line n) : s.eccRead p .clean line n = s := by
  unfold State.eccRead
  rw [h.1]
  rfl

theorem State.readAs_nil (s : State) (p : Site) (line n : Nat) : s.readAs p [] line n = s.readLines p line n := by
  unfold State.readAs
  apply List.ext_getElem?
  intro i
  simp

/-- Lines that no other engine writes meanwhile read as they stand (R89). -/
theorem State.readCells_of_clean {s : State} {p : Site} {direct : Bool} {line n : Nat}
    (h : (s.spindle p).Clean direct line n) : s.readCells p direct line n = s.readLines p line n := by
  have undef : (if direct then (s.spindle p).pendingIn line n ++ (s.spindle p).storedIn line n else []) = [] := by
    cases direct with
    | false => rfl
    | true => rw [(h.2 rfl).1, (h.2 rfl).2]; rfl
  unfold State.readCells
  rw [undef, State.readAs_nil]

end Sys2Proof.Machine
end

section
/-! SUPPORT. What CVT, the random class and the wide path do, and the statements about them (O13, O14, O16). -/

namespace Sys2Proof.Machine

/-! ## The random class -/

/-- An operand filled from the chunks of a context: the chunks are those of the state before the issue. -/
theorem State.fillChunks_spec {s : State} {p : Site} {os : List Opd} (slot : Nat) (dst : Opd) (purpose : Nat) (f : Nat → W32) :
    (s.atIssue p os).Body p ((s.atIssue p os).fillChunks p slot dst purpose f) ∧
    OpdWritten 32 ((List.range 4096).map (fun n => f (s.chunk ((s.spindle p).ctx slot) purpose n))) none false
      (s.spindle p).calm (((s.atIssue p os).fillChunks p slot dst purpose f).spindle p).calm dst := by
  have ready := s.scored_atIssue p os
  have used := ready.uses [] [dst]
  refine ⟨State.Body.uses.trans .writeOpd, ?_⟩
  unfold State.fillChunks
  dsimp only
  simp only [used.chunk, ready.ctx, ← used.1]
  exact (State.opdWritten_writeOpd ..).calm

theorem exec_rdraw {s : State} {p : Site} {dst : BitVec 5} {purpose : Byte} (ok : purposeOk purpose.toNat = true)
    (h : s.issuesOn p [opd dst]) (slot : BitVec 2) (mode : Bool) :
    exec (.rdraw p slot dst purpose mode) s = .next
      (((s.atIssue p [opd dst]).fillChunks p slot.toNat (opd dst) purpose.toNat (chunkValue mode)).advance p) := by
  show execRdraw p slot dst purpose mode s = _
  rw [execRdraw, purposeBad, if_pos ok, State.runOn_eq h]
  rfl

theorem exec_rmask {s : State} {p : Site} {dst : BitVec 5} {purpose : Byte} (ok : purposeOk purpose.toNat = true)
    (h : s.issuesOn p [opd dst]) (slot : BitVec 2) (thresh : W16) :
    exec (.rmask p slot dst purpose thresh) s = .next
      (((s.atIssue p [opd dst]).fillChunks p slot.toNat (opd dst) purpose.toNat (keepValue thresh.toNat)).advance p) := by
  show execRmask p slot dst purpose thresh s = _
  rw [execRmask, purposeBad, if_pos ok, State.runOn_eq h]
  rfl

theorem exec_rctx {s : State} {p : Site} (h : s.issues p = true) (slot : BitVec 2) (tr : Bool) (tid : W32) (ebase : BitVec 48)
    (estride : W32) :
    exec (.rctx p slot tr tid ebase estride) s = .next ((s.issued p).setSpindle p
      (Spindle.next { (s.issued p).spindle p with
        ctxs := ((s.issued p).spindle p).ctxs.set slot.toNat { tid, ebase, estride, tr } })) := by
  show execRctx p slot tr tid ebase estride s = _
  rw [execRctx, State.runAt_issues h]
  dsimp only
  rw [State.advance_setSpindle]
  rfl

/-- Settles O14: RCTX sets its slot at once; RDRAW and RMASK are one fill of an operand, by the value or the mask of a chunk. -/
theorem randomInstructionsDrawThroughTheirContext : Obligations.RandomInstructionsDrawThroughTheirContext := by
  unfold Obligations.RandomInstructionsDrawThroughTheirContext
  intro p s slot
  constructor
  · intro tr tid ebase estride h
    refine ⟨_, exec_rctx h slot tr tid ebase estride, .of_setSpindle .., ?_⟩
    rw [State.spindle_setSpindle, State.spindle_issued]
    rfl
  · intro dst purpose ok h
    refine ⟨fun mode => ?_, fun thresh => ?_⟩
    · obtain ⟨body, written⟩ := State.fillChunks_spec (s := s) (p := p) (os := [opd dst]) slot.toNat (opd dst) purpose.toNat
        (chunkValue mode)
      exact ⟨_, _, exec_rdraw ok h slot mode, body.flags, State.calm_advance .., written⟩
    · obtain ⟨body, written⟩ := State.fillChunks_spec (s := s) (p := p) (os := [opd dst]) slot.toNat (opd dst) purpose.toNat
        (keepValue thresh.toNat)
      exact ⟨_, _, exec_rmask ok h slot thresh, body.flags, State.calm_advance .., written⟩

/-! ## CVT -/

/-- A spindle with the ply of an accumulator at +0, where a CVT has written its value part unpoisoned (R101). -/
def Spindle.plyZeroed (x : Spindle) (bad : Bool) : Opd → Spindle
  | .a k => if bad then x else { x with accs := x.accs.set k { x.acc k with c := List.replicate 4096 0 } }
  | _ => x

theorem Spindle.calm_plyZeroed (x : Spindle) (bad : Bool) (o : Opd) : (x.plyZeroed bad o).calm = x.calm.plyZeroed bad o := by
  cases o <;> cases bad <;> rfl

/-- The operand a conversion writes, by its elements and then, for A[a], its ply. -/
theorem State.writeConverted_spec (s : State) (p : Site) (o : Opd) (f : Nat) (r : Converted) (bad : Bool) :
    ∃ y, OpdWritten (elemBits f) (r.codes.map (BitVec.ofNat 32)) (if isMx f then some r.scales else none) bad
        (s.spindle p) y o ∧
      (s.writeConverted p o f r bad).spindle p = y.plyZeroed bad o := by
  refine ⟨_, State.opdWritten_writeOpd .., ?_⟩
  unfold State.writeConverted
  cases o with
  | a k =>
    cases bad with
    | true => rfl
    | false => exact State.spindle_setSpindle ..
  | _ => rfl

theorem State.Body.writeConverted {s : State} {p : Site} {o : Opd} {f : Nat} {r : Converted} {bad : Bool} :
    s.Body p (s.writeConverted p o f r bad) := by
  unfold State.writeConverted
  dsimp only
  split
  · split
    · exact .writeOpd
    · exact State.Body.writeOpd.trans .setAcc
  · exact .writeOpd

theorem exec_cvt {s : State} {p : Site} {fin fout : BitVec 4} {src dst : BitVec 5} {rm grad : Bool} {purpose : Byte}
    (ok : cvtBad fin fout src dst rm grad purpose = none) (h : s.issuesOn p [opd src, opd dst]) (ctx : BitVec 2) :
    exec (.cvt p fin fout src dst rm grad ctx purpose) s = .next
      (((s.atIssue p [opd src, opd dst]).cvt p fin.toNat fout.toNat (opd src) (opd dst) (rm || grad)
        (if grad then 1 else purpose.toNat) ctx.toNat).advance p) := by
  show execCvt p fin fout src dst rm grad ctx purpose s = _
  rw [execCvt, ok]
  dsimp only
  rw [State.runOn_eq h]
  rfl

/-- What CVT writes: the elements of its source as they were before the issue, converted. -/
def State.cvtResult (s : State) (p : Site) (fin fout : Nat) (src : Opd) (sr : Bool) (purpose ctx : Nat) : Converted :=
  convertAll fout ((s.values p src fin).mapIdx (fun n v => (v, s.rnd ((s.spindle p).ctx ctx) sr purpose n)))

/-- CVT's effect on the state at its issue: its operand written, and then the conversion counted. -/
theorem State.Scored.cvt {s t : State} {p : Site} (h : s.Scored p t) (fin fout : Nat) (src dst : Opd) (sr : Bool)
    (purpose ctx : Nat) :
    let bad := (s.view p src).poison
    let r := s.cvtResult p fin fout src sr purpose ctx
    ∃ u y, t.cvt p fin fout src dst sr purpose ctx = u.countConv ((s.spindle p).ctx ctx).tid.toNat r.counts ∧ t.Body p u ∧
      OpdWritten (elemBits fout) (r.codes.map (BitVec.ofNat 32)) (if isMx fout then some r.scales else none) bad
        (s.spindle p).calm y dst ∧
      (u.spindle p).calm = y.plyZeroed bad dst := by
  intro bad r
  have used := h.uses [src] [dst]
  have read := used.sawPoison bad
  obtain ⟨y, written, spindle⟩ := State.writeConverted_spec ((t.uses p [src] [dst]).sawPoison p bad) p dst fout r bad
  refine ⟨((t.uses p [src] [dst]).sawPoison p bad).writeConverted p dst fout r bad, y.calm, ?_,
    (State.Body.uses.trans .sawPoison).trans .writeConverted, read.1 ▸ written.calm, ?_⟩
  · unfold State.cvt
    simp only [used.view, used.values, used.rnd, used.ctx]
    rfl
  · rw [spindle, Spindle.calm_plyZeroed]

/-- Settles O13: CVT is the conversion of its source's values, written to its operand and counted. -/
theorem convertWritesConvertedElements : Obligations.ConvertWritesConvertedElements := by
  unfold Obligations.ConvertWritesConvertedElements
  intro p s fin fout src dst rm grad ctx purpose ok h
  have run := exec_cvt ok h ctx
  obtain ⟨u, y, effect, body, written, calm⟩ := (s.scored_atIssue p [opd src, opd dst]).cvt fin.toNat fout.toNat (opd src)
    (opd dst) (rm || grad) (if grad then 1 else purpose.toNat) ctx.toNat
  rw [effect] at run
  refine ⟨_, y, run, body.flags_countConv .., written, ?_, fun uncounted => body.stones_countConv _ uncounted⟩
  rw [State.calm_advance, State.spindle_countConv, calm]
  cases opd dst <;> rfl

/-! ## The wide path -/

/-- A vector-class instruction whose descriptor reads correct and is accepted runs as its chain says (R110, R124). -/
theorem State.vectorAt_of_clean {s : State} {p : Site} {op : VOp} {src src2 dst : BitVec 5} {nst : BitVec 3} {sr : BitVec 36}
    {ctx : BitVec 2} {grad rm : Bool} {line : Nat} {c : Chain} (reserved : (sref sr).reserved = false)
    (am : (sref sr).am = 0) (lsel : (sref sr).lsel = 0) (extent : (s.spindle p).extent (sref sr) 2 = .ok line)
    (clean : (s.spindle p).Clean true line 2) (sound : (s.readLines p line 2).any (·.poison) = false)
    (hc : c = chainOf (linesNat (s.readLines p line 2)) nst.toNat)
    (ok : c.bad op src src2 dst (sref sr) (grad || rm) = none)
    (h : s.issuesOn p (c.reads op (opd src) (opd src2) ++ vectorDsts op c dst)) :
    s.vectorAt p op src src2 dst nst sr ctx grad rm = .next
      ((((s.atIssue p (c.reads op (opd src) (opd src2) ++ vectorDsts op c dst)).drew 1).vector p op c (opd src) (opd src2) dst
        ctx.toNat (grad || rm)).advance p) := by
  have fields : ¬((sref sr).am ≠ 0 ∨ (sref sr).lsel ≠ 0) := by simp [am, lsel]
  unfold State.vectorAt
  simp only [reserved, if_neg fields, h.1, extent, Bool.not_true, Bool.false_eq_true, ↓reduceIte,
    State.eccRead_of_clean clean, State.readCells_of_clean clean, ← hc, sound, ok, State.runOn_eq h,
    State.eccRead_of_clean ((s.scored_atIssue p _).clean clean)]
  rfl

/-- The pairs at the end of a wide chain. -/
def State.wideResult (s : State) (p : Site) (c : Chain) (src src2 : Opd) : List Pair :=
  (c.stages.foldl (fun r t => runWide (s.sources p c src src2) t r) { prev := s.widePairs p c src, tap := [] }).prev

/-- The exact values of a wide chain's pairs converted to its format. -/
def State.wideConverted (s : State) (p : Site) (c : Chain) (src src2 : Opd) (ctx : Nat) (sr : Bool) : Converted :=
  convertAll c.fdst (List.zip ((s.wideResult p c src src2).map Pair.exact)
    ((List.range 4096).map (fun n => s.rnd ((s.spindle p).ctx ctx) sr 1 n)))

/-- VWIDE's effect on the state at its issue: the pairs written to two registers, or converted to one, and then counted. -/
theorem State.Scored.wide {s t : State} {p : Site} (h : s.Scored p t) (c : Chain) (src src2 : Opd) (dst : BitVec 5) (ctx : Nat)
    (sr : Bool) :
    let bad := (c.reads .wide src src2).any (s.opdPoison p)
    let w := s.wideResult p c src src2
    let r := s.wideConverted p c src src2 ctx sr
    ∃ u k n, t.vector p .wide c src src2 dst ctx sr = u.countConv k n ∧ t.Body p u ∧
      (c.pair = false → OpdWritten (elemBits c.fdst) (r.codes.map (BitVec.ofNat 32))
        (if isMx c.fdst then some r.scales else none) bad (s.spindle p).calm (u.spindle p).calm (opd dst)) ∧
      (c.pair = true → ∃ z, OpdWritten 32 (w.map (fun e => canon32 e.s)) none bad (s.spindle p).calm z (opd dst) ∧
        OpdWritten 32 (w.map (fun e => canon32 e.c)) none bad z (u.spindle p).calm (opdSucc dst)) := by
  intro bad w r
  have used := h.uses (c.reads .wide src src2) (vectorDsts .wide c dst)
  have read := used.sawPoison ((c.reads .wide src src2).any (s.opdPoison p))
  have reads : t.Body p ((t.uses p (c.reads .wide src src2) (vectorDsts .wide c dst)).sawPoison p bad) :=
    State.Body.uses.trans .sawPoison
  let v := (t.uses p (c.reads .wide src src2) (vectorDsts .wide c dst)).sawPoison p bad
  cases pair : c.pair with
  | false =>
    refine ⟨v.writeOpd p (opd dst) (elemBits c.fdst) (r.codes.map (BitVec.ofNat 32))
      (if isMx c.fdst then some r.scales else none) bad, ((s.spindle p).ctx ctx).tid.toNat, r.counts, ?_, reads.trans .writeOpd,
      fun _ => read.1 ▸ (State.opdWritten_writeOpd ..).calm, nofun⟩
    unfold State.vector
    simp only [used.opdPoison, used.sources, used.rnd, used.ctx, read.widePairs, pair, Bool.false_eq_true, ↓reduceIte]
    rfl
  | true =>
    let hi := w.map (fun e => canon32 e.s)
    let lo := w.map (fun e => canon32 e.c)
    refine ⟨(v.writeOpd p (opd dst) 32 hi none bad).writeOpd p (opdSucc dst) 32 lo none bad, ((s.spindle p).ctx ctx).tid.toNat,
      (counts32 hi).add (counts32 lo), ?_, (reads.trans .writeOpd).trans .writeOpd, nofun,
      fun _ => ⟨_, read.1 ▸ (State.opdWritten_writeOpd ..).calm, (State.opdWritten_writeOpd ..).calm⟩⟩
    unfold State.vector
    simp only [used.opdPoison, used.sources, used.ctx, read.widePairs, pair, ↓reduceIte]
    rfl

/-- Settles O16: a wide chain's operands are those before its issue, and its result is written whole or as pairs. -/
theorem wideChainsRunOnPairs : Obligations.WideChainsRunOnPairs := by
  unfold Obligations.WideChainsRunOnPairs
  intro p s src src2 dst nst sr ctx grad rm line reserved am lsel extent clean sound c ok h bad cx rnd q first w r
  have start : first = s.widePairs p c (opd src) := by
    dsimp only [first]
    cases opd src <;> rfl
  have pairs : w = s.wideResult p c (opd src) (opd src2) := by
    dsimp only [w]
    rw [start]
    rfl
  have converted : r = s.wideConverted p c (opd src) (opd src2) ctx.toNat (grad || rm) := by
    dsimp only [r]
    rw [pairs]
    rfl
  have run : exec (.vwide p src src2 dst nst sr ctx grad rm) s = _ :=
    State.vectorAt_of_clean (op := .wide) reserved am lsel extent clean sound rfl ok h
  have ready := (s.scored_atIssue p (c.reads .wide (opd src) (opd src2) ++ vectorDsts .wide c dst)).drew 1
  obtain ⟨u, k, n, effect, body, one, two⟩ := ready.wide c (opd src) (opd src2) dst ctx.toNat (grad || rm)
  rw [effect] at run
  rw [converted, pairs]
  refine ⟨_, _, run, (State.Body.drew.trans body).flags_countConv .., ?_, one, two⟩
  rw [State.calm_advance, State.spindle_countConv]

end Sys2Proof.Machine
end

section
/-! SUPPORT. The elements of a product, what MMA_PACKED accumulates from its segment's window, and the statement about both
(O9). -/

namespace Sys2Proof.Machine

/-! ## Lists cut into rows -/

theorem getElem?_chunks {α : Type} {n : Nat} : ∀ (fuel : Nat) (l : List α) (i : Nat), i < fuel → n * i < l.length →
    (chunks n fuel l)[i]? = some ((l.drop (n * i)).take n)
  | 0, _, _, h, _ => absurd h (Nat.not_lt_zero _)
  | _ + 1, [], _, _, h => absurd h (Nat.not_lt_zero _)
  | _ + 1, _ :: _, 0, _, _ => rfl
  | fuel + 1, x :: l, i + 1, h, hl => by
    have rest : n * i < ((x :: l).drop n).length := by
      rw [List.length_drop]
      rw [Nat.mul_succ] at hl
      omega
    rw [chunks, List.getElem?_cons_succ, getElem?_chunks fuel _ i (by omega) rest, List.drop_drop, Nat.mul_succ,
      Nat.add_comm n]
    simp

/-- A list of whole rows is cut into rows alone. -/
theorem length_of_mem_chunks {α : Type} {n : Nat} : ∀ (fuel : Nat) (l q : List α), n ∣ l.length →
    q ∈ chunks n fuel l → q.length = n
  | 0, _, _, _, h => absurd h List.not_mem_nil
  | _ + 1, [], _, _, h => absurd h List.not_mem_nil
  | fuel + 1, x :: l, q, hn, h => by
    rcases List.mem_cons.mp h with rfl | later
    · exact List.length_take_of_le (Nat.le_of_dvd (Nat.succ_pos _) hn)
    · refine length_of_mem_chunks fuel _ q ?_ later
      rw [List.length_drop]
      exact Nat.dvd_sub hn dvd_rfl

theorem getElem?_flatten_rows {α : Type} {m j : Nat} (hj : j < m) : ∀ (ls : List (List α)) (i : Nat),
    (∀ l ∈ ls, l.length = m) → ls.flatten[m * i + j]? = ls[i]?.bind (·[j]?)
  | [], _, _ => by simp
  | l :: ls, 0, h => by
    have here : j < l.length := by rw [h l List.mem_cons_self]; exact hj
    simp [List.getElem?_append_left here]
  | l :: ls, i + 1, h => by
    have len : l.length = m := h l List.mem_cons_self
    have past : m * (i + 1) + j = l.length + (m * i + j) := by rw [len, Nat.mul_succ]; omega
    rw [List.flatten_cons, past, List.getElem?_append_right (Nat.le_add_right ..), Nat.add_sub_cancel_left,
      getElem?_flatten_rows hj ls i (fun q hq => h q (List.mem_cons_of_mem _ hq))]
    rfl

/-! ## The elements of a product -/

/-- Element (i, j) of a product is formed from row i of the first operand and row j of the second (R91). -/
theorem getElem?_mmaAll {fa fb : Nat} {accs : List Pair} {as bs : List RowView} {i j : Nat} {q : Pair} {a b : RowView}
    (haccs : accs.length = 4096) (hbs : bs.length = 64) (hi : i < 64) (hj : j < 64) (hq : accs[64 * i + j]? = some q)
    (ha : as[i]? = some a) (hb : bs[j]? = some b) :
    (mmaAll fa fb accs as bs)[64 * i + j]? = some (mmaElem fa fb q a b) := by
  have rows : ∀ l ∈ List.zipWith (fun (q : List Pair) a => List.zipWith (fun c b => mmaElem fa fb c a b) q bs)
      (chunks 64 65 accs) as, l.length = 64 := by
    intro l hl
    obtain ⟨k, hk⟩ := List.mem_iff_getElem?.mp hl
    obtain ⟨c, a, hc, _, rfl⟩ := List.getElem?_zipWith_eq_some.mp hk
    rw [List.length_zipWith, length_of_mem_chunks 65 accs c (by rw [haccs]; decide) (List.mem_of_getElem? hc), hbs]
    rfl
  have row : (chunks 64 65 accs)[i]? = some ((accs.drop (64 * i)).take 64) :=
    getElem?_chunks 65 accs i (by omega) (by omega)
  unfold mmaAll
  rw [getElem?_flatten_rows hj _ i rows]
  simp [List.getElem?_zipWith, row, ha, hb, hj, hq]

/-- Without MX blocks an element adds its products in K order (R46, R92). -/
theorem mmaElem_dense {fa : Nat} (h : isMx fa = false) (fb : Nat) (q : Pair) (a b : RowView) :
    mmaElem fa fb q a b = (List.zip a.codes b.codes).foldl (fun r e => r.addTerm (denseTerm fa e.1 e.2)) q := by
  unfold mmaElem
  simp only [h, Bool.false_eq_true, ↓reduceIte]

/-! ## Object rows that matrix instructions leave -/

/-- The objects that an instruction's issue, its poison, its aliases and its add counter move (R104, R105, R352). -/
def notedIds : List Nat :=
  [Obj.spindleIssued, Obj.spindleStallHank, Obj.spindleStallQueue, Obj.spindleFlags, Obj.spindlePoisonReads,
    Obj.spindleAliases, Obj.faultLog, Obj.faultSeqLast, Obj.faultReports]

theorem State.obj_readsOpd (s : State) (p : Site) (o : Opd) (id row : Nat) : (s.readsOpd p o).obj id row = s.obj id row := by
  cases o <;> rfl

/-- A fold keeps what each of its steps keeps. -/
theorem foldl_keeps {α β γ : Type} {f : α → β → α} {g : α → γ} (h : ∀ a b, g (f a b) = g a) :
    ∀ (bs : List β) (a : α), g (bs.foldl f a) = g a
  | [], _ => rfl
  | b :: bs, a => (foldl_keeps h bs (f a b)).trans (h a b)

section Noted

variable {id : Nat} (h : id ∉ notedIds) (s : State) (p : Site)
include h

theorem State.obj_bump_noted {i : Nat} (hi : i ∈ notedIds) (n : Nat) : (s.bump i p.row n).obj id p.row = s.obj id p.row :=
  State.obj_bump_ne (objKey_ne_of_id (site_row_lt p) (site_row_lt p) (ne_of_mem_of_not_mem hi h))

theorem State.obj_spFlag_noted (i : Nat) : (s.spFlag p i).obj id p.row = s.obj id p.row :=
  State.obj_setFlag_ne (objKey_ne_of_id (site_row_lt p) (site_row_lt p) (ne_of_mem_of_not_mem (by decide) h))

theorem State.obj_fault_noted (c u d : Nat) : (s.fault c u d).obj id p.row = s.obj id p.row := by
  have frame : s.OnlyRows (Machine.rowsOf notedIds) (s.fault c u d) :=
    State.OnlyRows.fault (fun _ => (by decide : Obj.faultLog ∈ notedIds)) (by decide : Obj.faultSeqLast ∈ notedIds)
      (by decide : Obj.faultReports ∈ notedIds)
  exact frame.2.1 id p.row (site_row_lt p) h

theorem State.obj_issued_noted : (s.issued p).obj id p.row = s.obj id p.row := by
  refine (s.issued_frame p).2.2.1 id p.row (site_row_lt p) fun moved => h ?_
  exact List.mem_append_left (bs := notedIds.drop 3) moved.2

theorem State.obj_sawPoison_noted (b : Bool) : (s.sawPoison p b).obj id p.row = s.obj id p.row := by
  unfold State.sawPoison
  split
  · rw [State.obj_bump_noted h _ p (by decide), State.obj_spFlag_noted h]
  · rfl

theorem State.obj_writesAcc_noted (k : Nat) (m c : Bool) : (s.writesAcc p k m c).obj id p.row = s.obj id p.row := by
  unfold State.writesAcc
  dsimp only
  split
  · rfl
  · split
    · rw [State.obj_fault_noted h, State.obj_bump_noted h _ p (by decide), State.obj_spFlag_noted h]
      rfl
    · rfl

theorem State.obj_putAcc_noted (k n : Nat) (a : Acc) : (s.putAcc p k n a).obj id p.row = s.obj id p.row := by
  unfold State.putAcc
  dsimp only
  split
  · rw [State.obj_fault_noted h, State.obj_spFlag_noted h]
    rfl
  · rfl

theorem State.obj_storePairs_noted (k n : Nat) (a : Acc) (qs : List Pair) (b : Bool) :
    (s.storePairs p k n a qs b).obj id p.row = s.obj id p.row := by
  unfold State.storePairs
  rw [State.obj_putAcc_noted h]
  rfl

theorem State.obj_writesOpd_noted (o : Opd) : (s.writesOpd p o).obj id p.row = s.obj id p.row := by
  cases o with
  | h k => rfl
  | a k => exact State.obj_writesAcc_noted h ..
  | p k => exact State.obj_writesAcc_noted h ..

theorem State.obj_uses_noted (rs ws : List Opd) : (s.uses p rs ws).obj id p.row = s.obj id p.row := by
  unfold State.uses State.freshen
  dsimp only
  rw [State.obj_setSpindle]
  exact (foldl_keeps (g := fun s => s.obj id p.row) (fun s o => State.obj_readsOpd s p o id p.row) rs _).trans
    (foldl_keeps (g := fun s => s.obj id p.row) (fun s o => State.obj_writesOpd_noted h s p o) ws s)

theorem State.obj_atIssue_noted (os : List Opd) : (s.atIssue p os).obj id p.row = s.obj id p.row := by
  unfold State.atIssue State.mayWait
  dsimp only
  split
  · exact State.obj_issued_noted h s p
  · exact State.obj_issued_noted h s p

end Noted

/-! ## A result accumulated and read out -/

theorem Acc.start_count (a : Acc) (acc : Bool) : (a.start acc).count = if acc then a.count else 0 := by
  cases acc <;> rfl

theorem Acc.start_long (a : Acc) (acc : Bool) : (a.start acc).long = (acc && a.long) := by
  cases acc <;> rfl

theorem State.spindle_readOut_acc (s : State) (p : Site) (ro : BitVec 2) (k rod j : Nat) :
    ((s.readOut p ro k rod).spindle p).acc j = (s.spindle p).acc j := by
  obtain ⟨_, _, e⟩ := s.readOut_spec p ro k rod
  rw [e]
  rfl

theorem State.obj_writeOpd (s : State) (p : Site) (o : Opd) (w : Nat) (vs : List W32) (sc : Option (List Byte)) (b : Bool)
    (id row : Nat) : (s.writeOpd p o w vs sc b).obj id row = s.obj id row := by
  cases o <;> rfl

theorem State.obj_readOut (s : State) (p : Site) (ro : BitVec 2) (k rod id row : Nat) :
    (s.readOut p ro k rod).obj id row = s.obj id row := by
  unfold State.readOut
  dsimp only
  split
  · rw [State.obj_writeOpd]
  · split
    · rw [State.obj_writeOpd, State.obj_writeOpd]
    · rfl

/-- MMA_PACKED's result: n terms' pairs stored and counted, the cells busy for a free number of cycles, and the read-out. -/
def State.packedStored (s : State) (p : Site) (ro : BitVec 2) (k rod n bound : Nat) (a : Acc) (qs : List Pair)
    (bad : Bool) : State :=
  let s := (s.storePairs p k n a qs bad).bump Obj.spindleNonzeros p.row n
  ((s.bump Obj.spindleCellBusy p.row (Config.freeNat s.free % (bound + 1))).drew 1).readOut p ro k rod

theorem State.Body.packedStored {s : State} {p : Site} {ro : BitVec 2} {k rod n bound : Nat} {a : Acc} {qs : List Pair}
    {bad : Bool} : s.Body p (s.packedStored p ro k rod n bound a qs bad) :=
  (((State.Body.storePairs.trans (.bump (by decide) (by decide) (by decide))).trans
    (.bump (by decide) (by decide) (by decide))).trans .drew).trans .readOut

theorem State.Scored.packedStored {s v u : State} {p : Site} {ro : BitVec 2} {k rod n bound : Nat} {a : Acc} {qs : List Pair}
    {bad : Bool} (h : s.Scored p v) (hu : u = v.packedStored p ro k rod n bound a qs bad) :
    ∃ b hs, (u.spindle p).calm = { (s.spindle p).calm with accs := (s.spindle p).accs.set k b, hanks := hs } ∧
      b.Holds qs (a.count + n) a.long bad ∧ ReadOut p ro rod k ((u.spindle p).acc k) (s.spindle p).hanks hs := by
  obtain ⟨b, holds, stored⟩ := v.storePairs_spec p k n a qs bad
  unfold State.packedStored at hu
  dsimp only at hu
  generalize hw : ((State.bump _ Obj.spindleCellBusy _ _).drew 1) = w at hu
  have same : w.spindle p = { v.spindle p with accs := (v.spindle p).accs.set k b } := by
    rw [← hw, State.spindle_drew, State.spindle_bump, State.spindle_bump, stored]
  have hanks : (w.spindle p).hanks = (s.spindle p).hanks := by
    rw [same]
    exact (congrArg (fun x : Spindle => x.hanks) h.1 :)
  obtain ⟨hs, out, spindle⟩ := w.readOut_spec p ro k rod
  refine ⟨b, hs, ?_, holds, ?_⟩
  · rw [hu, spindle, same, ← h.1]
    exact congrArg (fun x : Spindle => { (v.spindle p).calm with accs := x.accs.set k b, hanks := hs }) h.1
  · rw [hu, State.spindle_readOut_acc, ← hanks]
    exact out

theorem State.nonzeros_packedStored (s : State) (p : Site) (ro : BitVec 2) (k rod n bound : Nat) (a : Acc) (qs : List Pair)
    (bad : Bool) :
    (s.packedStored p ro k rod n bound a qs bad).obj Obj.spindleNonzeros p.row =
      satAdd 64 (s.obj Obj.spindleNonzeros p.row) n := by
  have other : objKey Obj.spindleCellBusy p.row ≠ objKey Obj.spindleNonzeros p.row :=
    objKey_ne_of_id (site_row_lt p) (site_row_lt p) (by decide)
  unfold State.packedStored
  dsimp only
  rw [State.obj_readOut, State.obj_drew, State.obj_bump_ne other, State.obj_bump_of_bits (w := 64) rfl,
    State.obj_storePairs_noted (by decide)]

/-! ## A segment's window -/

/-- The entries of a segment that fall in a window of nh + 1 registers (R97). -/
def segWindow (fb kbase nh data : Nat) : List Entry :=
  (segEntries (elemBits fb) data (segNnz data)).filter
    (fun e => decide (64 * kbase ≤ e.k ∧ e.k < 64 * kbase + 64 * (nh + 1)))

/-- The registers of a window as they read. -/
def State.windowViews (s : State) (p : Site) (opa nh : Nat) : List View :=
  (List.range (nh + 1)).map (fun r => s.view p (.h (opa + r)))

/-- The pairs of the accumulator with a window added, row by row (R97). -/
def State.packedPairs (s : State) (p : Site) (acc : Bool) (fa fb k opa nh kbase data : Nat) : List Pair :=
  let win := segWindow fb kbase nh data
  let all := segEntries (elemBits fb) data (segNnz data)
  let groups := if isMx fb then segGroups (elemBits fb) data (segNnz data) all win else []
  (List.zipWith (fun (q : List Pair) i =>
      packedRow fa fb ((s.windowViews p opa nh).map (fun v => v.rows fa)) kbase i win groups q)
    (chunks 64 65 (s.startPairs p k acc)) (List.range 64)).flatten

/-- MMA_PACKED reads poison: in its segment, its window or the accumulator it continues from (R74). -/
def State.packedPoison (s : State) (p : Site) (acc : Bool) (k opa nh line slen data : Nat) : Bool :=
  ((s.readLines p line slen).take (max 1 (segLines data))).any (·.poison) || (s.windowViews p opa nh).any (·.poison) ||
    (acc && ((s.spindle p).acc k).poison)

theorem State.Scored.windowViews {s t : State} {p : Site} (h : s.Scored p t) (opa nh : Nat) :
    t.windowViews p opa nh = s.windowViews p opa nh := by
  unfold State.windowViews
  simp only [h.view]

/-- MMA_PACKED's effect on the state at its issue: everything it reads is as before the issue, and once the scoreboard has
been met, its result is stored. -/
theorem State.Scored.mmaPacked {s t : State} {p : Site} (h : s.Scored p t) {direct : Bool} {line slen : Nat}
    (clean : (s.spindle p).Clean direct line slen) (acc : Bool) (ro : BitVec 2) (fa fb k opa rod nh kbase : Nat) :
    let data := linesNat (s.readLines p line slen)
    let bad := s.packedPoison p acc k opa nh line slen data
    let n := (segWindow fb kbase nh data).length
    ∃ v, s.Scored p v ∧ t.Body p v ∧ v.obj Obj.spindleNonzeros p.row = t.obj Obj.spindleNonzeros p.row ∧
      t.mmaPacked p acc ro fa fb k opa rod nh kbase line slen direct .clean =
        v.packedStored p ro k rod n (2 + ceilDiv (20 * n) (256 * macQuarters fa fb)) (((s.spindle p).acc k).start acc)
          (s.packedPairs p acc fa fb k opa nh kbase data) (bad || decide (slen < segLines data)) := by
  intro data bad n
  let window := (List.range (nh + 1)).map (fun r => Opd.h (opa + r))
  have used := h.uses window (readOutDsts ro rod)
  have read := used.drew 1
  have lines := (State.readCells_of_clean (used.clean clean)).trans (used.readLines line slen)
  have count : Obj.spindleNonzeros ∉ notedIds := by decide
  refine ⟨(((t.uses p window (readOutDsts ro rod)).drew 1).sawPoison p bad).writesAcc p k true acc,
    (read.sawPoison bad).writesAcc k true acc, ((State.Body.uses.trans .drew).trans .sawPoison).trans .writesAcc, ?_, ?_⟩
  · rw [State.obj_writesAcc_noted count, State.obj_sawPoison_noted count, State.obj_drew, State.obj_uses_noted count]
  · unfold State.mmaPacked
    simp only [State.eccRead_of_clean (h.clean clean), window, lines, read.acc, read.view,
      ((read.sawPoison _).writesAcc k true acc).startPairs]
    rfl

/-- The operands of MMA_PACKED: its accumulator, its window's registers and those it reads out to. -/
def packedOpds (ro : BitVec 2) (k opa rod nh : Nat) : List Opd :=
  .a k :: (List.range (nh + 1)).map (fun r => Opd.h (opa + r)) ++ readOutDsts ro rod

section Packed

variable {s : State} {p : Site} {ro : BitVec 2} {fa fb : BitVec 4} {k : BitVec 3} {opa : BitVec 5} {rod nh : BitVec 4}
  {sr : BitVec 36} {slen : BitVec 12} (ok : packedBad ro fa fb opa rod nh (sref sr) = none)
  (h : s.issuesOn p (packedOpds ro k.toNat opa.toNat rod.toNat nh.toNat)) (acc : Bool) (kbase : W16) (e : EccResult)
include ok h

theorem exec_mmaPacked_zero (zero : slen = 0) :
    exec (.mmaPacked p acc ro fa fb k opa rod nh kbase sr slen e) s =
      .next ((s.atIssue p (packedOpds ro k.toNat opa.toNat rod.toNat nh.toNat)).advance p) := by
  show execMmaPacked p acc ro fa fb k opa rod nh kbase sr slen e s = _
  unfold execMmaPacked
  simp only [ok, if_pos zero]
  exact congrArg Host.Outcome.next (State.runOn_eq h _)

theorem exec_mmaPacked {line : Nat} (lines : slen ≠ 0) (extent : (s.spindle p).extent (sref sr) slen.toNat = .ok line) :
    exec (.mmaPacked p acc ro fa fb k opa rod nh kbase sr slen e) s =
      .next (((s.atIssue p (packedOpds ro k.toNat opa.toNat rod.toNat nh.toNat)).mmaPacked p acc ro fa.toNat fb.toNat k.toNat
        opa.toNat rod.toNat nh.toNat kbase.toNat line slen.toNat (sref sr).direct e).advance p) := by
  show execMmaPacked p acc ro fa fb k opa rod nh kbase sr slen e s = _
  unfold execMmaPacked
  simp only [ok, if_neg lines]
  refine congrArg Host.Outcome.next ((State.runOn_eq h _).trans ?_)
  simp only [(s.scored_atIssue p _).extent, extent]

end Packed

/-- Settles O9: the effect of MMA_PACKED on what it read before its issue, and the element of a product at row i and column j. -/
theorem mmaPackedAddsTheWindowOfItsSegment : Obligations.MmaPackedAddsTheWindowOfItsSegment := by
  unfold Obligations.MmaPackedAddsTheWindowOfItsSegment
  constructor
  · intro p s acc ro fa fb k opa rod nh kbase sr slen ok h
    have ready := s.scored_atIssue p (packedOpds ro k.toNat opa.toNat rod.toNat nh.toNat)
    refine ⟨fun e zero => ⟨_, exec_mmaPacked_zero ok h acc kbase e zero, s.issued_atIssue .., ?_⟩, ?_⟩
    · rw [State.calm_advance, ready.1]
    · intro line lines extent clean data regs all win old
      have run := exec_mmaPacked ok h acc kbase .clean lines extent
      obtain ⟨v, read, body, count, effect⟩ := ready.mmaPacked clean acc ro fa.toNat fb.toNat k.toNat opa.toNat rod.toNat
        nh.toNat kbase.toNat
      obtain ⟨a, hs, calm, holds, out⟩ := read.packedStored effect
      rw [Acc.start_count, Acc.start_long] at holds
      refine ⟨_, a, hs, run, ?_, ?_, holds, ?_, ?_⟩
      · rw [effect]
        exact (body.trans .packedStored).flags
      · rw [State.calm_advance, calm]
      · rw [State.spindle_advance]
        exact out
      · rw [effect]
        exact (State.nonzeros_packedStored ..).trans
          (congrArg (satAdd 64 · win.length) (count.trans (State.obj_atIssue_noted (by decide) ..)))
  · intro fa fb accs as bs i j haccs has hbs hi hj
    obtain ⟨q, hq⟩ : ∃ q, accs[64 * i + j]? = some q := ⟨_, List.getElem?_eq_getElem (by omega)⟩
    obtain ⟨a, ha⟩ : ∃ a, as[i]? = some a := ⟨_, List.getElem?_eq_getElem (by omega)⟩
    obtain ⟨b, hb⟩ : ∃ b, bs[j]? = some b := ⟨_, List.getElem?_eq_getElem (by omega)⟩
    exact ⟨q, hq, a, b, ha, hb, getElem?_mmaAll haccs hbs hi hj hq ha hb, fun h => mmaElem_dense h fb q a b⟩

end Sys2Proof.Machine
end

section
/-! SUPPORT. What the control class does, and the statements about its instructions and about program order (O5, O6). -/

namespace Sys2Proof.Machine

/-! ## NOP, HALT, DRAIN and the end of the code region -/

/-- An instruction that writes its spindle alone. -/
theorem State.runAt_setSpindle {s : State} {p : Site} (h : s.issues p = true) (f : Spindle → Spindle) :
    s.runAt p (fun t => t.setSpindle p (f (t.spindle p))) =
      (s.issued p).setSpindle p (f ((s.issued p).spindle p)).next := by
  rw [State.runAt_issues h, State.advance_setSpindle]

theorem exec_nop {s : State} {p : Site} (h : s.issues p = true) : exec (.nop p) s = .next ((s.issued p).advance p) :=
  congrArg Host.Outcome.next (State.runAt_issues h id)

theorem exec_halt {s : State} {p : Site} (h : s.issues p = true) : exec (.halt p) s = .next ((s.issued p).haltAt p) :=
  congrArg Host.Outcome.next (if_pos h)

theorem exec_drain {s : State} {p : Site} (h : s.issues p = true) (idle : s.enginesIdle p = true) :
    exec (.drain p) s = .next ((s.issued p).setSpindle p ((s.issued p).spindle p).quiet.next) :=
  congrArg Host.Outcome.next ((if_pos idle).trans (State.runAt_setSpindle h Spindle.quiet))

theorem exec_drain_of_busy {s : State} {p : Site} (busy : s.enginesIdle p = false) : exec (.drain p) s = .next s := by
  refine congrArg Host.Outcome.next (if_neg ?_)
  rw [busy]
  exact Bool.false_ne_true

theorem exec_codeRegionEnd {s : State} {p : Site} (h : s.pastCode p = true) :
    exec (.codeRegionEnd p) s = .next (s.haltAt p) :=
  congrArg Host.Outcome.next (if_pos h)

/-- Settles O5: each of the four sets its spindle, after its issue where it is an instruction. -/
theorem nopHaltDrainAndCodeEnd : Obligations.NopHaltDrainAndCodeEnd := by
  unfold Obligations.NopHaltDrainAndCodeEnd
  intro p s
  refine ⟨fun h => ⟨⟨_, exec_nop h, ?_, .of_setSpindle ..⟩, ⟨_, exec_halt h, ?_, .of_setSpindle ..⟩,
    fun idle => ⟨_, exec_drain h idle, ?_, .of_setSpindle ..⟩⟩, exec_drain_of_busy,
    fun past => ⟨_, exec_codeRegionEnd past, State.spindle_setSpindle .., .setSpindle⟩⟩
  · rw [State.calm_advance, State.calm_issued]
  · rw [State.haltAt, State.spindle_setSpindle, State.spindle_issued]
    rfl
  · rw [State.spindle_setSpindle, State.spindle_issued]
    rfl

/-! ## Program order -/

theorem Spindle.next_of_no_loop {x : Spindle} (h : x.loops = []) : x.next = { x with pc := x.pc + 1 } := by
  unfold Spindle.next Spindle.goto
  simp [h, closeLoops]

section InnermostLoop

variable {x : Spindle} {outer : List LoopFrame} {f : LoopFrame} (h : x.loops = outer ++ [f])
include h

theorem Spindle.next_inside_body (inside : x.pc ≠ f.last) : x.next = { x with pc := x.pc + 1 } := by
  unfold Spindle.next Spindle.goto
  simp [h, closeLoops, inside]

theorem Spindle.next_iterates (last : x.pc = f.last) (more : f.iter + 1 < f.count) :
    x.next = { x with pc := f.first, loops := outer ++ [{ f with iter := f.iter + 1 }] } := by
  unfold Spindle.next Spindle.goto
  simp [h, closeLoops, last, more]

theorem Spindle.next_leaves_loop (last : x.pc = f.last) (spent : f.count ≤ f.iter + 1) :
    x.next = Spindle.next { x with loops := outer } := by
  unfold Spindle.next Spindle.goto
  simp [h, closeLoops, last, Nat.not_lt.mpr spent]

end InnermostLoop

/-! ## LOOP, JUMP and BRANCH_G -/

section Loop

variable {s : State} {p : Site} (h : s.issues p = true) (count : BitVec 20) {body : BitVec 16}
include h

theorem exec_loop_of_no_body (noBody : body = 0) : exec (.loop p count body) s = .next ((s.issued p).advance p) := by
  show execLoop p count body s = _
  simp [execLoop, h, noBody, State.runAt_issues, done]

variable (hasBody : body ≠ 0) (ok : (s.spindle p).loopOk body.toNat = true)
include hasBody ok

theorem exec_loop_skips (zero : count = 0) :
    exec (.loop p count body) s = .next ((s.issued p).setSpindle p
      (((s.issued p).spindle p).goto (((s.issued p).spindle p).pc + body.toNat + 1))) := by
  show execLoop p count body s = _
  simp only [execLoop, h, ok, if_neg hasBody, if_pos zero, Bool.not_true, Bool.false_eq_true, ↓reduceIte]
  rfl

theorem exec_loop_enters (many : count ≠ 0) :
    exec (.loop p count body) s = .next ((s.issued p).enterLoop p count.toNat body.toNat) := by
  show execLoop p count body s = _
  simp only [execLoop, h, ok, if_neg hasBody, if_neg many, Bool.not_true, Bool.false_eq_true, ↓reduceIte]
  rfl

end Loop

section Jump

variable {s : State} {p : Site} (h : s.issues p = true) {offset : BitVec 20}
  (ok : (s.spindle p).targetOk ((s.spindle p).pc + offset.toInt) = true)
include h ok

theorem exec_jump :
    exec (.jump p offset) s = .next ((s.issued p).setSpindle p
      { (s.issued p).spindle p with pc := ((s.spindle p).pc + offset.toInt).toNat }) := by
  show execJump p offset s = _
  simp only [execJump, h, ok, Bool.not_true, Bool.false_eq_true, ↓reduceIte]
  rfl

variable {seq : W16} (bit : BitVec 5)

theorem exec_branchG {w : W32} (tag : tget (s.bolt (boltOf p.x.val p.y.val)).decTable (seq.toNat % 64) = some (seq, w)) :
    exec (.branchG p seq bit offset) s = .next (if w.getLsbD bit.toNat then (s.issued p).setSpindle p
      { (s.issued p).spindle p with pc := ((s.spindle p).pc + offset.toInt).toNat } else (s.issued p).advance p) := by
  show execBranchG p seq bit offset s = _
  simp only [execBranchG, Bolt.decision, h, ok, tag, Bool.not_true, Bool.false_eq_true, ↓reduceIte]
  split <;> rfl

theorem exec_branchG_waits
    (untagged : ∀ w, tget (s.bolt (boltOf p.x.val p.y.val)).decTable (seq.toNat % 64) ≠ some (seq, w)) :
    exec (.branchG p seq bit offset) s = .next s := by
  have undecided : (s.bolt (boltOf p.x.val p.y.val)).decision seq = none := by
    unfold Bolt.decision
    split
    case h_1 tag w entry =>
      have other : tag ≠ seq := by
        rintro rfl
        exact untagged w entry
      exact if_neg other
    case h_2 => rfl
  show execBranchG p seq bit offset s = _
  simp only [execBranchG, undecided, h, ok, Bool.not_true, Bool.false_eq_true, ↓reduceIte]
  rfl

end Jump

/-- Settles O6: the target each instruction sets after its issue, and program order by the innermost loop. -/
theorem branchesJumpsAndLoopsTakeTheirTargets : Obligations.BranchesJumpsAndLoopsTakeTheirTargets := by
  unfold Obligations.BranchesJumpsAndLoopsTakeTheirTargets
  refine ⟨fun p s h => ⟨fun count body => ⟨fun noBody => ?_, fun hasBody ok zero => ?_, fun hasBody ok many => ?_⟩,
    fun offset ok => ?_⟩, fun p seq bit offset s h ok => ⟨fun w tag => ?_, exec_branchG_waits h ok bit⟩,
    fun x => ⟨Spindle.next_of_no_loop, fun outer f hl =>
      ⟨Spindle.next_inside_body hl, Spindle.next_iterates hl, Spindle.next_leaves_loop hl⟩⟩⟩
  · refine ⟨_, exec_loop_of_no_body h count noBody, ?_, .of_setSpindle ..⟩
    rw [State.calm_advance, State.calm_issued]
  · refine ⟨_, exec_loop_skips h count hasBody ok zero, .of_setSpindle .., ?_⟩
    rw [State.spindle_setSpindle, State.spindle_issued]
    rfl
  · refine ⟨_, exec_loop_enters h count hasBody ok many, .of_setSpindle .., ?_⟩
    rw [State.enterLoop, State.spindle_setSpindle, State.spindle_issued]
    rfl
  · refine ⟨_, exec_jump h ok, .of_setSpindle .., ?_⟩
    rw [State.spindle_setSpindle, State.spindle_issued]
    rfl
  · refine ⟨_, exec_branchG h ok bit tag, ?_⟩
    cases w.getLsbD bit.toNat with
    | true =>
      refine ⟨.of_setSpindle .., ?_⟩
      rw [if_pos rfl, State.spindle_setSpindle, State.spindle_issued]
      rfl
    | false =>
      refine ⟨.of_setSpindle .., ?_⟩
      rw [if_neg Bool.false_ne_true, State.calm_advance, State.calm_issued]
      rfl

end Sys2Proof.Machine
end

section
/-! SUPPORT. What the accumulator operations and MMA do to their accumulator and to the hanks of a read-out, and the statements
about them (O7, O8). -/

namespace Sys2Proof.Machine

/-! ## An accumulator written, stored with pairs, read out -/

theorem State.Scored.calm_setAcc {p : Site} {s t : State} (h : s.Scored p t) (k : Nat) (a : Acc) :
    ((t.setAcc p k a).spindle p).calm = { (s.spindle p).calm with accs := (s.spindle p).accs.set k a } := by
  rw [State.setAcc, State.spindle_setSpindle]
  exact congrArg (fun x : Spindle => { x with accs := x.accs.set k a }) h.1

theorem State.Scored.calm_storePairs {p : Site} {s t : State} (h : s.Scored p t) (k n : Nat) (old : Acc) (qs : List Pair)
    (b : Bool) :
    ∃ a : Acc, a.Holds qs (old.count + n) old.long b ∧
      ((t.storePairs p k n old qs b).spindle p).calm = { (s.spindle p).calm with accs := (s.spindle p).accs.set k a } := by
  obtain ⟨a, holds, e⟩ := t.storePairs_spec p k n old qs b
  refine ⟨a, holds, ?_⟩
  rw [e]
  exact congrArg (fun x : Spindle => { x with accs := x.accs.set k a }) h.1

/-- A read-out writes hanks alone, by the accumulator and the hanks that the spindle has. -/
theorem State.calm_readOut {s : State} {p : Site} {x : Spindle} (h : (s.spindle p).calm = x.calm) (ro : BitVec 2) (k rod : Nat) :
    ∃ hs, ReadOut p ro rod k (x.acc k) x.hanks hs ∧ ((s.readOut p ro k rod).spindle p).calm = { x.calm with hanks := hs } := by
  obtain ⟨hs, out, e⟩ := s.readOut_spec p ro k rod
  have hanks : (s.spindle p).hanks = x.hanks := (congrArg (fun y : Spindle => y.hanks) h :)
  refine ⟨hs, ?_, ?_⟩
  · rw [← hanks, ← Spindle.acc_of_calm h]
    exact out
  · rw [e]
    exact congrArg (fun y : Spindle => { y with hanks := hs }) h

/-! ## ACC_ZERO -/

theorem exec_accZero {s : State} {p : Site} {k : BitVec 3} (h : s.issuesOn p [.a k.toNat]) :
    exec (.accZero p k) s = .next ((((((s.atIssue p [.a k.toNat]).writesAcc p k.toNat true false).setAcc p k.toNat zeroAcc).bump
      Obj.spindleCellBusy p.row 4)).advance p) :=
  congrArg Host.Outcome.next (State.runOn_eq h _)

/-! ## ACC_ADDPAIR -/

/-- The pairs of two hank registers added to those of an accumulator (R46, R95). -/
def State.addedPairs (s : State) (p : Site) (k o : Nat) : List Pair :=
  List.zipWith Pair.addPair (((s.spindle p).acc k).pairs p k)
    (List.zipWith (fun x y => ⟨x, y⟩) (s.view p (.h o)).elems (s.view p (.h (o + 1))).elems)

/-- ACC_ADDPAIR reads poison: in one of its registers or in its accumulator (R74). -/
def State.addPairPoison (s : State) (p : Site) (k o : Nat) : Bool :=
  (s.view p (.h o)).poison || (s.view p (.h (o + 1))).poison || ((s.spindle p).acc k).poison

/-- ACC_ADDPAIR's effect on the state at its issue: once the scoreboard has been met, its sums are stored. -/
theorem State.Scored.addPairs {s t : State} {p : Site} (h : s.Scored p t) (k o : Nat) :
    ∃ v, s.Scored p v ∧ t.Body p v ∧ t.addPairs p k o =
      (v.storePairs p k 1 ((s.spindle p).acc k) (s.addedPairs p k o) (s.addPairPoison p k o)).bump
        Obj.spindleCellBusy p.row 4 := by
  have used := h.uses [.h o, .h (o + 1)] []
  refine ⟨((t.uses p [.h o, .h (o + 1)] []).sawPoison p (s.addPairPoison p k o)).writesAcc p k true false,
    (used.sawPoison _).writesAcc .., (State.Body.uses.trans .sawPoison).trans .writesAcc, ?_⟩
  unfold State.addPairs
  simp only [used.view, used.acc]
  rfl

theorem exec_accAddpair {s : State} {p : Site} {k : BitVec 3} {o : BitVec 5} (hank : o.toNat < 16) (even : o.toNat % 2 = 0)
    (h : s.issuesOn p [.a k.toNat, .h o.toNat, .h (o.toNat + 1)]) :
    exec (.accAddpair p k o) s =
      .next (((s.atIssue p [.a k.toNat, .h o.toNat, .h (o.toNat + 1)]).addPairs p k.toNat o.toNat).advance p) := by
  have ok : addpairBad o = none := by
    unfold addpairBad opd
    rw [if_pos hank]
    exact if_neg (by simp [Opd.isAcc, even])
  show execAccAddpair p k o s = _
  rw [execAccAddpair, ok]
  exact congrArg Host.Outcome.next (State.runOn_eq h _)

/-! ## ACC_OUT -/

/-- ACC_OUT's effect on the state at its issue: a read-out once the scoreboard has been met, and nothing where RO is 0. -/
theorem State.Scored.accOut {s t : State} {p : Site} (h : s.Scored p t) {ro : BitVec 2} {k rod : Nat} :
    ∃ v, s.Scored p v ∧ t.Body p v ∧
      (if ro = 0 then t else (((t.uses p [.a k] (readOutDsts ro rod)).sawPoison p
        (((t.uses p [.a k] (readOutDsts ro rod)).spindle p).acc k).poison).readOut p ro k rod)) = v.readOut p ro k rod := by
  by_cases zero : ro = 0
  · refine ⟨t, h, .refl .., ?_⟩
    rw [if_pos zero, State.readOut, zero]
    rfl
  · exact ⟨_, (h.uses [.a k] (readOutDsts ro rod)).sawPoison _, State.Body.uses.trans .sawPoison, if_neg zero⟩

theorem exec_accOut {s : State} {p : Site} {ro : BitVec 2} {k : BitVec 3} {rod : BitVec 4} {os : List Opd}
    (ok : readOutBad ro rod = none) (hos : os = if ro = 0 then [] else .a k.toNat :: readOutDsts ro rod.toNat)
    (h : s.issuesOn p os) :
    ∃ v, s.Scored p v ∧ (s.atIssue p os).Body p v ∧
      exec (.accOut p ro k rod) s = .next ((v.readOut p ro k.toNat rod.toNat).advance p) := by
  obtain ⟨v, scored, body, effect⟩ := (s.scored_atIssue p os).accOut (ro := ro) (k := k.toNat) (rod := rod.toNat)
  refine ⟨v, scored, body, ?_⟩
  rw [← effect]
  show execAccOut p ro k rod s = _
  rw [execAccOut, ok]
  dsimp only
  rw [← hos]
  exact congrArg Host.Outcome.next (State.runOn_eq h _)

/-- Settles O7: one effect an instruction, each on what it read before its issue. -/
theorem accumulatorOperationsActOnOneAccumulator : Obligations.AccumulatorOperationsActOnOneAccumulator := by
  unfold Obligations.AccumulatorOperationsActOnOneAccumulator
  intro p s k
  refine ⟨fun h => ?_, fun o hank even h => ?_, fun ro rod ok h => ?_⟩
  · have ready := (s.scored_atIssue p [.a k.toNat]).writesAcc k.toNat true false
    refine ⟨_, exec_accZero h,
      ((State.Body.writesAcc.trans .setAcc).trans (.bump (by decide) (by decide) (by decide))).flags, ?_⟩
    rw [State.calm_advance, State.spindle_bump, ready.calm_setAcc]
  · obtain ⟨v, scored, body, effect⟩ := (s.scored_atIssue p [.a k.toNat, .h o.toNat, .h (o.toNat + 1)]).addPairs k.toNat o.toNat
    have run := exec_accAddpair hank even h
    rw [effect] at run
    obtain ⟨a, holds, calm⟩ := scored.calm_storePairs k.toNat 1 ((s.spindle p).acc k.toNat) (s.addedPairs p k.toNat o.toNat)
      (s.addPairPoison p k.toNat o.toNat)
    refine ⟨_, a, run, ((body.trans .storePairs).trans (.bump (by decide) (by decide) (by decide))).flags, ?_, holds⟩
    rw [State.calm_advance, State.spindle_bump, calm]
  · obtain ⟨v, scored, body, run⟩ := exec_accOut ok rfl h
    obtain ⟨hs, out, calm⟩ := State.calm_readOut scored.1 ro k.toNat rod.toNat
    refine ⟨_, hs, run, (body.trans .readOut).flags, ?_, out⟩
    rw [State.calm_advance, calm]

/-! ## MMA -/

/-- MMA's product on the pairs it continues from (R92). -/
def State.mmaPairs (s : State) (p : Site) (acc : Bool) (fa fb k : Nat) (a b : Opd) : List Pair :=
  mmaAll fa fb (s.startPairs p k acc) ((s.view p a).rows fa) ((s.view p b).rows fb)

/-- MMA reads poison: in one of its operands or in the accumulator it continues from (R74). -/
def State.mmaPoison (s : State) (p : Site) (acc : Bool) (k : Nat) (a b : Opd) : Bool :=
  (s.view p a).poison || (s.view p b).poison || (acc && ((s.spindle p).acc k).poison)

/-- MMA's effect on the state at its issue: once the scoreboard has been met, its product is stored and read out. -/
theorem State.Scored.mma {s t : State} {p : Site} (h : s.Scored p t) (acc : Bool) (ro : BitVec 2) (fa fb k : Nat) (a b : Opd)
    (rod : Nat) :
    ∃ v, s.Scored p v ∧ t.Body p v ∧ t.mma p acc ro fa fb k a b rod =
      ((v.storePairs p k (mmaTerms fa) (((s.spindle p).acc k).start acc) (s.mmaPairs p acc fa fb k a b)
        (s.mmaPoison p acc k a b)).bump Obj.spindleCellBusy p.row (mmaCycles fa fb)).readOut p ro k rod := by
  have used := (h.writesAcc k true acc).uses [a, b] (readOutDsts ro rod)
  refine ⟨((t.writesAcc p k true acc).uses p [a, b] (readOutDsts ro rod)).sawPoison p (s.mmaPoison p acc k a b),
    used.sawPoison _, (State.Body.writesAcc.trans .uses).trans .sawPoison, ?_⟩
  unfold State.mma
  simp only [used.view, used.acc, (used.sawPoison _).startPairs]
  rfl

theorem exec_mma {s : State} {p : Site} {ro : BitVec 2} {fa fb : BitVec 4} {opa opb : BitVec 5} {rod : BitVec 4}
    (ok : mmaBad ro fa fb opa opb rod = none) {k : BitVec 3}
    (h : s.issuesOn p (.a k.toNat :: opd opa :: opd opb :: readOutDsts ro rod.toNat)) (acc : Bool) :
    exec (.mma p acc ro fa fb k opa opb rod) s = .next
      (((s.atIssue p (.a k.toNat :: opd opa :: opd opb :: readOutDsts ro rod.toNat)).mma p acc ro fa.toNat fb.toNat k.toNat
        (opd opa) (opd opb) rod.toNat).advance p) := by
  show execMma p acc ro fa fb k opa opb rod s = _
  rw [execMma, ok]
  exact congrArg Host.Outcome.next (State.runOn_eq h _)

/-- Settles O8: MMA's product is stored as its accumulator, and read out from there. -/
theorem mmaAccumulatesRowAgainstRow : Obligations.MmaAccumulatesRowAgainstRow := by
  unfold Obligations.MmaAccumulatesRowAgainstRow
  intro p s acc ro fa fb k opa opb rod ok h
  have ready := s.scored_atIssue p (.a k.toNat :: opd opa :: opd opb :: readOutDsts ro rod.toNat)
  obtain ⟨v, scored, body, effect⟩ := ready.mma acc ro fa.toNat fb.toNat k.toNat (opd opa) (opd opb) rod.toNat
  have run := exec_mma ok h acc
  rw [effect] at run
  obtain ⟨a, holds, stored⟩ := scored.calm_storePairs k.toNat (mmaTerms fa.toNat) (((s.spindle p).acc k.toNat).start acc)
    (s.mmaPairs p acc fa.toNat fb.toNat k.toNat (opd opa) (opd opb)) (s.mmaPoison p acc k.toNat (opd opa) (opd opb))
  rw [← State.spindle_bump _ Obj.spindleCellBusy p.row (mmaCycles fa.toNat fb.toNat)] at stored
  obtain ⟨hs, out, calm⟩ := State.calm_readOut
    (x := { s.spindle p with accs := (s.spindle p).accs.set k.toNat a }) stored ro k.toNat rod.toNat
  rw [Acc.start_count, Acc.start_long] at holds
  refine ⟨_, a, hs, run,
    (((body.trans .storePairs).trans (.bump (by decide) (by decide) (by decide))).trans .readOut).flags, ?_, holds, ?_⟩
  · rw [State.calm_advance, calm]
    rfl
  · rw [State.spindle_advance]
    have same := Spindle.acc_of_calm (y := { s.spindle p with accs := (s.spindle p).accs.set k.toNat a, hanks := hs }) calm
      k.toNat
    exact same ▸ out

end Sys2Proof.Machine
end

section
/-! SUPPORT. What LOAD, LOAD_T, COPY and STORE do to their hank and to their regions of the store, and the statements about
them (O10, O11). -/

namespace Sys2Proof.Machine

/-! ## Hanks brought from the store or from another operand -/

/-- Lines that no other engine writes meanwhile read as they stand to the move engine (R89). -/
theorem State.readMove_of_clean {s : State} {p : Site} {direct : Bool} {line n : Nat}
    (h : (s.spindle p).Clean direct line n) : s.readMove p direct line n = s.readLines p line n := by
  have undef : (if direct then (s.spindle p).pendingIn line n else []) = [] := by
    cases direct with
    | false => rfl
    | true => exact (h.2 rfl).1
  unfold State.readMove
  rw [undef, State.readAs_nil]

theorem State.Scored.opdWritten {s t : State} {p : Site} (h : s.Scored p t) (o : Opd) (w : Nat) (vs : List W32)
    (sc : Option (List Byte)) (b : Bool) :
    OpdWritten w vs sc b (s.spindle p).calm ((t.writeOpd p o w vs sc b).spindle p).calm o :=
  h.1 ▸ (State.opdWritten_writeOpd ..).calm

/-- The scale lines of a move; none where its format has no scales. -/
def State.scaleLinesAt (s : State) (p : Site) (f line : Nat) : List Line := if isMx f then s.readLines p line 2 else []

/-- The elements of a hank as a LOAD, or a LOAD_T where transposed, brings them (R71, R72). -/
def loadedElems (f : Nat) (tr : Bool) (ls : List Line) : List W32 :=
  if tr then transpose64 0 (lineElems (elemBits f) ls) else lineElems (elemBits f) ls

/-- A load's effect on the state at its issue: once the scoreboard has been met, its hank is written with the lines as they
were before the issue. -/
theorem State.Scored.loadHank {s t : State} {p : Site} (h : s.Scored p t) {f line sline : Nat} {direct sdirect : Bool}
    (lines : (s.spindle p).Clean direct line (hankLines f)) (scales : isMx f = true → (s.spindle p).Clean sdirect sline 2)
    (o : Opd) (tr : Bool) :
    let ls := s.readLines p line (hankLines f)
    let cs := s.scaleLinesAt p f sline
    ∃ v, s.Scored p v ∧ t.Body p v ∧ t.loadHank p f o direct sdirect line sline tr .clean =
      v.writeOpd p o (elemBits f) (loadedElems f tr ls) (if isMx f then some (lineScales cs) else none)
        ((ls ++ cs).any (·.poison)) := by
  intro ls cs
  have scaleErrors : (if isMx f then t.eccRead p .clean sline 2 else t) = t := by
    cases mx : isMx f with
    | false => rfl
    | true => exact State.eccRead_of_clean (h.clean (scales mx))
  have scaleRead : (if isMx f then t.readMove p sdirect sline 2 else []) = cs := by
    unfold cs State.scaleLinesAt
    cases mx : isMx f with
    | false => rfl
    | true => exact (State.readMove_of_clean (h.clean (scales mx))).trans (h.readLines sline 2)
  have lineRead : t.readMove p direct line (hankLines f) = ls :=
    (State.readMove_of_clean (h.clean lines)).trans (h.readLines ..)
  refine ⟨((t.drew 1).uses p [] [o]).sawPoison p ((ls ++ cs).any (·.poison)), ((h.drew 1).uses [] [o]).sawPoison _,
    (State.Body.drew.trans .uses).trans .sawPoison, ?_⟩
  have noneLeft : EccResult.mk 0 ((EccResult.clean.bad.filter (fun i => decide (hankLines f ≤ i))).map
      (fun i => i - hankLines f)) = .clean := rfl
  unfold State.loadHank
  dsimp only
  rw [State.eccRead_of_clean (h.clean lines), noneLeft, scaleErrors, lineRead, scaleRead]
  rfl

/-- The line of a move's scale region; 0 where its format has no scales. -/
def scaleAt (f m : Nat) : Nat := if isMx f then m else 0

theorem Regions.resolved {x : Spindle} {f l m : Nat} {r c : SRef} (h : Regions x f r c l m) :
    x.regions f r c = .inl (l, scaleAt f m) := by
  obtain ⟨elems, scales⟩ := h
  unfold Spindle.regions scaleAt
  rw [elems]
  cases mx : isMx f with
  | false => rfl
  | true =>
    dsimp only
    rw [scales mx]
    rfl

theorem State.Scored.regions {s t : State} {p : Site} (h : s.Scored p t) (f : Nat) (r c : SRef) :
    (t.spindle p).regions f r c = (s.spindle p).regions f r c :=
  (congrArg (fun x : Spindle => x.regions f r c) h.1 :)

theorem exec_load {s : State} {p : Site} {fmt : BitVec 4} {hd : BitVec 5} {sr ssc : BitVec 36} {l m : Nat}
    (ok : moveBad fmt hd (sref sr) (sref ssc) = none) (h : s.issuesOn p [opd hd])
    (at_ : Regions (s.spindle p) fmt.toNat (sref sr) (sref ssc) l m) (e : EccResult) :
    exec (.load p fmt hd sr ssc e) s = .next (((s.atIssue p [opd hd]).loadHank p fmt.toNat (opd hd) (sref sr).direct
      (sref ssc).direct l (scaleAt fmt.toNat m) false e).advance p) := by
  show execLoad p fmt hd sr ssc e s = _
  rw [execLoad, ok]
  refine congrArg Host.Outcome.next ((State.runOn_eq h _).trans ?_)
  rw [(s.scored_atIssue p _).regions, at_.resolved]

theorem exec_loadT {s : State} {p : Site} {fmt : BitVec 4} {hd : BitVec 5} {sr : BitVec 36} {l : Nat}
    (ok : loadTBad fmt (sref sr) = none) (h : s.issuesOn p [opd hd])
    (at_ : (s.spindle p).extent (sref sr) (hankLines fmt.toNat) = .ok l) (e : EccResult) :
    exec (.loadT p fmt hd sr e) s = .next (((s.atIssue p [opd hd]).loadHank p fmt.toNat (opd hd) (sref sr).direct true l 0 true
      e).advance p) := by
  show execLoadT p fmt hd sr e s = _
  rw [execLoadT, ok]
  refine congrArg Host.Outcome.next ((State.runOn_eq h _).trans ?_)
  rw [(s.scored_atIssue p _).extent, at_]

theorem not_isMx_of_loadT {fmt : BitVec 4} {r : SRef} (ok : loadTBad fmt r = none) : isMx fmt.toNat = false := by
  unfold loadTBad at ok
  cases mx : isMx fmt.toNat with
  | false => rfl
  | true =>
    rw [mx, if_pos rfl] at ok
    split at ok <;> exact absurd ok nofun

/-- COPY's effect on the state at its issue. -/
theorem State.Scored.copyHank {s t : State} {p : Site} (h : s.Scored p t) (f : Nat) (dst src : Opd) :
    ∃ v, s.Scored p v ∧ t.Body p v ∧ t.copyHank p f dst src =
      v.writeOpd p dst (elemBits f) (s.view p src).elems (if isMx f then some (s.view p src).scales else none)
        (s.view p src).poison := by
  have used := h.uses [src] [dst]
  refine ⟨(t.uses p [src] [dst]).sawPoison p (s.view p src).poison, used.sawPoison _, State.Body.uses.trans .sawPoison, ?_⟩
  unfold State.copyHank
  simp only [used.view]

theorem exec_copy {s : State} {p : Site} {fmt : BitVec 4} {hd hsrc : BitVec 5} (ok : copyBad fmt hd hsrc = none)
    (h : s.issuesOn p [opd hd, opd hsrc]) :
    exec (.copy p fmt hd hsrc) s =
      .next (((s.atIssue p [opd hd, opd hsrc]).copyHank p fmt.toNat (opd hd) (opd hsrc)).advance p) := by
  show execCopy p fmt hd hsrc s = _
  rw [execCopy, ok]
  exact congrArg Host.Outcome.next (State.runOn_eq h _)

/-- Settles O10: each of the three writes its hank once, with what it read before its issue. -/
theorem loadsAndCopyWriteTheirHank : Obligations.LoadsAndCopyWriteTheirHank := by
  unfold Obligations.LoadsAndCopyWriteTheirHank
  intro p s fmt hd
  have ready := s.scored_atIssue p [opd hd]
  refine ⟨fun sr ssc l m ok h at_ lines scales => ?_, fun sr l ok h at_ lines => ?_, fun hsrc ok h => ?_⟩
  · have scales' : isMx fmt.toNat = true → (s.spindle p).Clean (sref ssc).direct (scaleAt fmt.toNat m) 2 := fun mx => by
      rw [scaleAt, if_pos mx]
      exact scales mx
    have same : s.scaleLinesAt p fmt.toNat (scaleAt fmt.toNat m) = s.scaleLinesAt p fmt.toNat m := by
      unfold State.scaleLinesAt scaleAt
      cases isMx fmt.toNat <;> rfl
    obtain ⟨v, scored, body, effect⟩ := ready.loadHank lines scales' (opd hd) false
    have run := exec_load ok h at_ .clean
    rw [effect, same] at run
    exact ⟨_, _, run, (body.trans .writeOpd).flags, State.calm_advance .., scored.opdWritten ..⟩
  · have plain := not_isMx_of_loadT ok
    have unscaled : s.scaleLinesAt p fmt.toNat 0 = [] := by
      unfold State.scaleLinesAt
      rw [plain]
      rfl
    obtain ⟨v, scored, body, effect⟩ := ready.loadHank (sdirect := true) (sline := 0) lines
      (fun mx => absurd mx (by simp [plain])) (opd hd) true
    have run := exec_loadT ok h at_ .clean
    rw [effect, unscaled, List.append_nil, plain] at run
    exact ⟨_, _, run, (body.trans .writeOpd).flags, State.calm_advance .., scored.opdWritten ..⟩
  · obtain ⟨v, scored, body, effect⟩ := (s.scored_atIssue p [opd hd, opd hsrc]).copyHank fmt.toNat (opd hd) (opd hsrc)
    have run := exec_copy ok h
    rw [effect] at run
    exact ⟨_, _, run, (body.trans .writeOpd).flags, State.calm_advance .., scored.opdWritten ..⟩

/-! ## Store lines written -/

theorem tget_putLines : ∀ (xs : List Line) (m : SMap Line) (l i : Nat),
    tget (putLines m l xs) i = if l ≤ i then xs[i - l]?.or (tget m i) else tget m i
  | [], m, l, i => by simp [putLines]
  | x :: xs, m, l, i => by
    rw [putLines, tget_putLines xs, tget_tput]
    rcases Nat.lt_trichotomy i l with below | rfl | above
    · rw [if_neg (by omega), if_neg (by omega), if_neg (by omega)]
    · rw [if_neg (by omega), if_pos rfl, if_pos (Nat.le_refl i), Nat.sub_self]
      rfl
    · obtain ⟨j, rfl⟩ : ∃ j, i = l + 1 + j := ⟨i - (l + 1), by omega⟩
      have place : l + 1 + j - l = j + 1 := by omega
      rw [if_pos (by omega), if_neg (by omega), if_pos (by omega), Nat.add_sub_cancel_left, place, List.getElem?_cons_succ]

/-- A store with lines written from a line: nothing else of what its lines read by has changed. -/
def Store.Wrote (st : Store) (l : Nat) (xs : List Line) (st' : Store) : Prop :=
  st'.lines = putLines st.lines l xs ∧ st'.seed = st.seed ∧ st'.zeroed = st.zeroed

/-- A line reads what was last written to it (R70, R74). -/
theorem Store.Wrote.line {st st' : Store} {l : Nat} {xs : List Line} (h : st.Wrote l xs st') (p : Site) (i : Nat) :
    Store.line p st' i = if l ≤ i then (xs[i - l]?).getD (Store.line p st i) else Store.line p st i := by
  obtain ⟨lines, seed, zeroed⟩ := h
  unfold Store.line
  rw [lines, seed, zeroed, tget_putLines]
  split
  · cases xs[i - l]? <;> rfl
  · rfl

theorem Store.Wrote.line_out {st st' : Store} {l : Nat} {xs : List Line} (h : st.Wrote l xs st') {p : Site} {i : Nat}
    (out : i < l ∨ l + xs.length ≤ i) : Store.line p st' i = Store.line p st i := by
  rw [h.line]
  split
  · rw [List.getElem?_eq_none (by omega), Option.getD_none]
  · rfl

/-- Lines written with one poison bit: those given, or as many poisoned ones (R74). -/
def Marked (xs : List Line) (poison : Bool) (ls : List Line) : Prop :=
  ls.length = xs.length ∧ (∀ x ∈ ls, x.poison = poison) ∧ (poison = false → ls = xs)

theorem State.writeLines_spec (s : State) (p : Site) (l : Nat) (xs : List Line) :
    ∃ st, (s.spindle p).store.Wrote l xs st ∧ (s.writeLines p l xs).spindle p = { s.spindle p with store := st } := by
  refine ⟨_, ?_, State.spindle_setSpindle ..⟩
  exact ⟨rfl, rfl, rfl⟩

/-- A region written with one poison bit: its own lines, or poisoned ones. -/
theorem State.putRegion_spec (s : State) (p : Site) (l : Nat) {xs : List Line} {poison : Bool}
    (sound : poison = false → ∀ x ∈ xs, x.poison = false) :
    ∃ ls st, Marked xs poison ls ∧ (s.spindle p).store.Wrote l ls st ∧
      (s.putRegion p l xs poison).spindle p = { s.spindle p with store := st } := by
  unfold State.putRegion
  cases poison with
  | false =>
    obtain ⟨st, wrote, e⟩ := s.writeLines_spec p l xs
    exact ⟨xs, st, ⟨rfl, sound rfl, fun _ => rfl⟩, wrote, e⟩
  | true =>
    obtain ⟨st, wrote, e⟩ := s.writeLines_spec p l (poisonedLines (s.free + 1) (p.row * 2 ^ 20 + l) xs.length)
    exact ⟨_, st, ⟨by simp [poisonedLines], by simp [poisonedLines], nofun⟩, wrote, e⟩

theorem State.Body.putRegion {s : State} {p : Site} {l : Nat} {xs : List Line} {poison : Bool} :
    s.Body p (s.putRegion p l xs poison) := by
  unfold State.putRegion
  split
  · exact State.Body.setSpindle.trans .drew
  · exact .setSpindle

/-- A region written by the move engine, and marked where it has no handle. -/
theorem State.storeRegion_spec (s : State) (p : Site) (direct : Bool) (l : Nat) {xs : List Line}
    (sound : ∀ x ∈ xs, x.poison = false) (poison : Bool) :
    ∃ ls st, Marked xs poison ls ∧ (s.spindle p).store.Wrote l ls st ∧
      ((s.storeRegion p direct l xs poison).spindle p).calm =
        { (s.spindle p).calm.marked direct l xs.length with store := st } := by
  obtain ⟨ls, st, marked, wrote, e⟩ := s.putRegion_spec p l (poison := poison) fun _ => sound
  refine ⟨ls, st, marked, wrote, ?_⟩
  unfold State.storeRegion
  cases direct with
  | false => exact congrArg Spindle.calm e
  | true =>
    show (((s.putRegion p l xs poison).storedAt p l xs.length).spindle p).calm = _
    rw [State.storedAt, State.spindle_setSpindle, e]
    rfl

theorem State.Body.storeRegion {s : State} {p : Site} {direct : Bool} {l : Nat} {xs : List Line} {poison : Bool} :
    s.Body p (s.storeRegion p direct l xs poison) := by
  unfold State.storeRegion
  dsimp only
  split
  · exact State.Body.putRegion.trans .setSpindle
  · exact .putRegion

/-! ## STORE -/

theorem length_fields (w : Nat) : ∀ n v : Nat, (fields w n v).length = n
  | 0, _ => rfl
  | n + 1, v => by rw [fields, List.length_cons, length_fields w n]

theorem length_natLines (n v : Nat) : (natLines n v).length = n := by
  rw [natLines, List.length_map, length_fields]

theorem natLines_sound (n v : Nat) : ∀ x ∈ natLines n v, x.poison = false := by
  simp [natLines]

theorem length_elemLines (w : Nat) (es : List W32) : (elemLines w es).length = 8 * w := length_natLines ..

theorem elemLines_sound (w : Nat) (es : List W32) : ∀ x ∈ elemLines w es, x.poison = false := natLines_sound _ _

theorem length_scaleLinesOf (ss : List Byte) : (scaleLinesOf ss).length = 2 := length_natLines ..

theorem scaleLinesOf_sound (ss : List Byte) : ∀ x ∈ scaleLinesOf ss, x.poison = false := natLines_sound _ _

/-- The lines of the scale region of a STORE; none where its format has no scales. -/
def storedScales (f : Nat) (v : View) : List Line := if isMx f then scaleLinesOf v.scales else []

/-- The scale region of a STORE, written where its format has scales. -/
def State.storeScales (s : State) (p : Site) (f : Nat) (direct : Bool) (m : Nat) (v : View) : State :=
  if isMx f then s.storeRegion p direct m (scaleLinesOf v.scales) v.poison else s

theorem State.storeScales_spec (s : State) (p : Site) (f : Nat) (direct : Bool) (m : Nat) (v : View) :
    ∃ cs st, Marked (storedScales f v) v.poison cs ∧ (s.spindle p).store.Wrote m cs st ∧
      s.Body p (s.storeScales p f direct m v) ∧
      ((s.storeScales p f direct m v).spindle p).calm =
        { (s.spindle p).calm.marked (isMx f && direct) m 2 with store := st } := by
  unfold storedScales State.storeScales
  cases isMx f with
  | false =>
    simp only [Bool.false_eq_true, ↓reduceIte]
    exact ⟨[], (s.spindle p).store, ⟨rfl, fun _ hx => absurd hx List.not_mem_nil, fun _ => rfl⟩, ⟨rfl, rfl, rfl⟩, .refl ..,
      rfl⟩
  | true =>
    obtain ⟨cs, st, marked, wrote, calm⟩ := s.storeRegion_spec p direct m (scaleLinesOf_sound v.scales) v.poison
    rw [length_scaleLinesOf] at calm
    exact ⟨cs, st, marked, wrote, .storeRegion, calm⟩

theorem Spindle.marked_store (x : Spindle) (st : Store) (direct : Bool) (l n : Nat) :
    ({ x with store := st } : Spindle).marked direct l n = { x.marked direct l n with store := st } := by
  cases direct <;> rfl

/-- STORE's effect on the state at its issue: its element region written, and then its scale region. -/
theorem State.Scored.storeHank {s t : State} {p : Site} (h : s.Scored p t) (f : Nat) (o : Opd) (direct sdirect : Bool) (l m : Nat) :
    let v := s.view p o
    ∃ ls cs st st', t.Body p (t.storeHank p f o direct sdirect l m) ∧
      Marked (elemLines (elemBits f) v.elems) v.poison ls ∧ Marked (storedScales f v) v.poison cs ∧
      (s.spindle p).store.Wrote l ls st ∧ st.Wrote m cs st' ∧
      ((t.storeHank p f o direct sdirect l m).spindle p).calm =
        { ((s.spindle p).calm.marked direct l (hankLines f)).marked (isMx f && sdirect) m 2 with store := st' } := by
  intro v
  have used := h.uses [o] []
  have read := used.sawPoison v.poison
  generalize hr : (t.uses p [o] []).sawPoison p v.poison = r at read
  have reads : t.Body p r := hr ▸ State.Body.uses.trans .sawPoison
  obtain ⟨ls, st, marked, wrote, calm⟩ := r.storeRegion_spec p direct l (elemLines_sound (elemBits f) v.elems) v.poison
  generalize hu : r.storeRegion p direct l (elemLines (elemBits f) v.elems) v.poison = u at calm
  have stores : r.Body p u := hu ▸ .storeRegion
  obtain ⟨cs, st', scaled, wrote', body, calm'⟩ := u.storeScales_spec p f sdirect m v
  have before : (r.spindle p).store = (s.spindle p).store := (congrArg (fun x : Spindle => x.store) read.1 :)
  have between : (u.spindle p).store = st := (congrArg (fun x : Spindle => x.store) calm :)
  have effect : t.storeHank p f o direct sdirect l m = u.storeScales p f sdirect m v := by
    unfold State.storeHank
    simp only [used.view]
    rw [← hu, ← hr]
    rfl
  rw [effect]
  refine ⟨ls, cs, st, st', (reads.trans stores).trans body, marked, scaled, before ▸ wrote, between ▸ wrote', ?_⟩
  rw [calm', calm, Spindle.marked_store, read.1, length_elemLines]
  rfl

theorem exec_store {s : State} {p : Site} {fmt : BitVec 4} {hd : BitVec 5} {sr ssc : BitVec 36} {l m : Nat}
    (ok : moveBad fmt hd (sref sr) (sref ssc) = none) (h : s.issuesOn p [opd hd])
    (at_ : Regions (s.spindle p) fmt.toNat (sref sr) (sref ssc) l m) :
    exec (.store p fmt hd sr ssc) s = .next (((s.atIssue p [opd hd]).storeHank p fmt.toNat (opd hd) (sref sr).direct
      (sref ssc).direct l m).advance p) := by
  show execStore p fmt hd sr ssc s = _
  rw [execStore, ok]
  refine congrArg Host.Outcome.next ((State.runOn_eq h _).trans ?_)
  rw [(s.scored_atIssue p _).regions, at_.resolved]
  unfold State.storeHank scaleAt
  cases isMx fmt.toNat <;> rfl

/-- Settles O11: the two regions written one after the other, and a line as it was last written. -/
theorem storeWritesItsRegionsAndReadsBack : Obligations.StoreWritesItsRegionsAndReadsBack := by
  unfold Obligations.StoreWritesItsRegionsAndReadsBack
  refine ⟨fun p s fmt hd sr ssc l m ok h at_ => ?_, fun p st l i xs => ?_⟩
  · obtain ⟨ls, cs, st, st', body, ⟨len, poison, sound⟩, ⟨slen, spoison, ssound⟩, wrote, wrote', calm⟩ :=
      (s.scored_atIssue p [opd hd]).storeHank fmt.toNat (opd hd) (sref sr).direct (sref ssc).direct l m
    have same : ((((s.atIssue p [opd hd]).storeHank p fmt.toNat (opd hd) (sref sr).direct (sref ssc).direct l m).advance
        p).spindle p).store = st' := by
      rw [State.spindle_advance]
      exact (congrArg (fun x : Spindle => x.store) calm :)
    have elems : ls.length = hankLines fmt.toNat := len.trans (length_elemLines ..)
    have count : isMx fmt.toNat = true → storedScales fmt.toNat (s.view p (opd hd)) = scaleLinesOf (s.view p (opd hd)).scales :=
      fun mx => if_pos mx
    refine ⟨_, ls, cs, exec_store ok h at_, body.flags, ?_, ?_, ?_, ?_, elems, ?_, sound, ?_, ?_, ?_⟩
    · rw [State.calm_advance, calm, same]
    · rw [same, wrote'.1, wrote.1]
    · rw [same, wrote'.2.1, wrote.2.1]
    · rw [same, wrote'.2.2, wrote.2.2]
    · intro x hx
      exact (List.mem_append.mp hx).elim (poison x) (spoison x)
    · intro plain
      rw [storedScales, plain] at slen
      exact List.length_eq_zero_iff.mp slen
    · intro mx
      rw [count mx] at slen ssound
      exact ⟨slen.trans (length_scaleLinesOf _), ssound⟩
    · intro i before after
      rw [same, wrote'.line_out after, wrote.line_out (elems ▸ before)]
  · have wrote : st.Wrote l xs { st with lines := putLines st.lines l xs } := ⟨rfl, rfl, rfl⟩
    exact wrote.line p i

end Sys2Proof.Machine
end

section
/-! SUPPORT. What a rejection sets, counts, records and taints, and the statement about rejected moves (O12). -/

namespace Sys2Proof.Machine

/-! ## Bits of a number -/

theorem bitAt_eq_testBit (n i : Nat) : bitAt n i = n.testBit i := by
  unfold bitAt bits
  rw [Nat.testBit_eq_decide_div_mod_eq, Nat.shiftRight_eq_div_pow, Nat.pow_one]
  exact Bool.beq_eq_decide_eq _ _

/-- A number with a field replaced: what stands above the field and below it stays. -/
theorem setBits_eq (n lo w v : Nat) :
    setBits n lo w v = 2 ^ lo * (2 ^ w * (n / 2 ^ lo / 2 ^ w) + v % 2 ^ w) + n % 2 ^ lo := by
  have whole := Nat.div_add_mod n (2 ^ lo)
  have upper := Nat.div_add_mod (n / 2 ^ lo) (2 ^ w)
  unfold setBits bits
  rw [Nat.shiftRight_eq_div_pow, Nat.shiftLeft_eq, Nat.shiftLeft_eq, Nat.mul_add, Nat.mul_comm (v % 2 ^ w)]
  generalize v % 2 ^ w = x
  generalize n % 2 ^ lo = r at *
  have field : n = 2 ^ lo * (2 ^ w * (n / 2 ^ lo / 2 ^ w)) + n / 2 ^ lo % 2 ^ w * 2 ^ lo + r := by
    rw [Nat.mul_comm _ (2 ^ lo), ← Nat.mul_add, upper, whole]
  omega

theorem setBits_div (n lo w v : Nat) : setBits n lo w v / 2 ^ lo = 2 ^ w * (n / 2 ^ lo / 2 ^ w) + v % 2 ^ w := by
  rw [setBits_eq, Nat.mul_add_div (Nat.two_pow_pos lo), Nat.div_eq_of_lt (Nat.mod_lt _ (Nat.two_pow_pos lo)), Nat.add_zero]

theorem bits_setBits_self (n lo w v : Nat) : bits (setBits n lo w v) lo w = v % 2 ^ w := by
  unfold bits
  rw [Nat.shiftRight_eq_div_pow, setBits_div, Nat.mul_add_mod, Nat.mod_mod]

/-- A field above one that is replaced stays. -/
theorem bits_setBits_above {lo w lo' : Nat} (h : lo + w ≤ lo') (n v w' : Nat) :
    bits (setBits n lo w v) lo' w' = bits n lo' w' := by
  obtain ⟨k, rfl⟩ := Nat.exists_eq_add_of_le h
  unfold bits
  rw [Nat.shiftRight_eq_div_pow, Nat.shiftRight_eq_div_pow, Nat.pow_add, Nat.pow_add, ← Nat.div_div_eq_div_mul,
    ← Nat.div_div_eq_div_mul, ← Nat.div_div_eq_div_mul, ← Nat.div_div_eq_div_mul, setBits_div,
    Nat.mul_add_div (Nat.two_pow_pos w), Nat.div_eq_of_lt (Nat.mod_lt _ (Nat.two_pow_pos w)), Nat.add_zero]

theorem setBit_true (n i : Nat) : setBit n i true = 2 ^ i * (2 * (n / 2 ^ i / 2) + 1) + n % 2 ^ i := setBits_eq n i 1 1

theorem bitAt_setBit_self (n i : Nat) : bitAt (setBit n i true) i = true := by
  rw [bitAt_eq_testBit, setBit_true, Nat.testBit_two_pow_mul_add _ (Nat.mod_lt _ (Nat.two_pow_pos i))]
  simp

theorem bitAt_setBit_of {n j : Nat} (h : bitAt n j = true) (i : Nat) : bitAt (setBit n i true) j = true := by
  rw [bitAt_eq_testBit] at h ⊢
  rw [setBit_true, Nat.testBit_two_pow_mul_add _ (Nat.mod_lt _ (Nat.two_pow_pos i))]
  rw [← Nat.div_add_mod n (2 ^ i), Nat.testBit_two_pow_mul_add _ (Nat.mod_lt _ (Nat.two_pow_pos i))] at h
  split
  case isTrue low => rwa [if_pos low] at h
  case isFalse high =>
    rw [if_neg high] at h
    cases hk : j - i with
    | zero => simp
    | succ k =>
      rw [hk, Nat.testBit_succ] at h
      rw [Nat.testBit_succ]
      have same : (2 * (n / 2 ^ i / 2) + 1) / 2 = n / 2 ^ i / 2 := by omega
      rwa [same]

/-! ## A fault record -/

theorem Rec.code_word (r : Rec) (seq step : Nat) : bits (r.word seq step) 144 16 = r.code % 2 ^ 16 := by
  have flags : packFields 8 [r.root.toNat + 2 * r.hard.toNat] < 2 ^ 8 := by
    rw [packFields, packFields]
    omega
  unfold Rec.word bits
  rw [Nat.shiftRight_eq_div_pow]
  generalize packFields 8 _ = a at *
  generalize r.code = c at *
  omega

theorem State.obj_fault_seqLast (s : State) (c u d : Nat) :
    (s.fault c u d).obj Obj.faultSeqLast 0 = (s.obj Obj.faultSeqLast 0 + 1) % 2 ^ 32 := by
  unfold State.fault State.record State.lastSeq
  rw [State.obj_setObj_self, State.obj_bump_ne (by decide)]

/-- A report is the newest record of the log, with its code. -/
theorem State.code_fault (s : State) {c : Nat} (hc : c < 2 ^ 16) (u d : Nat) :
    bits ((s.fault c u d).obj Obj.faultLog ((s.fault c u d).obj Obj.faultSeqLast 0 % 4096)) 144 16 = c := by
  have seq := s.obj_fault_seqLast c u d
  have row : (s.obj Obj.faultSeqLast 0 + 1) % 2 ^ 32 % 4096 < 2 ^ 20 := by omega
  rw [seq]
  unfold State.fault State.record State.lastSeq
  dsimp only
  rw [State.obj_bump_ne (by decide), State.obj_setObj_ne (objKey_ne_of_id (by decide) row (by decide)), State.obj_setObj_self,
    Rec.code_word]
  exact Nat.mod_eq_of_lt hc

theorem State.obj_fault_other {s : State} {id row : Nat} (hr : row < 2 ^ 20)
    (h : id ∉ [Obj.faultLog, Obj.faultSeqLast, Obj.faultReports]) (c u d : Nat) : (s.fault c u d).obj id row = s.obj id row := by
  have frame : s.OnlyRows (Machine.rowsOf [Obj.faultLog, Obj.faultSeqLast, Obj.faultReports]) (s.fault c u d) :=
    State.OnlyRows.fault (fun _ => by simp [Machine.rowsOf]) (by simp [Machine.rowsOf]) (by simp [Machine.rowsOf])
  exact frame.2.1 id row hr h

/-! ## A rejection -/

/-- The flags and the counter of a rejection (R102, R105). -/
def State.rejectedFlags (s : State) (p : Site) (c : RejectCause) : State :=
  ((s.spFlag p 0).spFlag p c.code.2).bump Obj.spindleRejects p.row 1

/-- A rejection but for the taint of the step: its flags, its counter and its record (R102). -/
def State.rejectedRows (s : State) (p : Site) (c : RejectCause) : State :=
  (s.rejectedFlags p c).fault c.code.1 ((s.rejectedFlags p c).siteUnit p.x.val p.y.val) 0

theorem State.rejected_eq (s : State) (p : Site) (c : RejectCause) : s.rejected p c = (s.rejectedRows p c).taint := rfl

theorem RejectCause.code_lt (c : RejectCause) : c.code.1 < 2 ^ 16 := by
  cases c <;> decide

section Rejected

variable (s : State) (p : Site) (c : RejectCause)

theorem State.Body.rejectedRows : s.Body p (s.rejectedRows p c) :=
  ((State.Body.spFlag.trans .spFlag).trans (.bump (by decide) (by decide) (by decide))).trans .fault

theorem State.spindle_rejected (q : Site) : (s.rejected p c).spindle q = s.spindle q := by
  rw [State.rejected_eq, State.spindle_taint, State.rejectedRows, State.spindle_fault]
  rfl

/-- Both flags of a rejection are set: REJECTED and that of its cause. -/
theorem State.flags_rejected :
    bitAt ((s.rejected p c).obj Obj.spindleFlags p.row) 0 = true ∧
      bitAt ((s.rejected p c).obj Obj.spindleFlags p.row) c.code.2 = true := by
  have same : (s.rejected p c).obj Obj.spindleFlags p.row =
      setBit (setBit (s.obj Obj.spindleFlags p.row) 0 true) c.code.2 true := by
    rw [State.rejected_eq, State.obj_taint, State.rejectedRows, State.obj_fault_other (site_row_lt p) (by decide),
      State.rejectedFlags, State.obj_bump_ne (objKey_ne_of_id (site_row_lt p) (site_row_lt p) (by decide)), State.spFlag,
      State.obj_setFlag_self, State.spFlag, State.obj_setFlag_self]
  rw [same]
  exact ⟨bitAt_setBit_of (bitAt_setBit_self ..) _, bitAt_setBit_self ..⟩

theorem State.rejects_rejected :
    (s.rejected p c).obj Obj.spindleRejects p.row = satAdd 32 (s.obj Obj.spindleRejects p.row) 1 := by
  have other : objKey Obj.spindleFlags p.row ≠ objKey Obj.spindleRejects p.row :=
    objKey_ne_of_id (site_row_lt p) (site_row_lt p) (by decide)
  rw [State.rejected_eq, State.obj_taint, State.rejectedRows, State.obj_fault_other (site_row_lt p) (by decide),
    State.rejectedFlags, State.obj_bump_of_bits (by decide : objBits Obj.spindleRejects = 32), State.spFlag,
    State.obj_setFlag_ne other, State.spFlag, State.obj_setFlag_ne other]

theorem State.seqLast_rejected :
    (s.rejected p c).obj Obj.faultSeqLast 0 = (s.obj Obj.faultSeqLast 0 + 1) % 2 ^ 32 := by
  have other {i : Nat} (hi : i ≠ Obj.faultSeqLast) : objKey i p.row ≠ objKey Obj.faultSeqLast 0 :=
    objKey_ne_of_id (site_row_lt p) (by decide) hi
  rw [State.rejected_eq, State.obj_taint, State.rejectedRows, State.obj_fault_seqLast, State.rejectedFlags,
    State.obj_bump_ne (other (by decide)), State.spFlag, State.obj_setFlag_ne (other (by decide)), State.spFlag,
    State.obj_setFlag_ne (other (by decide))]

/-- The newest record of the log is the rejection's. -/
theorem State.code_rejected :
    bits ((s.rejected p c).obj Obj.faultLog ((s.rejected p c).obj Obj.faultSeqLast 0 % 4096)) 144 16 = c.code.1 := by
  rw [State.rejected_eq, State.obj_taint, State.obj_taint]
  exact State.code_fault _ c.code_lt _ _

end Rejected

@[simp] theorem State.obj_advance (s : State) (p : Site) (id row : Nat) : (s.advance p).obj id row = s.obj id row := rfl

theorem State.advance_taint (s : State) (p : Site) : s.taint.advance p = (s.advance p).taint := rfl

theorem State.taint_untainted (s : State) : { s.taint with step := s.step } = s := rfl

/-- A rejected instruction moves what any instruction may, and taints the running step. -/
theorem State.Body.flags_rejected {p : Site} {s t : State} {os : List Opd} (h : (s.atIssue p os).Body p t) (c : RejectCause) :
    s.IssuedFlags p { (t.rejected p c).advance p with step := s.step } ∧
      ((t.rejected p c).advance p).step = { s.step with tainted := true } := by
  have moved := (h.trans (.rejectedRows t p c)).flags
  have step : ((t.rejectedRows p c).advance p).step = s.step := by
    rw [moved.2.1]
  rw [State.rejected_eq, State.advance_taint, ← step]
  exact ⟨(State.taint_untainted _).symm ▸ moved, rfl⟩

theorem State.obj_atIssue_seqLast (s : State) (p : Site) (os : List Opd) :
    (s.atIssue p os).obj Obj.faultSeqLast 0 = s.obj Obj.faultSeqLast 0 := by
  have frame : (s.issued p).obj Obj.faultSeqLast 0 = s.obj Obj.faultSeqLast 0 :=
    (s.issued_frame p).2.2.1 _ _ (by decide) fun moved => absurd moved.2 (by decide)
  unfold State.atIssue State.mayWait
  dsimp only
  split
  · exact frame
  · exact frame

/-! ## Rejected moves -/

section Moves

variable {s : State} {p : Site} {fmt : BitVec 4} {hd : BitVec 5} {sr ssc : BitVec 36} {c : RejectCause}
  (ok : moveBad fmt hd (sref sr) (sref ssc) = none) (h : s.issuesOn p [opd hd])
  (bad : (s.spindle p).extent (sref sr) (hankLines fmt.toNat) = .bad c)
include bad

theorem Spindle.regions_of_bad (r : SRef) : (s.spindle p).regions fmt.toNat (sref sr) r = .inr c := by
  unfold Spindle.regions
  rw [bad]

include ok h

theorem exec_store_rejected :
    exec (.store p fmt hd sr ssc) s = .next (((s.atIssue p [opd hd]).rejected p c).advance p) := by
  show execStore p fmt hd sr ssc s = _
  rw [execStore, ok]
  refine congrArg Host.Outcome.next ((State.runOn_eq h _).trans ?_)
  rw [(s.scored_atIssue p _).regions, Spindle.regions_of_bad bad]
  rfl

theorem exec_load_rejected (e : EccResult) :
    exec (.load p fmt hd sr ssc e) s =
      .next ((((s.atIssue p [opd hd]).poisonOpd p (opd hd)).rejected p c).advance p) := by
  show execLoad p fmt hd sr ssc e s = _
  rw [execLoad, ok]
  refine congrArg Host.Outcome.next ((State.runOn_eq h _).trans ?_)
  rw [(s.scored_atIssue p _).regions, Spindle.regions_of_bad bad]
  rfl

end Moves

/-- Settles O12: a rejection's rows and taint, at the state of the issue for a STORE and after the poisoned hank for a LOAD. -/
theorem rejectedMovesPoisonAndTaint : Obligations.RejectedMovesPoisonAndTaint := by
  unfold Obligations.RejectedMovesPoisonAndTaint
  intro p s fmt hd sr ssc c ok h bad
  have ready := s.scored_atIssue p [opd hd]
  have count := State.obj_atIssue_noted (id := Obj.spindleRejects) (by decide) s p [opd hd]
  refine ⟨?_, fun e => ?_⟩
  · obtain ⟨moved, step⟩ := (State.Body.refl p (s.atIssue p [opd hd])).flags_rejected c
    obtain ⟨rejected, cause⟩ := (s.atIssue p [opd hd]).flags_rejected p c
    have code := (s.atIssue p [opd hd]).code_rejected p c
    refine ⟨_, exec_store_rejected ok h bad, ?_, moved, step, ?_, ?_, ?_, ?_, ?_⟩
    · rw [State.calm_advance, State.spindle_rejected, ready.1]
    · rw [State.obj_advance, rejected]
    · rw [State.obj_advance]
      cases c <;> exact cause
    · rw [State.obj_advance, State.rejects_rejected, count]
    · rw [State.obj_advance, State.seqLast_rejected, State.obj_atIssue_seqLast]
    · rw [State.obj_advance, State.obj_advance]
      cases c <;> exact code
  · obtain ⟨moved, step⟩ := (State.Body.writeOpd : (s.atIssue p [opd hd]).Body p
      ((s.atIssue p [opd hd]).poisonOpd p (opd hd))).flags_rejected c
    refine ⟨_, _, exec_load_rejected ok h bad e, State.calm_advance .., ?_, moved, step, ?_⟩
    · rw [State.spindle_rejected]
      exact ready.opdWritten ..
    · rw [State.obj_advance, State.rejects_rejected, State.poisonOpd, State.obj_writeOpd, count]

end Sys2Proof.Machine
end

section
/-! SUPPORT. What RECV and RECVH put in the transfer engine's queue, which flits the receive at its head takes, what its
completion writes, and how completed transfers hand on their handles; the statement about them (O20). -/

namespace Sys2Proof.Machine

/-! ## Instructions of the transfer engine -/

theorem State.scored_issued (s : State) (p : Site) : s.Scored p (s.issued p) :=
  ⟨s.calm_issued p, (s.issued_frame p).mono (issueRows_spindleRows p)⟩

theorem State.runXfer_eq {s : State} {p : Site} {os : List Opd} (h : s.queuesOn p os) (f : State → State) :
    s.runXfer p os f = ((f (s.issued p)).advance p).flow := by
  obtain ⟨⟨issues, free⟩, room⟩ := h
  unfold State.runXfer
  rw [room, issues, free, State.runAt_issues issues]
  rfl

theorem State.queued_none (s : State) (p : Site) : s.Queued p [] ((s.issued p).advance p).flow := by
  refine ⟨_, (State.Body.advance).issued, rfl, ?_⟩
  rw [State.calm_advance, State.calm_issued, List.append_nil]
  rfl

theorem State.Scored.queued {s t : State} {p : Site} (h : s.Scored p t) (b : (s.issued p).Body p t) (o : Xfer) :
    s.Queued p [o] ((t.enqueue p o).advance p).flow := by
  refine ⟨_, (b.trans (State.Body.setSpindle.trans .advance)).issued, rfl, ?_⟩
  rw [State.calm_advance]
  refine (congrArg (fun x : Spindle => x.calm.next) (State.spindle_setSpindle ..)).trans ?_
  exact congrArg (fun x : Spindle => Spindle.next { x with xq := x.xq ++ [o] }) h.1

theorem State.Scored.refHandle {s t : State} {p : Site} (h : s.Scored p t) (r : SRef) : t.refHandle p r = s.refHandle p r :=
  (congrArg (fun x : Spindle => if r.am = 1 then some (x.slot r.slot).handle else none) h.1 :)

section Recv

variable {s : State} {p : Site} {vc : BitVec 2} {shape : BitVec 12} {length : BitVec 18} {sr : BitVec 36} (queue : BitVec 3)
  (ok : s.sendBad p vc shape.toNat (sref sr) false = none) (h : s.queuesOn p [])
include ok h

theorem exec_recv_zero (zero : length = 0) :
    exec (.recv p vc shape sr length queue) s = .next ((s.issued p).advance p).flow := by
  show execRecv p vc shape sr length queue s = _
  rw [execRecv, ok]
  refine congrArg Host.Outcome.next ((State.runXfer_eq h _).trans ?_)
  rw [if_pos zero]

theorem exec_recv {l : Nat} (lines : length ≠ 0) (at_ : (s.spindle p).extent (sref sr) length.toNat = .ok l) :
    exec (.recv p vc shape sr length queue) s = .next (((s.issued p).enqueue p (.recv
      { shape := shape.toNat, line := l, length := length.toNat, queue := queue.toNat
        handle := s.refHandle p (sref sr) })).advance p).flow := by
  show execRecv p vc shape sr length queue s = _
  rw [execRecv, ok]
  refine congrArg Host.Outcome.next ((State.runXfer_eq h _).trans ?_)
  rw [if_neg lines, (s.scored_issued p).extent, at_, (s.scored_issued p).refHandle]

end Recv

theorem exec_recvh {s : State} {p : Site} {vc : BitVec 2} {shape : BitVec 12} {length : BitVec 18} {hank : BitVec 5}
    (ok : s.sendhBad p vc shape.toNat hank length.toNat false = none) (h : s.queuesOn p [opd hank]) :
    exec (.recvh p vc shape hank length) s = .next ((((s.issued p).writesOpd p (opd hank)).enqueue p (.recv
      { shape := shape.toNat, line := 0, length := length.toNat, queue := 0, handle := none, hank := some hank })).advance
        p).flow := by
  show execRecvh p vc shape hank length s = _
  rw [execRecvh, ok]
  exact congrArg Host.Outcome.next (State.runXfer_eq h _)

/-! ## The flits a receive takes -/

section Eject

variable {s : State} {p : Site} {o : RecvOp} {rest : List Xfer} {f : NetFlit} (h : (s.spindle p).xq = .recv o :: rest)
include h

theorem State.ejectMsg_other_shape (other : o.shape ≠ f.shape) : s.ejectMsg p.row f = none := by
  have head : (s.at p.row).xq.head? = some (.recv o) := congrArg List.head? h
  unfold State.ejectMsg
  simp [head, other]

theorem State.ejectMsg_other_message {i : Nat} (id : o.id = some i) (other : i ≠ f.id) : s.ejectMsg p.row f = none := by
  have head : (s.at p.row).xq.head? = some (.recv o) := congrArg List.head? h
  unfold State.ejectMsg
  simp [head, id, other]

theorem State.ejectMsg_taken (shape : o.shape = f.shape)
    (mine : o.id = some f.id ∨ (o.id = none ∧ f.sb.first = true ∧
      ∃ e, s.nextFor o.shape p.row = some (f.id, e) ∧ e.lines = o.length)) :
    s.ejectMsg p.row f = some (s.setSpindle p { s.spindle p with
      xq := .recv { o with id := some f.id, got := o.got ++ f.lines } :: rest }) := by
  have head : (s.at p.row).xq.head? = some (.recv o) := congrArg List.head? h
  have tail : (s.at p.row).xq.drop 1 = rest := congrArg (List.drop 1) h
  have taken : s.ejectMsg p.row f =
      some (s.setHead p.row (.recv { o with id := some f.id, got := o.got ++ f.lines })) := by
    unfold State.ejectMsg
    rw [head]
    refine if_pos ?_
    rcases mine with id | ⟨id, first, e, next, lines⟩
    · simp [shape, id]
    · rw [shape] at next
      simp [shape, id, first, next, lines]
  rw [taken, State.setHead, tail]
  rfl

end Eject

/-! ## Handles put on their queues -/

/-- A handle is on its queue, or waits for a place there (R169). -/
def Spindle.Put (x : Spindle) (q : Nat) (h : W32) : Prop := h ∈ nth x.queues q [] ∨ (q, h) ∈ x.puts

theorem settlePuts_length : ∀ (ps : List (Nat × W32)) (qs : List (List W32)), (settlePuts ps qs).2.length = qs.length
  | [], _ => rfl
  | (q, h) :: ps, qs => by
    rw [settlePuts]
    split
    · rw [settlePuts_length ps, setNth, List.length_set]
    · rfl

/-- No handle is lost when those that wait are put where places are free. -/
theorem mem_settlePuts {q : Nat} {h : W32} : ∀ (ps : List (Nat × W32)) (qs : List (List W32)), q < qs.length →
    (h ∈ nth qs q [] ∨ (q, h) ∈ ps) → h ∈ nth (settlePuts ps qs).2 q [] ∨ (q, h) ∈ (settlePuts ps qs).1
  | [], _, _, here => here
  | (r, g) :: ps, qs, hq, here => by
    rw [settlePuts]
    split
    case isFalse => exact here
    case isTrue room =>
      refine mem_settlePuts ps _ (by rwa [setNth, List.length_set]) ?_
      have grown (x : W32) (hx : x ∈ nth qs q []) : x ∈ nth (setNth qs r (nth qs r [] ++ [g])) q [] := by
        unfold nth setNth at *
        rw [List.getElem?_set]
        by_cases same : r = q
        · subst same
          rw [if_pos rfl, if_pos hq]
          exact List.mem_append_left _ hx
        · rwa [if_neg same]
      rcases here with queued | waits
      · exact .inl (grown h queued)
      · rcases List.mem_cons.mp waits with first | later
        · obtain ⟨rfl, rfl⟩ := Prod.mk.inj first
          refine .inl ?_
          unfold nth setNth
          rw [List.getElem?_set, if_pos rfl, if_pos hq]
          exact List.mem_append_right _ List.mem_cons_self
        · exact .inr later

/-- A spindle whose queues of handles alone have changed, and which has lost none. -/
def Spindle.Gained (x y : Spindle) : Prop :=
  y = { x with queues := y.queues, puts := y.puts } ∧ y.queues.length = x.queues.length ∧
    ∀ q h, q < x.queues.length → x.Put q h → y.Put q h

theorem Spindle.Gained.refl (x : Spindle) : x.Gained x := ⟨rfl, rfl, fun _ _ _ h => h⟩

theorem Spindle.Gained.trans {x y z : Spindle} (a : x.Gained y) (b : y.Gained z) : x.Gained z := by
  obtain ⟨only, len, keep⟩ := a
  obtain ⟨only', len', keep'⟩ := b
  refine ⟨?_, len'.trans len, fun q h hq put => keep' q h (len ▸ hq) (keep q h hq put)⟩
  rw [only'.trans (congrArg (fun w : Spindle => { w with queues := z.queues, puts := z.puts }) only)]

/-- A handle that comes to wait is put, and all that wait with it as far as there is room. -/
theorem Spindle.gained_settle (x : Spindle) (q : Nat) (h : W32) :
    x.Gained ({ x with puts := x.puts ++ [(q, h)] } : Spindle).settle ∧
      (q < x.queues.length → ({ x with puts := x.puts ++ [(q, h)] } : Spindle).settle.Put q h) := by
  refine ⟨⟨rfl, settlePuts_length .., fun r g hr put => mem_settlePuts _ _ hr ?_⟩, fun hq => mem_settlePuts _ _ hq ?_⟩
  · exact put.imp_right (List.mem_append_left _)
  · exact .inr (List.mem_append_right _ List.mem_cons_self)

/-- A state in which transfers have handed on handles: beside the transmissions under way, spindles have only gained. -/
def State.Handed (s t : State) : Prop :=
  t = { s with fabric := { s.fabric with sending := t.fabric.sending }, spindles := t.spindles } ∧
    ∀ k x, tget s.spindles k = some x → ∃ y, tget t.spindles k = some y ∧ x.Gained y

theorem State.Handed.refl (s : State) : s.Handed s := ⟨rfl, fun _ x h => ⟨x, h, .refl x⟩⟩

theorem State.Handed.trans {s t u : State} (a : s.Handed t) (b : t.Handed u) : s.Handed u := by
  obtain ⟨only, gained⟩ := a
  obtain ⟨only', gained'⟩ := b
  refine ⟨?_, fun k x hx => ?_⟩
  · rw [only'.trans (congrArg (fun w : State => { w with
      fabric := { w.fabric with sending := u.fabric.sending }, spindles := u.spindles }) only)]
  · obtain ⟨y, hy, xy⟩ := gained k x hx
    obtain ⟨z, hz, yz⟩ := gained' k y hy
    exact ⟨z, hz, xy.trans yz⟩

theorem State.handed_sending (s : State) (m : SMap Sending) :
    s.Handed { s with fabric := { s.fabric with sending := m } } := ⟨rfl, fun _ x h => ⟨x, h, .refl x⟩⟩

theorem State.putHandle_sending (s : State) (row q : Nat) (h : W32) : (s.putHandle row q h).fabric = s.fabric := by
  unfold State.putHandle
  split <;> rfl

theorem State.handed_putHandle (s : State) (row q : Nat) (h : W32) : s.Handed (s.putHandle row q h) := by
  unfold State.putHandle
  cases hx : tget s.spindles row with
  | none => exact .refl s
  | some x =>
    refine ⟨rfl, fun k y hy => ?_⟩
    by_cases same : row = k
    · subst same
      obtain rfl : x = y := Option.some.inj (hx.symm.trans hy)
      exact ⟨_, tget_tput_self .., (x.gained_settle q h).1⟩
    · exact ⟨y, (tget_tput_ne same _ _).trans hy, .refl y⟩

theorem State.put_putHandle {s : State} {row : Nat} {x : Spindle} (hx : tget s.spindles row = some x) {q : Nat}
    (hq : q < x.queues.length) (h : W32) :
    ∃ y, tget (s.putHandle row q h).spindles row = some y ∧ q < y.queues.length ∧ y.Put q h := by
  obtain ⟨⟨_, len, _⟩, put⟩ := x.gained_settle q h
  unfold State.putHandle
  rw [hx]
  exact ⟨_, tget_tput_self .., len ▸ hq, put hq⟩

/-- What a destination's copy does to its transmission, and to the queue of the spindle that sent it (R155). -/
theorem State.handed_written (s : State) (id row : Nat) : s.Handed (s.written id row) := by
  unfold State.written
  cases tget s.fabric.sending id with
  | none => exact .refl s
  | some e =>
    dsimp only
    split
    · split
      · exact s.handed_sending _
      · exact (s.handed_sending _).trans (State.handed_putHandle ..)
    · exact s.handed_sending _

theorem State.written_waits {s : State} {id row : Nat} {e : Sending} (he : tget s.fabric.sending id = some e)
    (waits : e.due.erase row ≠ []) :
    (s.written id row).fabric.sending = tput s.fabric.sending id { e with due := e.due.erase row } := by
  unfold State.written
  simp [he, waits]

theorem State.written_last {s : State} {id row : Nat} {e : Sending} (he : tget s.fabric.sending id = some e)
    (last : e.due.erase row = []) :
    (s.written id row).fabric.sending = tdel s.fabric.sending id ∧
      ∀ q h x, e.handle = some (q, h) → tget s.spindles e.src = some x → q < x.queues.length →
        ∃ y, tget (s.written id row).spindles e.src = some y ∧ q < y.queues.length ∧ y.Put q h := by
  unfold State.written
  simp only [he, last, List.isEmpty_nil, ↓reduceIte]
  refine ⟨?_, fun q h x hh hx hq => ?_⟩
  · split
    · rfl
    · rw [State.putHandle_sending]
  · rw [hh]
    exact State.put_putHandle (s := { s with fabric := { s.fabric with sending := tdel s.fabric.sending id } }) hx hq h

/-! ## A message written -/

/-- A spindle whose hanks, accumulators and store alone have changed. -/
def Spindle.DataOnly (x y : Spindle) : Prop := y = { x with hanks := y.hanks, accs := y.accs, store := y.store }

theorem Spindle.DataOnly.trans {x y z : Spindle} (a : x.DataOnly y) (b : y.DataOnly z) : x.DataOnly z := by
  unfold Spindle.DataOnly at *
  exact b.trans (congrArg (fun w : Spindle => { w with hanks := z.hanks, accs := z.accs, store := z.store }) a)

theorem OpdWritten.dataOnly {w : Nat} {vs : List W32} {sc : Option (List Byte)} {b : Bool} {x y : Spindle} {o : Opd}
    (h : OpdWritten w vs sc b x y o) : x.DataOnly y := by
  cases o <;> (obtain ⟨r, rfl, _⟩ := h; exact rfl)

/-- A state that holds a spindle with its data alone changed. -/
def State.HasData (s : State) (p : Site) (x : Spindle) : Prop := ∃ y, tget s.spindles p.row = some y ∧ x.DataOnly y

section HasData

variable {s : State} {p : Site} {x : Spindle} (h : s.HasData p x)
include h

theorem State.HasData.spindle : x.DataOnly (s.spindle p) := by
  obtain ⟨y, hy, only⟩ := h
  unfold State.spindle
  rwa [hy]

theorem State.HasData.setSpindle {y : Spindle} (only : (s.spindle p).DataOnly y) : (s.setSpindle p y).HasData p x :=
  ⟨y, tget_tput_self .., h.spindle.trans only⟩

theorem State.HasData.sawPoison (b : Bool) : (s.sawPoison p b).HasData p x := by
  unfold State.sawPoison
  split
  · exact h
  · exact h

theorem State.HasData.writeOpd (o : Opd) (w : Nat) (vs : List W32) (sc : Option (List Byte)) (b : Bool) :
    (s.writeOpd p o w vs sc b).HasData p x := by
  have only := (s.opdWritten_writeOpd p o w vs sc b).dataOnly
  have there : ∃ y, tget (s.writeOpd p o w vs sc b).spindles p.row = some y := by
    cases o <;> exact ⟨_, tget_tput_self ..⟩
  obtain ⟨y, hy⟩ := there
  refine ⟨y, hy, h.spindle.trans ?_⟩
  unfold State.spindle at only
  rwa [hy] at only

theorem State.HasData.writeLines (l : Nat) (xs : List Line) : (s.writeLines p l xs).HasData p x := h.setSpindle rfl

theorem State.HasData.putRegion (l : Nat) (xs : List Line) (b : Bool) : (s.putRegion p l xs b).HasData p x := by
  unfold State.putRegion
  split
  · exact h.writeLines ..
  · exact h.writeLines ..

end HasData

/-- What each step of a fold over lines keeps, blurring them keeps. -/
theorem State.blurLines_keeps {p : Site} {P : State → Prop} (write : ∀ s l xs, P s → P (s.writeLines p l xs))
    (draw : ∀ s, P s → P (s.drew 1)) {s : State} (h : P s) (ls : List Nat) : P (s.blurLines p ls) := by
  have fold : ∀ (ks : List Nat) (f : Nat → List Line) (t : State), P t →
      P (ks.foldl (fun t l => t.writeLines p l (f l)) t) := by
    intro ks f
    induction ks with
    | nil => exact fun _ ht => ht
    | cons k ks ih => exact fun t ht => ih _ (write t k _ ht)
  unfold State.blurLines
  split
  · exact h
  · exact draw _ (fold ls (fun l => [freeLineOf (s.free + 1) p l]) s h)

theorem State.blurLines_nil (s : State) (p : Site) : s.blurLines p [] = s := rfl

/-- The message of a receive in its hank or its region, its engine free for the next instruction, the handles yet to be put. -/
def State.received (s : State) (p : Site) (o : RecvOp) : State :=
  let s := (s.popXfer p.row).sawPoison p (o.got.any (·.poison))
  match o.hank with
  | some h => s.putHank p (opd h) o.got
  | none => s.putMessage p o.line o.got o.undef

/-- The message done at this destination (R155). -/
def State.messageDone (s : State) (p : Site) (o : RecvOp) : State :=
  match o.id with
  | some i => s.written i p.row
  | none => s

/-- The handle of a receive put on its queue. -/
def State.putOwn (s : State) (p : Site) (o : RecvOp) : State :=
  match o.handle with
  | some h => s.putHandle p.row o.queue h
  | none => s

theorem State.complete_eq (s : State) (p : Site) (o : RecvOp) : s.complete p o = ((s.received p o).messageDone p o).putOwn p o :=
  rfl

section Received

variable {s : State} {p : Site} {o : RecvOp} {rest : List Xfer} (h : (s.spindle p).xq = .recv o :: rest)
include h

theorem State.popXfer_recv : s.popXfer p.row = s.setSpindle p { s.spindle p with xq := rest } := by
  have tail : (s.at p.row).xq.drop 1 = rest := congrArg (List.drop 1) h
  unfold State.popXfer
  dsimp only
  rw [tail]
  rfl

/-- The state in which a receive's message is written. -/
theorem State.spindle_popped (b : Bool) :
    ((s.popXfer p.row).sawPoison p b).spindle p = { s.spindle p with xq := rest } := by
  rw [State.spindle_sawPoison, State.popXfer_recv h, State.spindle_setSpindle]

theorem State.HasData.popped (b : Bool) :
    ((s.popXfer p.row).sawPoison p b).HasData p { s.spindle p with xq := rest } := by
  refine State.HasData.sawPoison ?_ b
  rw [State.popXfer_recv h]
  exact ⟨_, tget_tput_self .., rfl⟩

theorem State.HasData.received : (s.received p o).HasData p { s.spindle p with xq := rest } := by
  have popped := State.HasData.popped h (o.got.any (·.poison))
  unfold State.received
  dsimp only
  split
  · unfold State.putHank
    split
    · exact popped
    · exact popped.writeOpd ..
  · exact State.blurLines_keeps (P := fun t => t.HasData p { s.spindle p with xq := rest }) (fun _ l xs h => h.writeLines l xs)
      (fun _ h => h) (popped.putRegion ..) _

theorem State.Body.received : s.Body p (s.received p o) := by
  have popped : s.Body p ((s.popXfer p.row).sawPoison p (o.got.any (·.poison))) := by
    rw [State.popXfer_recv h]
    exact State.Body.setSpindle.trans .sawPoison
  unfold State.received
  dsimp only
  split
  · unfold State.putHank
    split
    · exact popped
    · exact popped.trans .writeOpd
  · exact State.blurLines_keeps (P := fun t => s.Body p t) (fun _ _ _ h => h.trans .setSpindle) (fun _ h => h.trans .drew)
      (popped.trans .putRegion) _

/-- No spindle's queues of handles have changed when the message is written. -/
theorem State.received_queues {k : Nat} {x : Spindle} (hx : tget s.spindles k = some x) :
    ∃ y, tget (s.received p o).spindles k = some y ∧ y.queues = x.queues := by
  by_cases here : k = p.row
  · subst here
    obtain ⟨y, hy, only⟩ := State.HasData.received h
    have same : s.spindle p = x := by
      unfold State.spindle
      rw [hx]
      rfl
    exact ⟨y, hy, same ▸ (congrArg (fun z : Spindle => z.queues) only :)⟩
  · exact ⟨x, ((State.Body.received h).2.1 k here).trans hx, rfl⟩

/-- A RECV's lines, as they stand in the store: the lines of the message, or poisoned ones (R74). -/
theorem State.received_lines (region : o.hank = none) (clear : o.undef = []) :
    ∃ ls st, Marked o.got (o.got.any (·.poison)) ls ∧ (s.spindle p).store.Wrote o.line ls st ∧
      (s.received p o).spindle p = { s.spindle p with xq := rest, store := st } := by
  have popped := State.spindle_popped h (o.got.any (·.poison))
  have sound : o.got.any (·.poison) = false → ∀ x ∈ o.got, x.poison = false := by simp
  obtain ⟨ls, st, marked, wrote, e⟩ := State.putRegion_spec ((s.popXfer p.row).sawPoison p (o.got.any (·.poison))) p o.line sound
  rw [popped] at wrote e
  refine ⟨ls, st, marked, wrote, ?_⟩
  unfold State.received State.putMessage
  rw [region, clear]
  exact e

/-- A RECVH's hank, written with the lines of the message as a LOAD writes one. -/
theorem State.received_hank {k : BitVec 5} (hank : o.hank = some k) {w : Nat} {mx : Bool}
    (width : hankWidth o.got.length = some (w, mx)) :
    OpdWritten w (lineElems w (o.got.take (8 * w))) (if mx then some (lineScales (o.got.drop (8 * w))) else none)
      (o.got.any (·.poison)) { s.spindle p with xq := rest } ((s.received p o).spindle p) (opd k) := by
  have popped := State.spindle_popped h (o.got.any (·.poison))
  have written : s.received p o = ((s.popXfer p.row).sawPoison p (o.got.any (·.poison))).writeOpd p (opd k) w
      (lineElems w (o.got.take (8 * w))) (if mx then some (lineScales (o.got.drop (8 * w))) else none)
      (o.got.any (·.poison)) := by
    unfold State.received State.putHank
    rw [hank]
    dsimp only
    rw [width]
  rw [written, ← popped]
  exact State.opdWritten_writeOpd ..

end Received

/-- An operand is written without regard to the queue of the transfer engine. -/
theorem OpdWritten.of_xq {w : Nat} {vs : List W32} {sc : Option (List Byte)} {b : Bool} {x z : Spindle} {q : List Xfer} {o : Opd}
    (h : OpdWritten w vs sc b { x with xq := q } z o) :
    OpdWritten w vs sc b x { x with hanks := z.hanks, accs := z.accs } o ∧ z.store = x.store := by
  cases o <;> (obtain ⟨r, rfl, spec⟩ := h; exact ⟨⟨r, rfl, spec⟩, rfl⟩)

/-! ## A receive completed -/

theorem State.handed_messageDone (s : State) (p : Site) (o : RecvOp) : s.Handed (s.messageDone p o) := by
  unfold State.messageDone
  split
  · exact s.handed_written ..
  · exact .refl s

theorem State.handed_putOwn (s : State) (p : Site) (o : RecvOp) : s.Handed (s.putOwn p o) := by
  unfold State.putOwn
  split
  · exact s.handed_putHandle ..
  · exact .refl s

theorem State.putOwn_sending (s : State) (p : Site) (o : RecvOp) : (s.putOwn p o).fabric = s.fabric := by
  unfold State.putOwn
  split
  · exact s.putHandle_sending ..
  · rfl

theorem exec_recvComplete {s : State} {p : Site} {o : RecvOp} {rest : List Xfer} (up : s.up = true)
    (free : s.engineFree p.row = true) (h : (s.spindle p).xq = .recv o :: rest) (all : o.length ≤ o.got.length) :
    exec (.recvComplete p) s = .next (s.complete p o).flow := by
  have ready : s.ready? p = some o := by
    unfold State.ready?
    rw [h]
    exact if_pos all
  show execRecvComplete p s = _
  unfold execRecvComplete
  rw [State.ifUp_of_up up, ready]
  dsimp only
  rw [if_pos free]
  rfl

/-- A state that a body reaches and that then hands on handles differs from the first in rows, spindles and transmissions. -/
theorem State.Body.handed_only {p : Site} {s t u : State} (b : s.Body p t) (h : t.Handed u) :
    u = { s with
          objs := u.objs, dict := { s.dict with copies := u.dict.copies }, spindles := u.spindles
          fabric := { s.fabric with sending := u.fabric.sending }, free := u.free } ∧ s.RowsOnly (spindleRows p) u := by
  obtain ⟨only, _⟩ := h
  obtain ⟨body, _, rows, _⟩ := b
  refine ⟨?_, ?_⟩
  · generalize u.fabric.sending = m at only
    generalize u.spindles = x at only
    subst only
    dsimp only
    generalize t.objs = a at body
    generalize t.dict.copies = c at body
    generalize t.spindles = y at body
    generalize t.free = f at body
    subst body
    rfl
  · have same : t.RowsOnly (spindleRows p) u := by
      rw [only]
      exact .of_obj rfl rfl
    exact (rows.mono (bodyRows_spindleRows p)).trans same

theorem State.Handed.spindle {s t : State} (h : s.Handed t) {p : Site} {x : Spindle} (there : s.HasData p x) :
    (s.spindle p).Gained (t.spindle p) := by
  obtain ⟨y, hy, _⟩ := there
  obtain ⟨z, hz, gained⟩ := h.2 _ _ hy
  unfold State.spindle
  rwa [hy, hz]

section Complete

variable {s : State} {p : Site} {o : RecvOp} {rest : List Xfer} (h : (s.spindle p).xq = .recv o :: rest)
include h

/-- Once its message is written, a completion changes nothing of the spindle but its handles. -/
theorem State.complete_gained : ((s.received p o).spindle p).Gained ((s.complete p o).spindle p) :=
  ((State.handed_messageDone ..).trans (State.handed_putOwn ..)).spindle (State.HasData.received h)

theorem State.complete_store : ((s.complete p o).spindle p).store = ((s.received p o).spindle p).store :=
  (congrArg (fun x : Spindle => x.store) (State.complete_gained h).1 :)

theorem State.complete_hanks : ((s.complete p o).spindle p).hanks = ((s.received p o).spindle p).hanks :=
  (congrArg (fun x : Spindle => x.hanks) (State.complete_gained h).1 :)

theorem State.complete_accs : ((s.complete p o).spindle p).accs = ((s.received p o).spindle p).accs :=
  (congrArg (fun x : Spindle => x.accs) (State.complete_gained h).1 :)

theorem State.complete_xq : ((s.complete p o).spindle p).xq = rest :=
  (congrArg (fun x : Spindle => x.xq) (State.complete_gained h).1 :).trans
    (congrArg (fun x : Spindle => x.xq) (State.HasData.received h).spindle :)

/-- The lines of a RECV read as those of its message, or poisoned; every other line, and every hank, as before. -/
theorem State.complete_region (region : o.hank = none) (clear : o.undef = []) :
    (∀ i x, o.got[i]? = some x →
      (Store.line p ((s.complete p o).spindle p).store (o.line + i)).poison = o.got.any (·.poison) ∧
      (o.got.any (·.poison) = false → Store.line p ((s.complete p o).spindle p).store (o.line + i) = x)) ∧
    (∀ l, (l < o.line ∨ o.line + o.got.length ≤ l) →
      Store.line p ((s.complete p o).spindle p).store l = Store.line p (s.spindle p).store l) ∧
    ((s.complete p o).spindle p).hanks = (s.spindle p).hanks ∧ ((s.complete p o).spindle p).accs = (s.spindle p).accs := by
  obtain ⟨ls, st, ⟨len, poison, sound⟩, wrote, at_⟩ := State.received_lines h region clear
  rw [State.complete_store h, State.complete_hanks h, State.complete_accs h, at_]
  refine ⟨fun i x hx => ?_, fun l out => wrote.line_out (len.symm ▸ out), rfl, rfl⟩
  obtain ⟨y, hy⟩ : ∃ y, ls[i]? = some y :=
    ⟨_, List.getElem?_eq_getElem (len.symm ▸ (List.getElem?_eq_some_iff.mp hx).1)⟩
  have line : Store.line p st (o.line + i) = y := by
    rw [wrote.line, if_pos (Nat.le_add_right ..), Nat.add_sub_cancel_left, hy]
    rfl
  rw [line]
  refine ⟨poison y (List.mem_of_getElem? hy), fun clean => ?_⟩
  rw [sound clean] at hy
  exact Option.some.inj (hy.symm.trans hx)

/-- The handle of a receive is put on its queue. -/
theorem State.complete_puts (hq : o.queue < (s.spindle p).queues.length) {k : W32} (handle : o.handle = some k) :
    ((s.complete p o).spindle p).Put o.queue k := by
  obtain ⟨x, hx, only⟩ := State.HasData.received h
  obtain ⟨y, hy, _, len, _⟩ := (State.handed_messageDone (s.received p o) p o).2 _ _ hx
  have queues : x.queues = (s.spindle p).queues := (congrArg (fun z : Spindle => z.queues) only :)
  obtain ⟨z, hz, _, put⟩ := State.put_putHandle hy (q := o.queue) (by rwa [len, queues]) k
  have there : (s.complete p o).spindle p = z := by
    rw [State.complete_eq, State.putOwn, handle]
    unfold State.spindle
    rw [hz]
    rfl
  rw [there]
  exact put

/-- The message's own SEND has one destination less to wait for, and its handle is put when none is left (R155). -/
theorem State.complete_sending {i : Nat} {e : Sending} (id : o.id = some i) (sent : tget s.fabric.sending i = some e) :
    (e.due.erase p.row ≠ [] →
      (s.complete p o).fabric.sending = tput s.fabric.sending i { e with due := e.due.erase p.row }) ∧
    (e.due.erase p.row = [] → (s.complete p o).fabric.sending = tdel s.fabric.sending i ∧
      ∀ q g x, e.handle = some (q, g) → tget s.spindles e.src = some x → q < x.queues.length →
        ((s.complete p o).at e.src).Put q g) := by
  have same : (s.received p o).fabric = s.fabric := by
    rw [(State.Body.received h).1]
  have done : (s.received p o).messageDone p o = (s.received p o).written i p.row := by
    rw [State.messageDone, id]
  have fabric : (s.complete p o).fabric = ((s.received p o).written i p.row).fabric := by
    rw [State.complete_eq, State.putOwn_sending, done]
  rw [← same] at sent
  rw [fabric, ← same]
  refine ⟨State.written_waits sent, fun last => ?_⟩
  obtain ⟨ended, own⟩ := State.written_last sent last
  refine ⟨ended, fun q g x hg hx hq => ?_⟩
  obtain ⟨y, hy, queues⟩ := State.received_queues h hx
  obtain ⟨z, hz, room, put⟩ := own q g y hg hy (queues ▸ hq)
  rw [← done] at hz
  obtain ⟨w, hw, _, _, keep⟩ := (State.handed_putOwn ((s.received p o).messageDone p o) p o).2 _ _ hz
  have there : (s.complete p o).at e.src = w := by
    unfold State.at
    rw [State.complete_eq, hw]
    rfl
  rw [there]
  exact keep q g room put

end Complete

/-- Settles O20: the queue each instruction joins, the flits the head of a queue takes, and a completion as its message written,
its transmission done at this destination, and its own handle put. -/
theorem receivesWaitAndCompleteWithTheirMessage : Obligations.ReceivesWaitAndCompleteWithTheirMessage := by
  unfold Obligations.ReceivesWaitAndCompleteWithTheirMessage
  refine ⟨fun p s vc shape length => ⟨fun sr queue ok h => ⟨fun zero => ?_, fun l lines at_ => ?_⟩, fun hank ok h => ?_⟩,
    fun p s o rest f h => ⟨State.ejectMsg_other_shape h, fun i _ id other => State.ejectMsg_other_message h id other,
      fun same mine => ?_⟩, fun p s o rest up free h all hq => ?_⟩
  · exact ⟨_, exec_recv_zero queue ok h zero, s.queued_none p⟩
  · exact ⟨_, exec_recv queue ok h lines at_, (s.scored_issued p).queued (.refl ..) _⟩
  · exact ⟨_, exec_recvh ok h, ((s.scored_issued p).trans_body .writesOpd (State.calm_writesOpd ..)).queued .writesOpd _⟩
  · exact ⟨_, State.ejectMsg_taken h same mine, .setSpindle, State.spindle_setSpindle ..⟩
  · obtain ⟨only, rows⟩ := (State.Body.received h).handed_only
      ((State.handed_messageDone (s.received p o) p o).trans (State.handed_putOwn ..))
    refine ⟨s.complete p o, exec_recvComplete up free h all, State.complete_xq h, State.complete_region h, ?_,
      fun k handle => State.complete_puts h hq handle, fun i e id sent => State.complete_sending h id sent, only, rows⟩
    intro k w mx hank width
    obtain ⟨written, same⟩ := (State.received_hank h hank width).of_xq
    exact ⟨_, written, State.complete_hanks h, State.complete_accs h, (State.complete_store h).trans same⟩

end Sys2Proof.Machine
end

section
/-! SUPPORT. What a write of one whole row does once it is served, by TOP, by the mirror or by a management master; the actions
of the dictionary's window; and the statement about them (O49). -/

namespace Sys2Proof.Machine

/-! ## Bytes and bits -/

theorem leNat_lt : ∀ bs : List Byte, leNat bs < 2 ^ (8 * bs.length)
  | [] => by simp [leNat]
  | b :: bs => by
    have rest := leNat_lt bs
    have byte := b.isLt
    rw [leNat, List.length_cons, Nat.mul_succ, Nat.pow_add]
    omega

theorem leNat_leBytes : ∀ n v : Nat, leNat (leBytes n v) = v % 2 ^ (8 * n)
  | 0, v => by simp [leBytes, leNat, Nat.mod_one]
  | n + 1, v => by
    rw [leBytes, leNat, leNat_leBytes n, BitVec.toNat_ofNat, Nat.mul_succ, Nat.add_comm (8 * n), Nat.pow_add, Nat.mod_mul]

/-- A number less the bits it has in common with another has those that are not in the other. -/
theorem testBit_cleared (i : Nat) : ∀ a v : Nat, (a - (a &&& v)).testBit i = (a.testBit i && !v.testBit i) := by
  induction i with
  | zero =>
    intro a v
    have le := Nat.and_le_left (n := a) (m := v)
    have odd := Nat.and_mod_two_eq_one (a := a) (b := v)
    rw [Nat.testBit_zero, Nat.testBit_zero, Nat.testBit_zero, Bool.eq_iff_iff]
    simp only [Bool.and_eq_true, Bool.not_eq_true', decide_eq_true_eq, decide_eq_false_iff_not]
    omega
  | succ i ih =>
    intro a v
    have le := Nat.and_le_left (n := a) (m := v)
    have odd := Nat.and_mod_two_eq_one (a := a) (b := v)
    have half : (a - (a &&& v)) / 2 = a / 2 - (a / 2 &&& v / 2) := by
      rw [← Nat.and_div_two]
      omega
    rw [Nat.testBit_succ, Nat.testBit_succ, Nat.testBit_succ, half, ih]

theorem bitAt_cleared (a v i : Nat) : bitAt (a - (a &&& v)) i = (bitAt a i && !bitAt v i) := by
  simp only [bitAt_eq_testBit]
  exact testBit_cleared i a v

/-! ## A write of one whole row -/

/-- An object whose write is none of the lock, the window's control, the mirror, STEP_CONTROL and a token. -/
def Ordinary (id : Nat) : Prop :=
  id ≠ Obj.dictWindowCtl ∧ id ≠ Obj.dictLock ∧ id ≠ Obj.debugToken ∧ id ≠ Obj.stepControl ∧ isMirror id = false

theorem objInfo?_id {id : Nat} {o : ObjInfo} (h : objInfo? id = some o) : o.id = id := by
  simpa using List.find?_some h

theorem objInfo?_self {id : Nat} {o : ObjInfo} (h : objInfo? id = some o) : objInfo? o.id = some o := by
  rwa [objInfo?_id h]

/-- Every RWB object is an ordinary one. -/
theorem ordinary_of_buffered {id : Nat} {o : ObjInfo} (h : objInfo? id = some o) (rwb : o.access = 3) : Ordinary o.id := by
  have all : ∀ o ∈ objTable, o.access = 3 → o.id ≠ Obj.dictWindowCtl ∧ o.id ≠ Obj.dictLock ∧ o.id ≠ Obj.debugToken ∧
      o.id ≠ Obj.stepControl ∧ isMirror o.id = false := by decide +kernel
  exact all o (List.mem_of_find?_eq_some h) rwb

/-- One whole row of an ordinary object that a master may write. -/
def OneRow (o : ObjInfo) (row : Nat) (data : List Byte) : Prop :=
  objInfo? o.id = some o ∧ Ordinary o.id ∧ o.access ≠ 0 ∧ row < o.rows ∧ data.length = o.rowBytes ∧ 0 < o.rowBytes

section OneRow

variable {o : ObjInfo} {row : Nat} {data : List Byte} (one : OneRow o row data)
include one

theorem OneRow.info : objInfo? o.id = some o := And.left one

theorem OneRow.ordinary : Ordinary o.id := one.2.1

theorem OneRow.rowVals : rowVals o data = [leNat data] := by
  obtain ⟨_, _, _, _, len, bytes⟩ := one
  have value := leNat_lt data
  rw [len] at value
  unfold Machine.rowVals
  rw [len, Nat.div_self bytes, fields, fields, Nat.mod_eq_of_lt value]

/-- Whose lock stands decides what becomes of the write (R410, R418, R426). -/
theorem OneRow.writeEntry {s : State} (whole : s.sec.recovery = false) (ok : s.valueBad o.id (leNat data) = false) (m : Nat) :
    s.writeEntry m o.id row .whole data =
      if s.dict.lockOwner = some m then s.holdWrite m o row data
      else if s.dict.lockOwner.isSome then (s, stLocked) else s.applyRow o.id row (leNat data) := by
  have vals := one.rowVals
  obtain ⟨info, ⟨ctl, lock, token, step, mirror⟩, access, rows, len, bytes⟩ := one
  have some_ : data ≠ [] := by
    rintro rfl
    exact absurd len (by simp; omega)
  have served : s.notServed o.id = false := by
    rw [State.notServed, whole, Bool.false_and]
  have applied : s.applyWrite o row data = s.applyRow o.id row (leNat data) := by
    unfold State.applyWrite
    rw [if_neg token, vals]
  have rowOk : ¬o.rows ≤ row := by omega
  have lenOk : ¬(data.length % o.rowBytes ≠ 0 ∨ o.rows < row + [leNat data].length) := by
    simp [len]
    omega
  have effect : s.writeRows m o row data = if s.dict.lockOwner = some m then s.holdWrite m o row data
      else if s.dict.lockOwner.isSome then (s, stLocked) else s.applyRow o.id row (leNat data) := by
    unfold State.writeRows
    dsimp only
    rw [vals, if_neg lenOk, if_neg (by simp [ok]), if_neg lock, if_neg (by simp [mirror]), applied]
    simp [step]
  unfold State.writeEntry State.writePlain
  rw [if_neg fun h => ctl h.1, info]
  simp only [served, Bool.false_eq_true, ↓reduceIte, List.isEmpty_eq_false_iff.mpr some_, if_neg rowOk, access, ctl, or_self]
  exact effect

end OneRow

/-- A write of an RWB row whose value a state accepts. -/
theorem oneRow_of_buffered {id row : Nat} {o : ObjInfo} {data : List Byte} (h : objInfo? id = some o) (rwb : o.access = 3)
    (rows : row < o.rows) (len : data.length = o.rowBytes) (bytes : 0 < o.rowBytes) : OneRow o row data :=
  ⟨objInfo?_self h, ordinary_of_buffered h rwb, by omega, rows, len, bytes⟩

/-- A value is judged by the limits that other objects give, which wait or stand (R299). -/
theorem State.valueBad_congr {s t : State} (pending : t.dict.pending = s.dict.pending)
    (still : t.obj Obj.stillUp 0 = s.obj Obj.stillUp 0) (id v : Nat) : t.valueBad id v = s.valueBad id v := by
  unfold State.valueBad
  rw [pending, still]

/-- A state with these writes waiting. -/
def State.withPending (s : State) (m : SMap Nat) : State := { s with dict := { s.dict with pending := m } }

/-- The writes that wait once this one has joined them. -/
def State.waiting (s : State) (o : ObjInfo) (row : Nat) (data : List Byte) : SMap Nat :=
  tput s.dict.pending (objKey o.id row) (leNat data &&& rowMask o.id row)

/-- A write of an RWB row waits in its buffer (R409, R412). -/
theorem State.applyRow_buffered {s : State} {o : ObjInfo} (info : objInfo? o.id = some o) (rwb : o.access = 3)
    (found : s.dict.voteLost = []) (row : Nat) (data : List Byte) :
    s.applyRow o.id row (leNat data) = (s.withPending (s.waiting o row data), stOk) := by
  unfold State.applyRow
  rw [if_pos (by rw [info]; exact rwb)]
  unfold State.bufferRow
  dsimp only
  rw [if_neg (by rw [found]; exact Bool.false_ne_true)]
  rfl

theorem State.writeEntry_buffered {s : State} {o : ObjInfo} {row : Nat} {data : List Byte} (one : OneRow o row data)
    (rwb : o.access = 3) (whole : s.sec.recovery = false) (ok : s.valueBad o.id (leNat data) = false)
    (free : s.dict.lockOwner = none) (found : s.dict.voteLost = []) (m : Nat) :
    s.writeEntry m o.id row .whole data = (s.withPending (s.waiting o row data), stOk) := by
  rw [one.writeEntry whole ok, free, if_neg nofun, if_neg nofun, State.applyRow_buffered one.info rwb found]

/-- A state with one more lock-pending write. -/
def State.withHeld (s : State) (w : LockWrite) : State := { s with dict := { s.dict with lockWrites := s.dict.lockWrites ++ [w] } }

/-- A write held under its own master's lock, where the lock has room (R418). -/
theorem State.holdWrite_room {t : State} {data : List Byte} (writes : t.dict.lockWrites.length < 4096)
    (bytes : t.lockBytes + data.length ≤ 2 ^ 18) (m row : Nat) (o : ObjInfo) :
    t.holdWrite m o row data = (t.withHeld { id := o.id, row := row, data := data, master := m }, stOk) := by
  unfold State.holdWrite
  exact if_neg (by omega)

/-! ## A write by TOP -/

/-- The state in which a request is executed: it is counted, and no response stands. -/
def State.asked (s : State) (r : TopReq) : State := (s.respond none).bump Obj.topRequests r.master.toNat 1

section Top

variable {s : State} {r : TopReq} (h : s.Serves r)
include h

theorem State.Serves.master_lt : r.master.toNat < 5 := by
  obtain ⟨_, _, kept, _⟩ := h
  unfold reqDiscarded at kept
  simp only [Bool.or_eq_false_iff, decide_eq_false_iff_not] at kept
  omega

theorem State.Serves.masters : s.dict.masters.length = 5 := by
  obtain ⟨_, _, _, _, _, _, masters, _⟩ := h
  exact masters

theorem State.Serves.whole : s.sec.recovery = false := by
  obtain ⟨_, whole, _⟩ := h
  exact whole

/-- A request that a module serves is executed once, and its response kept (R423, R427). -/
theorem State.Serves.top (op : Nat) (run : State → Nat → TopOut) :
    s.top op r run =
      let out := run (s.asked r) r.master.toNat
      out.1.keepResponse r.master.toNat (responseTo op r out.2.1 out.2.2.1 out.2.2.2) := by
  obtain ⟨served, whole, accepted, addressed, reserved, flags, masters, session, fresh⟩ := h
  have addressed' : ((s.respond none).obj Obj.chainAddress 0 == 0) = false :=
    beq_eq_false_iff_ne.mpr addressed
  have opened : (s.respond none).openSession r.master.toNat r.session = s.respond none := if_pos session
  have fresh' : ((s.respond none).master r.master.toNat).kept.find? (fun e => e.1 == r.seq) = none := fresh
  have flags' : ¬3 < r.flags.toNat := by omega
  unfold State.top State.answer
  simp only [served, accepted, addressed', opened, fresh', reserved, flags', Bool.not_true, Bool.or_false, Bool.false_eq_true,
    ↓reduceIte, decide_false]
  rfl

/-- The response of a request is sent, and is the newest that its master keeps (R424, R427). -/
theorem State.Serves.answered {u : State} (masters : u.dict.masters.length = 5)
    (count : u.obj Obj.topRequests r.master.toNat = (s.asked r).obj Obj.topRequests r.master.toNat) (op status : Nat)
    (data : List Byte) (arg : Nat) :
    s.Answered op r status data arg (u.keepResponse r.master.toNat (responseTo op r status data arg)) := by
  have lt := h.master_lt
  refine ⟨rfl, ?_, ?_⟩
  · have kept : (u.keepResponse r.master.toNat (responseTo op r status data arg)).master r.master.toNat =
        { u.master r.master.toNat with kept := ((r.seq, responseTo op r status data arg) ::
          (u.master r.master.toNat).kept).take 16 } := by
      show nth (setNth u.dict.masters _ _) r.master.toNat {} = _
      unfold nth setNth
      rw [List.getElem?_set_self (by omega)]
      rfl
    rw [kept]
    rfl
  · exact count.trans (State.obj_bump_of_bits (by decide : objBits Obj.topRequests = 64) (s.respond none) _ 1)

/-- A WRITE of one row in whole answers with the status of its entry. -/
theorem State.Serves.exec_write {o : ObjInfo} {u : State} {status : Nat} (info : objInfo? (reqId r) = some o)
    (length : r.length.toNat = r.data.length) (some_ : 0 < r.data.length) (fits : r.data.length ≤ 1440) (offset : r.offset = 0)
    (flags : r.flags = 0) (entry : (s.asked r).writeEntry r.master.toNat o.id r.row.toNat .whole r.data = (u, status))
    (plain : status ≠ stCommitRefused) :
    exec (.write r) s = .next (u.keepResponse r.master.toNat (responseTo 2 r status [] 0)) := by
  have some' : r.length ≠ 0 := by
    intro zero
    rw [zero] at length
    exact absurd length some_.ne
  have lengthOk : ¬(r.length.toNat ≠ r.data.length ∨ 1440 < r.length.toNat) := by omega
  have wordBit : r.flags.getLsbD 0 = false := by
    rw [flags]
    rfl
  have out : (s.asked r).topWrite r r.master.toNat = (u, status, [], 0) := by
    unfold State.topWrite
    rw [objInfo?_id info] at entry
    simp only [info, some', if_neg lengthOk, wordBit, offset, entry, plain, ne_eq, not_true_eq_false, Bool.false_eq_true,
      ↓reduceIte, reduceCtorEq]
  show execWrite r s = _
  unfold execWrite
  rw [h.top, out]
  rfl

theorem State.Serves.valueBad (id v : Nat) : (s.asked r).valueBad id v = s.valueBad id v := by
  have row := h.master_lt
  have other : objKey Obj.topRequests r.master.toNat ≠ objKey Obj.stillUp 0 :=
    objKey_ne_of_id (by omega) (by decide) (by decide)
  exact State.valueBad_congr (s := s) (t := s.asked r) rfl (State.obj_bump_ne (s := s.respond none) other) id v

section Row

variable {o : ObjInfo} (info : objInfo? (reqId r) = some o) (rwb : o.access = 3) (rows : r.row.toNat < o.rows)
  (length : r.length.toNat = r.data.length) (len : r.data.length = o.rowBytes) (bytes : 0 < o.rowBytes)
  (fits : o.rowBytes ≤ 1440) (offset : r.offset = 0) (flags : r.flags = 0) (ok : s.valueBad o.id (leNat r.data) = false)
include info rwb rows length len bytes fits offset flags ok

theorem State.Serves.write_free (free : s.dict.lockOwner = none) (found : s.dict.voteLost = []) :
    ∃ t, exec (.write r) s = .next t ∧ s.Answered 2 r 0 [] 0 t ∧
      tget t.dict.pending (objKey o.id r.row.toNat) = some (leNat r.data &&& rowMask o.id r.row.toNat) ∧
      (∀ k, k ≠ objKey o.id r.row.toNat → tget t.dict.pending k = tget s.dict.pending k) ∧
      s.OnlyRows (oneRow Obj.topRequests r.master.toNat) { t with dict := { s.dict with copies := t.dict.copies } } := by
  have lt := h.master_lt
  have masters := h.masters
  have entry := State.writeEntry_buffered (s := s.asked r) (oneRow_of_buffered info rwb rows len bytes) rwb h.whole
    ((h.valueBad ..).trans ok) free found r.master.toNat
  refine ⟨_, h.exec_write info length (by omega) (by omega) offset flags entry (by decide),
    h.answered (u := (s.asked r).withPending _) masters rfl 2 0 [] 0, ?_, ?_, ?_⟩
  · exact tget_tput_self ..
  · exact fun k hk => tget_tput_ne (Ne.symm hk) _ _
  · exact State.OnlyRows.bump (s := s) (n := 1) (by omega) ⟨rfl, rfl⟩

theorem State.Serves.write_own (own : s.dict.lockOwner = some r.master.toNat) (writes : s.dict.lockWrites.length < 4096)
    (room : s.lockBytes + r.data.length ≤ 2 ^ 18) :
    ∃ t, exec (.write r) s = .next t ∧ s.Answered 2 r 0 [] 0 t ∧
      t.dict.lockWrites = s.dict.lockWrites ++
        [{ id := o.id, row := r.row.toNat, data := r.data, master := r.master.toNat }] ∧
      t.dict.pending = s.dict.pending := by
  have masters := h.masters
  have entry := (oneRow_of_buffered info rwb rows len bytes).writeEntry (s := s.asked r) h.whole ((h.valueBad ..).trans ok)
    r.master.toNat
  have own' : (s.asked r).dict.lockOwner = some r.master.toNat := own
  rw [if_pos own', State.holdWrite_room (t := s.asked r) writes room] at entry
  exact ⟨_, h.exec_write info length (by omega) (by omega) offset flags entry (by decide),
    h.answered (u := (s.asked r).withHeld _) masters rfl 2 0 [] 0, rfl, rfl⟩

theorem State.Serves.write_locked {q : Nat} (owned : s.dict.lockOwner = some q) (other : q ≠ r.master.toNat) :
    ∃ t, exec (.write r) s = .next t ∧ s.Answered 2 r 6 [] 0 t ∧
      t.dict.pending = s.dict.pending ∧ t.dict.lockWrites = s.dict.lockWrites := by
  have masters := h.masters
  have notOwn : (s.asked r).dict.lockOwner ≠ some r.master.toNat := fun own =>
    other (Option.some.inj (owned.symm.trans own))
  have locked : (s.asked r).dict.lockOwner.isSome = true := congrArg Option.isSome owned
  have entry := (oneRow_of_buffered info rwb rows len bytes).writeEntry (s := s.asked r) h.whole ((h.valueBad ..).trans ok)
    r.master.toNat
  rw [if_neg notOwn, if_pos locked] at entry
  exact ⟨_, h.exec_write info length (by omega) (by omega) offset flags entry (by decide),
    h.answered (u := s.asked r) masters rfl 2 6 [] 0, rfl, rfl⟩

end Row

end Top

end Sys2Proof.Machine
end

section
/-! SUPPORT. A write that is a command of its own, by the mirror for master 0 and by TOP for the others: what it counts and
reports, and the actions of the dictionary's window; and the statement about writes (O49). -/

namespace Sys2Proof.Machine

/-! ## A write by a master as one command -/

/-- The state in which a command's write is executed: the access is counted (R423, R433). -/
def State.counted (s : State) (m : MasterNo) : State := s.bump Obj.topRequests m.val 1

/-- The report of an access by the mirror; a management master reads its status in the response (R433). -/
def State.reported (s : State) (m : MasterNo) : State := if m.val = 0 then s.setObj Obj.mirrorStatus 0 0 else s

theorem State.setMirror_ok (s : State) : s.setMirror stOk = s.setObj Obj.mirrorStatus 0 0 := by
  unfold State.setMirror
  dsimp only
  have plain : ¬stOk = stCommitRefused := by decide
  rw [if_neg plain, if_pos (Nat.zero_mod 128), Nat.zero_mul, Nat.add_zero, Nat.zero_mod]

theorem objKey_counted_ne (m : MasterNo) {id row : Nat} (hr : row < 2 ^ 20) (h : id ≠ Obj.topRequests) :
    objKey Obj.topRequests m.val ≠ objKey id row := by
  have lt := m.isLt
  exact objKey_ne_of_id (by omega) hr (Ne.symm h)

theorem State.obj_counted_ne (s : State) (m : MasterNo) {id row : Nat} (hr : row < 2 ^ 20) (h : id ≠ Obj.topRequests) :
    (s.counted m).obj id row = s.obj id row := State.obj_bump_ne (objKey_counted_ne m hr h)

theorem State.obj_reported_ne (s : State) (m : MasterNo) {id row : Nat} (hr : row < 2 ^ 20) (h : id ≠ Obj.mirrorStatus) :
    (s.reported m).obj id row = s.obj id row := by
  unfold State.reported
  split
  · exact State.obj_setObj_ne (objKey_ne_of_id (by decide) hr (Ne.symm h))
  · rfl

theorem State.valueBad_counted (s : State) (m : MasterNo) (id v : Nat) : (s.counted m).valueBad id v = s.valueBad id v :=
  State.valueBad_congr (s := s) (t := s.counted m) rfl (s.obj_counted_ne m (by decide) (by decide)) id v

theorem State.withPending_reported (s : State) (m : MasterNo) (w : SMap Nat) :
    (s.withPending w).reported m = (s.reported m).withPending w := by
  unfold State.reported
  split
  · rfl
  · rfl

/-- What an access counts and reports, and nothing else, moves (R423, R433). -/
theorem State.OnlyRows.counted {ch : Nat → Nat → Prop} {s : State} {m : MasterNo} (h : ∀ id row, id ∈ accessRows → ch id row) :
    s.OnlyRows ch (s.counted m) := by
  have lt := m.isLt
  exact .bump (by omega) (h _ _ (by decide))

theorem State.OnlyRows.reported {ch : Nat → Nat → Prop} {s : State} {m : MasterNo} (h : ∀ id row, id ∈ accessRows → ch id row) :
    s.OnlyRows ch (s.reported m) := by
  unfold State.reported
  split
  · exact .setObj (by decide) (h _ _ (by decide))
  · exact .refl ..

/-- Beside what an access moves, a row that waits changes the waiting writes alone. -/
theorem State.OnlyRows.withPending {ch : Nat → Nat → Prop} {s t : State} (h : s.OnlyRows ch t) (w : SMap Nat) :
    s.OnlyRows ch { t.withPending w with dict := { s.dict with copies := (t.withPending w).dict.copies } } := by
  have same : ({ t.withPending w with dict := { s.dict with copies := (t.withPending w).dict.copies } } : State) = t := by
    have dict : t.dict = { s.dict with copies := t.dict.copies } := congrArg State.dict h.1
    exact (congrArg (fun d : Dict => { t with dict := d }) dict).symm
  rw [same]
  exact h

theorem State.hostUp_of_linkUp {s : State} (h : s.host.linkUp = true) : s.hostUp = s := if_pos h

section Command

variable {s t : State} {m : MasterNo} (h : s.MayWrite m)
include h

theorem State.MayWrite.served : s.dictServed = true := And.left h

theorem State.MayWrite.whole : s.sec.recovery = false := by
  obtain ⟨_, whole, _⟩ := h
  exact whole

theorem State.MayWrite.free : s.dict.lockOwner = none := by
  obtain ⟨_, _, free, _⟩ := h
  exact free

theorem State.MayWrite.found : s.dict.voteLost = [] := by
  obtain ⟨_, _, _, found, _⟩ := h
  exact found

theorem State.MayWrite.linkUp (zero : m.val = 0) : s.host.linkUp = true := by
  obtain ⟨_, _, _, _, up, _⟩ := h
  exact up zero

theorem State.MayWrite.addressed (other : m.val ≠ 0) : s.obj Obj.chainAddress 0 ≠ 0 := by
  obtain ⟨_, _, _, _, _, address⟩ := h
  exact address other

theorem State.MayWrite.hostWrite (zero : m.val = 0) {write : State → State × Nat} (w : write (s.counted m) = (t, stOk)) :
    s.hostWrite write = t.reported m := by
  unfold State.counted at w
  unfold State.hostWrite State.reported
  rw [zero] at w
  rw [State.hostUp_of_linkUp (h.linkUp zero), w, if_pos zero, ← State.setMirror_ok]

/-- An accepted write of a master is executed once and reported. -/
theorem State.MayWrite.command {id row : Nat} {data : List Byte}
    (w : (s.counted m).writeEntry m.val id row .whole data = (t, stOk)) :
    s.command m.val id row .whole data = t.reported m := by
  unfold State.command
  rw [if_neg (by simp [h.served])]
  split
  case isTrue zero =>
    rw [zero] at w
    exact h.hostWrite zero w
  case isFalse other =>
    unfold State.counted at w
    rw [if_neg (h.addressed other), w, State.reported, if_neg other]

end Command

/-- The row waits, nothing else does, and beside the access nothing moves. -/
theorem State.waits_of_reported {s : State} {m : MasterNo} {o : ObjInfo} {row : Nat} {data : List Byte} {t : State}
    (eq : t = ((s.counted m).withPending (s.waiting o row data)).reported m) :
    tget t.dict.pending (objKey o.id row) = some (leNat data &&& rowMask o.id row) ∧
      (∀ k, k ≠ objKey o.id row → tget t.dict.pending k = tget s.dict.pending k) ∧
      s.OnlyRows (Machine.rowsOf accessRows) { t with dict := { s.dict with copies := t.dict.copies } } := by
  rw [State.withPending_reported] at eq
  subst eq
  have moved : s.OnlyRows (Machine.rowsOf accessRows) ((s.counted m).reported m) :=
    (State.OnlyRows.counted fun _ _ access => access).trans (.reported fun _ _ access => access)
  exact ⟨tget_tput_self .., fun k hk => tget_tput_ne (Ne.symm hk) _ _, moved.withPending _⟩

section Buffered

variable {s : State} {m : MasterNo} (h : s.MayWrite m) {o : ObjInfo} {row : Nat} {data : List Byte} (one : OneRow o row data)
  (rwb : o.access = 3) (ok : s.valueBad o.id (leNat data) = false)
include h one rwb ok

theorem State.MayWrite.writeEntry_buffered :
    (s.counted m).writeEntry m.val o.id row .whole data = ((s.counted m).withPending (s.waiting o row data), stOk) :=
  State.writeEntry_buffered (s := s.counted m) one rwb h.whole ((s.valueBad_counted m ..).trans ok) h.free h.found m.val

theorem State.MayWrite.slotWrite_buffered (zero : m.val = 0) (narrow : isWide o = false) :
    (s.counted m).slotWrite o.id row .whole data = ((s.counted m).withPending (s.waiting o row data), stOk) := by
  have entry := h.writeEntry_buffered one rwb ok
  obtain ⟨info, _, _, _, len, _⟩ := one
  have served : (s.counted m).notServed o.id = false := by
    show (s.sec.recovery && _) = false
    rw [h.whole, Bool.false_and]
  rw [zero] at entry
  unfold State.slotWrite
  simp only [info, served, narrow, len, lt_self_iff_false, false_and, and_false, Bool.false_eq_true, ↓reduceIte]
  exact entry

end Buffered

theorem State.MayWrite.exec_objectWrite {s : State} {m : MasterNo} (h : s.MayWrite m) {index : W16} {sub : Byte} {row : W32}
    {data : List Byte} {o : ObjInfo} (info : objInfo? (index.toNat * 256 + sub.toNat) = some o)
    (one : OneRow o row.toNat data) (rwb : o.access = 3) (ok : s.valueBad o.id (leNat data) = false)
    (narrow : m.val = 0 → isWide o = false) :
    exec (.objectWrite m index sub row .whole data) s =
      .next (((s.counted m).withPending (s.waiting o row.toNat data)).reported m) := by
  show execObjectWrite m index sub row .whole data s = _
  unfold execObjectWrite
  dsimp only
  rw [← objInfo?_id info]
  refine congrArg Host.Outcome.next ?_
  split
  case isTrue mirror => exact h.hostWrite mirror.1 (h.slotWrite_buffered one rwb ok mirror.1 (narrow mirror.1))
  case isFalse => exact h.command (h.writeEntry_buffered one rwb ok)

end Sys2Proof.Machine
end

section
/-! SUPPORT. The actions of the dictionary's window, the writes that clear bits, and the statement about writes (O49). -/

namespace Sys2Proof.Machine

/-! ## The window's actions -/

/-- A read of one row in whole whose copies agree answers its bytes and changes nothing (R409, R416). -/
theorem State.readObj_row {s : State} {o : ObjInfo} {row : Nat} (rows : row < o.rows) (bytes : 0 < o.rowBytes)
    (access : o.access ≠ 2) (clean : o.vote = true → tget s.dict.copies (objKey o.id row) = none) :
    s.readObj o (row * o.rowBytes) o.rowBytes false = (s, stOk, leBytes o.rowBytes (s.readRow o.id row)) := by
  have inside : ¬o.rows * o.rowBytes < row * o.rowBytes + o.rowBytes := by
    rw [← Nat.succ_mul, Nat.not_lt]
    exact Nat.mul_le_mul_right _ rows
  have first : row * o.rowBytes / o.rowBytes = row := Nat.mul_div_cancel _ bytes
  have last : (row * o.rowBytes + o.rowBytes - 1) / o.rowBytes = row := by
    rw [Nat.add_sub_assoc bytes, Nat.add_comm, Nat.add_mul_div_right _ _ bytes, Nat.div_eq_of_lt (by omega), Nat.zero_add]
  have settled : (if o.vote then s.settleVotes o.id [row] else (s, false)) = (s, false) := by
    split
    case isTrue voted => simp only [State.settleVotes, State.settleVote, clean voted, Bool.or_self]
    case isFalse => rfl
  unfold State.readObj
  rw [if_neg bytes.ne', if_neg inside, if_neg access, first, last]
  dsimp only
  rw [Nat.add_sub_cancel_left, Nat.mul_mod_left]
  simp only [List.range_one, List.map_cons, List.map_nil, Nat.add_zero, settled, Bool.false_eq_true, ↓reduceIte,
    List.flatMap_cons, List.flatMap_nil, List.append_nil, List.drop_zero]
  rw [List.take_of_length_le (length_leBytes ..).le]

/-- The window's first rows filled. -/
def State.fillWindow (s : State) (v n : Nat) : State :=
  (List.range n).foldl (fun t i => t.setObj (Obj.dictWindow + i) 0 (bits v (64 * i) 64)) s

theorem State.fillWindow_succ (s : State) (v n : Nat) :
    s.fillWindow v (n + 1) = (s.fillWindow v n).setObj (Obj.dictWindow + n) 0 (bits v (64 * n) 64) := by
  unfold State.fillWindow
  rw [List.range_succ, List.foldl_append]
  rfl

theorem State.setWindow_eq (s : State) (data : List Byte) : s.setWindow data = s.fillWindow (leNat data) 32 := rfl

theorem State.obj_fillWindow (s : State) (v : Nat) {i : Nat} :
    ∀ {n : Nat}, i < n → (s.fillWindow v n).obj (Obj.dictWindow + i) 0 = bits v (64 * i) 64
  | n + 1, h => by
    rw [State.fillWindow_succ]
    by_cases last : i = n
    · rw [last, State.obj_setObj_self]
    · rw [State.obj_setObj_ne (objKey_ne_of_id (by decide) (by decide) (by omega)), State.obj_fillWindow s v (by omega)]

section Actions

variable (s : State) (m : Nat) {v : Nat}

theorem State.windowCtl_next (h : ctlActs v = 4) : s.windowCtl m v = (s.windowNext, stOk) := by
  unfold State.windowCtl
  rw [h]
  rfl

theorem State.windowCtl_fetch (h : ctlActs v = 1) : s.windowCtl m v = s.windowFetch := by
  have store : bitAt 1 1 = false := rfl
  unfold State.windowCtl
  rw [h]
  simp only [store, Bool.false_eq_true, and_false, ↓reduceIte]
  rfl

theorem State.windowCtl_store (h : ctlActs v = 2) : s.windowCtl m v = s.windowStore m := by
  unfold State.windowCtl
  rw [h]
  rfl

/-- A write of the window's control that names one action. -/
theorem State.writeEntry_window {s : State} (whole : s.sec.recovery = false) (v : Nat) :
    s.writeEntry m Obj.dictWindowCtl 0 .whole (leBytes 4 v) = s.windowCtl m (leNat (leBytes 4 v)) := by
  have served : s.notServed Obj.dictWindowCtl = false := by
    rw [State.notServed, whole, Bool.false_and]
  have four : ¬(Half.whole ≠ Half.whole ∨ (leBytes 4 v).length ≠ 4) := by
    simp
  unfold State.writeEntry
  rw [if_pos ⟨rfl, rfl⟩, served, if_neg Bool.false_ne_true, if_neg (by decide), if_neg four]

end Actions

theorem State.MayWrite.control {s t : State} {m : MasterNo} (h : s.MayWrite m) {bit : Nat}
    (w : (s.counted m).windowCtl m.val (leNat (leBytes 4 (2 ^ bit + 2 ^ (16 + bit)))) = (t, stOk)) :
    s.control m.val Obj.dictWindowCtl bit = t.reported m :=
  h.command ((State.writeEntry_window m.val (s := s.counted m) h.whole _).trans w)

section Window

variable {s : State} (h : s.MayWrite 0)
include h

theorem State.MayWrite.exec_windowNext : exec .windowNext s = .next ((s.counted 0).windowNext.reported 0) :=
  congrArg Host.Outcome.next (h.control (State.windowCtl_next _ _ (by decide)))

theorem State.MayWrite.exec_windowFetch {t : State} (fetched : (s.counted 0).windowFetch = (t, stOk)) :
    exec .windowFetch s = .next (t.reported 0) :=
  congrArg Host.Outcome.next (h.control ((State.windowCtl_fetch _ _ (by decide)).trans fetched))

theorem State.MayWrite.exec_windowStore {t : State} (stored : (s.counted 0).windowStore 0 = (t, stOk)) :
    exec .windowStore s = .next (t.reported 0) :=
  congrArg Host.Outcome.next (h.control ((State.windowCtl_store _ _ (by decide)).trans stored))

end Window

theorem State.cursor_congr {s t : State} (h : t.obj Obj.dictCursor 0 = s.obj Obj.dictCursor 0) : t.cursor = s.cursor := by
  unfold State.cursor State.field
  rw [h]

theorem State.cursor_counted (s : State) (m : MasterNo) : (s.counted m).cursor = s.cursor :=
  State.cursor_congr (s.obj_counted_ne m (by decide) (by decide))

theorem State.cursor_windowNext (s : State) : s.windowNext.cursor = (s.cursor.1, (s.cursor.2 + 1) % 2 ^ 32) := by
  unfold State.windowNext State.cursor State.field
  rw [State.obj_setField_self, bits_setBits_self, bits_setBits_above (by decide)]

theorem State.window_counted (s : State) (m : MasterNo) : (s.counted m).window = s.window := by
  have row (i : Nat) (hi : i ∈ List.range 32) :
      leBytes 8 ((s.counted m).obj (Obj.dictWindow + i) 0) = leBytes 8 (s.obj (Obj.dictWindow + i) 0) := by
    have lt := List.mem_range.mp hi
    have other : Obj.dictWindow + i ≠ Obj.topRequests := by
      have apart : Obj.topRequests < Obj.dictWindow ∨ Obj.dictWindow + 32 ≤ Obj.topRequests := by decide
      omega
    rw [State.obj_counted_ne s m (by decide) other]
  unfold State.window
  exact List.flatMap_congr row

theorem State.length_window (s : State) : s.window.length = 256 := by
  simp [State.window]

/-- FETCH fills the window with the row under the cursor (R432). -/
theorem State.windowFetch_row {s : State} (whole : s.sec.recovery = false) {o : ObjInfo} (info : objInfo? s.cursor.1 = some o)
    (rows : s.cursor.2 < o.rows) (bytes : 0 < o.rowBytes) (access : o.access ≠ 2)
    (clean : o.vote = true → tget s.dict.copies (objKey o.id s.cursor.2) = none) :
    s.windowFetch = (s.setWindow (leBytes o.rowBytes (s.readRow o.id s.cursor.2)), stOk) := by
  have served : s.notServed o.id = false := by
    rw [State.notServed, whole, Bool.false_and]
  unfold State.windowFetch
  simp only [info, served, State.readObj_row rows bytes access clean, if_neg (Nat.not_le.mpr rows), Bool.false_eq_true,
    ↓reduceIte]

/-- STORE writes the row under the cursor with the window's first bytes, as any write does (R432). -/
theorem State.windowStore_row {s : State} {o : ObjInfo} (info : objInfo? s.cursor.1 = some o) (ordinary : Ordinary o.id) (m : Nat) :
    s.windowStore m = s.writeEntry m o.id s.cursor.2 .whole (s.window.take o.rowBytes) := by
  obtain ⟨ctl, _⟩ := ordinary
  unfold State.windowStore State.writeEntry
  simp only [info, ctl, false_and, ↓reduceIte]

theorem State.copies_counted {s : State} {k : Nat} (h : tget s.dict.copies k = none) (m : MasterNo) :
    tget (s.counted m).dict.copies k = none := by
  refine (tget_tdel ..).trans ?_
  rw [h, ite_self]

theorem State.cursor_nexted (s : State) :
    ((s.counted 0).windowNext.reported 0).cursor = (s.cursor.1, (s.cursor.2 + 1) % 2 ^ 32) := by
  rw [State.cursor_congr (State.obj_reported_ne _ 0 (by decide) (by decide)), State.cursor_windowNext, State.cursor_counted]

theorem State.onlyRows_nexted (s : State) :
    s.OnlyRows (Machine.rowsOf (Obj.dictCursor :: accessRows)) ((s.counted 0).windowNext.reported 0) :=
  ((State.OnlyRows.counted fun _ _ access => List.mem_cons_of_mem _ access).trans (.setObj (by decide) List.mem_cons_self)).trans
    (.reported fun _ _ access => List.mem_cons_of_mem _ access)

section Cursor

variable {s : State} (h : s.MayWrite 0) {o : ObjInfo} (info : objInfo? s.cursor.1 = some o) (rows : s.cursor.2 < o.rows)
  (bytes : 0 < o.rowBytes)
include h info rows bytes

theorem State.MayWrite.window_fetched (access : o.access ≠ 2)
    (clean : o.vote = true → tget s.dict.copies (objKey o.id s.cursor.2) = none) :
    ∃ t, exec .windowFetch s = .next t ∧ (∀ i, i < 32 →
      t.obj (Obj.dictWindow + i) 0 =
        bits ((s.bump Obj.topRequests 0 1).readRow o.id s.cursor.2 % 2 ^ (8 * o.rowBytes)) (64 * i) 64) ∧
      t.obj Obj.mirrorStatus 0 = 0 := by
  have whole : (s.counted 0).sec.recovery = false := h.whole
  have cursor := s.cursor_counted 0
  rw [← cursor] at info rows clean
  have fetched := State.windowFetch_row whole info rows bytes access fun voted => State.copies_counted (clean voted) 0
  rw [cursor] at fetched
  refine ⟨_, h.exec_windowFetch fetched, fun i hi => ?_, State.obj_setObj_self ..⟩
  have other : Obj.dictWindow + i ≠ Obj.mirrorStatus := by
    have apart : Obj.mirrorStatus < Obj.dictWindow ∨ Obj.dictWindow + 32 ≤ Obj.mirrorStatus := by decide
    omega
  rw [State.obj_reported_ne _ 0 (by decide) other, State.setWindow_eq, State.obj_fillWindow _ _ hi, leNat_leBytes]
  rfl

theorem State.MayWrite.window_stored (rwb : o.access = 3) (fits : o.rowBytes ≤ 256)
    (ok : s.valueBad o.id (leNat (s.window.take o.rowBytes)) = false) :
    ∃ t, exec .windowStore s = .next t ∧
      tget t.dict.pending (objKey o.id s.cursor.2) =
        some (leNat (s.window.take o.rowBytes) &&& rowMask o.id s.cursor.2) ∧
      s.OnlyRows (Machine.rowsOf accessRows) { t with dict := { s.dict with copies := t.dict.copies } } := by
  have len : (s.window.take o.rowBytes).length = o.rowBytes := by
    rw [List.length_take, State.length_window]
    omega
  have one := oneRow_of_buffered info rwb rows len bytes
  have cursor := s.cursor_counted 0
  have written := State.windowStore_row (s := s.counted 0) (cursor.symm ▸ info) one.ordinary 0
  rw [cursor, State.window_counted] at written
  obtain ⟨waits, _, frame⟩ := State.waits_of_reported (m := 0) rfl
  exact ⟨_, h.exec_windowStore (written.trans (h.writeEntry_buffered one rwb ok)), waits, frame⟩

end Cursor

/-! ## Writes that clear -/

/-- An object without a range of values. -/
def Unbounded (id : Nat) : Prop :=
  unsignedRange id = none ∧ ((objInfo? id).map (·.typ)).getD 0 ≠ 9 ∧
    id ∉ [Obj.lsMinExp, Obj.lsMaxExp, Obj.evalControl, Obj.divCap, Obj.loadWindow, Obj.stillDown]

theorem State.valueBad_unbounded {id : Nat} (h : Unbounded id) (s : State) (v : Nat) : s.valueBad id v = false := by
  obtain ⟨range, typ, others⟩ := h
  simp only [List.mem_cons, List.not_mem_nil, or_false, not_or] at others
  obtain ⟨minExp, maxExp, eval, div, window, still⟩ := others
  unfold State.valueBad Machine.valueBad
  simp [range, typ, minExp, maxExp, eval, div, window, still]

/-- An object of this many rows of this many bytes, written at once and with any value. -/
def Clearable (id rows bytes : Nat) : Prop :=
  Ordinary id ∧ Unbounded id ∧ (objInfo? id).any (fun o => o.access == 1 && o.rows == rows && o.rowBytes == bytes) = true

theorem Clearable.info {id rows bytes : Nat} (h : Clearable id rows bytes) :
    ∃ o, objInfo? id = some o ∧ o.id = id ∧ o.access = 1 ∧ o.rows = rows ∧ o.rowBytes = bytes := by
  obtain ⟨_, _, found⟩ := h
  obtain ⟨listed, shape⟩ := (Option.any_eq_true_iff_get ..).mp found
  have info := (Option.some_get listed).symm
  simp only [Bool.and_eq_true, beq_iff_eq] at shape
  obtain ⟨⟨access, rows⟩, bytes⟩ := shape
  exact ⟨_, info, objInfo?_id info, access, rows, bytes⟩

theorem clearable_spindleFlags : Clearable Obj.spindleFlags 9216 4 := by
  unfold Clearable Ordinary Unbounded
  decide +kernel

theorem clearable_zeroStreak : Clearable Obj.zeroStreak 64 8 := by
  unfold Clearable Ordinary Unbounded
  decide +kernel

theorem clearable_boltProgTrap : Clearable Obj.boltProgTrap 48 8 := by
  unfold Clearable Ordinary Unbounded
  decide +kernel

/-- A value written to a row of such an object is applied at once. -/
theorem State.MayWrite.writeValue {s t : State} {m : MasterNo} (h : s.MayWrite m) {id rows bytes row v : Nat}
    (clear : Clearable id rows bytes) (inside : row < rows) (positive : 0 < bytes) (fits : v < 2 ^ (8 * bytes))
    (applied : (s.counted m).applyRow id row v = (t, stOk)) : s.writeValue m.val id row bytes v = t.reported m := by
  obtain ⟨o, info, rfl, access, rfl, rfl⟩ := clear.info
  obtain ⟨ordinary, unbounded, _⟩ := clear
  have value : leNat (leBytes o.rowBytes v) = v := (leNat_leBytes ..).trans (Nat.mod_eq_of_lt fits)
  have one : OneRow o row (leBytes o.rowBytes v) := ⟨info, ordinary, by omega, inside, length_leBytes .., positive⟩
  have free : (s.counted m).dict.lockOwner = none := h.free
  refine h.command ?_
  rw [one.writeEntry (s := s.counted m) h.whole (State.valueBad_unbounded unbounded ..), free, if_neg nofun, if_neg nofun, value]
  exact applied

theorem State.applyRow_clearBits {id : Nat} (h : id = Obj.spindleFlags ∨ id = Obj.zeroStreak) (s : State) (row v : Nat) :
    s.applyRow id row v = (s.clearBits id row v, stOk) := by
  have access : ((objInfo? id).map (·.access)).getD 0 ≠ 3 := by
    rcases h with rfl | rfl
    · decide +kernel
    · decide +kernel
  unfold State.applyRow
  rw [if_neg access]
  rcases h with rfl | rfl
  · simp +decide only [↓reduceIte]
  · simp +decide only [↓reduceIte]

/-- What a write moves that changes one row at once. -/
theorem State.OnlyRows.cleared {s : State} (m : MasterNo) {id row : Nat} (hr : row < 2 ^ 20) (v : Nat) :
    s.OnlyRows (fun i r => (i = id ∧ r = row) ∨ i ∈ accessRows) (((s.counted m).setObj id row v).reported m) :=
  ((State.OnlyRows.counted fun _ _ access => .inr access).trans (.setObj hr (.inl ⟨rfl, rfl⟩))).trans
    (.reported fun _ _ access => .inr access)

/-- Bits written as 1 are cleared, the others stay (R104, R291). -/
theorem State.bitAt_clearBits (s : State) (m : MasterNo) {id row : Nat} (hr : row < 2 ^ 20) (counter : id ≠ Obj.topRequests)
    (status : id ≠ Obj.mirrorStatus) (v i : Nat) :
    bitAt ((((s.counted m).clearBits id row v).reported m).obj id row) i = (bitAt (s.obj id row) i && !bitAt v i) := by
  rw [State.obj_reported_ne _ m hr status, State.clearBits, State.obj_setObj_self, State.obj_counted_ne s m hr counter,
    bitAt_cleared]

theorem State.applyRow_boltProgTrap {s : State} (found : s.dict.voteLost = []) (row : Nat) :
    s.applyRow Obj.boltProgTrap row 0 = (s.setObj Obj.boltProgTrap row 0, stOk) := by
  have access : ((objInfo? Obj.boltProgTrap).map (·.access)).getD 0 ≠ 3 := by decide +kernel
  have stored : s.storeRow Obj.boltProgTrap row 0 = s.setObj Obj.boltProgTrap row 0 := by
    unfold State.storeRow State.regain
    rw [Nat.zero_and]
    exact if_neg (by simp [State.setObj, found])
  unfold State.applyRow
  rw [if_neg access, stored]
  simp +decide only [State.afterStore, false_and, ↓reduceIte]

/-- Settles O49: by TOP, who holds the lock decides; by one command, the access is counted, the write is the one its object
takes, and its report follows. -/
theorem writesWaitFlagsClearAndTheWindowMoves : Obligations.WritesWaitFlagsClearAndTheWindowMoves := by
  unfold Obligations.WritesWaitFlagsClearAndTheWindowMoves
  refine ⟨⟨fun r o s h info rwb rows length len bytes fits offset flags ok => ⟨fun free found => ?_, fun own writes room => ?_,
    fun q owned other => ?_⟩, fun m s h => ⟨?_, fun zero => ?_, ?_⟩⟩, fun m s h => ⟨?_, ?_, ?_⟩⟩
  · exact h.write_free info rwb rows length len bytes fits offset flags ok free found
  · exact h.write_own info rwb rows length len bytes fits offset flags ok own writes room
  · exact h.write_locked info rwb rows length len bytes fits offset flags ok owned other
  · intro index sub row data o info rwb rows len bytes ok narrow
    have one : OneRow o row.toNat data := oneRow_of_buffered info rwb rows len bytes
    exact ⟨_, h.exec_objectWrite info one rwb ok narrow, State.waits_of_reported rfl⟩
  · obtain rfl : m = 0 := Fin.ext zero
    exact ⟨_, h.exec_windowNext, s.cursor_nexted, s.onlyRows_nexted⟩
  · intro o zero info rows bytes
    obtain rfl : m = 0 := Fin.ext zero
    exact ⟨h.window_fetched info rows bytes, h.window_stored info rows bytes⟩
  · intro p v
    have row := site_row_lt p
    exact ⟨_, congrArg Host.Outcome.next (h.writeValue clearable_spindleFlags (Laws.row_lt p) (by decide) v.isLt
      (State.applyRow_clearBits (.inl rfl) _ _ _)), s.bitAt_clearBits m row (by decide) (by decide) _, .cleared m row _⟩
  · intro row v
    have lt : row.val < 2 ^ 20 := by omega
    exact ⟨_, congrArg Host.Outcome.next (h.writeValue clearable_zeroStreak row.isLt (by decide) v.isLt
      (State.applyRow_clearBits (.inr rfl) _ _ _)), s.bitAt_clearBits m lt (by decide) (by decide) _, .cleared m lt _⟩
  · intro b
    have lt : b.val < 2 ^ 20 := by omega
    have found : (s.counted m).dict.voteLost = [] := h.found
    refine ⟨_, congrArg Host.Outcome.next (h.writeValue clearable_boltProgTrap b.isLt (by decide) (by decide)
      (State.applyRow_boltProgTrap found _)), ?_, .cleared m lt _⟩
    rw [State.obj_reported_ne _ m lt (by decide), State.obj_setObj_self]

end Sys2Proof.Machine
end

section
/-! SUPPORT. What a chain or a reduction writes, and the statement about VCHAIN, VRED_ROW and VRED_COL (O15). -/

namespace Sys2Proof.Machine

/-! ## What a chain writes -/

/-- The stages of a chain run on its sources as they are (R115). -/
def State.chainRun (s : State) (p : Site) (c : Chain) (src src2 : Opd) (ctx : Nat) (sr : Bool) : ChainRun :=
  runStages (s.sources p c src src2) ((List.range 4096).map (fun n => s.rnd ((s.spindle p).ctx ctx) sr 1 n))
    (fun purpose => (List.range 4096).map (fun n => s.chunk ((s.spindle p).ctx ctx) purpose n)) c.stages

/-- What a vector-class instruction writes to its one operand, and what it counts. -/
structure ChainOut where
  width : Nat
  vals : List W32
  scales : Option (List Byte)
  counts : Counts

/-- A reduction writes its binary32 elements; every other chain its last result, converted (R115, R117). -/
def State.chainOut (s : State) (p : Site) (c : Chain) (src src2 : Opd) (ctx : Nat) (sr : Bool) (op : VOp) : ChainOut :=
  let run := s.chainRun p c src src2 ctx sr
  match op with
  | .redRow => ⟨32, reduceRows c.rop run.prev, none, run.counts.add (counts32 (reduceRows c.rop run.prev))⟩
  | .redCol => ⟨32, reduceCols c.rop run.prev, none, run.counts.add (counts32 (reduceCols c.rop run.prev))⟩
  | _ =>
    let r := convertAll c.fdst (List.zip (run.prev.map dec32)
      ((List.range 4096).map (fun n => s.rnd ((s.spindle p).ctx ctx) sr 1 n)))
    ⟨elemBits c.fdst, r.codes.map (BitVec.ofNat 32), if isMx c.fdst then some r.scales else none, run.counts.add r.counts⟩

/-- A vector-class instruction but VWIDE, on the state at its issue: its operand written with what the state before the issue
gives, and then counted. -/
theorem State.Scored.chain {s t : State} {p : Site} (h : s.Scored p t) (c : Chain) (src src2 : Opd) (dst : BitVec 5) (ctx : Nat)
    (sr : Bool) {op : VOp} (narrow : op ≠ .wide) :
    let out := s.chainOut p c src src2 ctx sr op
    ∃ u k, t.vector p op c src src2 dst ctx sr = u.countConv k out.counts ∧ t.Body p u ∧
      OpdWritten out.width out.vals out.scales ((c.reads op src src2).any (s.opdPoison p)) (s.spindle p).calm
        (u.spindle p).calm (opd dst) := by
  intro out
  have used := h.uses (c.reads op src src2) (vectorDsts op c dst)
  have read := used.sawPoison ((c.reads op src src2).any (s.opdPoison p))
  refine ⟨((t.uses p (c.reads op src src2) (vectorDsts op c dst)).sawPoison p
      ((c.reads op src src2).any (s.opdPoison p))).writeOpd p (opd dst) out.width out.vals out.scales
      ((c.reads op src src2).any (s.opdPoison p)), ((s.spindle p).ctx ctx).tid.toNat, ?_,
    (State.Body.uses.trans .sawPoison).trans .writeOpd, read.1 ▸ (State.opdWritten_writeOpd ..).calm⟩
  unfold State.vector
  simp only [used.opdPoison, used.sources, used.rnd, used.chunk, used.ctx]
  cases op with
  | wide => exact absurd rfl narrow
  | _ => rfl

/-- A vector-class instruction but VWIDE whose descriptor reads correct and is accepted. -/
theorem State.vectorAt_chain {s : State} {p : Site} {op : VOp} {src src2 dst : BitVec 5} {nst : BitVec 3} {sr : BitVec 36}
    {ctx : BitVec 2} {grad rm : Bool} {line : Nat} {c : Chain} (reserved : (sref sr).reserved = false)
    (am : (sref sr).am = 0) (lsel : (sref sr).lsel = 0) (extent : (s.spindle p).extent (sref sr) 2 = .ok line)
    (clean : (s.spindle p).Clean true line 2) (sound : (s.readLines p line 2).any (·.poison) = false)
    (hc : c = chainOf (linesNat (s.readLines p line 2)) nst.toNat)
    (ok : c.bad op src src2 dst (sref sr) (grad || rm) = none)
    (h : s.issuesOn p (c.reads op (opd src) (opd src2) ++ vectorDsts op c dst)) (narrow : op ≠ .wide) :
    let out := s.chainOut p c (opd src) (opd src2) ctx.toNat (grad || rm) op
    ∃ t y, s.vectorAt p op src src2 dst nst sr ctx grad rm = .next t ∧ s.IssuedFlags p { t with stones := s.stones } ∧
      (t.spindle p).calm = y.next ∧
      OpdWritten out.width out.vals out.scales ((c.reads op (opd src) (opd src2)).any (s.opdPoison p)) (s.spindle p).calm y
        (opd dst) := by
  intro out
  have run := State.vectorAt_of_clean (ctx := ctx) reserved am lsel extent clean sound hc ok h
  have ready := (s.scored_atIssue p (c.reads op (opd src) (opd src2) ++ vectorDsts op c dst)).drew 1
  obtain ⟨u, k, effect, body, written⟩ := ready.chain c (opd src) (opd src2) dst ctx.toNat (grad || rm) narrow
  rw [effect] at run
  refine ⟨_, _, run, (State.Body.drew.trans body).flags_countConv .., ?_, written⟩
  rw [State.calm_advance, State.spindle_countConv]

/-- Settles O15: each of the three is one write of what its chain gives on the operands before the issue. -/
theorem vectorChainsRunTheirStages : Obligations.VectorChainsRunTheirStages := by
  unfold Obligations.VectorChainsRunTheirStages
  intro p s src src2 dst nst sr ctx grad rm line op reserved am lsel extent clean sound c ok h bad cx rnd chunkOf q run r
  have written := State.vectorAt_chain (ctx := ctx) reserved am lsel extent clean sound rfl ok h
  refine ⟨?_, ?_, ?_⟩
  · rintro rfl
    exact written nofun
  · rintro rfl
    exact written nofun
  · rintro rfl
    exact written nofun

end Sys2Proof.Machine
end

section
/-! SUPPORT. What SUMMARY does to its spindle's slots and what a doff's results do at the bolt controllers, and the statement about
both (O17). -/

namespace Sys2Proof.Machine

/-! ## Lists and tables over a range -/

theorem nth_setNth {α : Type} {l : List α} {n : Nat} (h : n < l.length) (i : Nat) (v d : α) :
    nth (setNth l i v) n d = if i = n then v else nth l n d := by
  unfold nth setNth
  rw [List.getElem?_set]
  by_cases same : i = n
  · simp [same, h]
  · simp [same]

/-- Elements updated one after the other at the places before m: each is updated once, and no other. -/
theorem nth_foldl_setNth {α : Type} (f : Nat → α → α) (d : α) (l : List α) (m : Nat) :
    let l' := (List.range m).foldl (fun l n => setNth l n (f n (nth l n d))) l
    l'.length = l.length ∧ ∀ n, n < l'.length → nth l' n d = if n < m then f n (nth l n d) else nth l n d := by
  induction m with
  | zero => exact ⟨rfl, fun n _ => rfl⟩
  | succ m ih =>
    rw [List.range_succ, List.foldl_append]
    generalize (List.range m).foldl (fun l n => setNth l n (f n (nth l n d))) l = k at ih
    obtain ⟨length, places⟩ := ih
    refine ⟨List.length_set.trans length, fun n hn => ?_⟩
    have inside : n < k.length := List.length_set (as := k) ▸ hn
    rw [List.foldl_cons, List.foldl_nil, nth_setNth inside, places n inside]
    by_cases last : m = n
    · subst last
      simp [places m inside]
    · have before : n < m + 1 ↔ n < m := by omega
      simp only [last, before, if_false]

/-- The entry of a table that gives each of its keys a value. -/
theorem tget_map_key {β : Type} (g : Nat → β) {k : Nat} : ∀ {l : List Nat}, k ∈ l → tget (l.map (fun i => (i, g i))) k = some (g k)
  | [], h => absurd h (by simp)
  | i :: l, h => by
    rw [List.map_cons, tget]
    split
    · subst_vars; rfl
    · next ne => exact tget_map_key g ((List.mem_cons.mp h).resolve_left (Ne.symm ne))

/-! ## SUMMARY -/

/-- The slots of a spindle after scalars from `first` on were sent to slots 0 to `count`. -/
def State.sent (s : State) (p : Site) (o : Opd) (count first : Nat) : List SumSlot :=
  (List.range (count + 1)).foldl (fun (l : List SumSlot) n =>
    setNth l n ((nth l n {}).take (s.planOp n) (s.scalar p o (first + n)) (s.view p o).poison)) (s.spindle p).sums

theorem State.sendScalars_eq (s : State) (p : Site) (o : Opd) (count first : Nat) :
    s.sendScalars p o count first =
      (s.setSpindle p { s.spindle p with sums := s.sent p o count first }).sawPoison p (s.view p o).poison := rfl

theorem State.Scored.scalar {s t : State} {p : Site} (h : s.Scored p t) (o : Opd) (i : Nat) : t.scalar p o i = s.scalar p o i := by
  unfold State.scalar
  rw [h.view]
  cases o <;> simp only [h.acc]

/-- No instruction moves SUMMARY_PLAN. -/
theorem State.Scored.planOp {s t : State} {p : Site} (h : s.Scored p t) (n : Nat) : t.planOp n = s.planOp n := by
  obtain ⟨_, _, rows, _⟩ := h.2
  have plan : t.obj Obj.summaryPlan 0 = s.obj Obj.summaryPlan 0 := by
    refine rows _ _ (by decide) ?_
    rintro (⟨_, _, high⟩ | other)
    · exact absurd high (by decide)
    · exact absurd other (by decide)
  unfold State.planOp
  rw [plan]

theorem State.Scored.sent {s t : State} {p : Site} (h : s.Scored p t) (o : Opd) (count first : Nat) :
    t.sent p o count first = s.sent p o count first := by
  have sums : (t.spindle p).sums = (s.spindle p).sums := (congrArg (fun x : Spindle => x.sums) h.1 :)
  unfold State.sent
  simp only [h.planOp, h.scalar, h.view, sums]

theorem exec_summary {s : State} {p : Site} {src : BitVec 5} {count : BitVec 3} {first : BitVec 12}
    (range : first.toNat + count.toNat ≤ 4095) (h : s.issuesOn p [opd src]) :
    exec (.summary p src count first) s = .next
      ((((s.atIssue p [opd src]).uses p [opd src] []).sendScalars p (opd src) count.toNat first.toNat).advance p) := by
  show execSummary p src count first s = _
  rw [execSummary, summaryBad, if_neg (Nat.not_lt.mpr range)]
  dsimp only
  rw [State.runOn_eq h]
  rfl

/-! ## Global results -/

theorem exec_summaryResultsArrive {s : State} (up : s.up = true) {r : DoffResult} {rest : List DoffResult}
    (oldest : s.fabric.results = r :: rest) :
    exec .summaryResultsArrive s = .next (({ s with fabric := { s.fabric with results := rest } }).deliverSummary r) := by
  show execSummaryResultsArrive s = _
  unfold execSummaryResultsArrive
  rw [State.ifUp_of_up up, oldest]
  rfl

/-- R131: every bolt controller takes the same results. -/
theorem State.bolt_deliverSummary (s : State) (r : DoffResult) (b : BoltNo) :
    (s.deliverSummary r).bolt b.val = (s.bolt b.val).takeResult r := by
  unfold State.deliverSummary
  show (tget ((List.range 48).map (fun b => (b, (s.bolt b).takeResult r))) b.val).getD {} = _
  rw [tget_map_key _ (List.mem_range.mpr b.isLt)]
  rfl

/-! ## A bolt program's own command -/

section BoltRuns

variable {s : State} {b : BoltNo} (up : s.up = true) (running : (s.bolt b.val).progRunning = true)
  (free : (s.bolt b.val).suBlocked = false)
include up running free

/-- The command of a bolt program that runs and does not wait has its effect (R133). -/
theorem State.boltAt_runs (f : Bolt → State → State) : s.boltAt b f = f (s.bolt b.val) s := by
  unfold State.boltAt
  simp [up, running, free]

/-- A command that changes its bolt controller leaves everything else. -/
theorem State.onBolt_runs (f : Bolt → Bolt) :
    ∃ t, s.onBolt b f = .next t ∧ s.OnlyBolt b noRows t ∧ t.bolt b.val = f (s.bolt b.val) :=
  ⟨_, congrArg Host.Outcome.next (State.boltAt_runs up running free _), .setBolt, State.bolt_setBolt ..⟩

end BoltRuns

/-- Settles O17: SUMMARY updates the slots it names one after the other; results arrive at every bolt; SU_WAIT sets its bolt. -/
theorem summariesCombineAndReachEveryBolt : Obligations.SummariesCombineAndReachEveryBolt := by
  unfold Obligations.SummariesCombineAndReachEveryBolt
  refine ⟨fun p s src count first range h => ?_, fun s r rest up oldest => ?_, fun s b dseq up running free => ?_⟩
  · have used := (s.scored_atIssue p [opd src]).uses [opd src] []
    have run := exec_summary range h
    obtain ⟨length, slots⟩ := nth_foldl_setNth (fun n x => SumSlot.take x (s.planOp n) (s.scalar p (opd src) (first.toNat + n))
      (s.view p (opd src)).poison) {} (s.spindle p).sums (count.toNat + 1)
    rw [State.sendScalars_eq, used.sent, used.view] at run
    refine ⟨_, _, run, (State.Body.uses.trans (State.Body.setSpindle.trans .sawPoison)).flags, ?_, length, fun n hn => ?_⟩
    · rw [State.calm_advance, State.spindle_sawPoison, State.spindle_setSpindle, ← used.1]
      rfl
    · rw [slots n hn]
      simp only [Nat.lt_succ_iff]
  · exact ⟨_, exec_summaryResultsArrive up oldest, fun b => State.bolt_deliverSummary _ r b, rfl⟩
  · exact State.onBolt_runs up running free _

end Sys2Proof.Machine
end

section
/-! SUPPORT. What the commands of a bolt program do, and the statement about the binary64 unit, decisions, restarts and traps
(O25). -/

namespace Sys2Proof.Machine

/-! ## The binary64 unit -/

theorem boolWord_eq (b : Bool) : boolWord b = if b = true then 1 else 0 := by
  cases b <;> rfl

/-- R135: an operation that the unit does not have gives 0. -/
theorem f64Result_of_reserved {op : Nat} (h : op = 0 ∨ 0xD ≤ op) (x y : W64) : f64Result op x y = 0 := by
  rcases h with rfl | beyond
  · rfl
  · obtain ⟨k, rfl⟩ := Nat.exists_eq_add_of_le' beyond
    rfl

/-! ## Decisions -/

theorem postWord_toNat (seq : W16) (word : W32) : (postWord seq word).toNat = word.toNat + seq.toNat * 2 ^ 32 := by
  unfold postWord
  rw [BitVec.toNat_ofNat, Nat.mod_eq_of_lt]
  omega

/-- A bolt controller that has posted a decision (R136). -/
def Bolt.posted (x : Bolt) (seq : W16) (word : W32) : Bolt :=
  { x with decLast := postWord seq word, decTable := tput x.decTable (seq.toNat % 64) (seq, word) }

theorem Bolt.decision_posted (x : Bolt) (seq : W16) (word : W32) : (x.posted seq word).decision seq = some word := by
  unfold Bolt.decision Bolt.posted
  dsimp only
  rw [tget_tput_self]
  exact if_pos rfl

/-- The state after a post, with nothing on its way yet (R136, R140). -/
def State.posted (s : State) (b : BoltNo) (x : Bolt) (seq : W16) (word : W32) : State :=
  (s.setBolt b.val (x.posted seq word)).setObj Obj.decisionLast b.val (postWord seq word).toNat

@[simp] theorem State.streams_posted (s : State) (b : BoltNo) (x : Bolt) (seq : W16) (word : W32) :
    (s.posted b x seq word).streams = s.streams := State.setObj_streams ..

@[simp] theorem State.bolt_posted (s : State) (b : BoltNo) (x : Bolt) (seq : W16) (word : W32) :
    (s.posted b x seq word).bolt b.val = x.posted seq word := by
  unfold State.posted
  rw [State.bolt_setObj, State.bolt_setBolt]

@[simp] theorem State.obj_posted (s : State) (b : BoltNo) (x : Bolt) (seq : W16) (word : W32) :
    (s.posted b x seq word).obj Obj.decisionLast b.val = (postWord seq word).toNat := State.obj_setObj_self ..

theorem State.onlyBolt_posted (s : State) (b : BoltNo) (x : Bolt) (seq : W16) (word : W32) :
    s.OnlyBolt b (oneRow Obj.decisionLast b.val) (s.posted b x seq word) :=
  State.OnlyBolt.setBolt.trans (.setObj (by omega) ⟨rfl, rfl⟩)

/-- The state with decisions added to those on their way to the Dudin dies (R200). -/
def State.relaying (s : State) (l : List (W16 × W32)) : State :=
  { s with streams := { s.streams with relayQueue := s.streams.relayQueue ++ l } }

theorem State.relaying_nil (s : State) : s.relaying [] = s := by
  unfold State.relaying
  rw [List.append_nil]

@[simp] theorem State.obj_relaying (s : State) (l : List (W16 × W32)) (id row : Nat) : (s.relaying l).obj id row = s.obj id row :=
  rfl

@[simp] theorem State.bolt_relaying (s : State) (l : List (W16 × W32)) (b : Nat) : (s.relaying l).bolt b = s.bolt b := rfl

theorem State.OnlyBolt.relaying {b : BoltNo} {ch : Nat → Nat → Prop} {s t : State} (h : s.OnlyBolt b ch t)
    (l : List (W16 × W32)) : s.OnlyBolt b ch { t.relaying l with streams := s.streams } := by
  have kept : t.streams = s.streams := by rw [h.1]
  rw [← kept]
  exact h

/-- Of all posts, those of B27 go to the Dudin dies (R200). -/
theorem State.postDecision_eq (s : State) (b : BoltNo) (x : Bolt) (seq : W16) (word : W32) :
    s.postDecision b x seq word = (s.posted b x seq word).relaying (if b.val = 27 then [(seq, word)] else []) := by
  unfold State.postDecision
  split
  · rfl
  · rw [State.relaying_nil]
    rfl

/-- What a post leaves (R136, R140, R200). -/
theorem State.postDecision_spec (s : State) (b : BoltNo) (seq : W16) (word : W32) :
    let t := s.postDecision b (s.bolt b.val) seq word
    (t.bolt b.val).decision seq = some word ∧
      (∀ k, k ≠ seq.toNat % 64 → tget (t.bolt b.val).decTable k = tget (s.bolt b.val).decTable k) ∧
      t.obj Obj.decisionLast b.val = word.toNat + seq.toNat * 2 ^ 32 ∧
      t.streams.relayQueue = s.streams.relayQueue ++ (if b.val = 27 then [(seq, word)] else []) ∧
      s.OnlyBolt b (oneRow Obj.decisionLast b.val) { t with streams := s.streams } := by
  rw [State.postDecision_eq]
  dsimp only
  rw [State.bolt_relaying, State.bolt_posted, State.obj_relaying, State.obj_posted]
  refine ⟨Bolt.decision_posted .., fun k other => tget_tput_ne (Ne.symm other) _ _, postWord_toNat seq word, ?_,
    (s.onlyBolt_posted b _ seq word).relaying _⟩
  rw [← State.streams_posted s b (s.bolt b.val) seq word]
  rfl

/-! ## Restarts -/

theorem tget_map_value {β : Type} (f : Nat → β → β) (k : Nat) : ∀ m : SMap β,
    tget (m.map (fun e => (e.1, f e.1 e.2))) k = (tget m k).map (f k)
  | [] => rfl
  | (i, x) :: m => by
    rw [List.map_cons, tget, tget]
    split
    · subst_vars; rfl
    · exact tget_map_value f k m

/-- SP_START restarts nothing: another value, no microbatch, or every present spindle halted (R503). -/
theorem State.startSpindles_of_idle {s : State} {value : W64}
    (idle : value ≠ 1 ∨ s.step.mbRunning = false ∨ s.allHalted = true) (b : BoltNo) : s.startSpindles b value = s := by
  unfold State.startSpindles
  rw [if_pos (by simpa using idle)]

theorem State.startSpindles_only (s : State) (b : BoltNo) (value : W64) :
    s.startSpindles b value = { s with spindles := (s.startSpindles b value).spindles } := by
  unfold State.startSpindles
  split <;> rfl

theorem State.tget_startSpindles {s : State} (running : s.step.mbRunning = true) (some_ : s.allHalted = false) (b : BoltNo)
    (r : Nat) :
    tget (s.startSpindles b 1).spindles r = (tget s.spindles r).map (fun x =>
      if boltOf (r % 128) (r / 128) = b.val ∧ s.isAbsent r = false ∧ x.halted = true then
        { x with halted := false, pc := 0, loops := [] } else x) := by
  have restart : ∀ x : Spindle, (if boltOf (r % 128) (r / 128) = b.val ∧ !s.isAbsent r then x.restart_ else x) =
      if boltOf (r % 128) (r / 128) = b.val ∧ s.isAbsent r = false ∧ x.halted = true then
        { x with halted := false, pc := 0, loops := [] } else x := by
    intro x
    unfold Spindle.restart_
    simp only [Bool.not_eq_true', ← and_assoc]
    exact (ite_and ..).symm
  unfold State.startSpindles
  rw [if_neg (by simp [running, some_])]
  refine (tget_map_value (fun r (x : Spindle) => if boltOf (r % 128) (r / 128) = b.val ∧ !s.isAbsent r then x.restart_ else x) r _).trans ?_
  simp only [restart]

/-! ## The statement -/

/-- Settles O25: each command of a bolt program that runs is its effect on its bolt controller, with the objects that show it. -/
theorem boltProgramsComputePostRestartAndTrap : Obligations.BoltProgramsComputePostRestartAndTrap := by
  unfold Obligations.BoltProgramsComputePostRestartAndTrap
  refine ⟨fun b s x y up running free => ?_, fun op x y h => f64Result_of_reserved h x y, fun b s up running free => ⟨?_, ?_, ?_⟩⟩
  · intro two one
    have runs := State.onBolt_runs up running free
    have both := fun op => runs (fun c => c.f64 x y (f64Result op x y))
    have first := fun op => runs (fun c => c.f64One x (f64Result op x c.f64B))
    refine ⟨both 0x1, both 0x2, both 0x3, both 0x4, both 0x6, both 0x7, ?_, ?_, first 0x5, ?_, first 0xB, first 0xC⟩
    · rw [← boolWord_eq]
      exact both 0x8
    · rw [← boolWord_eq]
      exact both 0x9
    · rw [← boolWord_eq]
      exact first 0xA
  · intro seq word
    exact ⟨_, congrArg Host.Outcome.next (State.boltAt_runs up running free _), s.postDecision_spec b seq word⟩
  · intro value
    refine ⟨?_, fun idle => ?_⟩
    · rintro rfl mb some_
      exact ⟨_, congrArg Host.Outcome.next (State.boltAt_runs up running free _), s.startSpindles_only b 1,
        State.tget_startSpindles mb some_ b⟩
    · exact congrArg Host.Outcome.next ((State.boltAt_runs up running free _).trans (State.startSpindles_of_idle idle b))
  · intro cause address
    have row : b.val < 2 ^ 20 := by omega
    refine ⟨_, congrArg Host.Outcome.next (State.boltAt_runs up running free _), ?_, State.obj_setObj_self ..,
      State.OnlyBolt.setBolt.trans (.setObj row ⟨rfl, rfl⟩)⟩
    exact (State.bolt_setObj ..).trans (State.bolt_setBolt ..)

end Sys2Proof.Machine
end

section
/-! SUPPORT. What the doff does at its spindles and at the root, what its imbalance does to a running evaluation, and the statement
about both (O24). -/

namespace Sys2Proof.Machine

/-! ## States that differ in object rows, with no free value drawn -/

/-- `t` differs from `s` in object rows of `ch` alone. -/
def State.RowsSet (ch : Nat → Nat → Prop) (s t : State) : Prop := s.OnlyRows ch t ∧ t.free = s.free

theorem State.RowsSet.refl (ch : Nat → Nat → Prop) (s : State) : s.RowsSet ch s := ⟨.refl ch s, rfl⟩

theorem State.RowsSet.trans {ch : Nat → Nat → Prop} {s t u : State} (h : s.RowsSet ch t) (k : t.RowsSet ch u) : s.RowsSet ch u :=
  ⟨h.1.trans k.1, k.2.trans h.2⟩

theorem State.RowsSet.mono {ch dh : Nat → Nat → Prop} {s t : State} (i : ∀ id row, ch id row → dh id row) (h : s.RowsSet ch t) :
    s.RowsSet dh t := ⟨h.1.mono i, h.2⟩

theorem State.RowsSet.setObj {ch : Nat → Nat → Prop} {s : State} {id row v : Nat} (hr : row < 2 ^ 20) (h : ch id row) :
    s.RowsSet ch (s.setObj id row v) := ⟨.setObj hr h, State.setObj_free ..⟩

theorem State.RowsSet.bump {ch : Nat → Nat → Prop} {s : State} {id row n : Nat} (hr : row < 2 ^ 20) (h : ch id row) :
    s.RowsSet ch (s.bump id row n) := .setObj hr h

theorem State.RowsSet.foldl {ch : Nat → Nat → Prop} {f : State → Nat → State} : ∀ {l : List Nat},
    (∀ (s : State), ∀ n ∈ l, s.RowsSet ch (f s n)) → ∀ s : State, s.RowsSet ch (l.foldl f s)
  | [], _, s => .refl ch s
  | n :: _, h, s => (h s n (List.mem_cons_self ..)).trans
    (State.RowsSet.foldl (fun s k hk => h s k (List.mem_cons_of_mem n hk)) (f s n))

theorem State.RowsSet.only {ch : Nat → Nat → Prop} {s t : State} (h : s.RowsSet ch t) :
    t = { s with objs := t.objs, dict := { s.dict with copies := t.dict.copies } } := by
  have e := h.1.1
  rw [h.2] at e
  exact e

/-- A row of another object reads as before. -/
theorem State.RowsSet.obj {ids : List Nat} {s t : State} (h : s.RowsSet (Machine.rowsOf ids) t) {id row : Nat} (hr : row < 2 ^ 20)
    (other : id ∉ ids) : t.obj id row = s.obj id row := h.1.2.1 id row hr other

theorem rowsOf_of_mem {ids : List Nat} {id row : Nat} (h : id ∈ ids) : rowsOf ids id row := h

theorem rowsOf_mono {ids jds : List Nat} (h : ids ⊆ jds) (id row : Nat) (i : rowsOf ids id row) : rowsOf jds id row := h i

/-! ## Issue and arrival -/

theorem exec_doff {s : State} {p : Site} (h : s.issues p = true) (dseq : W16) :
    exec (.doff p dseq) s = .next ((s.issued p).setSpindle p { (s.issued p).spindle p with atDoff := some dseq }.next) :=
  congrArg Host.Outcome.next (State.runAt_setSpindle h (fun x => { x with atDoff := some dseq }))

theorem exec_doffArrive_of_may {s : State} {p : Site} (h : s.mayArrive p = true) :
    exec (.doffArrive p) s = .next (s.setSpindle p { (s.spindle p).quiet with
      arrived := (s.spindle p).atDoff, carried := (s.spindle p).sums, sums := List.replicate 8 {} }) :=
  congrArg Host.Outcome.next (if_pos h)

theorem exec_doffArrive_of_not {s : State} {p : Site} (h : s.mayArrive p = false) : exec (.doffArrive p) s = .next s :=
  congrArg Host.Outcome.next (if_neg (by rw [h]; exact Bool.false_ne_true))

/-! ## The root's judgement -/

theorem exec_doffComplete {s : State} (up : s.up = true) (running : s.step.mbRunning = true) (free : s.hold.counts = []) :
    exec .doffComplete s = .next s.judgeDoff := by
  show execDoffComplete s = _
  unfold execDoffComplete
  rw [State.ifUp_of_up up]
  simp [running, free, done]

theorem foldl_of_fixed {α β : Type} {f : α → β → α} {a : α} : ∀ {l : List β}, (∀ b ∈ l, f a b = a) → l.foldl f a = a
  | [], _ => rfl
  | b :: l, h => by
    rw [List.foldl_cons, h b (List.mem_cons_self ..)]
    exact foldl_of_fixed (fun c hc => h c (List.mem_cons_of_mem b hc))

/-- With every present spindle arrived the root compares the lowest and the highest DSEQ (R172). The definition is unfolded where it
stands by itself: the kernel, asked whether it agrees with its body at a state, would evaluate the fold over all 9,216 rows. -/
theorem State.judgeDoff_of_arrivals {s : State} {a : Nat} {l : List Nat} (h : s.arrivals = some (a :: l)) :
    s.judgeDoff = if l.foldl min a = l.foldl max a then s.completeDoff (BitVec.ofNat 16 a)
      else (s.fault 0x3502 doffUnit (l.foldl min a + l.foldl max a * 2 ^ 16)).imbalance := by
  suffices unfolded : ∀ judge, judge = State.judgeDoff → judge s = _ from unfolded _ rfl
  intro judge hj
  delta State.judgeDoff at hj
  rw [hj]
  beta_reduce
  rw [h]

/-- Arrivals with one DSEQ complete the doff (R172). -/
theorem State.judgeDoff_of_equal {s : State} {d : W16} {l : List Nat} (h : s.arrivals = some (d.toNat :: l))
    (equal : ∀ e ∈ l, e = d.toNat) : s.judgeDoff = s.completeDoff d := by
  have lo : l.foldl min d.toNat = d.toNat := foldl_of_fixed (fun e he => by rw [equal e he, Nat.min_self])
  have hi : l.foldl max d.toNat = d.toNat := foldl_of_fixed (fun e he => by rw [equal e he, Nat.max_self])
  rw [State.judgeDoff_of_arrivals h, lo, hi, if_pos rfl, BitVec.ofNat_toNat, BitVec.setWidth_eq]

theorem le_foldl_max : ∀ (l : List Nat) (m : Nat), m ≤ l.foldl max m ∧ ∀ e ∈ l, e ≤ l.foldl max m
  | [], m => ⟨Nat.le_refl m, by simp⟩
  | a :: l, m => by
    obtain ⟨start, rest⟩ := le_foldl_max l (max m a)
    rw [List.foldl_cons, List.forall_mem_cons]
    exact ⟨(Nat.le_max_left ..).trans start, (Nat.le_max_right ..).trans start, rest⟩

/-- Of numbers that differ the lowest is not the highest. -/
theorem foldl_min_ne_foldl_max {a b : Nat} {l : List Nat} (mem : b ∈ l) (ne : b ≠ a) : l.foldl min a ≠ l.foldl max a := by
  have lo : l.foldl min a ≤ a ∧ ∀ e ∈ l, l.foldl min a ≤ e := foldl_min_le id l a
  have hi := le_foldl_max l a
  have below := lo.2 b mem
  have above := hi.2 b mem
  omega

/-- Arrivals with differing DSEQs are an imbalance (R172, R173). -/
theorem State.judgeDoff_of_differing {s : State} {a b : Nat} {l : List Nat} (h : s.arrivals = some (a :: l)) (mem : b ∈ l)
    (ne : b ≠ a) : ∃ detail, s.judgeDoff = (s.fault 0x3502 doffUnit detail).imbalance := by
  rw [State.judgeDoff_of_arrivals h, if_neg (foldl_min_ne_foldl_max mem ne)]
  exact ⟨_, rfl⟩

/-! ## Completion -/

/-- SUMMARY_LAST and its SEQ. -/
def summaryIds : List Nat := [Obj.summaryLast, Obj.summaryLastSeq]

/-- The step totals. -/
def lossIds : List Nat := [Obj.lossLocal, Obj.tokensLocal]

theorem State.rowsSet_putSummary (s : State) (r : DoffResult) : s.RowsSet (Machine.rowsOf summaryIds) (s.putSummary r) := by
  refine State.RowsSet.trans (State.RowsSet.foldl (fun s n hn => .setObj ?_ (rowsOf_of_mem (List.mem_cons_self ..))) s)
    (.setObj (by decide) (rowsOf_of_mem (by decide)))
  have := List.mem_range.mp hn
  omega

/-- Taking a doff's slots moves the step totals, and beyond the objects only the step (R257). -/
theorem State.addLoss_spec (s : State) (r : DoffResult) :
    ∃ t x, s.addLoss r = { t with step := x } ∧ s.RowsSet (Machine.rowsOf lossIds) t := by
  unfold State.addLoss
  dsimp only
  split
  · exact ⟨s, s.step, rfl, .refl _ s⟩
  · exact ⟨_, _, rfl, State.RowsSet.trans (.setObj (by decide) (rowsOf_of_mem (by decide)))
      (.setObj (by decide) (rowsOf_of_mem (by decide)))⟩

theorem State.reachStop_of_none {s : State} (h : s.faults.doffsAtStop = 0) : s.reachStop = s := if_pos h

/-- What a doff shows of itself when it completes (R140). -/
def State.shown (s : State) (d : W16) : State :=
  ((s.setObj Obj.doffLast 0 d.toNat).bump Obj.doffCount 0 1).putSummary (s.doffResult d)

/-- The objects that a completed doff moves. -/
def doffIds : List Nat :=
  [Obj.doffLast, Obj.doffCount, Obj.summaryLast, Obj.summaryLastSeq, Obj.lossLocal, Obj.tokensLocal]

theorem State.rowsSet_shown (s : State) (d : W16) : s.RowsSet (Machine.rowsOf doffIds) (s.shown d) := by
  have last := State.RowsSet.setObj (s := s) (ch := Machine.rowsOf doffIds) (id := Obj.doffLast) (row := 0) (v := d.toNat)
    (by decide) (rowsOf_of_mem (by decide))
  have counted := last.trans (.bump (id := Obj.doffCount) (row := 0) (n := 1) (by decide) (rowsOf_of_mem (by decide)))
  exact counted.trans ((State.rowsSet_putSummary ..).mono (rowsOf_mono (by decide)))

theorem State.obj_shown_doffLast (s : State) (d : W16) : (s.shown d).obj Obj.doffLast 0 = d.toNat := by
  unfold State.shown
  rw [(State.rowsSet_putSummary ..).obj (by decide) (by decide), State.obj_bump_ne (by decide), State.obj_setObj_self]

theorem State.obj_shown_doffCount (s : State) (d : W16) :
    (s.shown d).obj Obj.doffCount 0 = satAdd 64 (s.obj Obj.doffCount 0) 1 := by
  unfold State.shown
  rw [(State.rowsSet_putSummary ..).obj (by decide) (by decide), State.obj_bump_of_bits (by decide : objBits Obj.doffCount = 64),
    State.obj_setObj_ne (by decide)]

/-- A completed doff sets its rows, adds to the step's totals, and then releases the spindles, with its results under way. -/
theorem State.completeDoff_spec {s : State} (calm : s.faults.doffsAtStop = 0) (d : W16) :
    ∃ t x, s.completeDoff d = { t with
        step := x, spindles := s.spindles.map (fun e => (e.1, e.2.release))
        fabric := { s.fabric with watchdog := 0, results := s.fabric.results ++ [s.doffResult d] } } ∧
      s.RowsSet (Machine.rowsOf doffIds) t ∧ t.obj Obj.doffLast 0 = d.toNat ∧
      t.obj Obj.doffCount 0 = satAdd 64 (s.obj Obj.doffCount 0) 1 := by
  obtain ⟨t, x, added, losses⟩ := (s.shown d).addLoss_spec (s.doffResult d)
  have rows := (s.rowsSet_shown d).trans (losses.mono (rowsOf_mono (by decide)))
  have only := rows.only
  have faults : ((s.shown d).addLoss (s.doffResult d)).faults = s.faults := by rw [added, only]
  have spindles : t.spindles = s.spindles := by rw [only]
  have fabric : t.fabric = s.fabric := by rw [only]
  refine ⟨t, x, ?_, rows, ?_, ?_⟩
  · have completed : s.completeDoff d = { ((s.shown d).addLoss (s.doffResult d)).reachStop with
        spindles := ((s.shown d).addLoss (s.doffResult d)).reachStop.spindles.map (fun e => (e.1, e.2.release))
        fabric := { ((s.shown d).addLoss (s.doffResult d)).reachStop.fabric with
          watchdog := 0
          results := ((s.shown d).addLoss (s.doffResult d)).reachStop.fabric.results ++ [s.doffResult d] } } := rfl
    rw [completed, State.reachStop_of_none (by rw [faults, calm]), added, spindles, fabric]
  · rw [losses.obj (by decide) (by decide), State.obj_shown_doffLast]
  · rw [losses.obj (by decide) (by decide), State.obj_shown_doffCount]

/-- Rows set, and then the step, the spindles and the fabric: every other field is as before. -/
theorem State.RowsSet.moved {ch : Nat → Nat → Prop} {s t : State} (h : s.RowsSet ch t) (x : Step) (y : SMap Spindle) (f : Fabric) :
    { t with step := x, spindles := y, fabric := f } =
      { s with objs := t.objs, dict := { s.dict with copies := t.dict.copies }, spindles := y, fabric := f, step := x } :=
  congrArg (fun u : State => { u with step := x, spindles := y, fabric := f }) h.only

/-! ## An imbalance -/

theorem State.returnSlots_of_none {s : State} (h : s.step.slots = []) (abandoned : Bool) : s.returnSlots abandoned = s := by
  unfold State.returnSlots
  rw [h, List.foldl_nil, ← h]

/-- The wafer halted with its program, the step poisoned, and the stop due at the STEP boundary (R173). -/
def State.programHalted (s : State) : State :=
  { s.haltWafer.poisonStep with
    prog := { s.prog with halted173 := true }
    step := { s.haltWafer.poisonStep.step with mustPause := true, noMore := true } }

/-- An imbalance of an evaluation that has taken no slot ends it at once (R173). -/
theorem State.imbalance_of_evaluating {s : State} (evaluating : s.step.evaluating = true) (slots : s.step.slots = []) :
    s.imbalance = s.programHalted.endEvaluation := by
  have ended : s.imbalance = (s.programHalted.returnSlots true).endEvaluation := if_pos evaluating
  rw [ended, State.returnSlots_of_none (s := s.programHalted) slots]

theorem State.phase_setPhase (s : State) {k : Nat} (h : k < 2 ^ 4) : (s.setPhase k).phase = k := by
  unfold State.phase State.setPhase State.field
  rw [State.obj_setField_self, bits_setBits_self, Nat.mod_eq_of_lt h]

/-- R173: the program is halted and the evaluation over, and of the objects STEP_STATUS alone has moved. -/
theorem State.imbalance_spec {s : State} (evaluating : s.step.evaluating = true) (slots : s.step.slots = []) :
    let t := s.imbalance
    t.prog.halted173 = true ∧ t.step.poisoned = true ∧ t.step.mustPause = true ∧ t.step.evaluating = false ∧ t.phase = 7 ∧
      t.step.mbRunning = false ∧ s.SameBytes t ∧
      ∀ id row, row < 2 ^ 20 → id ≠ Obj.stepStatus → t.obj id row = s.obj id row := by
  rw [State.imbalance_of_evaluating evaluating slots]
  refine ⟨rfl, rfl, rfl, rfl, State.phase_setPhase _ (by decide), rfl, .of_eq rfl rfl rfl, fun id row hr other => ?_⟩
  exact State.obj_setField_ne (objKey_ne_of_id (by decide) hr (Ne.symm other))

theorem State.sameBytes_fault (s : State) (code unit detail : Nat) : s.SameBytes (s.fault code unit detail) :=
  (State.OnlyRows.fault (ch := fun _ _ => True) (fun _ => trivial) trivial trivial).2.2

/-! ## The watchdog -/

theorem exec_doffWatchdogExpiry_answered {s : State} (up : s.up = true) (running : s.step.mbRunning = true)
    (free : s.hold.counts = []) (on : s.fabric.watchdogOn = true) (some_ : s.missing ≠ []) :
    exec (.doffWatchdogExpiry []) s = .next ((s.putMissing s.missing).fault 0x3501 doffUnit 0).imbalance := by
  show execDoffWatchdogExpiry [] s = _
  unfold execDoffWatchdogExpiry
  rw [State.ifUp_of_up up]
  simp [running, free, on, some_, done]

theorem State.rowsSet_putMissing (s : State) (ms : List Nat) :
    s.RowsSet (Machine.rowsOf [Obj.doffMissing, Obj.doffMissingCount]) (s.putMissing ms) := by
  refine State.RowsSet.trans (State.RowsSet.foldl (fun s n hn => .setObj ?_ (rowsOf_of_mem (List.mem_cons_self ..))) s)
    (.setObj (by decide) (rowsOf_of_mem (by decide)))
  have := List.mem_range.mp hn
  omega

theorem State.obj_putMissing_count (s : State) (ms : List Nat) :
    (s.putMissing ms).obj Obj.doffMissingCount 0 = ms.length := State.obj_setObj_self ..

/-! ## The statement -/

/-- Settles O24: the arrival and the completion by what they set; both imbalances by the one state they end in. -/
theorem doffWaitsCompletesOrHaltsTheProgram : Obligations.DoffWaitsCompletesOrHaltsTheProgram := by
  unfold Obligations.DoffWaitsCompletesOrHaltsTheProgram
  refine ⟨fun p s => ⟨fun dseq h => ?_, fun h => ?_, exec_doffArrive_of_not⟩,
    fun s d l up running free arrived equal calm => ?_,
    fun s up running free evaluating slots => ⟨fun a b l arrived mem ne => ?_, fun on some_ => ?_⟩⟩
  · refine ⟨_, exec_doff h dseq, .of_setSpindle .., ?_⟩
    rw [State.spindle_setSpindle, State.spindle_issued]
    rfl
  · exact ⟨_, exec_doffArrive_of_may h, .setSpindle, State.spindle_setSpindle ..⟩
  · obtain ⟨t, x, completed, rows, last, count⟩ := State.completeDoff_spec calm d
    have run := exec_doffComplete up running free
    rw [State.judgeDoff_of_equal arrived equal, completed] at run
    exact ⟨_, run, last, count, fun r => tget_map_value (fun _ => Spindle.release) r _, rfl, rfl, rows.moved ..,
      rows.1.2.1, rows.1.2.2⟩
  · obtain ⟨detail, judged⟩ := State.judgeDoff_of_differing arrived mem ne
    have run := exec_doffComplete up running free
    rw [judged] at run
    have step : (s.fault 0x3502 doffUnit detail).step = s.step := State.fault_step ..
    obtain ⟨halted, poisoned, pause, ended, phase, stopped, bytes, _⟩ :=
      State.imbalance_spec (s := s.fault 0x3502 doffUnit detail) (by rw [step, evaluating]) (by rw [step, slots])
    exact ⟨_, run, halted, poisoned, pause, ended, phase, stopped, (s.sameBytes_fault _ _ _).trans bytes⟩
  · have rows := s.rowsSet_putMissing s.missing
    have step : ((s.putMissing s.missing).fault 0x3501 doffUnit 0).step = s.step := by
      rw [State.fault_step, rows.only]
    obtain ⟨halted, poisoned, pause, ended, phase, _, bytes, kept⟩ :=
      State.imbalance_spec (s := (s.putMissing s.missing).fault 0x3501 doffUnit 0) (by rw [step, evaluating]) (by rw [step, slots])
    refine ⟨_, exec_doffWatchdogExpiry_answered up running free on some_, halted, poisoned, pause, ended, phase, ?_,
      (rows.1.2.2.trans (State.sameBytes_fault _ _ _ _)).trans bytes⟩
    rw [kept _ _ (by decide) (by decide), State.obj_fault_other (by decide) (by decide), State.obj_putMissing_count]

end Sys2Proof.Machine
end

section
/-! SUPPORT. What the instructions of handles and queues do to their spindle, and the statement about them (O23). -/

namespace Sys2Proof.Machine

/-! ## The fields of a handle -/

theorem toNat_mkHandle {b n : Nat} (hb : b < 256) (hn : n < 2 ^ 18) (g : BitVec 4) :
    (mkHandle b g n).toNat = b + g.toNat * 2 ^ 8 + n * 2 ^ 12 := by
  have hg := g.isLt
  rw [mkHandle, BitVec.toNat_ofNat, Nat.mod_eq_of_lt hb, Nat.mod_eq_of_lt hn]
  omega

/-- A handle's fields read back (R166). -/
theorem handle_fields {b n : Nat} (hb : b < 256) (hn : n < 2 ^ 18) (g : BitVec 4) :
    handleBuf (mkHandle b g n) = b ∧ handleGen (mkHandle b g n) = g ∧ handleLen (mkHandle b g n) = n := by
  have hg := g.isLt
  unfold handleBuf handleGen handleLen bits
  simp only [toNat_mkHandle hb hn, Nat.shiftRight_eq_div_pow]
  refine ⟨by omega, BitVec.eq_of_toNat_eq ?_, by omega⟩
  rw [BitVec.toNat_ofNat]
  omega

/-! ## Instructions that change their spindle alone -/

/-- A body that writes its spindle is done with that spindle at the next instruction. -/
theorem State.issued_advance (s : State) (p : Site) (x : Spindle) : s.Issued p (((s.issued p).setSpindle p x).advance p) := by
  rw [State.advance_setSpindle]
  exact .of_setSpindle s p _

/-- The spindle a body wrote, past its instruction. -/
theorem State.calm_advance_setSpindle (s : State) (p : Site) (x : Spindle) :
    (((s.setSpindle p x).advance p).spindle p).calm = x.calm.next := by
  rw [State.calm_advance, State.spindle_setSpindle]

section Handles

variable {s : State} {p : Site} {slot queue : BitVec 3}

theorem exec_qmake_zero (h : s.issues p = true) (buf : Byte) :
    exec (.qmake p slot buf 0) s = .next ((s.issued p).advance p) :=
  congrArg Host.Outcome.next (State.runAt_issues h _)

theorem exec_qmake (h : s.issues p = true) {buf : Byte} {length : BitVec 18} (lines : length ≠ 0)
    (fits : length.toNat ≤ ((s.spindle p).buf buf.toNat).size) :
    exec (.qmake p slot buf length) s = .next (((s.issued p).setSlot p slot.toNat
      { handle := mkHandle buf.toNat ((s.spindle p).buf buf.toNat).gen length.toNat, valid := true }).advance p) := by
  refine congrArg Host.Outcome.next ((State.runAt_issues h _).trans ?_)
  have same : ((s.issued p).spindle p).buf buf.toNat = (s.spindle p).buf buf.toNat :=
    (congrArg (fun x : Spindle => x.buf buf.toNat) (s.calm_issued p) :)
  simp only [same, lines, Nat.not_lt.mpr fits, ↓reduceIte]

theorem exec_qput (h : s.issues p = true) (live : (s.spindle p).slotLive slot.toNat = true)
    (free : s.bufferFree p (handleBuf ((s.spindle p).slot slot.toNat).handle) = true)
    (room : (nth (s.spindle p).queues queue.toNat []).length < 16) :
    exec (.qput p queue slot) s = .next (((s.issued p).setSpindle p { (s.issued p).spindle p with
      queues := (s.spindle p).queues.set queue.toNat
        (nth (s.spindle p).queues queue.toNat [] ++ [((s.spindle p).slot slot.toNat).handle]) }).advance p) := by
  show execQput p queue slot s = _
  have same : ((s.issued p).spindle p).queues = (s.spindle p).queues :=
    (congrArg (fun x : Spindle => x.queues) (s.calm_issued p) :)
  unfold execQput
  simp only [live, free, Nat.not_le.mpr room, Bool.not_true, Bool.false_eq_true, ↓reduceIte, State.runAt_issues h, same]
  rfl

/-- QPUT waits while the queue is full (R169). -/
theorem exec_qput_full (live : (s.spindle p).slotLive slot.toNat = true)
    (free : s.bufferFree p (handleBuf ((s.spindle p).slot slot.toNat).handle) = true)
    (full : 16 ≤ (nth (s.spindle p).queues queue.toNat []).length) : exec (.qput p queue slot) s = .next s := by
  show execQput p queue slot s = _
  unfold execQput
  simp only [live, free, full, Bool.not_true, Bool.false_eq_true, ↓reduceIte]
  rfl

theorem exec_qget (h : s.issues p = true) {handle : W32} {rest : List W32}
    (head : nth (s.spindle p).queues queue.toNat [] = handle :: rest) :
    exec (.qget p queue slot) s = .next (((s.issued p).setSpindle p { (s.issued p).spindle p with
      queues := (s.spindle p).queues.set queue.toNat rest
      slots := (s.spindle p).slots.set slot.toNat (Slot.mk handle true) }.settle).flow.advance p) := by
  show execQget p queue slot s = _
  have same := s.calm_issued p
  have queues : ((s.issued p).spindle p).queues = (s.spindle p).queues := (congrArg (fun x : Spindle => x.queues) same :)
  have slots : ((s.issued p).spindle p).slots = (s.spindle p).slots := (congrArg (fun x : Spindle => x.slots) same :)
  rw [execQget, head]
  dsimp only
  rw [State.runAt_issues h, queues, slots]
  rfl

/-- QGET waits while the queue is empty (R169). -/
theorem exec_qget_empty (empty : nth (s.spindle p).queues queue.toNat [] = []) : exec (.qget p queue slot) s = .next s := by
  show execQget p queue slot s = _
  rw [execQget, empty]
  rfl

theorem exec_qrel (h : s.issues p = true) (live : (s.spindle p).slotLive slot.toNat = true)
    (free : s.bufferFree p (handleBuf ((s.spindle p).slot slot.toNat).handle) = true) :
    exec (.qrel p slot) s = .next (((s.issued p).releaseBuffer p slot.toNat
      (handleBuf ((s.spindle p).slot slot.toNat).handle)).flow.advance p) := by
  show execQrel p slot s = _
  unfold execQrel
  simp only [live, free, Bool.not_true, Bool.false_eq_true, ↓reduceIte, State.runAt_issues h]
  rfl

end Handles

/-- A spindle with its waiting handles put, its scoreboard aside. -/
theorem Spindle.calm_settle (x : Spindle) : x.settle.calm = x.calm.settle := rfl

theorem Spindle.queues_settle_of_none {x : Spindle} (h : x.puts = []) : x.settle.queues = x.queues := by
  unfold Spindle.settle
  rw [h]
  rfl

/-! ## Buffers released -/

/-- A stream's engine that has been told of one more buffer free at the spindle of a row. -/
def StreamEng.freed (g : StreamEng) (row : Nat) : StreamEng :=
  { g with releases := tput g.releases row ((tget g.releases row).getD 0 + 1) }

/-- A stream of a spindle reports to its engine that a buffer of its pool is free again (R182). -/
def State.reportRelease (s : State) (p : Site) (e : SpStream) : State :=
  match tget s.streams.engines e.stream with
  | none => s
  | some g =>
    ({ s with streams := { s.streams with engines := tput s.streams.engines e.stream (g.freed p.row) } }).bump
      Obj.fabricFlits 0 1

theorem State.spindles_reportRelease (s : State) (p : Site) (e : SpStream) : (s.reportRelease p e).spindles = s.spindles := by
  unfold State.reportRelease
  split <;> rfl

theorem State.spindles_reportReleases (p : Site) (es : List SpStream) (s : State) :
    (es.foldl (fun t e => t.reportRelease p e) s).spindles = s.spindles := by
  induction es generalizing s with
  | nil => rfl
  | cons e es ih => exact (ih _).trans (s.spindles_reportRelease p e)

/-- The spindle whose slot gives up a buffer: its generation advances, and its streams hold it no more. -/
def Spindle.released (x : Spindle) (k buf : Nat) : Spindle :=
  { x with
    bufs := tput x.bufs buf { x.buf buf with gen := (x.buf buf).gen + 1 }
    slots := x.slots.set k { x.slot k with valid := false }
    streams := x.streams.map (fun e => { e with busy := e.busy.erase buf }) }

theorem State.releaseBuffer_eq (s : State) (p : Site) (k buf : Nat) :
    s.releaseBuffer p k buf = ((s.spindle p).streams.filter (fun e => e.busy.contains buf)).foldl
      (fun t e => t.reportRelease p e) (s.setSpindle p ((s.spindle p).released k buf)) := by
  unfold State.releaseBuffer State.setSlot State.releasePool
  simp only [State.spindle_setSpindle, State.setSpindle_twice]
  rfl

theorem State.spindle_releaseBuffer (s : State) (p : Site) (k buf : Nat) :
    (s.releaseBuffer p k buf).spindle p = (s.spindle p).released k buf := by
  rw [State.releaseBuffer_eq, State.spindle, State.spindles_reportReleases]
  exact State.spindle_setSpindle ..

/-- A buffer that no stream holds is released without a report. -/
theorem State.releaseBuffer_of_unheld {s : State} {p : Site} {buf : Nat} (h : ∀ e ∈ (s.spindle p).streams, buf ∉ e.busy)
    (k : Nat) : s.releaseBuffer p k buf = s.setSpindle p ((s.spindle p).released k buf) := by
  have none_ : (s.spindle p).streams.filter (fun e => e.busy.contains buf) = [] := by simpa using h
  rw [State.releaseBuffer_eq, none_]
  rfl

/-- A buffer that the one stream of a spindle holds is reported to that stream's engine. -/
theorem State.streams_releaseBuffer {s : State} {p : Site} {buf : Nat} {e : SpStream} {g : StreamEng}
    (one : (s.spindle p).streams = [e]) (held : buf ∈ e.busy) (engine : tget s.streams.engines e.stream = some g) (k : Nat) :
    (s.releaseBuffer p k buf).streams = { s.streams with engines := tput s.streams.engines e.stream (g.freed p.row) } := by
  have hit : (s.spindle p).streams.filter (fun e => e.busy.contains buf) = [e] := by simp [one, held]
  rw [State.releaseBuffer_eq, hit, List.foldl_cons, List.foldl_nil, State.reportRelease, State.setSpindle_streams, engine]
  rfl

/-! ## The statement -/

/-- Settles O23: the fields of a handle by their place in its word, and one lemma for what each instruction answers. -/
theorem handlesMoveThroughSlotsAndQueues : Obligations.HandlesMoveThroughSlotsAndQueues := by
  unfold Obligations.HandlesMoveThroughSlotsAndQueues
  refine ⟨fun b n g hb hn => handle_fields hb hn g, fun p s slot h => ⟨fun buf length => ⟨?_, fun lines fits => ?_⟩,
    fun queue live free => ⟨fun room => ?_, exec_qput_full live free⟩, fun queue => ⟨fun handle rest head => ?_,
    exec_qget_empty⟩, fun live => ?_⟩⟩
  · rintro rfl
    refine ⟨_, exec_qmake_zero h buf, .of_setSpindle .., ?_⟩
    rw [State.calm_advance, State.calm_issued]
  · refine ⟨_, exec_qmake h lines fits, s.issued_advance p _, (State.calm_advance_setSpindle ..).trans ?_⟩
    rw [State.spindle_issued]
    rfl
  · refine ⟨_, exec_qput h live free room, s.issued_advance p _, (State.calm_advance_setSpindle ..).trans ?_⟩
    rw [State.spindle_issued]
    rfl
  · refine ⟨_, exec_qget h head, .of_setSpindle .., ?_, fun idle => ?_⟩
    · rw [State.spindle_setSpindle, Spindle.calm_settle, State.spindle_issued]
      rfl
    · rw [State.spindle_setSpindle]
      exact Spindle.queues_settle_of_none (by rw [State.spindle_issued]; exact idle)
  · intro buf free
    refine ⟨_, exec_qrel h live free, ?_, fun unheld => ?_, fun e g one held engine => ?_⟩
    · rw [State.spindle_releaseBuffer, State.spindle_issued]
      rfl
    · rw [State.releaseBuffer_of_unheld (by rw [State.spindle_issued]; exact unheld)]
      exact .of_setSpindle ..
    · exact State.streams_releaseBuffer (s := s.issued p) (by rw [State.spindle_issued]; exact one) held engine slot.toNat

end Sys2Proof.Machine
end

section
/-! SUPPORT. What RDECL, RSEND and RRECV put in the transfer engine's queue, what its engine does with a declaration and a contribution at its
head, and the statement about them (O21). -/

namespace Sys2Proof.Machine

/-! ## Instructions of the transfer engine -/

section Issue

variable {s : State} {p : Site} {rid : W16} (h : s.queuesOn p [])
include h

theorem exec_rdecl_zero {inputs : BitVec 5} {out : BitVec 3} {length : BitVec 18} (twin : Bool)
    (ok : rdeclBad p out = none) (zero : length = 0 ∨ inputs = 0) :
    exec (.rdecl p rid inputs out twin length) s = .next ((s.issued p).advance p).flow := by
  show execRdecl p rid inputs out twin length s = _
  rw [execRdecl, ok]
  dsimp only
  rw [if_pos zero]
  exact congrArg Host.Outcome.next (State.runXfer_eq h _)

theorem exec_rdecl {inputs : BitVec 5} {out : BitVec 3} {length : BitVec 18} (twin : Bool) (ok : rdeclBad p out = none)
    (lines : length ≠ 0) (listed : inputs ≠ 0) (may : (s.spindle p).mayDeclare rid.toNat = true) :
    exec (.rdecl p rid inputs out twin length) s = .next (((s.issued p).enqueue p (.rdecl
      { rid := rid.toNat, inputs, out := out.toNat, twin, lines := length.toNat })).advance p).flow := by
  show execRdecl p rid inputs out twin length s = _
  rw [execRdecl, ok]
  dsimp only
  rw [if_neg (not_or.mpr ⟨lines, listed⟩), may]
  exact congrArg Host.Outcome.next (State.runXfer_eq h _)

theorem exec_rsend_zero {sr : BitVec 36} (ok : (sref sr).reserved = false) (e : EccResult) :
    exec (.rsend p rid sr 0 e) s = .next ((s.issued p).advance p).flow := by
  show execRsend p rid sr 0 e s = _
  rw [execRsend, ok]
  exact congrArg Host.Outcome.next (State.runXfer_eq h _)

theorem exec_rsend {sr : BitVec 36} {length : BitVec 18} {l : Nat} (ok : (sref sr).reserved = false) (lines : length ≠ 0)
    (active : ((s.spindle p).router.decl rid.toNat).isSome = true)
    (at_ : (s.spindle p).extent (sref sr) length.toNat = .ok l) (e : EccResult) :
    exec (.rsend p rid sr length e) s = .next (((s.issued p).enqueue p (.rsend
      { rid := rid.toNat, line := l, length := length.toNat, handle := s.refHandle p (sref sr), ecc := e })).advance
        p).flow := by
  have there : ((s.spindle p).router.decl rid.toNat).isNone = false := by simpa using active
  show execRsend p rid sr length e s = _
  rw [execRsend, ok, if_neg Bool.false_ne_true, if_neg lines, there, if_neg Bool.false_ne_true]
  refine congrArg Host.Outcome.next ((State.runXfer_eq h _).trans ?_)
  rw [(s.scored_issued p).extent, at_, (s.scored_issued p).refHandle]

theorem exec_rrecv_zero {sr : BitVec 36} (ok : (sref sr).reserved = false) :
    exec (.rrecv p rid sr 0) s = .next ((s.issued p).advance p).flow := by
  show execRrecv p rid sr 0 s = _
  rw [execRrecv, ok]
  exact congrArg Host.Outcome.next (State.runXfer_eq h _)

theorem exec_rrecv {sr : BitVec 36} {length : BitVec 18} {l : Nat} (ok : (sref sr).reserved = false) (lines : length ≠ 0)
    (at_ : (s.spindle p).extent (sref sr) length.toNat = .ok l) :
    exec (.rrecv p rid sr length) s = .next (((s.issued p).enqueue p (.rrecv
      { rid := rid.toNat, line := l, length := length.toNat, handle := s.refHandle p (sref sr) })).advance p).flow := by
  show execRrecv p rid sr length s = _
  rw [execRrecv, ok, if_neg Bool.false_ne_true]
  refine congrArg Host.Outcome.next ((State.runXfer_eq h _).trans ?_)
  rw [if_neg lines, (s.scored_issued p).extent, at_, (s.scored_issued p).refHandle]

end Issue

/-- RDECL waits at issue while its RID or sixteen are active (R157). -/
theorem exec_rdecl_waits {s : State} {p : Site} {rid : W16} {inputs : BitVec 5} {out : BitVec 3} {length : BitVec 18}
    (twin : Bool) (ok : rdeclBad p out = none) (lines : length ≠ 0) (listed : inputs ≠ 0)
    (may : (s.spindle p).mayDeclare rid.toNat = false) : exec (.rdecl p rid inputs out twin length) s = .next s := by
  show execRdecl p rid inputs out twin length s = _
  rw [execRdecl, ok]
  dsimp only
  rw [if_neg (not_or.mpr ⟨lines, listed⟩), may]
  rfl

/-- RSEND waits at issue until its RID is active (R160). -/
theorem exec_rsend_waits {s : State} {p : Site} {rid : W16} {sr : BitVec 36} {length : BitVec 18}
    (ok : (sref sr).reserved = false) (lines : length ≠ 0) (inactive : (s.spindle p).router.decl rid.toNat = none)
    (e : EccResult) : exec (.rsend p rid sr length e) s = .next s := by
  show execRsend p rid sr length e s = _
  rw [execRsend, ok, if_neg Bool.false_ne_true, if_neg lines, inactive]
  rfl

/-! ## The engine's queue -/

@[simp] theorem siteRow_row (p : Site) : siteRow p.row = p := by
  obtain ⟨x, y⟩ := p
  have hx : (128 * y.val + x.val) % 128 = x.val := by omega
  have hy : (128 * y.val + x.val) / 128 % 72 = y.val := by omega
  unfold siteRow Site.row
  simp only [hx, hy]

/-- A flit of a channel enters a router and is counted, and the head of the engine's queue has one less. -/
def State.injected (s : State) (p : Site) (r : Router) (o : Xfer) (vc : Nat) : State :=
  ((s.setRouterAt p.row r).setHead p.row o).bump Obj.fabricFlits vc 1

section Head

variable {s : State} {p : Site} {o : Xfer} {rest : List Xfer} (h : (s.spindle p).xq = o :: rest)
include h

theorem State.setHead_eq (o' : Xfer) : s.setHead p.row o' = s.setSpindle p { s.spindle p with xq := o' :: rest } :=
  (congrArg (fun q => s.setSpindle p { s.spindle p with xq := o' :: q.drop 1 }) h :)

theorem State.popXfer_eq : s.popXfer p.row = s.setSpindle p { s.spindle p with xq := rest } :=
  (congrArg (fun q => s.setSpindle p { s.spindle p with xq := q.drop 1 }) h :)

/-- The router of a site and the head of its engine's queue replaced. -/
theorem State.setRouterAt_setHead (r : Router) (o' : Xfer) :
    (s.setRouterAt p.row r).setHead p.row o' = s.setSpindle p { s.spindle p with router := r, xq := o' :: rest } := by
  have at_ : (s.setRouterAt p.row r).spindle p = { s.spindle p with router := r } := State.spindle_setSpindle ..
  rw [State.setHead_eq (o := o) (rest := rest) (by rw [at_]; exact h), at_]
  exact State.setSpindle_twice ..

/-- The router of a site replaced, and its engine's instruction done. -/
theorem State.setRouterAt_popXfer (r : Router) :
    (s.setRouterAt p.row r).popXfer p.row = s.setSpindle p { s.spindle p with router := r, xq := rest } := by
  have at_ : (s.setRouterAt p.row r).spindle p = { s.spindle p with router := r } := State.spindle_setSpindle ..
  rw [State.popXfer_eq (o := o) (rest := rest) (by rw [at_]; exact h), at_]
  exact State.setSpindle_twice ..

theorem State.injected_eq (r : Router) (o' : Xfer) (vc : Nat) :
    s.injected p r o' vc = (s.setSpindle p { s.spindle p with router := r, xq := o' :: rest }).bump Obj.fabricFlits vc 1 :=
  congrArg (fun t : State => t.bump Obj.fabricFlits vc 1) (State.setRouterAt_setHead h r o')

theorem State.spindle_injected (r : Router) (o' : Xfer) (vc : Nat) :
    (s.injected p r o' vc).spindle p = { s.spindle p with router := r, xq := o' :: rest } := by
  rw [State.injected_eq h, State.spindle_bump, State.spindle_setSpindle]

theorem State.obj_injected (r : Router) (o' : Xfer) (vc : Nat) :
    (s.injected p r o' vc).obj Obj.fabricFlits vc = satAdd 64 (s.obj Obj.fabricFlits vc) 1 := by
  rw [State.injected_eq h, State.obj_bump_self]
  rfl

theorem State.onlySpindle_injected (r : Router) (o' : Xfer) {vc : Nat} (hvc : vc < 4) :
    s.OnlySpindle p (oneRow Obj.fabricFlits vc) (s.injected p r o' vc) := by
  rw [State.injected_eq h]
  exact State.OnlySpindle.setSpindle.trans (State.OnlyRows.bump (by omega) ⟨rfl, rfl⟩).atSpindle

end Head

/-- A read of the transfer engine in which nothing is wrong finds the lines as they stand (R75, R89). -/
theorem State.readXfer_of_ordered {s : State} {p : Site} {direct : Bool} {line n : Nat}
    (ordered : direct = true → (s.spindle p).storedIn line n = []) :
    s.readXfer p direct [] line n = s.readLines p line n := by
  have undef : ([] ++ if direct then (s.spindle p).storedIn line n else []) = ([] : List Nat) := by
    cases direct with
    | false => rfl
    | true => exact ordered rfl
  unfold State.readXfer
  rw [undef, State.readAs_nil]

theorem State.eccRead_of_errorless {s : State} {p : Site} {line n : Nat} (h : (s.spindle p).store.errors line n = .clean) :
    s.eccRead p .clean line n = s :=
  State.eccRead_of_clean (direct := false) ⟨h, fun direct => absurd direct Bool.false_ne_true⟩

/-! ## RDECL and RSEND at the head of the queue -/

section Declare

variable {s : State} {p : Site} {d : Decl} {rest : List Xfer} (free : s.engineFree p.row = true)
  (h : (s.spindle p).xq = .rdecl d :: rest)
include free h

theorem State.engineStep_rdecl (room : (s.spindle p).router.decls.length < 16)
    (inactive : (s.spindle p).router.decl d.rid = none) :
    s.engineStep p.row = some (s.setSpindle p { s.spindle p with router := (s.spindle p).router.declare d, xq := rest }) := by
  have head : (s.at p.row).xq.head? = some (.rdecl d) := congrArg List.head? h
  have enters : ¬(16 ≤ (s.spindle p).router.decls.length ∨ ((s.spindle p).router.decl d.rid).isSome = true) := by
    simp [room, inactive]
  rw [← State.setRouterAt_popXfer h]
  unfold State.engineStep
  dsimp only
  rw [free, head]
  exact if_neg enters

theorem State.engineStep_rdecl_waits
    (full : 16 ≤ (s.spindle p).router.decls.length ∨ ((s.spindle p).router.decl d.rid).isSome = true) :
    s.engineStep p.row = none := by
  have head : (s.at p.row).xq.head? = some (.rdecl d) := congrArg List.head? h
  unfold State.engineStep
  dsimp only
  rw [free, head]
  exact if_pos full

end Declare

section Contribute

variable {s : State} {p : Site} {o : RsendOp} {rest : List Xfer} (free : s.engineFree p.row = true)
  (h : (s.spindle p).xq = .rsend o :: rest)
include free h

theorem State.engineStep_rsend_starts (new : o.started = false) : s.engineStep p.row = some (s.startRsend p o) := by
  have head : (s.at p.row).xq.head? = some (.rsend o) := congrArg List.head? h
  unfold State.engineStep
  dsimp only
  rw [free, head]
  dsimp only
  rw [new, siteRow_row]
  rfl

theorem State.engineStep_rsend_feeds {f : Flit} {fs : List Flit} (begun : o.started = true) (left : o.left = f :: fs)
    (takes : (s.spindle p).router.absorbs o.rid 4 = true) :
    s.engineStep p.row =
      some (s.injected p ((s.spindle p).router.feed o.rid 4 [f]) (.rsend { o with left := fs }) 1) := by
  have head : (s.at p.row).xq.head? = some (.rsend o) := congrArg List.head? h
  unfold State.engineStep
  dsimp only
  rw [free, head]
  dsimp only
  rw [begun, left]
  exact if_pos takes

theorem State.engineStep_rsend_waits {f : Flit} {fs : List Flit} (begun : o.started = true) (left : o.left = f :: fs)
    (full : (s.spindle p).router.absorbs o.rid 4 = false) : s.engineStep p.row = none := by
  have head : (s.at p.row).xq.head? = some (.rsend o) := congrArg List.head? h
  unfold State.engineStep
  dsimp only
  rw [free, head]
  dsimp only
  rw [begun, left]
  exact if_neg (Bool.eq_false_iff.mp full)

end Contribute

/-- An RSEND begun holds the flits of its lines, which are read without an error. -/
theorem State.xq_startRsend {s : State} {p : Site} {o : RsendOp} {rest : List Xfer} (h : (s.spindle p).xq = .rsend o :: rest)
    (ecc : o.ecc = .clean) (undef : o.undef = []) (clean : (s.spindle p).store.errors o.line o.length = .clean)
    (ordered : o.handle = none → (s.spindle p).storedIn o.line o.length = []) :
    ((s.startRsend p o).spindle p).xq =
      .rsend { o with started := true, left := toFlits (s.readLines p o.line o.length) } :: rest := by
  unfold State.startRsend
  rw [ecc, undef, State.eccRead_of_errorless clean]
  dsimp only
  rw [State.readXfer_of_ordered (by simpa using ordered),
    State.setHead_eq (o := .rsend o) (rest := rest) (by rw [State.spindle_sawPoison]; exact h), State.spindle_setSpindle]

/-! ## The statement -/

/-- Settles O21: one lemma for each way an instruction meets the queue, and for each piece of work of the engine at its head. -/
theorem reductionsAreDeclaredFedAndAwaited : Obligations.ReductionsAreDeclaredFedAndAwaited := by
  unfold Obligations.ReductionsAreDeclaredFedAndAwaited
  refine ⟨fun p s rid h => ⟨fun inputs out twin length ok => ⟨fun zero => ?_, fun lines listed may => ?_,
      exec_rdecl_waits twin ok⟩, fun sr length ok lines => ⟨fun e l active at_ => ?_,
      fun e inactive => exec_rsend_waits ok lines inactive e, fun l at_ => ?_⟩, fun sr ok => ⟨fun e => ?_, ?_⟩⟩,
    fun p s rest free => ⟨fun d h => ⟨fun room inactive => ?_, State.engineStep_rdecl_waits free h⟩, fun o h =>
      ⟨fun new ecc undef clean ordered => ?_, fun f fs begun left => ⟨fun takes => ?_,
        State.engineStep_rsend_waits free h begun left⟩⟩⟩⟩
  · exact ⟨_, exec_rdecl_zero h twin ok zero, s.queued_none p⟩
  · exact ⟨_, exec_rdecl h twin ok lines listed may, (s.scored_issued p).queued (.refl ..) _⟩
  · exact ⟨_, exec_rsend h ok lines active at_ e, (s.scored_issued p).queued (.refl ..) _⟩
  · exact ⟨_, exec_rrecv h ok lines at_, (s.scored_issued p).queued (.refl ..) _⟩
  · exact ⟨_, exec_rsend_zero h ok e, s.queued_none p⟩
  · exact ⟨_, exec_rrecv_zero h ok, s.queued_none p⟩
  · exact ⟨_, State.engineStep_rdecl free h room inactive, .setSpindle, State.spindle_setSpindle ..⟩
  · exact ⟨_, State.engineStep_rsend_starts free h new, State.xq_startRsend h ecc undef clean ordered⟩
  · exact ⟨_, State.engineStep_rsend_feeds free h begun left takes, State.spindle_injected h .., State.obj_injected h ..,
      State.onlySpindle_injected h _ _ (by decide)⟩

end Sys2Proof.Machine
end

section
/-! SUPPORT. How a walk along the outputs of a shape's tree reaches each destination once. -/

namespace Sys2Proof.Machine

/-! ## The tree of a shape -/

/-- What a walk takes from the neighbours of a coordinate that lead outwards from a source along one axis. -/
def branch (lo hi src : Nat) (w : Nat → List Nat) (c : Nat) : List Nat :=
  (if c ≤ src ∧ lo < c then w (c - 1) else []) ++ (if src ≤ c ∧ c < hi then w (c + 1) else [])

/-- A walk along one axis that delivers `at_ n c` at a coordinate c reached with n hops left. -/
def spread (lo hi src : Nat) (at_ : Nat → Nat → List Nat) : Nat → Nat → List Nat
  | 0, _ => []
  | n + 1, c => branch lo hi src (spread lo hi src at_ n) c ++ at_ n c

theorem branch_congr {lo hi src c : Nat} {v w : Nat → List Nat} (less : c ≤ src → lo < c → v (c - 1) = w (c - 1))
    (more : src ≤ c → v (c + 1) = w (c + 1)) : branch lo hi src v c = branch lo hi src w c := by
  unfold branch
  congr 1
  · split
    case isTrue out => rw [less out.1 out.2]
    case isFalse => rfl
  · split
    case isTrue out => rw [more out.1]
    case isFalse => rfl

/-- A list for each coordinate, none for those off the destinations of an axis. -/
def Within (lo hi : Nat) (q : Nat → List Nat) : Prop := ∀ c, (c < lo ∨ hi < c) → q c = []

theorem flatMap_range'_off {lo hi a n : Nat} {q : Nat → List Nat} (h : Within lo hi q) (off : a + n ≤ lo ∨ hi < a) :
    (List.range' a n).flatMap q = [] := by
  rw [List.flatMap_eq_nil_iff]
  intro c hc
  have := List.mem_range'_1.mp hc
  exact h c (by omega)

section Spread

variable {lo hi src k : Nat} {at_ : Nat → Nat → List Nat} {q : Nat → List Nat} (within : Within lo hi q)
  (enough : ∀ n c, k ≤ n → (at_ n c).Perm (q c))
include within enough

/-- Below its source, a walk delivers at each coordinate down to the first. -/
theorem spread_below : ∀ n c, c < src → k + c + 1 ≤ n →
    (spread lo hi src at_ n c).Perm ((List.range' 0 (c + 1)).flatMap q)
  | n + 1, c, below, fuel => by
    have less : (if c ≤ src ∧ lo < c then spread lo hi src at_ n (c - 1) else []).Perm ((List.range' 0 c).flatMap q) := by
      split
      case isTrue out =>
        have := spread_below n (c - 1) (by omega) (by omega)
        rwa [Nat.sub_add_cancel (by omega)] at this
      case isFalse => rw [flatMap_range'_off within (by omega)]
    have more : (if src ≤ c ∧ c < hi then spread lo hi src at_ n (c + 1) else []) = [] := if_neg (by omega)
    rw [spread, branch, more, List.append_nil, List.range'_1_concat, List.flatMap_append, List.flatMap_singleton, Nat.zero_add]
    exact less.append (enough n c (by omega))

/-- Above its source, a walk delivers at each coordinate up to the last. -/
theorem spread_above {b : Nat} (last : hi < b) : ∀ n c, src < c → c < b → k + b ≤ n + c →
    (spread lo hi src at_ n c).Perm ((List.range' c (b - c)).flatMap q)
  | 0, c, _, inside, fuel => by omega
  | n + 1, c, above, inside, fuel => by
    have less : (if c ≤ src ∧ lo < c then spread lo hi src at_ n (c - 1) else []) = [] := if_neg (by omega)
    have more : (if src ≤ c ∧ c < hi then spread lo hi src at_ n (c + 1) else []).Perm
        ((List.range' (c + 1) (b - (c + 1))).flatMap q) := by
      split
      case isTrue out => exact spread_above last n (c + 1) (by omega) (by omega) (by omega)
      case isFalse => rw [flatMap_range'_off within (by omega)]
    have first : b - c = b - (c + 1) + 1 := by omega
    rw [spread, branch, less, List.nil_append, first, List.range'_succ, List.flatMap_cons]
    exact (more.append (enough n c (by omega))).trans List.perm_append_comm

/-- A walk along one axis delivers once at each coordinate of its destinations. -/
theorem spread_perm {b : Nat} (last : hi < b) (source : src < b) {n : Nat} (fuel : k + b ≤ n) :
    (spread lo hi src at_ n src).Perm ((List.range b).flatMap q) := by
  obtain ⟨n, rfl⟩ := Nat.exists_eq_add_of_lt (show 0 < n by omega)
  rw [Nat.zero_add] at fuel ⊢
  have less : (if src ≤ src ∧ lo < src then spread lo hi src at_ n (src - 1) else []).Perm
      ((List.range' 0 src).flatMap q) := by
    split
    case isTrue out =>
      have := spread_below (src := src) within enough n (src - 1) (by omega) (by omega)
      rwa [Nat.sub_add_cancel (by omega)] at this
    case isFalse => rw [flatMap_range'_off within (by omega)]
  have more : (if src ≤ src ∧ src < hi then spread lo hi src at_ n (src + 1) else []).Perm
      ((List.range' (src + 1) (b - (src + 1))).flatMap q) := by
    split
    case isTrue out => exact spread_above within enough last n (src + 1) (by omega) (by omega) (by omega)
    case isFalse => rw [flatMap_range'_off within (by omega)]
  have whole : List.range b = List.range' 0 src ++ (src :: List.range' (src + 1) (b - (src + 1))) := by
    rw [← List.range'_succ, List.range_eq_range', show b - (src + 1) + 1 = b - src by omega]
    have := List.range'_append (s := 0) (m := src) (n := b - src) (step := 1)
    rw [Nat.one_mul, Nat.zero_add, Nat.add_sub_cancel' source.le] at this
    exact this.symm
  rw [spread, branch, whole, List.flatMap_append, List.flatMap_cons, List.append_assoc]
  exact less.append ((more.append (enough n src (by omega))).trans List.perm_append_comm)

end Spread

theorem flatMap_swap {f : Nat → Nat → List Nat} (l m : List Nat) :
    (l.flatMap (fun a => m.flatMap (f a))).Perm (m.flatMap (fun b => l.flatMap (fun a => f a b))) := by
  induction l with
  | nil => simp
  | cons a l ih =>
    simp only [List.flatMap_cons]
    exact (ih.append_left _).trans (List.flatMap_append_perm ..)

section Tree

variable {ulo uhi usrc vlo vhi vsrc : Nat} {walk : Nat → Nat → Nat → List Nat} {at_ : Nat → Nat → List Nat}
  (stop : ∀ u v, walk 0 u v = [])
  (step : ∀ n u v, walk (n + 1) u v =
    (if v = vsrc then branch ulo uhi usrc (fun c => walk n c v) u else []) ++
      (if ulo ≤ u ∧ u ≤ uhi then branch vlo vhi vsrc (fun c => walk n u c) v else []) ++ at_ u v)
include stop step

/-- Off the source's line, a tree's walk goes along the second axis alone. -/
theorem walk_off_line {u : Nat} (hu : ulo ≤ u ∧ u ≤ uhi) : ∀ n v, v ≠ vsrc →
    walk n u v = spread vlo vhi vsrc (fun _ => at_ u) n v
  | 0, v, _ => stop u v
  | n + 1, v, off => by
    rw [step, if_neg off, if_pos hu, List.nil_append, spread]
    congr 1
    exact branch_congr (fun _ _ => walk_off_line hu n (v - 1) (by omega)) (fun _ => walk_off_line hu n (v + 1) (by omega))

section Deliver

variable (offU : ∀ v, Within ulo uhi (fun u => at_ u v))
include offU

/-- On the source's line, a tree's walk goes along the first axis, and at each destination's place along the second. -/
theorem walk_on_line : ∀ n u, walk n u vsrc = spread ulo uhi usrc
    (fun n u => if ulo ≤ u ∧ u ≤ uhi then spread vlo vhi vsrc (fun _ => at_ u) (n + 1) vsrc else []) n u
  | 0, u => stop u vsrc
  | n + 1, u => by
    have along : branch ulo uhi usrc (fun c => walk n c vsrc) u = branch ulo uhi usrc (spread ulo uhi usrc
        (fun n u => if ulo ≤ u ∧ u ≤ uhi then spread vlo vhi vsrc (fun _ => at_ u) (n + 1) vsrc else []) n) u :=
      branch_congr (fun _ _ => walk_on_line n (u - 1)) (fun _ => walk_on_line n (u + 1))
    rw [step, if_pos rfl, spread, along, List.append_assoc]
    congr 1
    split
    case isTrue inside =>
      rw [spread]
      congr 1
      exact branch_congr (fun _ _ => walk_off_line stop step inside n _ (by omega))
        (fun _ => walk_off_line stop step inside n _ (by omega))
    case isFalse outside => exact offU vsrc u (by omega)

/-- A walk along both axes delivers once at each place of its destinations. -/
theorem walk_perm (offV : ∀ u, Within vlo vhi (at_ u)) {ub vb n : Nat} (hu : uhi < ub ∧ usrc < ub)
    (hv : vhi < vb ∧ vsrc < vb) (fuel : ub + vb ≤ n) :
    (walk n usrc vsrc).Perm ((List.range ub).flatMap (fun u => (List.range vb).flatMap (at_ u))) := by
  have offLine : Within ulo uhi (fun u => (List.range vb).flatMap (at_ u)) := by
    intro u outside
    rw [List.flatMap_eq_nil_iff]
    exact fun v _ => offU v u outside
  rw [walk_on_line stop step offU]
  refine spread_perm (k := vb) offLine (fun m u reach => ?_) hu.1 hu.2 (by omega)
  split
  case isTrue inside =>
    exact spread_perm (k := 0) (offV u) (fun _ _ _ => List.Perm.refl _) hv.1 hv.2 (by omega)
  case isFalse outside =>
    have undelivered : (List.range vb).flatMap (at_ u) = [] := offLine u (by omega)
    rw [undelivered]

end Deliver

end Tree

/-- The row of a site in a shape's destinations. -/
def Shape.here (h : Shape) (x y : Nat) : List Nat :=
  if h.x0 ≤ x ∧ x ≤ h.x1 ∧ h.y0 ≤ y ∧ y ≤ h.y1 then [128 * y + x] else []

/-- Of a range, the coordinates of the destinations count. -/
theorem flatMap_range_within {lo hi b : Nat} {q : Nat → List Nat} (h : Within lo hi q) (order : lo ≤ hi) (last : hi < b) :
    (List.range b).flatMap q = (List.range (hi + 1 - lo)).flatMap (fun i => q (lo + i)) := by
  have cut : List.range b = List.range' 0 lo ++ (List.range' lo (hi + 1 - lo) ++ List.range' (hi + 1) (b - (hi + 1))) := by
    have upper := List.range'_append (s := lo) (m := hi + 1 - lo) (n := b - (hi + 1)) (step := 1)
    have whole := List.range'_append (s := 0) (m := lo) (n := b - lo) (step := 1)
    rw [Nat.one_mul, show lo + (hi + 1 - lo) = hi + 1 by omega, show hi + 1 - lo + (b - (hi + 1)) = b - lo by omega] at upper
    rw [Nat.one_mul, Nat.zero_add, show lo + (b - lo) = b by omega] at whole
    rw [upper, whole, List.range_eq_range']
  rw [cut, List.flatMap_append, List.flatMap_append, flatMap_range'_off (a := 0) h (by omega),
    flatMap_range'_off (a := hi + 1) h (by omega), List.nil_append, List.append_nil, List.range'_eq_map_range, List.flatMap_map]

/-- The destinations of a shape, coordinate by coordinate. -/
theorem Shape.dests_eq {h : Shape} (hx : h.x0 ≤ h.x1 ∧ h.x1 < 128) (hy : h.y0 ≤ h.y1 ∧ h.y1 < 72) :
    h.dests = (List.range 72).flatMap (fun y => (List.range 128).flatMap (fun x => h.here x y)) := by
  have rowless (y : Nat) : Within h.x0 h.x1 (fun x => h.here x y) := fun x off => if_neg (by omega)
  have rowsOff : Within h.y0 h.y1 (fun y => (List.range 128).flatMap (fun x => h.here x y)) := by
    intro y off
    rw [List.flatMap_eq_nil_iff]
    exact fun x _ => if_neg (by omega)
  rw [flatMap_range_within rowsOff hy.1 hy.2]
  refine List.flatMap_congr fun j hj => ?_
  rw [flatMap_range_within (rowless _) hx.1 hx.2, ← List.flatMap_pure_eq_map]
  refine List.flatMap_congr fun i hi => ?_
  rw [List.mem_range] at hi hj
  exact (if_pos (by omega)).symm

/-- Where a flit goes on from a site by an output of its tree. -/
def Shape.hop (h : Shape) (n x y : Nat) : Nat → List Nat
  | 0 => h.walk n (x - 1) y
  | 1 => h.walk n x (y - 1)
  | 2 => h.walk n (x + 1) y
  | 3 => h.walk n x (y + 1)
  | _ => [128 * y + x]

theorem Shape.walk_succ (h : Shape) (n x y : Nat) : h.walk (n + 1) x y = (h.outs x y).flatMap (h.hop n x y) := rfl

theorem flatMap_outward (lo hi src c less more : Nat) (f : Nat → List Nat) : (outward lo hi src c less more).flatMap f =
    (if c ≤ src ∧ lo < c then f less else []) ++ (if src ≤ c ∧ c < hi then f more else []) := by
  unfold outward
  rw [List.flatMap_append]
  congr 1 <;> split <;> simp

/-- A flit goes west and east on along a row. -/
theorem Shape.hop_rows (h : Shape) (n x y : Nat) :
    (outward h.x0 h.x1 h.sx x 0 2).flatMap (h.hop n x y) = branch h.x0 h.x1 h.sx (fun c => h.walk n c y) x :=
  flatMap_outward ..

/-- A flit goes north and south on along a column. -/
theorem Shape.hop_cols (h : Shape) (n x y : Nat) :
    (outward h.y0 h.y1 h.sy y 1 3).flatMap (h.hop n x y) = branch h.y0 h.y1 h.sy (fun c => h.walk n x c) y :=
  flatMap_outward ..

theorem Shape.hop_here (h : Shape) (n x y : Nat) :
    (if decide (h.x0 ≤ x ∧ x ≤ h.x1) && decide (h.y0 ≤ y ∧ y ≤ h.y1) then [4] else []).flatMap (h.hop n x y) =
      h.here x y := by
  unfold Shape.here
  by_cases inside : h.x0 ≤ x ∧ x ≤ h.x1 ∧ h.y0 ≤ y ∧ y ≤ h.y1
  · rw [if_pos (by simpa [and_assoc] using inside), if_pos inside]
    rfl
  · rw [if_neg (by simpa [and_assoc] using inside), if_neg inside]
    rfl

theorem flatMap_ite (c : Prop) [Decidable c] (l : List Nat) (f : Nat → List Nat) :
    (if c then l else []).flatMap f = if c then l.flatMap f else [] := by
  split <;> rfl

/-- Under XY order the source's row is walked, and at each destination column that column. -/
theorem Shape.walk_xy {h : Shape} (order : h.yx = false) (n x y : Nat) : h.walk (n + 1) x y =
    (if y = h.sy then branch h.x0 h.x1 h.sx (fun c => h.walk n c y) x else []) ++
      (if h.x0 ≤ x ∧ x ≤ h.x1 then branch h.y0 h.y1 h.sy (fun c => h.walk n x c) y else []) ++ h.here x y := by
  rw [Shape.walk_succ, Shape.outs, order]
  simp only [Bool.false_eq_true, ↓reduceIte, List.flatMap_append, flatMap_ite, decide_eq_true_eq, Shape.hop_rows,
    Shape.hop_cols, ← Shape.hop_here h n x y]

/-- Under YX order the source's column is walked, and at each destination row that row. -/
theorem Shape.walk_yx {h : Shape} (order : h.yx = true) (n x y : Nat) : h.walk (n + 1) x y =
    (if x = h.sx then branch h.y0 h.y1 h.sy (fun c => h.walk n x c) y else []) ++
      (if h.y0 ≤ y ∧ y ≤ h.y1 then branch h.x0 h.x1 h.sx (fun c => h.walk n c y) x else []) ++ h.here x y := by
  rw [Shape.walk_succ, Shape.outs, order]
  simp only [↓reduceIte, List.flatMap_append, flatMap_ite, decide_eq_true_eq, Shape.hop_rows,
    Shape.hop_cols, ← Shape.hop_here h n x y]

/-- The outputs of the routers lead from the source to each destination once (R145, R156). -/
theorem Shape.walk_dests {h : Shape} (hx : h.x0 ≤ h.x1 ∧ h.x1 < 128) (hy : h.y0 ≤ h.y1 ∧ h.y1 < 72)
    (source : h.sx < 128 ∧ h.sy < 72) : (h.walk 200 h.sx h.sy).Perm h.dests := by
  have offX (y : Nat) : Within h.x0 h.x1 (fun x => h.here x y) := fun x off => if_neg (by omega)
  have offY (x : Nat) : Within h.y0 h.y1 (fun y => h.here x y) := fun y off => if_neg (by omega)
  rw [Shape.dests_eq hx hy]
  cases order : h.yx with
  | false =>
    exact (walk_perm (walk := h.walk) (fun _ _ => rfl) (Shape.walk_xy order) offX offY ⟨hx.2, source.1⟩ ⟨hy.2, source.2⟩
      (Nat.le_refl _)).trans (flatMap_swap ..)
  | true =>
    exact walk_perm (walk := fun n y x => h.walk n x y) (at_ := fun y x => h.here x y) (fun _ _ => rfl)
      (fun n y x => Shape.walk_yx order n x y) offY offX ⟨hy.2, source.2⟩ ⟨hx.2, source.1⟩ (by decide)

end Sys2Proof.Machine
end

section
/-! SUPPORT. What SEND and SENDH put in the transfer engine's queue, how their flits are formed, enter the mesh and move on, and the statement
about them (O19). -/

namespace Sys2Proof.Machine

/-! ## Instructions of the transfer engine -/

section Issue

variable {s : State} {p : Site} {vc : BitVec 2} {shape : BitVec 12} {length : BitVec 18}

section Region

variable {sr : BitVec 36} (queue : BitVec 3) (ok : s.sendBad p vc shape.toNat (sref sr) true = none) (h : s.queuesOn p [])
  (e : EccResult)
include ok h

theorem exec_send_zero (zero : length = 0) :
    exec (.send p vc shape sr length queue e) s = .next ((s.issued p).advance p).flow := by
  show execSend p vc shape sr length queue e s = _
  rw [execSend, ok]
  refine congrArg Host.Outcome.next ((State.runXfer_eq h _).trans ?_)
  rw [if_pos zero]

theorem exec_send {l : Nat} (lines : length ≠ 0) (at_ : (s.spindle p).extent (sref sr) length.toNat = .ok l) :
    exec (.send p vc shape sr length queue e) s = .next (((s.issued p).enqueue p (.send
      { vc := vc.toNat, shape := shape.toNat, line := l, length := length.toNat, ecc := e
        handle := (s.refHandle p (sref sr)).map (fun h => (queue.toNat, h)) })).advance p).flow := by
  show execSend p vc shape sr length queue e s = _
  rw [execSend, ok]
  refine congrArg Host.Outcome.next ((State.runXfer_eq h _).trans ?_)
  rw [if_neg lines, (s.scored_issued p).extent, at_, (s.scored_issued p).refHandle]

end Region

theorem exec_sendh {hank : BitVec 5} {w : Nat} {mx : Bool} (width : hankWidth length.toNat = some (w, mx))
    (ok : s.sendhBad p vc shape.toNat hank length.toNat true = none) (h : s.queuesOn p [opd hank]) :
    exec (.sendh p vc shape hank length) s = .next ((((s.issued p).readsOpd p (opd hank)).enqueue p (.send
      { vc := vc.toNat, shape := shape.toNat, line := 0, length := length.toNat
        hank := some ((s.view p (opd hank)).lines w mx) })).advance p).flow := by
  have view : ((s.issued p).readsOpd p (opd hank)).view p (opd hank) = s.view p (opd hank) :=
    ((s.scored_issued p).trans_body .readsOpd (State.calm_readsOpd ..)).view _
  show execSendh p vc shape hank length s = _
  rw [execSendh, ok]
  refine congrArg Host.Outcome.next ((State.runXfer_eq h _).trans ?_)
  rw [width]
  dsimp only
  rw [view]

end Issue

/-! ## Flits formed -/

theorem toFlits_length : ∀ ls : List Line, (toFlits ls).length = (ls.length + 1) / 2
  | [] => rfl
  | [_] => by simp [toFlits]
  | a :: b :: ls => by
    rw [toFlits, List.length_cons, toFlits_length ls, List.length_cons, List.length_cons]
    omega

/-- A flit holds two lines, the last perhaps one (R154). -/
theorem toFlits_getElem? : ∀ (ls : List Line) (i : Nat) (f : Flit), (toFlits ls)[i]? = some f →
    f.words = ((ls.drop (2 * i)).take 2).flatMap Line.words ∧ f.poison = ((ls.drop (2 * i)).take 2).any (·.poison)
  | [a], 0, f, h => by
    obtain rfl : ({ words := a.words, poison := a.poison } : Flit) = f := by simpa [toFlits] using h
    simp
  | a :: b :: ls, 0, f, h => by
    obtain rfl : ({ words := a.words ++ b.words, poison := a.poison || b.poison } : Flit) = f := by simpa [toFlits] using h
    simp
  | a :: b :: ls, i + 1, f, h => toFlits_getElem? ls i f (by simpa [toFlits] using h)

theorem words_toFlits : ∀ ls : List Line, (toFlits ls).flatMap Flit.words = ls.flatMap Line.words
  | [] => rfl
  | [a] => rfl
  | a :: b :: ls => by
    rw [toFlits, List.flatMap_cons, words_toFlits ls, List.flatMap_cons, List.flatMap_cons, List.append_assoc]

theorem State.netFlits_length (s : State) (vc kind tag shape id : Nat) (port : Bool) (fs : List Flit) :
    (s.netFlits vc kind tag shape id port fs).length = fs.length := List.length_mapIdx

theorem State.netFlits_words (s : State) (vc kind tag shape id : Nat) (port : Bool) (fs : List Flit) :
    (s.netFlits vc kind tag shape id port fs).flatMap NetFlit.words = fs.flatMap Flit.words := by
  have words : (s.netFlits vc kind tag shape id port fs).map NetFlit.words = fs.map Flit.words := by
    apply List.ext_getElem?
    intro i
    simp [State.netFlits, Function.comp_def]
  rw [List.flatMap_def, words, List.flatMap_def]

/-- The flits of a transmission, each with its place in the message and its first destination (R143, R154). -/
theorem State.netFlits_getElem? {s : State} {vc kind tag shape id : Nat} {port : Bool} {ls : List Line} {i : Nat} {f : NetFlit}
    (h : (s.netFlits vc kind tag shape id port (toFlits ls))[i]? = some f) :
    f.id = id ∧ f.shape = shape ∧ f.sb.vc = vc ∧ f.sb.tag = tag ∧ f.sb.dx = (s.shape shape).x0 ∧
      f.sb.dy = (s.shape shape).y0 ∧ f.sb.seq = i % 4096 ∧ f.sb.first = decide (i = 0) ∧
      f.sb.last = decide (i + 1 = (toFlits ls).length) ∧ f.words = ((ls.drop (2 * i)).take 2).flatMap Line.words ∧
      f.sb.poison = ((ls.drop (2 * i)).take 2).any (·.poison) := by
  unfold State.netFlits at h
  rw [List.getElem?_mapIdx, Option.map_eq_some_iff] at h
  obtain ⟨g, hg, rfl⟩ := h
  obtain ⟨words, poison⟩ := toFlits_getElem? ls i g hg
  exact ⟨rfl, rfl, rfl, rfl, rfl, rfl, rfl, rfl, rfl, words, poison⟩

/-! ## A SEND begun -/

theorem State.sawPoison_prog (s : State) (p : Site) (b : Bool) : (s.sawPoison p b).prog = s.prog := by
  unfold State.sawPoison
  split <;> rfl

theorem State.sawPoison_fabric (s : State) (p : Site) (b : Bool) : (s.sawPoison p b).fabric = s.fabric := by
  unfold State.sawPoison
  split <;> rfl

/-- The state in which the flits of these lines are formed. -/
def State.sawLines (s : State) (p : Site) (ls : List Line) : State := (s.drew 1).sawPoison p (ls.any (·.poison))

theorem State.shape_sawLines (s : State) (p : Site) (ls : List Line) (n : Nat) : (s.sawLines p ls).shape n = s.shape n := by
  unfold State.shape State.sawLines
  rw [State.sawPoison_prog, State.drew_prog]

theorem State.fabric_sawLines (s : State) (p : Site) (ls : List Line) : (s.sawLines p ls).fabric = s.fabric := by
  unfold State.sawLines
  rw [State.sawPoison_fabric, State.drew_fabric]

theorem State.spindle_sawLines (s : State) (p : Site) (ls : List Line) : (s.sawLines p ls).spindle p = s.spindle p := by
  unfold State.sawLines
  rw [State.spindle_sawPoison, State.spindle_drew]

/-- The flits of a SEND's lines. -/
def State.sendFlits (s : State) (p : Site) (o : SendOp) (ls : List Line) : List NetFlit :=
  (s.sawLines p ls).netFlits o.vc (s.shape o.shape).kind o.shape o.shape s.fabric.nextMsg false (toFlits ls)

/-- A SEND begun with these lines: its transmission entered and numbered, and its flits waiting at the head of the queue. -/
def State.sendBegun (s : State) (p : Site) (o : SendOp) (ls : List Line) : State :=
  ((s.sawLines p ls).begins
    { shape := o.shape, src := p.row, lines := ls.length, due := (s.shape o.shape).dests, handle := o.handle }).setHead
      p.row (.send { o with started := true, left := s.sendFlits p o ls })

theorem State.startSend_hank {s : State} {p : Site} {o : SendOp} {ls : List Line} (hank : o.hank = some ls) :
    s.startSend p o = s.sendBegun p o ls := by
  unfold State.startSend State.sendBegun State.sendFlits
  rw [← State.shape_sawLines s p ls, ← State.fabric_sawLines s p ls]
  simp only [hank]
  rfl

theorem State.startSend_region {s : State} {p : Site} {o : SendOp} (region : o.hank = none) (ecc : o.ecc = .clean)
    (undef : o.undef = []) (clean : (s.spindle p).store.errors o.line o.length = .clean)
    (ordered : o.handle = none → (s.spindle p).storedIn o.line o.length = []) :
    s.startSend p o = s.sendBegun p o (s.readLines p o.line o.length) := by
  have lines := State.readXfer_of_ordered (direct := o.handle.isNone) (by simpa using ordered)
  unfold State.startSend State.sendBegun State.sendFlits
  rw [← State.shape_sawLines s p (s.readLines p o.line o.length), ← State.fabric_sawLines s p (s.readLines p o.line o.length)]
  simp only [region, ecc, undef, State.eccRead_of_errorless clean, lines, Option.isNone_none, ↓reduceIte, Option.getD_none]
  rfl

section Begun

variable {s : State} {p : Site} {o : SendOp} {rest : List Xfer} (h : (s.spindle p).xq = .send o :: rest) (ls : List Line)

include h in
theorem State.xq_sendBegun :
    ((s.sendBegun p o ls).spindle p).xq = .send { o with started := true, left := s.sendFlits p o ls } :: rest := by
  unfold State.sendBegun
  rw [State.setHead_eq (o := .send o) (rest := rest), State.spindle_setSpindle]
  exact (congrArg Spindle.xq (State.spindle_sawLines s p ls)).trans h

theorem State.fabric_sendBegun : (s.sendBegun p o ls).fabric = { s.fabric with
    nextMsg := s.fabric.nextMsg + 1
    sending := tput s.fabric.sending s.fabric.nextMsg
      { shape := o.shape, src := p.row, lines := ls.length, due := (s.shape o.shape).dests, handle := o.handle } } := by
  have same := State.fabric_sawLines s p ls
  show ((s.sawLines p ls).begins _).fabric = _
  unfold State.begins
  dsimp only
  rw [same]

end Begun

/-! ## SEND at the head of the queue -/

section Head

variable {s : State} {p : Site} {o : SendOp} {rest : List Xfer} (free : s.engineFree p.row = true)
  (h : (s.spindle p).xq = .send o :: rest)
include free h

theorem State.engineStep_send_starts (new : o.started = false) : s.engineStep p.row = some (s.startSend p o) := by
  have head : (s.at p.row).xq.head? = some (.send o) := congrArg List.head? h
  unfold State.engineStep
  dsimp only
  rw [free, head]
  dsimp only
  rw [new, siteRow_row]
  rfl

/-- A flit enters the local input of its router where its channel has a credit left (R141, R155). -/
theorem State.engineStep_send_injects {f : NetFlit} {fs : List NetFlit} (begun : o.started = true) (left : o.left = f :: fs)
    (credit : (s.spindle p).router.credit 4 f.sb.vc = true) :
    s.engineStep p.row = some (s.injected p ((s.spindle p).router.take false 4
      { f with todo := s.outsAt f.shape p.row, born := s.fabric.cycles }) (.send { o with left := fs }) f.sb.vc) := by
  have head : (s.at p.row).xq.head? = some (.send o) := congrArg List.head? h
  unfold State.engineStep
  dsimp only
  rw [free, head]
  dsimp only
  rw [begun, left]
  exact if_pos credit

theorem State.engineStep_send_waits {f : NetFlit} {fs : List NetFlit} (begun : o.started = true) (left : o.left = f :: fs)
    (full : (s.spindle p).router.credit 4 f.sb.vc = false) : s.engineStep p.row = none := by
  have head : (s.at p.row).xq.head? = some (.send o) := congrArg List.head? h
  unfold State.engineStep
  dsimp only
  rw [free, head]
  dsimp only
  rw [begun, left]
  exact if_neg (Bool.eq_false_iff.mp full)

end Head

/-! ## Flits that move on -/

/-- A flit taken in stands behind those its input holds. -/
theorem Router.take_bufs (r : Router) (input : Nat) (f : NetFlit) :
    getList (r.take false input f).bufs (4 * input + f.sb.vc) = getList r.bufs (4 * input + f.sb.vc) ++ [f] :=
  getList_putList_self ..

theorem State.at_setRouterAt (s : State) (row : Nat) (r : Router) :
    (s.setRouterAt row r).at row = { s.at row with router := r } := by
  unfold State.setRouterAt State.setAt State.at
  simp

section Give

variable {s : State} {row out n : Nat} {f : NetFlit} (mesh : out < 4) (next : meshNext (siteRow row) out = some n)
include mesh next

theorem State.give_no_credit (full : (s.at n).router.credit (opposite out) f.sb.vc = false) : s.give row out f = none := by
  unfold State.give
  rw [if_neg (by omega), if_neg (by omega), next]
  exact if_neg (Bool.eq_false_iff.mp full)

theorem State.give_credit (running : s.heldAt n = false) (credit : (s.at n).router.credit (opposite out) f.sb.vc = true) :
    s.give row out f = some (s.setRouterAt n ((s.at n).router.take false (opposite out)
      { f with todo := s.outsAt f.shape n })) := by
  unfold State.give
  rw [if_neg (by omega), if_neg (by omega), next]
  dsimp only
  rw [credit, running]
  rfl

end Give

/-- The flit at the head of an input's channel is given to an output; the buffer keeps it while a copy is due (R156). -/
theorem State.moveFrom_given {s t : State} {row out vc input : Nat} {f : NetFlit} {fs : List NetFlit}
    (given : s.give row out f = some t) (head : getList (s.at row).router.bufs (4 * input + vc) = f :: fs)
    (due : f.todo.contains out = true) : ∃ u, s.moveFrom row out vc input = some u ∧
      getList (u.at row).router.bufs (4 * input + vc) =
        if f.todo.erase out = [] then fs else { f with todo := f.todo.erase out } :: fs := by
  unfold State.moveFrom
  rw [head]
  dsimp only
  rw [due, given]
  refine ⟨_, rfl, ?_⟩
  rw [State.at_setRouterAt]
  dsimp only
  rw [getList_putList_self]
  simp only [List.isEmpty_iff]

/-! ## The statement -/

/-- Settles O19: the queue each instruction joins, the flits of a SEND begun, the place each flit takes in a router, and the walk
of a shape's tree. -/
theorem sendsPostOneCopyPerDestination : Obligations.SendsPostOneCopyPerDestination := by
  unfold Obligations.SendsPostOneCopyPerDestination
  refine ⟨fun p s vc shape length => ⟨fun sr queue ok h => ⟨fun e zero => ?_, fun e l lines at_ => ?_⟩,
      fun hank w mx width ok h => ?_⟩,
    fun p s o rest free h => ⟨fun ls new hank => ?_, fun new region ecc undef clean ordered => ?_,
      fun f fs begun left channel => ⟨fun credit => ?_, State.engineStep_send_waits free h begun left⟩⟩,
    fun s row out n f mesh next running => ⟨State.give_no_credit mesh next, fun credit => ?_⟩,
    fun s t row out vc input f fs given head due => State.moveFrom_given given head due,
    fun h x0 x1 y0 y1 sx sy => Shape.walk_dests ⟨x0, x1⟩ ⟨y0, y1⟩ ⟨sx, sy⟩⟩
  · exact ⟨_, exec_send_zero queue ok h e zero, s.queued_none p⟩
  · exact ⟨_, exec_send queue ok h e lines at_, (s.scored_issued p).queued (.refl ..) _⟩
  · exact ⟨_, exec_sendh width ok h, ((s.scored_issued p).trans_body .readsOpd (State.calm_readsOpd ..)).queued .readsOpd _⟩
  · refine ⟨_, s.sendFlits p o ls, State.engineStep_send_starts free h new, ?_⟩
    rw [State.startSend_hank hank]
    refine ⟨State.xq_sendBegun h ls, State.fabric_sendBegun ls, ?_, fun i f hf => ?_⟩
    · rw [State.sendFlits, State.netFlits_length, toFlits_length]
    · have spec := State.netFlits_getElem? hf
      rw [State.shape_sawLines] at spec
      rw [State.sendFlits, State.netFlits_length]
      exact spec
  · refine ⟨_, s.sendFlits p o (s.readLines p o.line o.length), State.engineStep_send_starts free h new, ?_⟩
    rw [State.startSend_region region ecc undef clean ordered]
    refine ⟨State.xq_sendBegun h _, ?_, ?_⟩
    · rw [State.sendFlits, State.netFlits_words, words_toFlits]
    · rw [State.fabric_sendBegun, State.readLines, List.length_map, List.length_range]
  · refine ⟨_, State.engineStep_send_injects free h begun left credit, ?_⟩
    rw [State.spindle_injected h]
    exact ⟨rfl, Router.take_bufs .., State.obj_injected h .., State.onlySpindle_injected h _ _ channel⟩
  · refine ⟨_, State.give_credit mesh next running credit, ?_⟩
    rw [State.at_setRouterAt]
    exact Router.take_bufs ..

end Sys2Proof.Machine
end

section
/-! SUPPORT. How the flits of a reduction are combined, where the combination goes, and the statement about it (O22). -/

namespace Sys2Proof.Machine

/-! ## Flits combined -/

theorem combineAll_words (twin : Bool) (f : Flit) (fs : List Flit) :
    (combineAll twin (f :: fs)).words = fs.foldl (fun a g => combine2 twin a g.words) f.words := rfl

theorem nth_zipWith_add32 {a b : List W32} {i : Nat} (ha : i < a.length) (hb : i < b.length) :
    nth (List.zipWith add32 a b) i 0 = add32 (nth a i 0) (nth b i 0) := by
  simp [nth, ha, hb]

/-- Element i of a combination without TWIN (R158). -/
theorem nth_combine_plain {i : Nat} : ∀ (fs : List Flit) (ws : List W32), (∀ g ∈ fs, g.words.length = ws.length) →
    i < ws.length → nth (fs.foldl (fun a g => combine2 false a g.words) ws) i 0 =
      fs.foldl (fun a g => add32 a (nth g.words i 0)) (nth ws i 0)
  | [], _, _, _ => rfl
  | g :: fs, ws, same, hi => by
    have hg : g.words.length = ws.length := same g List.mem_cons_self
    have len : (combine2 false ws g.words).length = ws.length := by
      rw [combine2, if_neg Bool.false_ne_true, List.length_zipWith, hg, Nat.min_self]
    rw [List.foldl_cons, List.foldl_cons, nth_combine_plain fs _ (fun k hk => len ▸ same k (List.mem_cons_of_mem _ hk))
      (len ▸ hi), combine2, if_neg Bool.false_ne_true, nth_zipWith_add32 hi (hg ▸ hi)]

/-- Pair i of a flit's words. -/
def pairAt (ws : List W32) (i : Nat) : Pair := ⟨nth ws (2 * i) 0, nth ws (2 * i + 1) 0⟩

theorem toPairs_getElem? : ∀ (ws : List W32) (i : Nat), 2 * i + 1 < ws.length → (toPairs ws)[i]? = some (pairAt ws i)
  | _ :: _ :: _, 0, _ => rfl
  | _ :: _ :: ws, i + 1, h => toPairs_getElem? ws i (by simp only [List.length_cons] at h; omega)

theorem toPairs_length : ∀ ws : List W32, (toPairs ws).length = ws.length / 2
  | [] => rfl
  | [_] => by simp [toPairs]
  | _ :: _ :: ws => by
    rw [toPairs, List.length_cons, toPairs_length ws, List.length_cons, List.length_cons]
    omega

theorem fromPairs_length (ps : List Pair) : (fromPairs ps).length = 2 * ps.length := by
  simp [fromPairs, List.length_flatMap, Nat.mul_comm]

theorem pairAt_fromPairs : ∀ (ps : List Pair) (i : Nat) (q : Pair), ps[i]? = some q → pairAt (fromPairs ps) i = q
  | r :: ps, 0, q, h => by
    obtain rfl : r = q := by simpa using h
    rfl
  | _ :: ps, i + 1, q, h => pairAt_fromPairs ps i q (by simpa using h)

theorem combine2_twin_length {a b : List W32} (same : b.length = a.length) (even : a.length % 2 = 0) :
    (combine2 true a b).length = a.length := by
  rw [combine2, if_pos rfl, fromPairs_length, List.length_zipWith, toPairs_length, toPairs_length, same]
  omega

theorem pairAt_combine2 {a b : List W32} {i : Nat} (ha : 2 * i + 1 < a.length) (hb : 2 * i + 1 < b.length) :
    pairAt (combine2 true a b) i = (pairAt a i).addPair (pairAt b i) := by
  rw [combine2, if_pos rfl]
  refine pairAt_fromPairs _ _ _ ?_
  rw [List.getElem?_zipWith, toPairs_getElem? a i ha, toPairs_getElem? b i hb]

/-- Pair i of a combination with TWIN (R158). -/
theorem pairAt_combine_twin {i : Nat} : ∀ (fs : List Flit) (ws : List W32), (∀ g ∈ fs, g.words.length = ws.length) →
    ws.length % 2 = 0 → 2 * i < ws.length → pairAt (fs.foldl (fun a g => combine2 true a g.words) ws) i =
      fs.foldl (fun a g => a.addPair (pairAt g.words i)) (pairAt ws i)
  | [], _, _, _, _ => rfl
  | g :: fs, ws, same, even, hi => by
    have hg : g.words.length = ws.length := same g List.mem_cons_self
    have len := combine2_twin_length hg even
    rw [List.foldl_cons, List.foldl_cons, pairAt_combine_twin fs _ (fun k hk => len ▸ same k (List.mem_cons_of_mem _ hk))
      (len ▸ even) (len ▸ hi), pairAt_combine2 (by omega) (by omega)]

/-! ## The next flits of a declaration -/

/-- Options that all hold something are what they hold. -/
theorem all_some_iff {α : Type} (l : List (Option α)) (fs : List α) :
    (if l.all (·.isSome) then some (l.filterMap id) else none) = some fs ↔ l = fs.map some := by
  induction l generalizing fs with
  | nil => cases fs <;> simp
  | cons o l ih =>
    cases o with
    | none => cases fs <;> simp
    | some x =>
      cases fs with
      | nil => simp
      | cons f fs =>
        rw [List.map_cons, List.cons_eq_cons, ← ih fs]
        simp [and_left_comm]

/-- The next flits are those at the heads of the listed inputs, in the order west, north, east, south, local. -/
theorem Decl.heads_iff (d : Decl) (fs : List Flit) :
    d.heads = some fs ↔ ([0, 1, 2, 3, 4].filter d.takes).map (fun i => (nth d.inq i []).head?) = fs.map some :=
  all_some_iff ..

/-- A combination waits for every listed input. -/
theorem Decl.heads_of_missing {d : Decl} {i : Nat} (hi : i < 5) (listed : d.takes i = true) (empty : nth d.inq i [] = []) :
    d.heads = none := by
  refine if_neg fun all => ?_
  have here := List.all_eq_true.mp all _ (List.mem_map_of_mem (List.mem_filter.mpr ⟨List.mem_range.mpr hi, listed⟩))
  rw [empty] at here
  exact Bool.false_ne_true here

/-! ## The declaration after its combination -/

/-- The router with the flits of one combination taken from their declaration, which retires with its last (R157). -/
def Router.stepped (r : Router) (d : Decl) : Router :=
  { r with decls := if d.flits ≤ d.sent + 1 then r.decls.filter (fun e => e.rid != d.rid)
      else r.decls.map (fun e => if e.rid = d.rid then d.pop else e) }

theorem State.stepDecl_eq (s : State) (p : Site) (d : Decl) :
    s.stepDecl p d = s.setSpindle p { s.spindle p with router := (s.spindle p).router.stepped d } := rfl

theorem State.spindle_stepDecl (s : State) (p : Site) (d : Decl) :
    (s.stepDecl p d).spindle p = { s.spindle p with router := (s.spindle p).router.stepped d } :=
  State.spindle_setSpindle ..

theorem Router.decl_stepped {r : Router} {rid : Nat} {d : Decl} (h : r.decl rid = some d) :
    (r.stepped d).decl rid = if d.flits ≤ d.sent + 1 then none else some d.pop := by
  have own : d.rid = rid := by simpa using List.find?_some h
  unfold Router.stepped Router.decl
  split
  case isTrue => simp [own]
  case isFalse =>
    have same : ((fun e : Decl => e.rid == rid) ∘ fun e => if e.rid = rid then d.pop else e) = fun e => e.rid == rid := by
      funext e
      by_cases mine : e.rid = rid
      · have popped : d.pop.rid = rid := own
        simp [mine, popped]
      · simp [mine]
    have found : r.decls.find? (fun e => e.rid == rid) = some d := h
    rw [own, List.find?_map, same, found, Option.map_some, if_pos own]

/-! ## Where a combination goes -/

/-- The combination of these flits sent on from the state in which they are taken from their declaration. -/
def State.combined (s : State) (p : Site) (d : Decl) (fs : List Flit) : Option State :=
  (s.stepDecl p d).forwardResult p d (combineAll d.twin fs) (decide (d.flits ≤ d.sent + 1))

theorem exec_reductionCombine_missing {s : State} {p : Site} {rid : W16} {d : Decl}
    (active : (s.spindle p).router.decl rid.toNat = some d) (missing : d.heads = none) :
    exec (.reductionCombine p rid) s = .next s := by
  show execReductionCombine p rid s = _
  unfold execReductionCombine
  refine congrArg Host.Outcome.next ?_
  cases up : s.up with
  | false => exact if_neg (Bool.eq_false_iff.mp up)
  | true =>
    rw [State.ifUp_of_up up]
    cases held : s.isHeld p with
    | true => rfl
    | false =>
      rw [if_neg Bool.false_ne_true, active]
      dsimp only
      rw [missing]

section Combine

variable {s : State} {p : Site} {rid : W16} {d : Decl} {fs : List Flit} (up : s.up = true) (running : s.isHeld p = false)
  (active : (s.spindle p).router.decl rid.toNat = some d) (heads : d.heads = some fs)
include up running active heads

theorem exec_reductionCombine_sends {u : State} (goes : s.combined p d fs = some u) :
    exec (.reductionCombine p rid) s = .next (u.bumpFree Obj.reductionWait 0).flow := by
  have sent : (s.stepDecl p d).forwardResult p d (combineAll d.twin fs) (decide (d.flits ≤ d.sent + 1)) = some u := goes
  show execReductionCombine p rid s = _
  unfold execReductionCombine
  rw [State.ifUp_of_up up, running, if_neg Bool.false_ne_true, active]
  dsimp only
  rw [heads]
  dsimp only
  rw [sent]
  rfl

theorem exec_reductionCombine_waits (stays : s.combined p d fs = none) : exec (.reductionCombine p rid) s = .next s := by
  have sent : (s.stepDecl p d).forwardResult p d (combineAll d.twin fs) (decide (d.flits ≤ d.sent + 1)) = none := stays
  show execReductionCombine p rid s = _
  unfold execReductionCombine
  rw [State.ifUp_of_up up, running, if_neg Bool.false_ne_true, active]
  dsimp only
  rw [heads]
  dsimp only
  rw [sent]
  rfl

end Combine

/-! ### To the RRECV of its RID -/

/-- The lines of a message as they read once written with one poison bit (R74). -/
theorem Store.Wrote.reads {st st' : Store} {l : Nat} {got ls : List Line} (wrote : st.Wrote l ls st')
    (marked : Marked got (got.any (·.poison)) ls) (p : Site) (i : Nat) (x : Line) (hx : got[i]? = some x) :
    (Store.line p st' (l + i)).poison = got.any (·.poison) ∧
      (got.any (·.poison) = false → Store.line p st' (l + i) = x) := by
  obtain ⟨len, poison, sound⟩ := marked
  obtain ⟨y, hy⟩ : ∃ y, ls[i]? = some y :=
    ⟨_, List.getElem?_eq_getElem (len.symm ▸ (List.getElem?_eq_some_iff.mp hx).1)⟩
  have line : Store.line p st' (l + i) = y := by
    rw [wrote.line, if_pos (Nat.le_add_right ..), Nat.add_sub_cancel_left, hy]
    rfl
  rw [line]
  refine ⟨poison y (List.mem_of_getElem? hy), fun clean => ?_⟩
  rw [sound clean] at hy
  exact Option.some.inj (hy.symm.trans hx)

section Complete

variable {s : State} {p : Site} {x : Xfer} {rest : List Xfer} (h : (s.spindle p).xq = x :: rest) (o : RrecvOp)
include h

theorem State.HasData.completeRrecv : (s.completeRrecv p o).HasData p { s.spindle p with xq := rest } := by
  have popped : ((s.popXfer p.row).sawPoison p (o.got.any (·.poison))).HasData p { s.spindle p with xq := rest } := by
    refine State.HasData.sawPoison ?_ _
    rw [State.popXfer_eq h]
    exact ⟨_, tget_tput_self .., rfl⟩
  exact State.blurLines_keeps (P := fun t => t.HasData p { s.spindle p with xq := rest }) (fun _ l xs h => h.writeLines l xs)
    (fun _ h => h) (popped.putRegion ..) _

theorem State.Body.completeRrecv : s.Body p (s.completeRrecv p o) := by
  have popped : s.Body p ((s.popXfer p.row).sawPoison p (o.got.any (·.poison))) := by
    rw [State.popXfer_eq h]
    exact State.Body.setSpindle.trans .sawPoison
  exact State.blurLines_keeps (P := fun t => s.Body p t) (fun _ _ _ h => h.trans .setSpindle) (fun _ h => h.trans .drew)
    (popped.trans .putRegion) _

end Complete

/-- The lines of a completed RRECV as they stand in the store (R74, R160). -/
theorem State.completeRrecv_lines (s : State) (p : Site) {o : RrecvOp} (clear : o.undef = []) (i : Nat) (y : Line)
    (hy : o.got[i]? = some y) :
    (Store.line p ((s.completeRrecv p o).spindle p).store (o.line + i)).poison = o.got.any (·.poison) ∧
      (o.got.any (·.poison) = false → Store.line p ((s.completeRrecv p o).spindle p).store (o.line + i) = y) := by
  have sound : o.got.any (·.poison) = false → ∀ y ∈ o.got, y.poison = false := by simp
  obtain ⟨ls, st, marked, wrote, e⟩ :=
    State.putRegion_spec ((s.popXfer p.row).sawPoison p (o.got.any (·.poison))) p o.line sound
  have store : ((s.completeRrecv p o).spindle p).store = st := by
    unfold State.completeRrecv State.putMessage
    rw [clear, State.blurLines_nil, e]
  rw [store]
  exact wrote.reads marked p i y hy

/-- The lines of a local result join those of its RRECV, which completes with the last (R160). -/
def State.tookResult (s : State) (p : Site) (o : RrecvOp) (got : List Line) : State :=
  if o.length ≤ got.length then s.completeRrecv p { o with got } else s.setHead p.row (.rrecv { o with got })

section Took

variable {s : State} {p : Site} {o : RrecvOp} {rest : List Xfer} (h : (s.spindle p).xq = .rrecv o :: rest) {got : List Line}
include h

theorem State.tookResult_router : ((s.tookResult p o got).spindle p).router = (s.spindle p).router := by
  unfold State.tookResult
  split
  · exact (congrArg Spindle.router (State.HasData.completeRrecv h _).spindle :)
  · rw [State.setHead_eq h, State.spindle_setSpindle]

theorem State.tookResult_waits (more : got.length < o.length) :
    ((s.tookResult p o got).spindle p).xq = .rrecv { o with got } :: rest := by
  rw [State.tookResult, if_neg (Nat.not_le.mpr more), State.setHead_eq h, State.spindle_setSpindle]

theorem State.tookResult_completes (all : o.length ≤ got.length) : ((s.tookResult p o got).spindle p).xq = rest := by
  rw [State.tookResult, if_pos all]
  exact (congrArg Spindle.xq (State.HasData.completeRrecv h _).spindle :)

theorem State.Body.tookResult : s.Body p (s.tookResult p o got) := by
  unfold State.tookResult
  split
  · exact .completeRrecv h _
  · rw [State.setHead_eq h]
    exact .setSpindle

end Took

theorem State.tookResult_lines (s : State) (p : Site) {o : RrecvOp} {got : List Line} (all : o.length ≤ got.length)
    (clear : o.undef = []) (i : Nat) (y : Line) (hy : got[i]? = some y) :
    (Store.line p ((s.tookResult p o got).spindle p).store (o.line + i)).poison = got.any (·.poison) ∧
      (got.any (·.poison) = false → Store.line p ((s.tookResult p o got).spindle p).store (o.line + i) = y) := by
  rw [State.tookResult, if_pos all]
  exact s.completeRrecv_lines p (o := { o with got }) clear i y hy

section Local

variable {s : State} {p : Site} {d : Decl} {fs : List Flit} (local_ : d.out = 4)
include local_

theorem State.combined_local {o : RrecvOp} {rest : List Xfer} (h : (s.spindle p).xq = .rrecv o :: rest) (own : o.rid = d.rid)
    (running : s.isHeld p = false) (idle : (s.spindle p).puts = []) :
    s.combined p d fs =
      some ((s.stepDecl p d).tookResult p o ((o.got ++ (combineAll d.twin fs).lines).take o.length)) := by
  have at_ := s.spindle_stepDecl p d
  have head : ((s.stepDecl p d).spindle p).xq.head? = some (.rrecv o) := by
    rw [at_, h]
    rfl
  have free : (s.stepDecl p d).engineFree p.row = true := by
    have held : (s.stepDecl p d).heldAt p.row = false := running
    have puts : ((s.stepDecl p d).at p.row).puts = [] := (congrArg Spindle.puts at_).trans idle
    rw [State.engineFree, held, puts]
    rfl
  unfold State.combined State.forwardResult State.takeResult
  rw [if_pos local_, head]
  dsimp only
  rw [beq_iff_eq.mpr own, free]
  rfl

/-- A local result waits in its declaration for the RRECV of its RID (R157, R160). -/
theorem State.combined_local_waits (other : ∀ o rest, (s.spindle p).xq = .rrecv o :: rest → o.rid ≠ d.rid) :
    s.combined p d fs = none := by
  have same : ((s.stepDecl p d).spindle p).xq = (s.spindle p).xq := (congrArg Spindle.xq (s.spindle_stepDecl p d) :)
  unfold State.combined State.forwardResult State.takeResult
  rw [if_pos local_, same]
  split
  case h_1 o head =>
    cases hq : (s.spindle p).xq with
    | nil => simp [hq] at head
    | cons x rest =>
      obtain rfl : x = .rrecv o := by simpa [hq] using head
      simp [other o rest hq]
  case h_2 => rfl

end Local

/-! ### To the next router -/

/-- The mesh neighbour of a site is another site. -/
theorem meshNext_ne {p : Site} {n : Nat} : ∀ {out : Nat}, meshNext p out = some n → n ≠ p.row
  | 0, h => by
    obtain ⟨_, next⟩ := Option.ite_none_left_eq_some.mp h
    rw [← Option.some.inj next, Site.row]
    omega
  | 1, h => by
    obtain ⟨_, next⟩ := Option.ite_none_left_eq_some.mp h
    rw [← Option.some.inj next, Site.row]
    omega
  | 2, h => by
    obtain ⟨_, next⟩ := Option.ite_none_left_eq_some.mp h
    rw [← Option.some.inj next]
    omega
  | 3, h => by
    obtain ⟨_, next⟩ := Option.ite_none_left_eq_some.mp h
    rw [← Option.some.inj next]
    omega

theorem State.at_stepDecl {s : State} {p : Site} {d : Decl} {n : Nat} (other : n ≠ p.row) :
    (s.stepDecl p d).at n = s.at n := by
  rw [State.stepDecl_eq, State.at, State.setSpindle_spindles, tget_tput_ne (Ne.symm other), ← State.at]

theorem State.spindle_setRouterAt {s : State} {p : Site} {n : Nat} (other : n ≠ p.row) (r : Router) :
    (s.setRouterAt n r).spindle p = s.spindle p := by
  simp [State.setRouterAt, State.setAt, State.spindle, tget_tput_ne other]

section Mesh

variable {s : State} {p : Site} {d : Decl} {fs : List Flit} {n : Nat} (mesh : d.out < 4) (next : meshNext p d.out = some n)
  (running : s.heldAt n = false)
include mesh next running

/-- A combination is given to the neighbour's router as that takes it (R159, R161). -/
theorem State.combined_mesh : s.combined p d fs =
    ((s.at n).router.arrive d.rid (opposite d.out) (combineAll d.twin fs)).map ((s.stepDecl p d).setRouterAt n) := by
  have held : (s.stepDecl p d).heldAt n = false := running
  unfold State.combined State.forwardResult State.giveResult
  rw [if_neg (by omega), next]
  dsimp only
  rw [held, State.at_stepDecl (meshNext_ne next)]
  rfl

end Mesh

/-! ### Out of an edge port -/

/-- The edge ports are the first 352 (R163). -/
theorem edgePort_lt {p : Site} {port : Nat} : ∀ {out : Nat}, edgePort p out = some port → port < 352
  | 0, h => by
    obtain ⟨_, ⟨⟩⟩ := Option.ite_none_right_eq_some.mp h
    omega
  | 1, h => by
    obtain ⟨_, ⟨⟩⟩ := Option.ite_none_right_eq_some.mp h
    omega
  | 2, h => by
    obtain ⟨_, ⟨⟩⟩ := Option.ite_none_right_eq_some.mp h
    omega
  | 3, h => by
    obtain ⟨_, ⟨⟩⟩ := Option.ite_none_right_eq_some.mp h
    omega

theorem State.arbiter_setArbiter (s : State) (kind inst : Nat) (a : Arbiter) :
    (s.setArbiter kind inst a).arbiter kind inst = a := by
  simp [State.arbiter, State.setArbiter]

/-- An arbiter asked by one requester, with no ARB_PRIO pending, grants it (R174). -/
theorem State.decideArb_one {s : State} {kind : Nat} (settled : tget s.dict.pending (objKey Obj.arbPrio kind) = none)
    (inst : Nat) (r : Nat × Nat) : s.decideArb kind inst [r] = s.setArbiter kind inst
      { s.arbiter kind inst with
        prio := BitVec.ofNat 32 (s.obj Obj.arbPrio kind), passed := 0, holder := some r, last := some r } := by
  have same : s.applyRound kind = s := by
    unfold State.applyRound
    rw [settled]
  unfold State.decideArb
  rw [same]
  rfl

/-- A free edge port that one channel asks for lets a flit of it pass. -/
theorem State.passPort_free {s : State} {port vc : Nat} {last : Bool} (edge : port < 352) (live : s.portLive port = true)
    (unheld : (s.arbiter 1 (portInst port 1)).holder = none)
    (settled : tget s.dict.pending (objKey Obj.arbPrio 1) = none) :
    ∃ m n, s.passPort port 1 vc last [vc] =
      some (({ s with fabric := { s.fabric with arbiters := m } }.bump Obj.edgePortBusy port n).drew 1) := by
  have idle : (s.arbiter 1 (portInst port 1)).idle [vc] = true := by
    unfold Arbiter.idle
    rw [unheld]
  have row : busyRow port = (Obj.edgePortBusy, port) := if_pos edge
  unfold State.passPort
  dsimp only
  rw [idle, if_pos rfl, List.map_cons, List.map_nil, State.decideArb_one settled, State.arbiter_setArbiter]
  have alive : (s.setArbiter 1 (portInst port 1)
      { s.arbiter 1 (portInst port 1) with
        prio := BitVec.ofNat 32 (s.obj Obj.arbPrio 1), passed := 0, holder := some (vc, 0), last := some (vc, 0) }).portLive
          port = true := live
  rw [alive, row]
  exact ⟨_, _, if_neg (by simp)⟩

/-- A port granted to another channel in the middle of its burst lets no flit of this one pass (R175). -/
theorem State.passPort_held {s : State} {port vc v : Nat} {last : Bool} {asking : List Nat} (other : v ≠ vc)
    (holder : (s.arbiter 1 (portInst port 1)).holder = some (v, 0)) (burst : (s.arbiter 1 (portInst port 1)).passed ≠ 0) :
    s.passPort port 1 vc last asking = none := by
  have busy : (s.arbiter 1 (portInst port 1)).idle asking = false := by
    unfold Arbiter.idle
    rw [holder]
    simp [burst]
  unfold State.passPort
  dsimp only
  rw [busy, if_neg Bool.false_ne_true, holder]
  exact if_pos (by simp [other])

/-- A result flit stands behind those that have left by its edge port before (R159). -/
theorem State.edge_toEdge (s : State) (port rid : Nat) (f : Flit) (twin last : Bool) :
    (tget (s.toEdge port rid f twin last).fabric.edge port).getD [] =
      (tget s.fabric.edge port).getD [] ++ [{ rid, flit := f, twin, last }] := by
  simp [State.toEdge]

section Edge

variable {s : State} {p : Site} {d : Decl} {fs : List Flit} {port : Nat} (mesh : d.out < 4) (off : meshNext p d.out = none)
  (edge : edgePort p d.out = some port)
include mesh off edge

theorem State.combined_edge : s.combined p d fs =
    ((s.stepDecl p d).passPort port 1 1 (decide (d.flits ≤ d.sent + 1)) [1]).map
      (fun t => t.toEdge port d.rid (combineAll d.twin fs) d.twin (decide (d.flits ≤ d.sent + 1))) := by
  unfold State.combined State.forwardResult
  rw [if_neg (by omega), off]
  dsimp only
  rw [edge]

end Edge

/-! ## The state after a combination -/

/-- The wait of a combination counted. -/
theorem State.onlySpindle_waited {s t : State} {p : Site} {ch : Nat → Nat → Prop} (h : s.OnlySpindle p ch t)
    (wait : ch Obj.reductionWait 0) : s.OnlySpindle p ch (t.bumpFree Obj.reductionWait 0) :=
  h.trans (State.OnlyRows.bumpFree (by decide) wait).atSpindle

/-- The flits of a combination are gone from their declaration, which has retired if they were its last (R157). -/
def State.TakenFrom (u : State) (p : Site) (rid : Nat) (d : Decl) : Prop :=
  (u.spindle p).router.decl rid = if d.flits ≤ d.sent + 1 then none else some d.pop

section Sent

variable {s : State} {p : Site} {rid : W16} {d : Decl} {fs : List Flit} (up : s.up = true) (running : s.isHeld p = false)
  (active : (s.spindle p).router.decl rid.toNat = some d) (heads : d.heads = some fs)
include active

theorem State.takenFrom {u : State} (same : (u.spindle p).router = ((s.stepDecl p d).spindle p).router) :
    u.TakenFrom p rid.toNat d := by
  rw [State.TakenFrom, same, State.spindle_stepDecl, Router.decl_stepped active]

theorem Decl.rid_of_active : d.rid = rid.toNat := by simpa using List.find?_some active

include up running heads

/-- The RRECV of the RID takes its lines, and completes with the last of them. -/
theorem reductionCombine_local {o : RrecvOp} {rest : List Xfer} (local_ : d.out = 4)
    (h : (s.spindle p).xq = .rrecv o :: rest) (own : o.rid = rid.toNat) (idle : (s.spindle p).puts = []) :
    ∃ u : State, exec (.reductionCombine p rid) s = .next u.flow ∧ u.TakenFrom p rid.toNat d ∧
      (∀ got, got = (o.got ++ (combineAll d.twin fs).lines).take o.length →
        (got.length < o.length → (u.spindle p).xq = .rrecv { o with got } :: rest) ∧
        (got.length = o.length → (u.spindle p).xq = rest ∧ (o.undef = [] → ∀ i x, got[i]? = some x →
          (Store.line p (u.spindle p).store (o.line + i)).poison = got.any (·.poison) ∧
          (got.any (·.poison) = false → Store.line p (u.spindle p).store (o.line + i) = x)))) ∧
      s.OnlySpindle p (fun id row => spindleRows p id row ∨ oneRow Obj.reductionWait 0 id row) u := by
  have goes := State.combined_local (fs := fs) local_ h (own.trans (Decl.rid_of_active active).symm) running idle
  have at_ : ((s.stepDecl p d).spindle p).xq = .rrecv o :: rest := by
    rw [State.spindle_stepDecl]
    exact h
  refine ⟨_, exec_reductionCombine_sends up running active heads goes, State.takenFrom active ?_, fun got hgot => ?_,
    State.onlySpindle_waited ?_ (.inr ⟨rfl, rfl⟩)⟩
  · rw [State.spindle_bumpFree, State.tookResult_router at_]
  · subst hgot
    rw [State.spindle_bumpFree]
    exact ⟨State.tookResult_waits at_, fun all =>
      ⟨State.tookResult_completes at_ all.ge, State.tookResult_lines _ p all.ge⟩⟩
  · exact State.OnlySpindle.setSpindle.trans
      ((State.Body.tookResult at_).mono fun _ _ h => .inl (bodyRows_spindleRows p _ _ h))

/-- The neighbour's router takes the combination. -/
theorem reductionCombine_mesh {row : Nat} {r : Router} (mesh : d.out < 4) (next : meshNext p d.out = some row)
    (free : s.heldAt row = false)
    (room : (s.at row).router.arrive d.rid (opposite d.out) (combineAll d.twin fs) = some r) :
    ∃ u : State, exec (.reductionCombine p rid) s = .next u.flow ∧ u.TakenFrom p rid.toNat d ∧ (u.at row).router = r ∧
      s.OnlyRows (oneRow Obj.reductionWait 0) { u with spindles := s.spindles } := by
  have goes : s.combined p d fs = some ((s.stepDecl p d).setRouterAt row r) := by
    rw [State.combined_mesh mesh next free, room, Option.map_some]
  have there := State.at_setRouterAt (s.stepDecl p d) row r
  have waited : s.OnlyRows (oneRow Obj.reductionWait 0) (s.bumpFree Obj.reductionWait 0) := .bumpFree (by decide) ⟨rfl, rfl⟩
  refine ⟨_, exec_reductionCombine_sends up running active heads goes, State.takenFrom active ?_,
    congrArg Spindle.router there, waited⟩
  rw [State.spindle_bumpFree, State.spindle_setRouterAt (meshNext_ne next)]

/-- A free edge port takes the combination off the wafer. -/
theorem reductionCombine_edge {port : Nat} (mesh : d.out < 4) (off : meshNext p d.out = none)
    (edge : edgePort p d.out = some port) (live : s.portLive port = true)
    (unheld : (s.arbiter 1 (portInst port 1)).holder = none)
    (settled : tget s.dict.pending (objKey Obj.arbPrio 1) = none) :
    ∃ u : State, exec (.reductionCombine p rid) s = .next u.flow ∧ u.TakenFrom p rid.toNat d ∧
      (tget u.fabric.edge port).getD [] = (tget s.fabric.edge port).getD [] ++
        [{ rid := d.rid, flit := combineAll d.twin fs, twin := d.twin, last := decide (d.flits ≤ d.sent + 1) }] ∧
      s.OnlySpindle p (fun id row => oneRow Obj.reductionWait 0 id row ∨ oneRow Obj.edgePortBusy port id row)
        { u with fabric := s.fabric } := by
  obtain ⟨m, n, pass⟩ := State.passPort_free (s := s.stepDecl p d) (vc := 1) (last := decide (d.flits ≤ d.sent + 1))
    (edgePort_lt edge) live unheld settled
  have goes := State.combined_edge (s := s) (fs := fs) mesh off edge
  rw [pass, Option.map_some] at goes
  have row : port < 2 ^ 20 := Nat.lt_trans (edgePort_lt edge) (by decide)
  have busy : (s.stepDecl p d).OnlyRows
      (fun id row => oneRow Obj.reductionWait 0 id row ∨ oneRow Obj.edgePortBusy port id row)
      (((s.stepDecl p d).bump Obj.edgePortBusy port n).drew 1) := (State.OnlyRows.bump row (.inr ⟨rfl, rfl⟩)).trans .drew
  exact ⟨_, exec_reductionCombine_sends up running active heads goes, State.takenFrom active rfl,
    State.edge_toEdge ..,
    State.onlySpindle_waited (State.OnlySpindle.setSpindle.trans busy.atSpindle) (.inl ⟨rfl, rfl⟩)⟩

end Sent

/-! ## The statement -/

/-- Settles O22: the combination element by element and pair by pair, and one lemma for each way a combination takes or waits. -/
theorem combinationAddsInPortOrderAndLeavesByItsOutput : Obligations.CombinationAddsInPortOrderAndLeavesByItsOutput := by
  unfold Obligations.CombinationAddsInPortOrderAndLeavesByItsOutput
  refine ⟨fun f fs i same hi => nth_combine_plain fs f.words same hi, fun f fs i q same even hi hq => ?_, fun _ _ _ => rfl,
    Decl.heads_iff, fun p s rid d active ⟨i, hi, listed, empty⟩ =>
      exec_reductionCombine_missing active (Decl.heads_of_missing hi listed empty),
    fun p s rid d fs up running active heads => ⟨fun o rest local_ h own idle => ?_, fun local_ other => ?_,
      fun row mesh next free => ⟨fun r room => ?_, fun full => ?_⟩, fun port mesh off edge live unheld settled => ?_,
      fun port v mesh off edge other holder burst => ?_⟩⟩
  · have pair : pairAt (combineAll true (f :: fs)).words i = q := (pairAt_combine_twin fs f.words same even hi).trans hq.symm
    exact ⟨congrArg Pair.s pair, congrArg Pair.c pair⟩
  · exact reductionCombine_local up running active heads local_ h own idle
  · refine exec_reductionCombine_waits up running active heads (State.combined_local_waits local_ ?_)
    rwa [Decl.rid_of_active active]
  · exact reductionCombine_mesh up running active heads mesh next free room
  · refine exec_reductionCombine_waits up running active heads ?_
    rw [State.combined_mesh mesh next free, full, Option.map_none]
  · exact reductionCombine_edge up running active heads mesh off edge live unheld settled
  · refine exec_reductionCombine_waits up running active heads ?_
    rw [State.combined_edge mesh off edge, State.passPort_held (s := s.stepDecl p d) other holder burst, Option.map_none]

end Sys2Proof.Machine
end

section
/-! SUPPORT. A grant watchdog whose arbiter number has no row of its own, and the refutation of the statement about arbiters (O27). -/

namespace Sys2Proof.Machine

/-- An arbiter number far beyond the eight ports: the key of its row of LINK_STATE is that of GRANT_WATCHDOG_BITES. -/
def strayPort : Nat := (Obj.grantWatchdogBites - Obj.linkState) * 2 ^ 20

/-- A powered module in which the port arbiter of that number holds a grant. -/
def strayBite : State :=
  { power := { on := true }
    fabric := { arbiters := [(arbKey 3 strayPort, { prio := 0, holder := some (0, 0) })] } }

/-- The bite fences the port after it has counted itself: STATE RETIRED is written over the count. -/
theorem strayBite_count {t : State} (h : exec (.grantWatchdog 3 strayPort) strayBite = .next t) :
    t.obj Obj.grantWatchdogBites 0 = lkRetired := by
  obtain rfl := Host.Outcome.next.inj h
  decide +kernel

/-- Refutes O27: the statement bounds no arbiter number, and for one outside the table of R175, which `Instr.wellFormed`
refuses but `exec` does not, the bite's own fence overwrites the count of bites: it reads 6 where the statement asks for 1. -/
theorem not_arbitersGrantByPriorityAndFreeStuckResources :
    ¬ Obligations.ArbitersGrantByPriorityAndFreeStuckResources := by
  unfold Obligations.ArbitersGrantByPriorityAndFreeStuckResources
  intro h
  obtain ⟨_, _, _, bite⟩ := h 3 strayPort strayBite rfl
  obtain ⟨t, run, _, count, _⟩ := bite (by decide +kernel) (by decide)
  rw [strayBite_count run] at count
  exact absurd count (by decide +kernel)

end Sys2Proof.Machine
end

section
/-! SUPPORT. What SOPEN and SCLOSE put in the transfer engine's queue, what its engine does with them at its head, and the
statement about them (O18). -/

namespace Sys2Proof.Machine

/-! ## Streams of a spindle -/

/-- A stream found is the one asked for. -/
theorem Spindle.stream_of_stream? {x : Spindle} {id : Nat} {e : SpStream} (h : x.stream? id = some e) : e.stream = id := by
  simpa using List.find?_some h

/-- A spindle's entry of a stream set: the entry of that stream alone is another. -/
def Spindle.withStream (x : Spindle) (e : SpStream) : Spindle :=
  { x with streams := x.streams.filter (fun f => f.stream != e.stream) ++ [e] }

theorem State.setStream_eq (s : State) (p : Site) (e : SpStream) :
    s.setStream p e = s.setSpindle p ((s.spindle p).withStream e) := rfl

theorem Spindle.stream?_withStream (x : Spindle) (e : SpStream) : (x.withStream e).stream? e.stream = some e := by
  have others : (x.streams.filter (fun f => f.stream != e.stream)).find? (fun f => f.stream == e.stream) = none := by
    simp
  unfold Spindle.stream? Spindle.withStream
  rw [List.find?_append, others]
  simp

theorem State.engine_eq {s : State} {id : Nat} {g : StreamEng} (h : tget s.streams.engines id = some g) : s.engine id = g := by
  rw [State.engine, h]
  rfl

/-! ## Instructions of the transfer engine -/

theorem exec_sopen {s : State} {p : Site} {stream : W16} {bufFirst bufCount : Byte} (queue : BitVec 3) (h : s.queuesOn p [])
    (ok : s.sopenBad p stream.toNat bufFirst.toNat bufCount.toNat = false) :
    exec (.sopen p stream queue bufFirst bufCount) s = .next ((if bufCount = 0 then s.issued p
      else (s.issued p).enqueue p (.sopen stream.toNat queue.toNat bufFirst.toNat bufCount.toNat)).advance p).flow := by
  show execSopen p stream queue bufFirst bufCount s = _
  rw [execSopen, ok]
  exact congrArg Host.Outcome.next (State.runXfer_eq h _)

section Close

variable {s : State} {p : Site} {stream : W16} {e : SpStream} (row : (s.streamRow? stream.toNat).isSome = true)
  (opened : (s.spindle p).stream? stream.toNat = some e)
include row opened

theorem exec_sclose : exec (.sclose p stream) s =
    .next (if e.ended then s.runXfer p [] (fun t => t.enqueue p (.sclose stream.toNat)) else s) := by
  have known : (s.streamRow? stream.toNat).isNone = false := by simpa using row
  show execSclose p stream s = _
  rw [execSclose, known, opened]
  rfl

theorem exec_sclose_ended (h : s.queuesOn p []) (ended : e.ended = true) :
    exec (.sclose p stream) s = .next (((s.issued p).enqueue p (.sclose stream.toNat)).advance p).flow := by
  rw [exec_sclose row opened, if_pos ended, State.runXfer_eq h]

/-- SCLOSE waits at issue for the END lea (R184). -/
theorem exec_sclose_waits (more : e.ended = false) : exec (.sclose p stream) s = .next s := by
  rw [exec_sclose row opened, if_neg (by rw [more]; exact Bool.false_ne_true)]

end Close

/-! ## SOPEN at the head of the queue -/

/-- An opening reported moves the streams' engines and the count of VC0's flits alone (log entry 41). -/
theorem State.onlyRows_reportOpening (s : State) (p : Site) (id count size : Nat) :
    s.OnlyRows (oneRow Obj.fabricFlits 0) { s.reportOpening p id count size with streams := s.streams } := by
  have bumped : s.OnlyRows (oneRow Obj.fabricFlits 0) (s.bump Obj.fabricFlits 0 1) := .bump (by decide) ⟨rfl, rfl⟩
  exact bumped

theorem State.opened_reportOpening (s : State) (p : Site) (id count size : Nat) :
    (p.row, count, size) ∈ ((s.reportOpening p id count size).engine id).opened := by
  unfold State.reportOpening State.engine State.setEngine
  simp

theorem State.engines_reportOpening_ne (s : State) (p : Site) {id k : Nat} (h : k ≠ id) (count size : Nat) :
    tget (s.reportOpening p id count size).streams.engines k = tget s.streams.engines k := tget_tput_ne (Ne.symm h) _ _

theorem State.obj_reportOpening (s : State) (p : Site) (id count size : Nat) :
    (s.reportOpening p id count size).obj Obj.fabricFlits 0 = satAdd 64 (s.obj Obj.fabricFlits 0) 1 :=
  State.obj_bump_of_bits (by decide) _ _ _

section Head

variable {s : State} {p : Site} {rest : List Xfer} (free : s.engineFree p.row = true)
include free

theorem State.engineStep_sopen {id queue first count : Nat} (h : (s.spindle p).xq = .sopen id queue first count :: rest) :
    s.engineStep p.row = some (State.reportOpening
      (s.setSpindle p (({ s.spindle p with xq := rest } : Spindle).withStream { stream := id, queue, first, count }))
      p id count ((s.spindle p).smallest first count)) := by
  have head : (s.at p.row).xq.head? = some (.sopen id queue first count) := congrArg List.head? h
  unfold State.engineStep
  dsimp only
  rw [free, head]
  dsimp only
  rw [State.popXfer_eq h, siteRow_row]
  unfold State.openStream
  dsimp only
  rw [State.setStream_eq, State.setSpindle_twice, State.spindle_setSpindle, State.spindle_setSpindle]
  rfl

theorem State.engineStep_sclose {id : Nat} {e : SpStream} (h : (s.spindle p).xq = .sclose id :: rest)
    (opened : (s.spindle p).stream? id = some e) :
    s.engineStep p.row = some ((s.setSpindle p { s.spindle p with xq := rest }).closeStream p e) := by
  have head : (s.at p.row).xq.head? = some (.sclose id) := congrArg List.head? h
  have there : (s.at p.row).stream? id = some e := opened
  unfold State.engineStep
  dsimp only
  rw [free, head]
  dsimp only
  rw [there, State.popXfer_eq h, siteRow_row]
  rfl

end Head

/-! ## SCLOSE at the head of the queue -/

/-- A pool's generations advanced change the buffers of the spindle alone, each of the pool once (R184). -/
theorem Spindle.staleFrom_spec (first count : Nat) (x : Spindle) :
    ∃ bufs, x.staleFrom first count = { x with bufs := bufs } ∧ ∀ b, (tget bufs b).getD {} =
      if first ≤ b ∧ b < first + count then { x.buf b with gen := (x.buf b).gen + 1 } else x.buf b := by
  induction count generalizing first x with
  | zero => exact ⟨x.bufs, rfl, fun b => (if_neg (by omega)).symm⟩
  | succ n ih =>
    obtain ⟨bufs, only, rest⟩ := ih (first + 1)
      { x with bufs := tput x.bufs first { x.buf first with gen := (x.buf first).gen + 1 } }
    refine ⟨bufs, only, fun b => ?_⟩
    rw [rest b]
    unfold Spindle.buf
    rw [tget_tput]
    by_cases here : first = b
    · subst here
      rw [if_neg (by omega), if_pos rfl, if_pos (by omega)]
      rfl
    · have same : (first + 1 ≤ b ∧ b < first + 1 + n) ↔ (first ≤ b ∧ b < first + (n + 1)) := by omega
      simp only [if_neg here, same]

theorem State.closeStream_spec (s : State) (p : Site) (e : SpStream) :
    ∃ bufs, s.closeStream p e = s.setSpindle p { s.spindle p with
        bufs := bufs, streams := (s.spindle p).streams.filter (fun f => f.stream != e.stream) } ∧
      ∀ b, (tget bufs b).getD {} = if e.first ≤ b ∧ b < e.first + e.count
        then { (s.spindle p).buf b with gen := ((s.spindle p).buf b).gen + 1 } else (s.spindle p).buf b := by
  obtain ⟨bufs, only, gens⟩ := Spindle.staleFrom_spec e.first e.count (s.spindle p)
  refine ⟨bufs, ?_, gens⟩
  unfold State.closeStream
  rw [only]

/-! ## The statement -/

/-- Settles O18: the queue SOPEN and SCLOSE join, and what each does at its head. -/
theorem streamsOpenAndCloseAtTheSpindle : Obligations.StreamsOpenAndCloseAtTheSpindle := by
  unfold Obligations.StreamsOpenAndCloseAtTheSpindle
  refine ⟨fun p s stream h => ⟨fun queue bufFirst bufCount ok => ⟨_, exec_sopen queue h ok, ?_⟩,
      fun e row opened ended => ⟨_, exec_sclose_ended row opened h ended, (s.scored_issued p).queued (.refl ..) _⟩⟩,
    fun p s stream e row opened more => exec_sclose_waits row opened more,
    fun p s rest free => ⟨fun id queue first count h => ?_, fun id e h opened => ?_⟩⟩
  · split
    · exact s.queued_none p
    · exact (s.scored_issued p).queued (.refl ..) _
  · refine ⟨_, State.engineStep_sopen free h, State.spindle_setSpindle .., State.opened_reportOpening ..,
      fun k other => State.engines_reportOpening_ne _ p other .., State.obj_reportOpening .., ?_⟩
    exact State.OnlySpindle.setSpindle.trans (State.onlyRows_reportOpening ..).atSpindle
  · obtain ⟨bufs, closed, gens⟩ := (s.setSpindle p { s.spindle p with xq := rest }).closeStream_spec p e
    rw [State.spindle_setSpindle, State.setSpindle_twice] at closed
    rw [State.spindle_setSpindle] at gens
    exact ⟨_, bufs, (State.engineStep_sclose free h opened).trans (congrArg some closed), .setSpindle,
      State.spindle_setSpindle .., gens⟩

end Sys2Proof.Machine
end

section
/-! SUPPORT. What a mask report does to the leas of a stream that has predicted, and the statement about mask reports (O29). -/

namespace Sys2Proof.Machine

/-! ## States that differ in object rows and streams -/

/-- The stacks are few. -/
theorem stackOfPort_lt (p : Nat) : stackOfPort p < 2 ^ 20 := by
  unfold stackOfPort
  split
  · omega
  · split
    · omega
    · split <;> omega

/-- What an operation does to the rows it does with any stream engines. -/
theorem State.OnlyRows.withStreams {ch : Nat → Nat → Prop} {s t : State} (h : s.OnlyRows ch t) (m : Streams) :
    ({ s with streams := m } : State).OnlyRows ch { t with streams := m } :=
  ⟨congrArg (fun w : State => { w with streams := m }) h.1, h.2.1, h.2.2⟩

theorem State.OnlyRows.withFabric {ch : Nat → Nat → Prop} {s t : State} (h : s.OnlyRows ch t) (f : Fabric) :
    ({ s with fabric := f } : State).OnlyRows ch { t with fabric := f } :=
  ⟨congrArg (fun w : State => { w with fabric := f }) h.1, h.2.1, h.2.2⟩

/-- Of two states that differ beside the stream engines in object rows alone, and two more, the outer two do. -/
theorem State.OnlyRows.trans_streams {ch : Nat → Nat → Prop} {s t u : State}
    (h : s.OnlyRows ch { t with streams := s.streams }) (k : t.OnlyRows ch { u with streams := t.streams }) :
    s.OnlyRows ch { u with streams := s.streams } :=
  h.trans (k.withStreams s.streams)

/-! ## Leas compared with a report -/

/-- How a report finds a lea's prediction, predicted and selected: none where nothing was left to decide (R205). -/
def Lea.outcome (l : Lea) (rep : MaskRep) : Option (Bool × Bool) :=
  if l.active.isNone && l.kind != .reject then some (l.predicted, rep.active l.group.toNat) else none

theorem Lea.judge_outcome (l : Lea) (rep : MaskRep) : (l.judge rep).2 = l.outcome rep := by
  unfold Lea.judge Lea.outcome
  cases l.active with
  | some b => rfl
  | none =>
    by_cases rejected : l.kind = .reject
    · simp [rejected]
    · simp [rejected]

/-- A lea that is decided stays as it is. -/
theorem Lea.judge_decided {l : Lea} {b : Bool} (h : l.active = some b) (rep : MaskRep) : l.judge rep = (l, none) := by
  unfold Lea.judge
  rw [h]
  rfl

/-- An undecided lea gets its selection: a SKIP where it is not active, a makeup where it is without having been predicted. -/
theorem Lea.judge_undecided {l : Lea} (h : l.active = none) (kind : l.kind ≠ .reject) (rep : MaskRep) :
    (l.judge rep).1.active = some (rep.active l.group.toNat) ∧ (l.judge rep).1.skip = !rep.active l.group.toNat ∧
      (l.judge rep).1.makeup = (rep.active l.group.toNat && !l.predicted) := by
  have other : (l.kind == .reject) = false := by simpa using kind
  unfold Lea.judge
  rw [h, other]
  exact ⟨rfl, rfl, rfl⟩

/-- The leas of a stream with an outcome. -/
def StreamEng.outcomes (g : StreamEng) (rep : MaskRep) (c : Bool × Bool) : Nat :=
  (g.leas.filter (fun l => l.outcome rep == some c)).length

/-- The leas with an outcome are the undecided ones that were predicted and are selected so. -/
theorem StreamEng.outcomes_eq (g : StreamEng) (rep : MaskRep) (c : Bool × Bool) :
    g.outcomes rep c = (g.leas.filter (fun l => l.active.isNone && l.kind != .reject &&
      (l.predicted == c.1 && rep.active l.group.toNat == c.2))).length := by
  unfold StreamEng.outcomes
  refine congrArg List.length (List.filter_congr fun l _ => ?_)
  unfold Lea.outcome
  cases l.active.isNone && l.kind != .reject <;> rfl

/-- Elements with two marks that agree have both or neither. -/
theorem length_filter_agree {α : Type} (p a b : α → Bool) (ls : List α) :
    (ls.filter (fun l => p l && (a l == true && b l == true))).length +
      (ls.filter (fun l => p l && (a l == false && b l == false))).length =
      (ls.filter (fun l => p l && a l == b l)).length := by
  rw [List.length_eq_length_filter_add a (l := ls.filter (fun l => p l && a l == b l)), List.filter_filter, List.filter_filter]
  have both (l : α) : (p l && (a l == true && b l == true)) = (a l && (p l && a l == b l)) := by cases a l <;> simp
  have neither (l : α) : (p l && (a l == false && b l == false)) = (!a l && (p l && a l == b l)) := by cases a l <;> simp
  simp only [both, neither]

/-- The hits: leas predicted as they were selected. -/
theorem StreamEng.outcomes_hit (g : StreamEng) (rep : MaskRep) :
    g.outcomes rep (true, true) + g.outcomes rep (false, false) =
      (g.leas.filter (fun l => l.active.isNone && l.kind != .reject && l.predicted == rep.active l.group.toNat)).length := by
  rw [g.outcomes_eq, g.outcomes_eq]
  exact length_filter_agree (fun l => l.active.isNone && l.kind != .reject) (fun l => l.predicted)
    (fun l => rep.active l.group.toNat) g.leas

theorem StreamEng.outcomes_waste (g : StreamEng) (rep : MaskRep) : g.outcomes rep (true, false) =
    (g.leas.filter (fun l => l.active.isNone && l.kind != .reject && l.predicted && !rep.active l.group.toNat)).length := by
  simp [g.outcomes_eq, Bool.and_assoc]

theorem StreamEng.outcomes_makeup (g : StreamEng) (rep : MaskRep) : g.outcomes rep (false, true) =
    (g.leas.filter (fun l => l.active.isNone && l.kind != .reject && !l.predicted && rep.active l.group.toNat)).length := by
  simp [g.outcomes_eq, Bool.and_assoc]

/-! ## A stream judged -/

/-- The numbers of a stream's mask epochs. -/
def StreamEng.maskEpochs (g : StreamEng) : List Nat := (g.epochs.filter (fun e => e.branch.isNone)).map (·.number)

/-- A stream whose leas a report has decided: its mask epochs are resolved (R199, R205). -/
def StreamEng.judged (g : StreamEng) (rep : MaskRep) : StreamEng :=
  { g with
    leas := (g.leas.map (fun l => l.judge rep)).map (fun j =>
      { j.1 with depends := j.1.depends.filter (fun n => !g.maskEpochs.contains n) })
    epochs := g.epochs.filter (fun e => e.branch.isSome)
    passReport := some rep }

theorem StreamEng.judged_leas {g : StreamEng} {k : Nat} {l : Lea} (h : g.leas[k]? = some l) (rep : MaskRep) :
    (g.judged rep).leas[k]? = some { (l.judge rep).1 with
      depends := (l.judge rep).1.depends.filter (fun n => !g.maskEpochs.contains n) } := by
  simp [StreamEng.judged, h]

/-- The four counters of a stream judged (R205). -/
def State.countOutcomes (s : State) (die : Nat) (g : StreamEng) (rep : MaskRep) : State :=
  (((s.bump Obj.predHits die (g.outcomes rep (true, true) + g.outcomes rep (false, false))).bump Obj.predWasted die
    (g.outcomes rep (true, false))).bump Obj.specSquashed die (g.outcomes rep (true, false))).bump Obj.predMakeup die
      (g.outcomes rep (false, true))

theorem State.judgeStream_eq (s : State) (id die : Nat) (rep : MaskRep) :
    s.judgeStream id die rep =
      (s.setEngine id ((s.engine id).judged rep)).countOutcomes die (s.engine id) rep := by
  have counted (c : Bool × Bool) : (((s.engine id).leas.map (fun l => l.judge rep)).filter (fun j => j.2 == some c)).length =
      (s.engine id).outcomes rep c := by
    rw [List.filter_map, List.length_map]
    simp only [Function.comp_def, Lea.judge_outcome]
    rfl
  unfold State.judgeStream
  simp only [counted]
  rfl

/-- The rows of a die that a report moves (R203, R205). -/
def reportRows (die : Nat) : Nat → Nat → Prop := fun id row => row = die ∧ id ∈
  [Obj.streamPoisoned, Obj.predHits, Obj.predWasted, Obj.specSquashed, Obj.predMakeup]

theorem State.onlyRows_countOutcomes (s : State) {die : Nat} (hd : die < 2 ^ 20) (g : StreamEng) (rep : MaskRep) :
    s.OnlyRows (fun id row => reportRows die id row ∧ id ≠ Obj.streamPoisoned) (s.countOutcomes die g rep) :=
  (((State.OnlyRows.bump hd ⟨⟨rfl, by decide⟩, by decide⟩).trans (.bump hd ⟨⟨rfl, by decide⟩, by decide⟩)).trans
    (.bump hd ⟨⟨rfl, by decide⟩, by decide⟩)).trans (.bump hd ⟨⟨rfl, by decide⟩, by decide⟩)

theorem State.obj_countOutcomes (s : State) {die : Nat} (hd : die < 2 ^ 20) (g : StreamEng) (rep : MaskRep) :
    (s.countOutcomes die g rep).obj Obj.predHits die = satAdd 64 (s.obj Obj.predHits die)
      (g.outcomes rep (true, true) + g.outcomes rep (false, false)) ∧
    (s.countOutcomes die g rep).obj Obj.predWasted die = satAdd 64 (s.obj Obj.predWasted die) (g.outcomes rep (true, false)) ∧
    (s.countOutcomes die g rep).obj Obj.predMakeup die = satAdd 64 (s.obj Obj.predMakeup die) (g.outcomes rep (false, true)) := by
  have other {i j : Nat} (ne : i ≠ j) : objKey i die ≠ objKey j die := objKey_ne_of_id hd hd ne
  unfold State.countOutcomes
  refine ⟨?_, ?_, ?_⟩
  · rw [State.obj_bump_ne (other (by decide)), State.obj_bump_ne (other (by decide)), State.obj_bump_ne (other (by decide)),
      State.obj_bump_of_bits (by decide : objBits Obj.predHits = 64)]
  · rw [State.obj_bump_ne (other (by decide)), State.obj_bump_ne (other (by decide)),
      State.obj_bump_of_bits (by decide : objBits Obj.predWasted = 64), State.obj_bump_ne (other (by decide))]
  · rw [State.obj_bump_of_bits (by decide : objBits Obj.predMakeup = 64), State.obj_bump_ne (other (by decide)),
      State.obj_bump_ne (other (by decide)), State.obj_bump_ne (other (by decide))]

/-! ## A report kept -/

/-- The report of a port's MRID kept: the port's queue goes on with what is left, a poisoned report is counted (R203). -/
def State.keepReport (s : State) (port rid : Nat) (rep : MaskRep) (rest : List EdgeFlit) : State :=
  let t : State := { s with
    fabric := { s.fabric with edge := putList s.fabric.edge port rest }
    streams := { s.streams with reports := tput s.streams.reports (65536 * port + rid) rep } }
  if rep.poison then t.bump Obj.streamPoisoned (stackOfPort port) 1 else t

/-- A stream of the report's MRID judged by it, unless it does not predict or has its report (R198, R205). -/
def State.judgeEntry (die : Nat) (rep : MaskRep) (t : State) (e : Nat × StreamRow) : State :=
  if e.2.pred = 3 ∨ (t.engine e.1).ended ∨ (t.engine e.1).passReport.isSome ∨ (tget t.streams.engines e.1).isNone then t
  else t.judgeStream e.1 die rep

/-- The streams of a port under an MRID. -/
def State.underMrid (s : State) (port rid : Nat) : List (Nat × StreamRow) :=
  (s.maskStreams port).filter (fun e => e.2.mrid == rid)

theorem exec_maskReport {s : State} {port : EdgeNo} {fs rest : List EdgeFlit} (up : s.up = true)
    (taken : takeReport ((s.maskStreams port.val).map (·.2.mrid)) ((tget s.fabric.edge port.val).getD []) = some (fs, rest)) :
    exec (.maskReport port) s = .next ((s.underMrid port.val (nth (fs.map (·.rid)) 0 0)).foldl
      (State.judgeEntry (stackOfPort port.val) { values := reportValues fs, poison := fs.any (·.flit.poison) })
      (s.keepReport port.val (nth (fs.map (·.rid)) 0 0) { values := reportValues fs, poison := fs.any (·.flit.poison) }
        rest)) := by
  show execMaskReport port s = _
  unfold execMaskReport
  rw [State.ifUp_of_up up]
  dsimp only
  rw [taken]
  rfl

theorem State.keepReport_spec (s : State) (port rid : Nat) (rep : MaskRep) (rest : List EdgeFlit) :
    (s.keepReport port rid rep rest).streams =
      { s.streams with reports := tput s.streams.reports (65536 * port + rid) rep } ∧
    (s.keepReport port rid rep rest).fabric = { s.fabric with edge := putList s.fabric.edge port rest } ∧
    (s.keepReport port rid rep rest).obj Obj.streamPoisoned (stackOfPort port) =
      (if rep.poison then satAdd 64 (s.obj Obj.streamPoisoned (stackOfPort port)) 1
        else s.obj Obj.streamPoisoned (stackOfPort port)) ∧
    s.OnlyRows (oneRow Obj.streamPoisoned (stackOfPort port))
      { s.keepReport port rid rep rest with fabric := s.fabric, streams := s.streams } := by
  unfold State.keepReport
  cases rep.poison with
  | false => exact ⟨rfl, rfl, rfl, .refl _ s⟩
  | true =>
    have counted : s.OnlyRows (oneRow Obj.streamPoisoned (stackOfPort port))
        (s.bump Obj.streamPoisoned (stackOfPort port) 1) := .bump (stackOfPort_lt port) ⟨rfl, rfl⟩
    exact ⟨rfl, rfl, State.obj_bump_of_bits (by decide) _ _ _, counted⟩

theorem State.obj_keepReport_ne {s : State} {id : Nat} (h : id ≠ Obj.streamPoisoned) (port rid : Nat) (rep : MaskRep)
    (rest : List EdgeFlit) {row : Nat} (hr : row < 2 ^ 20) : (s.keepReport port rid rep rest).obj id row = s.obj id row :=
  (s.keepReport_spec port rid rep rest).2.2.2.2.1 id row hr (fun here => h here.1)

/-! ## The streams of the report's MRID -/

/-- A state that differs in stream engines, and in the rows that judging a stream moves. -/
def State.Judged (die : Nat) (s t : State) : Prop :=
  t.streams.reports = s.streams.reports ∧
    s.OnlyRows (fun id row => reportRows die id row ∧ id ≠ Obj.streamPoisoned) { t with streams := s.streams }

theorem State.Judged.trans {die : Nat} {s t u : State} (h : s.Judged die t) (k : t.Judged die u) : s.Judged die u :=
  ⟨k.1.trans h.1, h.2.trans_streams k.2⟩

theorem State.judged_judgeEntry {die : Nat} (hd : die < 2 ^ 20) (rep : MaskRep) (s : State) (e : Nat × StreamRow) :
    s.Judged die (State.judgeEntry die rep s e) := by
  unfold State.judgeEntry
  split
  · exact ⟨rfl, .refl _ s⟩
  · rw [State.judgeStream_eq]
    exact ⟨rfl, (State.onlyRows_countOutcomes _ hd ..).withStreams s.streams⟩

theorem State.judged_foldl {die : Nat} (hd : die < 2 ^ 20) (rep : MaskRep) (es : List (Nat × StreamRow)) (s : State) :
    s.Judged die (es.foldl (State.judgeEntry die rep) s) := by
  induction es generalizing s with
  | nil => exact ⟨rfl, .refl _ s⟩
  | cons e es ih => exact (State.judged_judgeEntry hd rep s e).trans (ih _)

theorem State.judgeEntry_unpredicted {die : Nat} {rep : MaskRep} {s : State} {id : Nat} {r : StreamRow} (h : r.pred = 3) :
    State.judgeEntry die rep s (id, r) = s := if_pos (.inl h)

theorem State.judgeEntry_due {die : Nat} {rep : MaskRep} {s : State} {id : Nat} {r : StreamRow} {g : StreamEng}
    (engine : tget s.streams.engines id = some g) (pred : r.pred ≠ 3) (more : g.ended = false) (due : g.passReport = none) :
    State.judgeEntry die rep s (id, r) = (s.setEngine id (g.judged rep)).countOutcomes die g rep := by
  have decides : ¬(r.pred = 3 ∨ (s.engine id).ended = true ∨ (s.engine id).passReport.isSome = true ∨
      (tget s.streams.engines id).isNone = true) := by
    simp [State.engine_eq engine, pred, more, due, engine]
  rw [State.judgeEntry, if_neg decides, State.judgeStream_eq, State.engine_eq engine]

/-! ## The statement -/

/-- Settles O29: the report kept, and each stream of its MRID judged in turn. -/
theorem maskReportsJudgeThePredictions : Obligations.MaskReportsJudgeThePredictions := by
  unfold Obligations.MaskReportsJudgeThePredictions
  rintro port s fs rest _ _ up taken rfl rfl
  have run := exec_maskReport up taken
  generalize nth (fs.map (·.rid)) 0 0 = rid at run ⊢
  generalize ({ values := reportValues fs, poison := fs.any (·.flit.poison) } : MaskRep) = rep at run ⊢
  have die : stackOfPort port.val < 2 ^ 20 := stackOfPort_lt port.val
  obtain ⟨streams, fabric, poisoned, rows⟩ := s.keepReport_spec port.val rid rep rest
  refine ⟨⟨_, run, ?_⟩, fun id r g one engine => ?_⟩
  · obtain ⟨reports, judged⟩ := State.judged_foldl die rep (s.underMrid port.val rid) (s.keepReport port.val rid rep rest)
    generalize (s.underMrid port.val rid).foldl _ _ = t at reports judged
    rw [streams] at reports
    refine ⟨?_, fun k other => ?_, ?_, ?_, ?_⟩
    · rw [reports, tget_tput_self]
    · rw [reports, tget_tput_ne (Ne.symm other)]
    · rw [← fabric]
      exact (congrArg State.fabric judged.1 :)
    · rw [← poisoned]
      exact judged.2.1 _ _ die (fun here => here.2 rfl)
    · refine (rows.mono fun id row here => ?_).trans
        (((judged.withStreams s.streams).withFabric s.fabric).mono fun _ _ here => here.1)
      exact ⟨here.2, by rw [here.1]; decide⟩
  · have alone : s.underMrid port.val rid = [(id, r)] := one
    rw [alone, List.foldl_cons, List.foldl_nil] at run
    have kept : tget (s.keepReport port.val rid rep rest).streams.engines id = some g := by rw [streams]; exact engine
    refine ⟨fun last => ⟨_, run, ?_⟩, fun pred more due => ⟨_, g.judged rep, run, ?_⟩⟩
    · rw [State.judgeEntry_unpredicted last, kept]
    · rw [State.judgeEntry_due kept pred more due]
      obtain ⟨hits, waste, makeup⟩ :=
        State.obj_countOutcomes ((s.keepReport port.val rid rep rest).setEngine id (g.judged rep)) die g rep
      refine ⟨tget_tput_self .., rfl, rfl, by simp [StreamEng.judged], fun k l m hl hm none_ kind => ?_,
        fun k l m b hl hm some_ => ?_, ?_, ?_, ?_⟩
      · obtain rfl := Option.some.inj ((g.judged_leas hl rep).symm.trans hm)
        exact Lea.judge_undecided none_ kind rep
      · obtain rfl := Option.some.inj ((g.judged_leas hl rep).symm.trans hm)
        rw [Lea.judge_decided some_]
      · rw [hits, ← g.outcomes_hit]
        exact congrArg (satAdd 64 · _) (State.obj_keepReport_ne (by decide) _ _ _ _ die)
      · rw [waste, ← g.outcomes_waste]
        exact congrArg (satAdd 64 · _) (State.obj_keepReport_ne (by decide) _ _ _ _ die)
      · rw [makeup, ← g.outcomes_makeup]
        exact congrArg (satAdd 64 · _) (State.obj_keepReport_ne (by decide) _ _ _ _ die)

end Sys2Proof.Machine
end

section
/-! SUPPORT. How a stream starts and what each descriptor it reads does to its engine, and the statement about both (O30). -/

namespace Sys2Proof.Machine

/-! ## Starting -/

/-- The least of some numbers is the start or one of them. -/
theorem foldl_min_attained {α : Type} (f : α → Nat) : ∀ (l : List α) (m : Nat),
    l.foldl (fun m e => min m (f e)) m = m ∨ ∃ e ∈ l, l.foldl (fun m e => min m (f e)) m = f e
  | [], m => .inl rfl
  | a :: l, m => by
    rw [List.foldl_cons]
    rcases foldl_min_attained f l (min m (f a)) with start | ⟨e, mem, attained⟩
    · rcases Nat.le_total m (f a) with low | high
      · exact .inl (start.trans (Nat.min_eq_left low))
      · exact .inr ⟨a, List.mem_cons_self, start.trans (Nat.min_eq_right high)⟩
    · exact .inr ⟨e, List.mem_cons_of_mem a mem, attained⟩

/-- The least of some numbers is no larger than the start or than any of them. -/
theorem foldl_min_lower {α : Type} (f : α → Nat) (l : List α) (m : Nat) :
    l.foldl (fun m e => min m (f e)) m ≤ m ∧ ∀ e ∈ l, l.foldl (fun m e => min m (f e)) m ≤ f e := by
  have lower := foldl_min_le id (l.map f) m
  simpa [List.foldl_map] using lower

/-- The engine of a stream that starts: its depth and buffer limit from the openings, its reading from DBASE (R181, R182). -/
def State.startedEngine (s : State) (id : Nat) (r : StreamRow) (g : StreamEng) : StreamEng :=
  let depth := g.opened.foldl (fun m o => min m o.2.1) 256
  let limit := g.opened.foldl (fun m o => min m o.2.2) (2 ^ 18)
  { g with
    running := true, depth := depth, bufLimit := limit, credits := depth
    pad := padCycles depth (s.maxPayload r.die id limit (s.descCount r.die) [r.dbase] [] 0)
    dptr := r.dbase, stopped := false, seq := 0, leas := [], leaving := 0, epochs := [], releases := [] }

section Start

variable {s : State} {stream : W16} {r : StreamRow} {g : StreamEng} (up : s.up = true)
  (row : s.streamRow? stream.toNat = some r) (engine : tget s.streams.engines stream.toNat = some g)
  (idle : g.running = false) (more : g.ended = false)
  (reported : ∀ d ∈ (s.shape r.shape).dests, ∃ o ∈ g.opened, o.1 = d)
include up row engine idle more reported

theorem exec_streamStart : exec (.streamStart stream) s =
    .next (if 64 ≤ (s.running r.die).length then s else s.setEngine stream.toNat (s.startedEngine stream.toNat r g)) := by
  have all : ((s.shape r.shape).dests.all (fun d => g.opened.any (fun o => o.1 == d))) = true := by simpa using reported
  show execStreamStart stream s = _
  unfold execStreamStart
  rw [State.ifUp_of_up up, row, engine]
  dsimp only
  rw [idle, more, all]
  rfl

end Start

/-! ## A descriptor read -/

section Reads

variable {s : State} {stream : W16} {r : StreamRow} {g : StreamEng} (up : s.up = true)
  (row : s.streamRow? stream.toNat = some r) (engine : tget s.streams.engines stream.toNat = some g)
  (running : g.running = true) (more : g.ended = false) (reads : g.stopped = false)
include up row engine running more reads

theorem exec_descriptorRead : exec (.descriptorRead stream) s = .next (s.readDesc stream.toNat r g) := by
  show execDescriptorRead stream s = _
  unfold execDescriptorRead
  rw [State.ifUp_of_up up, State.engine_eq engine, row]
  dsimp only
  rw [running, more, reads]
  rfl

end Reads

theorem State.readDesc_full {s : State} {r : StreamRow} (full : 2048 ≤ s.inFlight r.die) (id : Nat) (g : StreamEng) :
    s.readDesc id r g = s := if_pos full

section Descriptor

variable {s : State} {id : Nat} {r : StreamRow} {g : StreamEng} (room : s.inFlight r.die < 2048)
include room

theorem State.readDesc_bad (bad : 4 < (s.desc r.die g.dptr).dkind ∨ (s.desc r.die g.dptr).stream ≠ id) :
    s.readDesc id r g = s.readBad id r g := by
  unfold State.readDesc
  dsimp only
  rw [if_neg (Nat.not_le.mpr room), if_pos bad]

variable (own : (s.desc r.die g.dptr).stream = id)
include own

theorem State.readDesc_end (kind : (s.desc r.die g.dptr).dkind = 4) (near : g.beyond < 64) :
    s.readDesc id r g = s.takeLeas id r.die { g with stopped := true } [endLea g 1] g.dptr := by
  unfold State.readDesc
  dsimp only
  rw [if_neg (Nat.not_le.mpr room), if_neg (by omega), if_pos kind, if_neg (Nat.not_le.mpr near)]

theorem State.readDesc_branch (kind : (s.desc r.die g.dptr).dkind = 3) :
    s.readDesc id r g = s.readBranch id r g (s.desc r.die g.dptr) := by
  unfold State.readDesc
  dsimp only
  rw [if_neg (Nat.not_le.mpr room), if_neg (by omega), if_neg (by omega), if_pos kind]

theorem State.readDesc_fetch (kind : (s.desc r.die g.dptr).dkind ≤ 2) :
    s.readDesc id r g = s.readFetch id r g (s.desc r.die g.dptr) := by
  unfold State.readDesc
  dsimp only
  rw [if_neg (Nat.not_le.mpr room), if_neg (by omega), if_neg (by omega), if_neg (by omega)]

end Descriptor

theorem State.readBad_takes {r : StreamRow} {g : StreamEng} (credit : 0 < g.credits) (near : g.beyond < 64) (s : State)
    (id : Nat) :
    s.readBad id r g = s.takeLeas id r.die { g with stopped := true }
      [{ kind := .badKind, poison := true, fetched := true, depends := g.epochs.map (·.number) }, endLea g 0] g.dptr :=
  if_neg (by omega)

/-! ## Leas appended -/

theorem State.engine_takeLeas (s : State) (id die : Nat) (g : StreamEng) (ls : List Lea) (next : Nat) :
    tget (s.takeLeas id die g ls next).streams.engines id = some { g with
      leas := g.leas ++ ls, credits := g.credits - (ls.filter (fun l => l.kind != .fin)).length, dptr := next } :=
  tget_tput_self ..

/-- A lea that is not the END lea takes one credit (R182). -/
theorem State.engine_takeLeas_one {l : Lea} (h : l.kind ≠ .fin) (s : State) (id die : Nat) (g : StreamEng) (next : Nat) :
    tget (s.takeLeas id die g [l] next).streams.engines id = some { g with
      leas := g.leas ++ [l], credits := g.credits - 1, dptr := next } := by
  rw [State.engine_takeLeas, List.filter_cons_of_pos (by simpa using h)]
  rfl

/-- Leas appended move the stream's engine and DESC_PEAK alone. -/
theorem State.onlyRows_takeLeas (s : State) (id : Nat) {die : Nat} (hd : die < 2 ^ 20) (g : StreamEng) (ls : List Lea)
    (next : Nat) : s.OnlyRows (oneRow Obj.descPeak die) { s.takeLeas id die g ls next with streams := s.streams } :=
  (State.OnlyRows.setObj hd ⟨rfl, rfl⟩).withStreams s.streams

theorem State.obj_takeLeas_ne {s : State} {o : Nat} (h : o ≠ Obj.descPeak) (id : Nat) {die : Nat} (hd : die < 2 ^ 20)
    (g : StreamEng) (ls : List Lea) (next : Nat) : (s.takeLeas id die g ls next).obj o die = s.obj o die :=
  (s.onlyRows_takeLeas id hd g ls next).2.1 o die hd (fun here => h here.1)

/-- Leas appended with a counter of the die advanced. -/
theorem State.bump_takeLeas (s : State) {o w n : Nat} (width : objBits o = w) (other : o ≠ Obj.descPeak) (id : Nat) {die : Nat}
    (hd : die < 2 ^ 20) (g : StreamEng) (ls : List Lea) (next : Nat) :
    ((s.bump o die n).takeLeas id die g ls next).obj o die = satAdd w (s.obj o die) n ∧
      s.OnlyRows (fun i row => row = die ∧ i ∈ [o, Obj.descPeak])
        { (s.bump o die n).takeLeas id die g ls next with streams := s.streams } := by
  refine ⟨?_, (State.OnlyRows.bump hd ⟨rfl, List.mem_cons_self⟩).trans
    (((s.bump o die n).onlyRows_takeLeas id hd g ls next).mono fun i row here => ⟨here.2, ?_⟩)⟩
  · rw [State.obj_takeLeas_ne other id hd, State.obj_bump_of_bits width]
  · rw [here.1]
    exact List.mem_cons_of_mem _ List.mem_cons_self

/-! ## Descriptors of the FETCH kinds -/

/-- The lea of a descriptor that passes its checks, selected or predicted (R198, R199). -/
def State.readLea (s : State) (r : StreamRow) (g : StreamEng) (d : Desc) (sel : Option Bool) : Lea :=
  let l := leaOf (s.leaDescs r.die g.bufLimit d g.dptr) d (g.epochs.map (·.number)) g.newest
  match sel with
  | some act => l.selected act
  | none => { l with active := none, predicted := s.predicts r d.group }

theorem State.readLea_kind (s : State) (r : StreamRow) (g : StreamEng) (d : Desc) (sel : Option Bool) :
    (s.readLea r g d sel).kind = if d.dkind = 0 then .data else .group := by cases sel <;> rfl

theorem State.readLea_not_end (s : State) (r : StreamRow) (g : StreamEng) (d : Desc) (sel : Option Bool) :
    (s.readLea r g d sel).kind ≠ .fin := by
  rw [State.readLea_kind]
  split <;> exact nofun

theorem State.takeFetch_good {s : State} {r : StreamRow} {g : StreamEng} {d : Desc}
    (good : s.descFault r.die g.bufLimit d = none) (id : Nat) (sel : Option Bool) :
    s.takeFetch id r g d sel =
      (s.bump Obj.streamMerged r.die ((s.leaDescs r.die g.bufLimit d g.dptr).length - 1)).takeLeas id r.die g
        [s.readLea r g d sel] (descAt g.dptr (s.leaDescs r.die g.bufLimit d g.dptr).length) := by
  unfold State.takeFetch
  dsimp only
  rw [good]
  rfl

theorem State.takeFetch_rejected {s : State} {r : StreamRow} {g : StreamEng} {d : Desc} {code : Nat}
    (bad : s.descFault r.die g.bufLimit d = some code) (id : Nat) (sel : Option Bool) :
    s.takeFetch id r g d sel = (s.bump Obj.streamRejects r.die 1).takeLeas id r.die g
      [{ (leaOf (s.leaDescs r.die g.bufLimit d g.dptr) d (g.epochs.map (·.number)) g.newest).rejected code with
        active := sel.map (fun _ => true) }] (descAt g.dptr 1) := by
  unfold State.takeFetch
  dsimp only
  rw [bad]

/-- A group's lea is of its descriptor alone (R192). -/
theorem State.leaDescs_group {d : Desc} (group : d.dkind ≠ 0) (s : State) (stack limit a : Nat) :
    s.leaDescs stack limit d a = [d] := if_neg (fun here => group here.1)

theorem totalLines_single (d : Desc) : totalLines [d] = d.lines := Nat.zero_add _

section Fetch

variable {s : State} {id : Nat} {r : StreamRow} {g : StreamEng} {d : Desc}

theorem State.readFetch_empty (empty : d.lines = 0) :
    s.readFetch id r g d = s.setEngine id { g with dptr := descAt g.dptr 1 } := if_pos empty

variable (lines : d.lines ≠ 0)
include lines

theorem State.readFetch_data (fetch : d.dkind = 0)
    (may : s.mayTake id r g (totalLines (s.leaDescs r.die g.bufLimit d g.dptr))
      (s.leaDescs r.die g.bufLimit d g.dptr).length = true) :
    s.readFetch id r g d = s.takeFetch id r g d (some true) := by
  unfold State.readFetch
  dsimp only
  rw [if_neg lines, may, if_pos fetch]
  rfl

variable (group : d.dkind ≠ 0) (may : s.mayTake id r g d.lines 1 = true)
include group may

theorem State.readFetch_group : s.readFetch id r g d =
    match s.selection r g with
    | some rep => s.takeFetch id r g d (some (rep.active d.group))
    | none =>
      if r.pred = 0 ∨ r.pred = 3 then s
      else if 16 ≤ g.epochs.length then s
      else (s.openEpoch r.die g none).1.takeFetch id r (s.openEpoch r.die g none).2 d none := by
  unfold State.readFetch
  dsimp only
  rw [if_neg lines, State.leaDescs_group group, totalLines_single, List.length_singleton, may, if_neg group]
  rfl

end Fetch

/-! ## Epochs and branches -/

theorem State.nextEpoch_range (s : State) (die : Nat) : 1 ≤ s.nextEpoch die ∧ s.nextEpoch die ≤ 255 := by
  unfold State.nextEpoch
  omega

/-- A group predicted: its lea under a new epoch (R199). -/
theorem State.predicts_group {s : State} {r : StreamRow} {g : StreamEng} {d : Desc} (group : d.dkind ≠ 0)
    (good : s.descFault r.die g.bufLimit d = none) (id : Nat) :
    ∃ h l, tget ((s.openEpoch r.die g none).1.takeFetch id r (s.openEpoch r.die g none).2 d none).streams.engines id = some h ∧
      h.leas = g.leas ++ [l] ∧ h.credits = g.credits - 1 ∧ h.dptr = descAt g.dptr 1 ∧
      h.epochs = g.epochs ++ [{ number := s.nextEpoch r.die, branch := none }] ∧ l.kind = .group ∧ l.active = none ∧
      l.predicted = s.predicts r d.group ∧ l.epoch = s.nextEpoch r.die ∧
      l.depends = g.epochs.map (·.number) ++ [s.nextEpoch r.die] := by
  rw [State.takeFetch_good (s := (s.openEpoch r.die g none).1) (g := (s.openEpoch r.die g none).2) good,
    State.leaDescs_group group, State.engine_takeLeas_one (State.readLea_not_end _ _ _ _ _)]
  refine ⟨_, _, rfl, rfl, rfl, rfl, rfl, ?_, rfl, rfl, ?_, ?_⟩
  · rw [State.readLea_kind, if_neg group]
  · simp [State.readLea, leaOf, State.openEpoch, StreamEng.newest]
  · simp [State.readLea, leaOf, State.openEpoch]

section Branch

variable {s : State} {r : StreamRow} {d : Desc}

theorem State.readBranch_decided {w : W32} (decided : tget s.streams.relayed (BitVec.ofNat 16 d.layer).toNat = some w) (id : Nat)
    (g : StreamEng) : s.readBranch id r g d = s.setEngine id { g with
      dptr := if w.getLsbD d.bit then descAt g.dptr d.offset else descAt g.dptr 1 } := by
  unfold State.readBranch
  dsimp only
  rw [decided]

variable (undecided : tget s.streams.relayed (BitVec.ofNat 16 d.layer).toNat = none) (id : Nat) {g : StreamEng}
include undecided

theorem State.readBranch_waits (full : 16 ≤ g.epochs.length) : s.readBranch id r g d = s := by
  unfold State.readBranch
  dsimp only
  rw [undecided]
  exact if_pos full

/-- A BRANCH not decided is followed as predicted, under a new epoch that keeps the other target (R199, R200). -/
theorem State.readBranch_predicts (room : g.epochs.length < 16) :
    ∃ h, s.readBranch id r g d = { s with streams := { s.streams with
        engines := tput s.streams.engines id h
        lastEpoch := tput s.streams.lastEpoch r.die (s.nextEpoch r.die) } } ∧
      h.epochs.length = g.epochs.length + 1 ∧ h.newest = s.nextEpoch r.die ∧ h.leas = g.leas ∧
      h.dptr = if d.predict then descAt g.dptr d.offset else descAt g.dptr 1 := by
  unfold State.readBranch
  dsimp only
  rw [undecided]
  dsimp only
  rw [if_neg (Nat.not_le.mpr room)]
  exact ⟨_, rfl, by simp [State.openEpoch], by simp [State.openEpoch, StreamEng.newest], rfl, rfl⟩

end Branch

/-! ## The statement -/

/-- Settles O30: the engine of a stream that starts, and one lemma for each kind of descriptor it reads. -/
theorem streamsStartAndReadTheirDescriptors : Obligations.StreamsStartAndReadTheirDescriptors := by
  unfold Obligations.StreamsStartAndReadTheirDescriptors
  intro stream s r g up row engine
  have die : r.die < 2 ^ 20 := stackOfPort_lt r.port
  refine ⟨fun idle more reported => ⟨fun few => ?_, fun many => ?_⟩, fun d running more reads at_ => ?_⟩
  · have start := exec_streamStart up row engine idle more reported
    rw [if_neg (Nat.not_le.mpr few)] at start
    obtain ⟨below, least⟩ := foldl_min_lower (fun o : Nat × Nat × Nat => o.2.1) g.opened 256
    exact ⟨_, _, _, start, tget_tput_self .., rfl, below, least, foldl_min_attained ..,
      (foldl_min_lower (fun o : Nat × Nat × Nat => o.2.2) g.opened (2 ^ 18)).2, rfl, rfl, rfl, rfl, rfl, rfl, rfl, rfl⟩
  · rw [exec_streamStart up row engine idle more reported, if_pos many]
  subst at_
  rw [exec_descriptorRead up row engine running more reads]
  refine ⟨fun full => ?_, fun room bad credit near => ?_, fun room own => ⟨fun kind near => ?_, fun kind empty => ?_,
    fun ds kind lines leas may => ⟨fun good => ?_, fun code bad => ?_⟩,
    fun kind lines may good => ?_,
    fun w kind decided => ?_, fun kind undecided => ⟨fun few => ?_, fun full => ?_⟩⟩⟩
  · rw [State.readDesc_full full]
  · rw [State.readDesc_bad room bad, State.readBad_takes credit near]
    exact ⟨_, _, rfl, State.engine_takeLeas .., rfl, rfl, rfl, State.onlyRows_takeLeas _ _ die ..⟩
  · rw [State.readDesc_end room own kind near]
    exact ⟨_, rfl, State.engine_takeLeas .., State.onlyRows_takeLeas _ _ die ..⟩
  · rw [State.readDesc_fetch room own kind, State.readFetch_empty empty]
  · subst leas
    rw [State.readDesc_fetch room own (by omega), State.readFetch_data lines kind may, State.takeFetch_good good]
    refine ⟨_, _, rfl, State.engine_takeLeas_one (State.readLea_not_end _ _ _ _ _) .., ?_, rfl, rfl, rfl, rfl, rfl, rfl, rfl,
      State.bump_takeLeas s (by decide : objBits Obj.streamMerged = 64) (by decide) _ die ..⟩
    rw [State.readLea_kind, if_pos kind]
  · subst leas
    rw [State.readDesc_fetch room own (by omega), State.readFetch_data lines kind may, State.takeFetch_rejected bad]
    exact ⟨_, _, rfl, State.engine_takeLeas .., rfl, rfl, rfl, rfl,
      State.bump_takeLeas s (by decide : objBits Obj.streamRejects = 32) (by decide) _ die ..⟩
  · have group : (s.desc r.die g.dptr).dkind ≠ 0 := by omega
    rw [State.readDesc_fetch room own (by omega), State.readFetch_group lines group may]
    refine ⟨fun rep sel => ?_, fun sel pred few => ?_, fun sel waits => ?_⟩
    · rw [sel]
      dsimp only
      rw [State.takeFetch_good good, State.leaDescs_group group]
      refine ⟨_, _, rfl, State.engine_takeLeas_one (State.readLea_not_end _ _ _ _ _) .., ?_, rfl, rfl⟩
      rw [State.readLea_kind, if_neg group]
    · rw [sel]
      dsimp only
      rw [if_neg (by omega), if_neg (Nat.not_le.mpr few)]
      obtain ⟨h, l, engine', leas, credits, dptr, epochs, spec⟩ := State.predicts_group group good stream.toNat
      obtain ⟨low, high⟩ := s.nextEpoch_range r.die
      exact ⟨_, h, l, _, rfl, engine', leas, credits, dptr, epochs, low, high, spec⟩
    · rw [sel]
      dsimp only
      split
      · rfl
      · rw [if_pos (by omega)]
  · rw [State.readDesc_branch room own kind, State.readBranch_decided decided]
  · rw [State.readDesc_branch room own kind]
    obtain ⟨h, e, len, newest, leas, dptr⟩ := State.readBranch_predicts (r := r) undecided stream.toNat few
    obtain ⟨low, high⟩ := s.nextEpoch_range r.die
    rw [e]
    exact ⟨_, h, _, rfl, tget_tput_self .., low, high, tget_tput_self .., len, newest, leas, dptr, rfl⟩
  · rw [State.readDesc_branch room own kind, State.readBranch_waits undecided _ full]

end Sys2Proof.Machine
end

section
/-! SUPPORT. What a read of the fast tier's lines reports while the module steps, and what a lea's fetch does to its stream: the
first part of the statement about leas sent (O31). -/

namespace Sys2Proof.Machine

/-! ## Reads of the fast tier that report errors -/

/-- The rows of a fault record (R352, R353). -/
def recordRows : Nat → Nat → Prop := Machine.rowsOf [Obj.faultLog, Obj.faultSeqLast, Obj.faultReports]

/-- A state that differs in fault records and in what the fault unit knows. -/
def State.Reports (s t : State) : Prop := s.OnlyRows recordRows { t with faults := s.faults }

theorem State.reports_faults (s : State) (f : Faults) : s.Reports { s with faults := f } := State.OnlyRows.refl _ s

theorem State.reports_refl (s : State) : s.Reports s := State.OnlyRows.refl _ s

theorem State.OnlyRows.withFaults {ch : Nat → Nat → Prop} {s t : State} (h : s.OnlyRows ch t) (f : Faults) :
    ({ s with faults := f } : State).OnlyRows ch { t with faults := f } :=
  ⟨congrArg (fun w : State => { w with faults := f }) h.1, h.2.1, h.2.2⟩

theorem State.Reports.trans {s t u : State} (h : s.Reports t) (k : t.Reports u) : s.Reports u :=
  State.OnlyRows.trans h (State.OnlyRows.withFaults k s.faults)

theorem State.onlyRows_fault (s : State) (code unit detail : Nat) : s.OnlyRows recordRows (s.fault code unit detail) :=
  .fault (fun _ => by simp [recordRows, Machine.rowsOf]) (by simp [recordRows, Machine.rowsOf])
    (by simp [recordRows, Machine.rowsOf])

theorem State.reports_fault (s : State) (code unit detail : Nat) : s.Reports (s.fault code unit detail) :=
  (s.onlyRows_fault code unit detail).withFaults s.faults

/-- Reports do not end a step. -/
theorem State.Reports.stepping {s t : State} (h : s.Reports t) (steps : s.stepping = true) : t.stepping = true := by
  have status : t.obj Obj.stepStatus 0 = s.obj Obj.stepStatus 0 :=
    h.2.1 Obj.stepStatus 0 (by decide) (by unfold recordRows Machine.rowsOf; decide)
  unfold State.stepping State.phase State.field at *
  rwa [status]

/-- What each step of a fold reports, the fold reports. -/
theorem State.reports_foldl {β : Type} {f : State → β → State} (each : ∀ (t : State) (b : β), t.stepping = true → t.Reports (f t b)) :
    ∀ (bs : List β) {s : State}, s.stepping = true → s.Reports (bs.foldl f s)
  | [], s, _ => s.reports_refl
  | b :: bs, s, steps =>
    have first := each s b steps
    first.trans (State.reports_foldl each bs (first.stepping steps))

section Stepping

variable {s : State} (steps : s.stepping = true)
include steps

/-- A unit that becomes permanent in a step leaves at the STEP boundary (R351): nothing else moves now. -/
theorem State.reports_occurrence (u : UnitId) : s.Reports (s.occurrence u) := by
  unfold State.occurrence
  dsimp only
  split
  · exact s.reports_faults _
  · split
    · split
      · exact s.reports_faults _
      · next idle => exact absurd steps idle
    · exact s.reports_faults _

theorem State.reports_faultOf (code unit detail : Nat) (u : UnitId) : s.Reports ((s.fault code unit detail).occurrence u) := by
  have record := s.reports_fault code unit detail
  exact record.trans (State.reports_occurrence (record.stepping steps) u)

/-- Too many retried reads of a unit within a second are an occurrence (R347). -/
theorem State.reports_rated (rates : SMap (Nat × Nat)) (c : Prop) [Decidable c] (code unit : Nat) (u : UnitId) :
    s.Reports (let t : State := { s with faults := { s.faults with eccRate := rates } }
      if c then (t.fault code unit 0).occurrence u else t) := by
  have counted := s.reports_faults { s.faults with eccRate := rates }
  dsimp only
  split
  · exact counted.trans (State.reports_faultOf (counted.stepping steps) ..)
  · exact counted

theorem State.reports_retried (u : UnitId) (code n : Nat) : s.Reports (s.retried u code n) := by
  unfold State.retried
  split
  · exact s.reports_refl
  · exact State.reports_rated steps ..

theorem State.reports_noteRead (e : ReadErr) : s.Reports (s.noteRead e) := by
  have retried := State.reports_retried steps e.unit ((if e.slow then 0x9000 else 0x5000) + 0x101) 1
  unfold State.noteRead
  dsimp only
  split
  · exact retried.trans (State.reports_faultOf (retried.stepping steps) ..)
  · exact retried.trans (State.reports_faults ..)

theorem State.reports_checkRead (slow : Bool) (a n : Nat) : s.Reports (s.checkRead slow a n) :=
  State.reports_foldl (fun _ e h => State.reports_noteRead h e) _ steps

theorem State.reports_readPoison (die : Nat) (addrs : List Nat) : s.Reports (s.readPoison die addrs) :=
  State.reports_foldl (fun _ _ h => State.reports_faultOf h ..) _ steps

end Stepping

/-- The errors that the reads of some lines find, and the retried and the poisoned reads that a command names (R347, R377). -/
def State.noteReads (s : State) (die : Nat) (chans addrs poisoned : List Nat) : State :=
  (addrs.foldl (fun t a => t.checkRead false a 64)
    (chans.foldl (fun t c => t.retried (unitId lvChannel c) 0x5101 1) s)).readPoison die poisoned

theorem State.checkRead_of_none {s : State} (h : s.faults.readErrs = []) (slow : Bool) (a n : Nat) : s.checkRead slow a n = s := by
  unfold State.checkRead
  rw [h]
  rfl

/-- Reads in which nothing is wrong report nothing. -/
theorem State.noteReads_of_none {s : State} (h : s.faults.readErrs = []) (die : Nat) (addrs : List Nat) :
    s.noteReads die [] addrs [] = s := by
  have checked : addrs.foldl (fun t a => t.checkRead false a 64) s = s :=
    foldl_of_fixed fun a _ => State.checkRead_of_none h false a 64
  exact checked

theorem State.reports_noteReads {s : State} (steps : s.stepping = true) (die : Nat) (chans addrs poisoned : List Nat) :
    s.Reports (s.noteReads die chans addrs poisoned) := by
  have retried := State.reports_foldl (fun _ c h => State.reports_retried h (unitId lvChannel c) 0x5101 1) chans steps
  have checked := retried.trans
    (State.reports_foldl (fun _ a h => State.reports_checkRead h false a 64) addrs (retried.stepping steps))
  exact checked.trans (State.reports_readPoison (checked.stepping steps) die poisoned)

/-! ## A dense part delivered unconverted -/

/-- A list cut into rows is its rows one after the other. -/
theorem flatten_chunks {α : Type} {n : Nat} (hn : 0 < n) : ∀ (fuel : Nat) (l : List α), l.length ≤ fuel →
    (chunks n fuel l).flatten = l
  | 0, l, h => (List.eq_nil_of_length_eq_zero (Nat.le_zero.mp h)).symm
  | _ + 1, [], _ => rfl
  | fuel + 1, x :: l, h => by
    have rest : ((x :: l).drop n).length ≤ fuel := by
      rw [List.length_drop, List.length_cons] at *
      omega
    have cut : chunks n (fuel + 1) (x :: l) = (x :: l).take n :: chunks n fuel ((x :: l).drop n) := rfl
    rw [cut, List.flatten_cons, flatten_chunks hn fuel _ rest, List.take_append_drop]

theorem hankLines_pos {sfmt : Nat} (pair : streamPairOk sfmt sfmt = true) : 0 < hankLines sfmt := by
  have stored : sfmt = 0 ∨ sfmt = 1 := by
    unfold streamPairOk at pair
    simp only [Bool.or_eq_true, Bool.and_eq_true, beq_iff_eq] at pair
    omega
  rcases stored with rfl | rfl <;> decide

/-- The uncorrectable places of a read that reads all of them are those the command names. -/
theorem State.fastLines_within (s : State) (a n : Nat) (bad : List Nat) :
    s.fastLines a n (within bad 0 n) = s.fastLines a n bad := by
  refine List.map_congr_left fun i hi => ?_
  have here : (within bad 0 n).contains i = bad.contains i := by
    have below : i < n := List.mem_range.mp hi
    simp [within, List.contains_eq_mem, below]
  rw [here]

/-- A dense part that is not converted is delivered line by line (R187). -/
theorem State.fetchPart_plain {s : State} {l : Lea} (dense : l.maskmode = 0) (plain : l.orient = false)
    (same : l.sfmt = l.format) (pair : streamPairOk l.sfmt.toNat l.format.toNat = true) (die seed base : Nat)
    (bad : List Nat) (part : Nat × Nat × Nat) :
    (s.fetchPart die l seed base bad part).1 = s.fastLines (s.partAddr die l part) part.2.2 bad := by
  have delivered (b : Nat) (ls : List Line) : deliverHank l.sfmt.toNat l.format.toNat l.orient seed b ls = (ls, {}) :=
    if_pos ⟨by rw [same], by rw [plain]; decide, pair⟩
  have lines : (s.fastLines (s.partAddr die l part) part.2.2 bad).length ≤ part.2.2 + 1 := by
    simp [State.fastLines]
  unfold State.fetchPart
  dsimp only
  rw [if_pos dense]
  simp only [delivered]
  rw [← same] at pair
  have cut (ls : List (List Line)) : (ls.mapIdx (fun _ ls => (ls, ({} : Counts)))).map (·.1) = ls :=
    List.ext_getElem? fun i => by simp [Function.comp_def]
  rw [List.flatMap_def, cut, flatten_chunks (hankLines_pos pair) _ _ lines]

/-! ## A lea fetched -/

/-- The places of a lea's source lines where an error stands that no retry overcomes. -/
def State.stuckLines (s : State) (die : Nat) (l : Lea) : List Nat :=
  (List.range (s.lineAddrs die l).length).filter (fun k => s.unreadable false (nth (s.lineAddrs die l) k 0))

/-- What a lea's parts read as. -/
def State.partsRead (s : State) (die : Nat) (l : Lea) (bad : List Nat) : List (List Line × Counts) :=
  s.fetchParts die l (s.free + 1) (bad ++ s.stuckLines die l) 0 0 l.parts

/-- The lea with its payload complete in staging. -/
def State.fetchedLea (s : State) (die : Nat) (l : Lea) (bad : List Nat) : Lea :=
  let rs := s.partsRead die l bad
  let payload := rs.flatMap (·.1)
  let counts : Counts := rs.foldl (fun c r => Counts.add c r.2) {}
  { l with
    fetched := true, payload := payload, paylen := payload.length, poison := payload.any (·.poison)
    segcount := if l.maskmode = 0 then 0 else l.parts.length
    epoch := if l.confirmed then 0 else l.epoch
    flush := counts.flush, sat := counts.sat, nonfinite := counts.nonfinite
    readAvg := l.parts.any (s.readsAvg die l)
    readLive := s.readsAverages && l.parts.any (fun p => !s.readsAvg die l p) }

/-- The state with a lea's payload in staging, before what its reads found is reported. -/
def State.staged (s : State) (id die i : Nat) (l : Lea) (retries : Nat) (bad : List Nat) : State :=
  (s.drew (1 + retries)).setEngine id { s.engine id with leas := setNth (s.engine id).leas i (s.fetchedLea die l bad) }

theorem State.fetchLea_eq (s : State) (id die i : Nat) (l : Lea) (retries : Nat) (bad : List Nat) :
    s.fetchLea id die i l retries bad =
      (s.staged id die i l retries bad).noteReads die (retriedChannels (s.free + 1) die (s.lineAddrs die l) retries)
        (s.lineAddrs die l) (bad.filterMap (fun k => (s.lineAddrs die l)[k]?)) := rfl

/-- A lea of one dense part that is not converted, read where it stands: its payload is its source lines. -/
theorem State.payload_plain {s : State} {die : Nat} {l : Lea} {n src lines : Nat} (parts : l.parts = [(n, src, lines)])
    (dense : l.maskmode = 0) (plain : l.orient = false) (same : l.sfmt = l.format)
    (pair : streamPairOk l.sfmt.toNat l.format.toNat = true) (live : s.readsAverages = false) (clean : s.faults.readErrs = [])
    (bad : List Nat) : (s.fetchedLea die l bad).payload = s.fastLines (die * 2 ^ 36 + src % 2 ^ 36) lines bad := by
  have stuck : s.stuckLines die l = [] := by
    unfold State.stuckLines State.unreadable
    rw [clean]
    simp
  have addr : s.partAddr die l (n, src, lines) = die * 2 ^ 36 + src % 2 ^ 36 := by
    unfold State.partAddr
    rw [live]
    exact if_neg (by simp)
  show (s.partsRead die l bad).flatMap (·.1) = _
  unfold State.partsRead
  rw [stuck, List.append_nil, parts, State.fetchParts, State.fetchParts, List.flatMap_singleton,
    State.fetchPart_plain dense plain same pair, addr, State.fastLines_within]

section Fetch

variable {s : State} {stream : W16} {r : StreamRow} {g : StreamEng} {i : Nat} {l : Lea} (up : s.up = true)
  (row : s.streamRow? stream.toNat = some r) (engine : tget s.streams.engines stream.toNat = some g)
  (due : g.leas.findIdx? Lea.wantsFetch = some i) (lea : g.leas[i]? = some l)
include up row engine due lea

theorem exec_leaFetch (retries : Nat) (bad : List Nat) :
    exec (.leaFetch stream retries bad) s = .next (s.fetchLea stream.toNat r.die i l retries bad) := by
  show execLeaFetch stream retries bad s = _
  unfold execLeaFetch
  rw [State.ifUp_of_up up, State.engine_eq engine, row]
  dsimp only
  rw [due]
  dsimp only
  rw [lea]
  rfl

end Fetch

/-- A fetch puts the lea into its stream and reports what its reads found; outside a step it finds nothing. -/
theorem State.reports_fetchLea {s : State} {retries : Nat} {bad : List Nat}
    (calm : s.stepping = true ∨ (retries = 0 ∧ bad = [] ∧ s.faults.readErrs = [])) (id die i : Nat) (l : Lea) :
    (s.staged id die i l retries bad).Reports (s.fetchLea id die i l retries bad) := by
  rw [State.fetchLea_eq]
  rcases calm with steps | ⟨rfl, rfl, clean⟩
  · exact State.reports_noteReads (s := s.staged id die i l retries bad) steps ..
  · have fixed : (s.staged id die i l 0 []).noteReads die [] (s.lineAddrs die l) [] = s.staged id die i l 0 [] :=
      State.noteReads_of_none (s := s.staged id die i l 0 []) clean ..
    show (s.staged id die i l 0 []).Reports ((s.staged id die i l 0 []).noteReads die [] (s.lineAddrs die l) [])
    rw [fixed]
    exact State.reports_refl _

end Sys2Proof.Machine
end

section
/-! SUPPORT. What the injection of a lea and the return of a credit do to a stream, and the statement about leas sent (O31). -/

namespace Sys2Proof.Machine

/-! ## A lea on its way -/

/-- The first lea of a stream put before its port (R201, R204). -/
def State.putLea (s : State) (id : Nat) (r : StreamRow) (g : StreamEng) (l : Lea) : State :=
  { s with
    fabric := { s.fabric with
      portIn := putList s.fabric.portIn (4 * r.port + 2) (getList s.fabric.portIn (4 * r.port + 2) ++
        s.netFlits 2 3 id r.shape s.fabric.nextMsg true (l.flits (l.header id g.seq)))
      nextMsg := s.fabric.nextMsg + 1 }
    streams := { s.streams with engines := tput s.streams.engines id { g with
      leas := g.leas.drop 1, leaving := l.descs, seq := g.seq + 1, ended := g.ended || l.kind == .fin } } }

/-- The same, with what the die notes of a lea sent (R187, R202, R207). -/
def State.sentLea (s : State) (id : Nat) (r : StreamRow) (g : StreamEng) (l : Lea) : State :=
  ((s.putLea id r g l).bump Obj.streamLeas r.die 1).leaSent r.die l

theorem State.injectLea_eq (s : State) (id : Nat) (r : StreamRow) (g : StreamEng) (l : Lea) :
    s.injectLea id r g l = ((s.sentLea id r g l).leaFaults r.die l).flow := rfl

theorem State.OnlyRows.withCounts {ch : Nat → Nat → Prop} {s t : State} (h : s.OnlyRows ch t) (x : Step) (m : SMap Stone) :
    ({ s with step := x, stones := m } : State).OnlyRows ch { t with step := x, stones := m } :=
  ⟨congrArg (fun w : State => { w with step := x, stones := m }) h.1, h.2.1, h.2.2⟩

theorem State.OnlyRows.tainted {ch : Nat → Nat → Prop} {s t : State} (h : s.OnlyRows ch t) :
    s.OnlyRows ch { t.taint with step := s.step, stones := s.stones } := h.withCounts s.step s.stones

/-- What the die notes of a lea sent: the step's sources, the stones, and a poisoned payload. -/
theorem State.onlyRows_leaSent (s : State) {die : Nat} (hd : die < 2 ^ 20) (l : Lea) :
    s.OnlyRows (oneRow Obj.streamPoisoned die) { s.leaSent die l with step := s.step, stones := s.stones } := by
  obtain ⟨m, conv, _⟩ := (s.noteSources l).countConv_spec l.tensor.toNat ⟨l.flush, l.sat, l.nonfinite⟩
  unfold State.leaSent
  split
  · exact .refl _ s
  · dsimp only
    rw [conv]
    split
    · have counted : s.OnlyRows (oneRow Obj.streamPoisoned die) (s.bump Obj.streamPoisoned die 1) := .bump hd ⟨rfl, rfl⟩
      exact counted
    · exact .refl _ s

theorem State.onlyRows_sentLea (s : State) (id : Nat) {r : StreamRow} (hd : r.die < 2 ^ 20) (g : StreamEng) (l : Lea) :
    (s.putLea id r g l).OnlyRows (fun o row => row = r.die ∧ o ∈ [Obj.streamLeas, Obj.streamPoisoned])
      { s.sentLea id r g l with step := s.step, stones := s.stones } :=
  (State.OnlyRows.bump hd ⟨rfl, by decide⟩).trans
    ((State.onlyRows_leaSent ((s.putLea id r g l).bump Obj.streamLeas r.die 1) hd l).mono
      fun _ _ here => ⟨here.2, by rw [here.1]; decide⟩)

theorem State.obj_sentLea_leas (s : State) (id : Nat) {r : StreamRow} (hd : r.die < 2 ^ 20) (g : StreamEng) (l : Lea) :
    (s.sentLea id r g l).obj Obj.streamLeas r.die = satAdd 64 (s.obj Obj.streamLeas r.die) 1 := by
  have noted := (State.onlyRows_leaSent ((s.putLea id r g l).bump Obj.streamLeas r.die 1) hd l).2.1 Obj.streamLeas r.die hd
    (fun here => absurd here.1 (by decide))
  exact noted.trans (State.obj_bump_of_bits (by decide) _ _ _)

/-! ## A rejected descriptor's lea -/

theorem State.leaFaults_plain {l : Lea} (h : l.kind = .data ∨ l.kind = .group ∨ l.kind = .fin) (s : State) (die : Nat) :
    s.leaFaults die l = s := by
  unfold State.leaFaults
  rcases h with h | h | h <;> rw [h]

/-- A rejected descriptor's lea writes one record and taints the step (R190, R193). -/
theorem State.leaFaults_rejected {l : Lea} (h : l.kind = .reject ∨ l.kind = .badKind) (s : State) (die : Nat) :
    ∃ code, s.leaFaults die l = (s.fault code die 0).taint := by
  unfold State.leaFaults
  rcases h with h | h <;> rw [h] <;> exact ⟨_, rfl⟩

theorem Lea.plain_or_rejected (l : Lea) :
    (l.kind = .data ∨ l.kind = .group ∨ l.kind = .fin) ∨ (l.kind = .reject ∨ l.kind = .badKind) := by
  cases l.kind <;> simp

/-- A lea reported moves the records and the step alone. -/
theorem State.onlyRows_leaFaults (s : State) (die : Nat) (l : Lea) :
    s.OnlyRows recordRows { s.leaFaults die l with step := s.step, stones := s.stones } := by
  rcases l.plain_or_rejected with plain | rejected
  · rw [State.leaFaults_plain plain]
    exact .refl _ s
  · obtain ⟨code, e⟩ := State.leaFaults_rejected rejected s die
    rw [e]
    exact (s.onlyRows_fault code die 0).tainted

/-- A lea sent and reported: fabric and streams are those of the lea put before its port. -/
theorem State.leaFaults_sentLea (s : State) (id : Nat) {r : StreamRow} (hd : r.die < 2 ^ 20) (g : StreamEng) (l : Lea) :
    ((s.sentLea id r g l).leaFaults r.die l).fabric = (s.putLea id r g l).fabric ∧
      ((s.sentLea id r g l).leaFaults r.die l).streams = (s.putLea id r g l).streams ∧
      ((s.sentLea id r g l).leaFaults r.die l).obj Obj.streamLeas r.die = satAdd 64 (s.obj Obj.streamLeas r.die) 1 := by
  have sent := s.onlyRows_sentLea id hd g l
  have told := State.onlyRows_leaFaults (s.sentLea id r g l) r.die l
  refine ⟨?_, ?_, ?_⟩
  · exact (congrArg State.fabric told.1 :).trans (congrArg State.fabric sent.1 :)
  · exact (congrArg State.streams told.1 :).trans (congrArg State.streams sent.1 :)
  · have kept := told.2.1 Obj.streamLeas r.die hd (by unfold recordRows Machine.rowsOf; decide)
    exact kept.trans (s.obj_sentLea_leas id hd g l)

/-- The record of a rejected descriptor's lea is the next one. -/
theorem State.leaFaults_sentLea_rejected {l : Lea} (h : l.kind = .reject ∨ l.kind = .badKind) (s : State) (id : Nat)
    {r : StreamRow} (hd : r.die < 2 ^ 20) (g : StreamEng) :
    ((s.sentLea id r g l).leaFaults r.die l).step.tainted = true ∧
      ((s.sentLea id r g l).leaFaults r.die l).lastSeq = (s.lastSeq + 1) % 2 ^ 32 := by
  obtain ⟨code, e⟩ := State.leaFaults_rejected h (s.sentLea id r g l) r.die
  have before : (s.sentLea id r g l).obj Obj.faultSeqLast 0 = s.obj Obj.faultSeqLast 0 :=
    (s.onlyRows_sentLea id hd g l).2.1 Obj.faultSeqLast 0 (by decide) (fun here => absurd here.2 (by decide))
  rw [e]
  refine ⟨rfl, ?_⟩
  unfold State.lastSeq
  rw [State.obj_taint, State.obj_fault_seqLast, before]

/-! ## Injection -/

section Inject

variable {s : State} {stream : W16} {r : StreamRow} {g : StreamEng} {l : Lea} {ls : List Lea} (up : s.up = true)
  (row : s.streamRow? stream.toNat = some r) (engine : tget s.streams.engines stream.toNat = some g)
  (first : g.leas = l :: ls)
include up row engine first

theorem exec_leaInject : exec (.leaInject stream) s =
    .next (if l.ready && !s.isHeld (siteOfPort r.port) && (getList s.fabric.portIn (4 * r.port + 2)).isEmpty
      then s.injectLea stream.toNat r g l else s) := by
  show execLeaInject stream s = _
  unfold execLeaInject
  rw [State.ifUp_of_up up, State.engine_eq engine, row]
  dsimp only
  rw [first]
  rfl

end Inject

/-! ## Credits -/

/-- One release of each destination matched (R182). -/
theorem tget_foldl_matched {ds : List Nat} (once : ds.Nodup) (k : Nat) : ∀ m : SMap Nat,
    tget (ds.foldl (fun m d => tput m d ((tget m d).getD 0 - 1)) m) k =
      if k ∈ ds then some ((tget m k).getD 0 - 1) else tget m k := by
  induction ds with
  | nil => exact fun m => rfl
  | cons d ds ih =>
    obtain ⟨new, once⟩ := List.nodup_cons.mp once
    intro m
    rw [List.foldl_cons, ih once, tget_tput]
    by_cases here : d = k
    · subst here
      simp [new]
    · simp [here, Ne.symm here]

theorem exec_creditReturn {s : State} {stream : W16} {r : StreamRow} {g : StreamEng} (up : s.up = true)
    (row : s.streamRow? stream.toNat = some r) (engine : tget s.streams.engines stream.toNat = some g)
    (running : g.running = true) (some_ : (s.shape r.shape).dests ≠ [])
    (freed : ∀ d ∈ (s.shape r.shape).dests, ∃ n, tget g.releases d = some (n + 1)) :
    exec (.creditReturn stream) s = .next (s.setEngine stream.toNat { g with
      credits := g.credits + 1
      releases := (s.shape r.shape).dests.foldl (fun m d => tput m d ((tget m d).getD 0 - 1)) g.releases }) := by
  have all : (s.shape r.shape).dests.all (fun d => decide (0 < (tget g.releases d).getD 0)) = true := by
    rw [List.all_eq_true]
    intro d hd
    obtain ⟨n, e⟩ := freed d hd
    simp [e]
  show execCreditReturn stream s = _
  unfold execCreditReturn
  rw [State.ifUp_of_up up, State.engine_eq engine, row]
  dsimp only
  rw [running, all, List.isEmpty_eq_false_iff.mpr some_]
  rfl

/-! ## The statement -/

/-- Settles O31: a fetch, an injection and a credit, each one's effect said once. -/
theorem leasAreFetchedInjectedAndCredited : Obligations.LeasAreFetchedInjectedAndCredited := by
  unfold Obligations.LeasAreFetchedInjectedAndCredited
  intro stream s r g up row engine
  have die : r.die < 2 ^ 20 := stackOfPort_lt r.port
  refine ⟨fun i l retries bad due lea calm => ?_, fun l ls first ready free alone => ?_, fun l ls first waits => ?_,
    fun running some_ once freed => ?_⟩
  · have found := State.reports_fetchLea calm stream.toNat r.die i l
    refine ⟨_, s.fetchedLea r.die l bad, exec_leaFetch up row engine due lea retries bad, ?_, rfl,
      fun n src lines parts dense plain same pair live clean =>
        State.payload_plain parts dense plain same pair live clean bad, ?_⟩
    · have kept : (s.fetchLea stream.toNat r.die i l retries bad).streams =
          (s.staged stream.toNat r.die i l retries bad).streams := (congrArg State.streams found.1 :)
      rw [kept]
      unfold State.staged
      rw [State.engine_eq engine]
      exact tget_tput_self ..
    · exact State.OnlyRows.drew.trans (State.OnlyRows.withStreams found s.streams)
  · have leaves : (l.ready && !s.isHeld (siteOfPort r.port) && (getList s.fabric.portIn (4 * r.port + 2)).isEmpty) = true := by
      rw [ready, free, alone]
      rfl
    obtain ⟨fabric, streams, leas⟩ := s.leaFaults_sentLea stream.toNat die g l
    refine ⟨(s.sentLea stream.toNat r g l).leaFaults r.die l, ?_, ?_, ?_, fun k other => ?_, ?_, leas, fun plain => ?_,
      fun rejected => State.leaFaults_sentLea_rejected rejected s stream.toNat die g⟩
    · rw [exec_leaInject up row engine first, if_pos leaves, State.injectLea_eq]
    · rw [fabric]
      refine (getList_putList_self ..).trans ?_
      rw [alone, List.nil_append]
    · rw [fabric]
      rfl
    · rw [fabric]
      exact tget_putList_ne (Ne.symm other) ..
    · rw [streams]
      unfold State.putLea
      rw [first]
      rfl
    · rw [State.leaFaults_plain plain]
      exact ((s.onlyRows_sentLea stream.toNat die g l).withStreams s.streams).withFabric s.fabric
  · rw [exec_leaInject up row engine first, if_neg]
    rcases waits with late | held | full
    · simp [late]
    · simp [held]
    · simp [full]
  · exact ⟨_, _, exec_creditReturn up row engine running some_ freed, rfl, rfl, fun d hd => by
      obtain ⟨n, e⟩ := freed d hd
      rw [tget_foldl_matched once, if_pos hd, e]
      rfl, fun d hd => by rw [tget_foldl_matched once, if_neg hd]⟩

end Sys2Proof.Machine
end

section
/-! SUPPORT. What the arrival of a lea does at its spindle: the first part of the statement about leas that arrive (O32). -/

namespace Sys2Proof.Machine

/-! ## A handle put at a spindle -/

theorem State.putHandle_setSpindle (s : State) (p : Site) (x : Spindle) (q : Nat) (h : W32) :
    (s.setSpindle p x).putHandle p.row q h = s.setSpindle p ({ x with puts := x.puts ++ [(q, h)] } : Spindle).settle := by
  have there : tget (s.setSpindle p x).spindles p.row = some x := tget_tput_self ..
  unfold State.putHandle
  rw [there]
  exact s.setSpindle_twice p x _

theorem State.puts_of_engineFree {s : State} {p : Site} (free : s.engineFree p.row = true) : (s.spindle p).puts = [] := by
  unfold State.engineFree at free
  rw [Bool.and_eq_true, List.isEmpty_iff] at free
  exact free.2

section Settle

variable {x : Spindle} (idle : x.puts = []) {q : Nat} (h : W32)
include idle

/-- A handle that alone waits is put on its queue (R169). -/
theorem Spindle.settle_room (room : (nth x.queues q []).length < 16) :
    ({ x with puts := x.puts ++ [(q, h)] } : Spindle).settle =
      { x with queues := x.queues.set q (nth x.queues q [] ++ [h]) } := by
  unfold Spindle.settle
  dsimp only
  rw [idle, List.nil_append, settlePuts, if_pos room, settlePuts]
  rw [← idle]
  rfl

/-- A handle whose queue is full waits. -/
theorem Spindle.settle_full (full : 16 ≤ (nth x.queues q []).length) :
    ({ x with puts := x.puts ++ [(q, h)] } : Spindle).settle = { x with puts := [(q, h)] } := by
  unfold Spindle.settle
  dsimp only
  rw [idle, List.nil_append, settlePuts, if_neg (Nat.not_lt.mpr full)]

end Settle

/-! ## The lines of a lea -/

/-- The lines a lea is written with: its header and payload, or the lines that came where it fails a check (R183, R188). -/
def SpStream.brings (e : SpStream) (size : Nat) : List Line :=
  if headerGood e.header e.stream e.expect size then e.lines ++ zeroLines e.header else e.lines.take size

theorem SpStream.brings_good {e : SpStream} {size : Nat} (good : headerGood e.header e.stream e.expect size = true) :
    e.brings size = e.lines ++ zeroLines e.header := if_pos good

theorem SpStream.brings_bad {e : SpStream} {size : Nat} (bad : headerGood e.header e.stream e.expect size = false) :
    e.brings size = e.lines.take size := if_neg (by rw [bad]; exact Bool.false_ne_true)

/-- A lea's lines written into its buffer: each as it came, or all poisoned. -/
def State.landLea (s : State) (p : Site) (e : SpStream) (buf : Buffer) : State :=
  if headerGood e.header e.stream e.expect buf.size then s.putEach p buf.base (e.brings buf.size)
  else s.putRegion p buf.base (e.brings buf.size) true

theorem State.onlySpindle_landLea (s : State) (p : Site) (e : SpStream) (buf : Buffer) (ch : Nat → Nat → Prop) :
    s.OnlySpindle p ch (s.landLea p e buf) := by
  unfold State.landLea
  split
  · exact State.OnlySpindle.setSpindle.trans State.OnlyRows.drew.atSpindle
  · exact State.OnlySpindle.setSpindle.trans State.OnlyRows.drew.atSpindle

/-- Lines written each with its own poison bit (R74). -/
theorem State.putEach_spec (s : State) (p : Site) (l : Nat) (xs : List Line) :
    ∃ ks st, ks.length = xs.length ∧ (s.spindle p).store.Wrote l ks st ∧
      (s.putEach p l xs).spindle p = { s.spindle p with store := st } ∧
      ∀ (i : Nat) (x : Line), xs[i]? = some x → ∃ k, ks[i]? = some k ∧ k.poison = x.poison ∧ (x.poison = false → k = x) := by
  obtain ⟨st, wrote, e⟩ := s.writeLines_spec p l (xs.mapIdx (fun i x =>
    if x.poison then { data := Config.freeLine (s.free + 1) (p.row * 2 ^ 20 + l + i), poison := true } else x))
  refine ⟨_, st, List.length_mapIdx, wrote, e, fun i x hx => ?_⟩
  rw [List.getElem?_mapIdx, hx]
  refine ⟨_, rfl, ?_, fun clean => by simp [clean]⟩
  cases poison : x.poison <;> simp [poison]

/-- The store after a lea has been written into its buffer. -/
theorem State.landLea_spec (s : State) (p : Site) (e : SpStream) (buf : Buffer) :
    ∃ ks st, ks.length = (e.brings buf.size).length ∧ (s.spindle p).store.Wrote buf.base ks st ∧
      (s.landLea p e buf).spindle p = { s.spindle p with store := st } ∧
      (headerGood e.header e.stream e.expect buf.size = true → ∀ (i : Nat) (x : Line), (e.brings buf.size)[i]? = some x →
        ∃ k, ks[i]? = some k ∧ k.poison = x.poison ∧ (x.poison = false → k = x)) ∧
      (headerGood e.header e.stream e.expect buf.size = false → ∀ k ∈ ks, k.poison = true) := by
  unfold State.landLea
  cases good : headerGood e.header e.stream e.expect buf.size with
  | true =>
    obtain ⟨ks, st, len, wrote, at_, each⟩ := s.putEach_spec p buf.base (e.brings buf.size)
    exact ⟨ks, st, len, wrote, at_, fun _ => each, nofun⟩
  | false =>
    obtain ⟨ks, st, ⟨len, poison, _⟩, wrote, at_⟩ :=
      s.putRegion_spec p buf.base (xs := e.brings buf.size) (poison := true) nofun
    exact ⟨ks, st, len, wrote, at_, nofun, fun _ => poison⟩

/-! ## A lea written -/

/-- The stream once a lea has been taken into buffer b. -/
def SpStream.took (e : SpStream) (b : Nat) : SpStream :=
  { e with busy := e.busy ++ [b], expect := e.expect + 1, inbox := [] }

/-- A lea in its buffer, its handle put. -/
def State.placeLea (s : State) (p : Site) (e : SpStream) (b : Nat) : State :=
  let buf := (s.spindle p).buf b
  ((s.landLea p e buf).setStream p (e.took b)).putHandle p.row e.queue (mkHandle b buf.gen (e.brings buf.size).length)

theorem State.writeLea_eq (s : State) (p : Site) (e : SpStream) (b : Nat) :
    s.writeLea p e b =
      if headerGood e.header e.stream e.expect ((s.spindle p).buf b).size then s.placeLea p e b
      else ((s.placeLea p e b).bump Obj.leaHeaderErrors 0 1).fault 0x1406
        ((s.placeLea p e b).siteUnit p.x.val p.y.val) 0 := by
  unfold State.writeLea State.placeLea State.landLea SpStream.brings
  dsimp only
  split <;> rfl

/-- The spindle with a lea taken into buffer b and its lines in the store, before its handle is put. -/
def Spindle.tookLea (x : Spindle) (e : SpStream) (b : Nat) (st : Store) : Spindle :=
  ({ x with store := st } : Spindle).withStream (e.took b)

section Place

variable {s : State} {p : Site} {e : SpStream} {b : Nat} {st : Store}
  (landed : (s.landLea p e ((s.spindle p).buf b)).spindle p = { s.spindle p with store := st })
include landed

theorem State.spindle_placeLea : (s.placeLea p e b).spindle p =
    ({ (s.spindle p).tookLea e b st with puts := (s.spindle p).puts ++
      [(e.queue, mkHandle b ((s.spindle p).buf b).gen (e.brings ((s.spindle p).buf b).size).length)] } : Spindle).settle := by
  unfold State.placeLea
  dsimp only
  rw [State.setStream_eq, State.putHandle_setSpindle, State.spindle_setSpindle, landed]
  rfl

end Place

theorem State.onlySpindle_placeLea (s : State) (p : Site) (e : SpStream) (b : Nat) (ch : Nat → Nat → Prop) :
    s.OnlySpindle p ch (s.placeLea p e b) := by
  unfold State.placeLea
  dsimp only
  rw [State.setStream_eq, State.putHandle_setSpindle]
  exact (s.onlySpindle_landLea p e _ ch).trans .setSpindle

theorem State.spindle_writeLea (s : State) (p : Site) (e : SpStream) (b : Nat) :
    (s.writeLea p e b).spindle p = (s.placeLea p e b).spindle p := by
  rw [State.writeLea_eq]
  split
  · rfl
  · rw [State.spindle_fault, State.spindle_bump]

/-- The rows a lea that fails a check moves: LEA_HEADER_ERRORS and its record (R188). -/
def arrivalRows : Nat → Nat → Prop := fun id row =>
  oneRow Obj.leaHeaderErrors 0 id row ∨ id ∈ [Obj.faultLog, Obj.faultSeqLast, Obj.faultReports]

theorem State.onlySpindle_writeLea (s : State) (p : Site) (e : SpStream) (b : Nat) :
    s.OnlySpindle p arrivalRows (s.writeLea p e b) := by
  have placed := s.onlySpindle_placeLea p e b arrivalRows
  rw [State.writeLea_eq]
  split
  · exact placed
  · have counted : (s.placeLea p e b).OnlyRows arrivalRows ((s.placeLea p e b).bump Obj.leaHeaderErrors 0 1) :=
      .bump (by decide) (.inl ⟨rfl, rfl⟩)
    exact placed.trans (counted.trans ((State.onlyRows_fault ..).mono fun _ _ here => .inr here)).atSpindle

theorem State.obj_placeLea (s : State) (p : Site) (e : SpStream) (b : Nat) {id row : Nat} (hr : row < 2 ^ 20) :
    (s.placeLea p e b).obj id row = s.obj id row :=
  (s.onlySpindle_placeLea p e b noRows).2.2.1 id row hr (fun here => here)

section Judge

variable {s : State} {p : Site} {e : SpStream} {b : Nat}

theorem State.obj_writeLea_good (good : headerGood e.header e.stream e.expect ((s.spindle p).buf b).size = true) :
    (s.writeLea p e b).obj Obj.leaHeaderErrors 0 = s.obj Obj.leaHeaderErrors 0 := by
  rw [State.writeLea_eq, if_pos good, State.obj_placeLea _ _ _ _ (by decide)]

/-- A lea that fails a check is counted and recorded (R188). -/
theorem State.obj_writeLea_bad (bad : headerGood e.header e.stream e.expect ((s.spindle p).buf b).size = false) :
    (s.writeLea p e b).obj Obj.leaHeaderErrors 0 = satAdd (objBits Obj.leaHeaderErrors) (s.obj Obj.leaHeaderErrors 0) 1 ∧
      (s.writeLea p e b).lastSeq = (s.lastSeq + 1) % 2 ^ 32 := by
  have fails : ¬headerGood e.header e.stream e.expect ((s.spindle p).buf b).size = true := by
    rw [bad]
    exact Bool.false_ne_true
  unfold State.lastSeq
  rw [State.writeLea_eq, if_neg fails, State.obj_fault_other (by decide) (by decide), State.obj_bump_self,
    State.obj_placeLea _ _ _ _ (by decide), State.obj_fault_seqLast, State.obj_bump_ne (by decide),
    State.obj_placeLea _ _ _ _ (by decide)]
  exact ⟨rfl, rfl⟩

end Judge

section Written

variable {s : State} {p : Site} {e : SpStream} {b : Nat} {st : Store}
  (landed : (s.landLea p e ((s.spindle p).buf b)).spindle p = { s.spindle p with store := st })
include landed

/-- The stream holds the buffer and expects the next lea (R183). -/
theorem State.stream_writeLea : ((s.writeLea p e b).spindle p).stream? e.stream = some (e.took b) := by
  rw [State.spindle_writeLea, State.spindle_placeLea landed]
  exact Spindle.stream?_withStream _ (e.took b)

theorem State.store_writeLea : ((s.writeLea p e b).spindle p).store = st := by
  rw [State.spindle_writeLea, State.spindle_placeLea landed]
  rfl

variable (idle : (s.spindle p).puts = [])
include idle

/-- The handle of a lea goes onto its stream's queue (R183). -/
theorem State.queues_writeLea (room : (nth (s.spindle p).queues e.queue []).length < 16) :
    ((s.writeLea p e b).spindle p).puts = [] ∧
      ((s.writeLea p e b).spindle p).queues = (s.spindle p).queues.set e.queue (nth (s.spindle p).queues e.queue [] ++
        [mkHandle b ((s.spindle p).buf b).gen (e.brings ((s.spindle p).buf b).size).length]) := by
  have settled := Spindle.settle_room (x := (s.spindle p).tookLea e b st) idle
    (mkHandle b ((s.spindle p).buf b).gen (e.brings ((s.spindle p).buf b).size).length) room
  rw [State.spindle_writeLea, State.spindle_placeLea landed]
  exact ⟨(congrArg Spindle.puts settled).trans idle, congrArg Spindle.queues settled⟩

/-- Where the queue is full the handle waits for a place (R169). -/
theorem State.puts_writeLea (full : 16 ≤ (nth (s.spindle p).queues e.queue []).length) :
    ((s.writeLea p e b).spindle p).puts =
        [(e.queue, mkHandle b ((s.spindle p).buf b).gen (e.brings ((s.spindle p).buf b).size).length)] ∧
      ((s.writeLea p e b).spindle p).queues = (s.spindle p).queues := by
  have settled := Spindle.settle_full (x := (s.spindle p).tookLea e b st) idle
    (mkHandle b ((s.spindle p).buf b).gen (e.brings ((s.spindle p).buf b).size).length) full
  rw [State.spindle_writeLea, State.spindle_placeLea landed]
  exact ⟨congrArg Spindle.puts settled, (congrArg Spindle.queues settled :)⟩

end Written

/-- A line just written reads as it was written. -/
theorem Store.Wrote.line_at {st st' : Store} {l i : Nat} {ks : List Line} {k : Line} (h : st.Wrote l ks st')
    (at_ : ks[i]? = some k) (p : Site) : Store.line p st' (l + i) = k := by
  rw [h.line, if_pos (Nat.le_add_right ..), Nat.add_sub_cancel_left, at_]
  rfl

/-! ## LEA_ARRIVE -/

section Arrive

variable {s : State} {p : Site} {stream : W16} {e : SpStream} (up : s.up = true)
  (opened : (s.spindle p).stream? stream.toNat = some e)
include up opened

/-- An engine that is not free takes no lea, and none is taken before its last flit (R169, R210). -/
theorem exec_leaArrive_waits (waits : s.engineFree p.row = false ∨ e.inbox.any (·.sb.last) = false) :
    exec (.leaArrive p stream) s = .next s := by
  have notYet : (!s.engineFree p.row || !e.inbox.any (·.sb.last)) = true := by
    rcases waits with busy | coming
    · rw [busy]; rfl
    · rw [coming]; exact Bool.or_true _
  show execLeaArrive p stream s = _
  unfold execLeaArrive
  rw [State.ifUp_of_up up, opened]
  dsimp only
  rw [if_pos notYet]
  rfl

variable (free : s.engineFree p.row = true) (whole : e.inbox.any (·.sb.last) = true)
include free whole

theorem exec_leaArrive : exec (.leaArrive p stream) s =
    .next (if bitAt e.header.toNat 420
      then (s.setStream p { e with ended := true, expect := e.expect + 1, inbox := [] }).flow
      else (e.free?.map (fun b => (s.writeLea p e b).flow)).getD s) := by
  show execLeaArrive p stream s = _
  unfold execLeaArrive
  rw [State.ifUp_of_up up, opened]
  dsimp only
  rw [free, whole]
  cases e.free? <;> rfl

end Arrive

end Sys2Proof.Machine
end

section
/-! SUPPORT. How a decision relayed confirms or squashes what was predicted of it, and the statement about leas that arrive and
about decisions (O32). -/

namespace Sys2Proof.Machine

/-! ## A decision relayed -/

/-- The oldest decision on every die (R200). -/
def State.relay (s : State) (seq : W16) (w : W32) (rest : List (W16 × W32)) : State :=
  { s with streams := { s.streams with relayQueue := rest, relayed := tput s.streams.relayed seq.toNat w } }

/-- A stream's BRANCHes on a decision resolved, where it has a table entry. -/
def State.resolveEntry (seq : W16) (w : W32) (s : State) (e : Nat × StreamEng) : State :=
  match s.streamRow? e.1 with
  | some r => s.resolveStream e.1 r.die seq w 17
  | none => s

theorem exec_decisionRelay {s : State} {seq : W16} {w : W32} {rest : List (W16 × W32)} (up : s.up = true)
    (oldest : s.streams.relayQueue = (seq, w) :: rest) :
    exec .decisionRelay s = .next (s.streams.engines.foldl (State.resolveEntry seq w) (s.relay seq w rest)) := by
  show execDecisionRelay s = _
  unfold execDecisionRelay
  rw [State.ifUp_of_up up, oldest]
  rfl

theorem State.engine_setEngine (s : State) (id : Nat) (g : StreamEng) : (s.setEngine id g).engine id = g :=
  State.engine_eq (tget_tput_self ..)

/-- A stream with no epoch left stays as it is. -/
theorem State.resolveStream_of_none {s : State} {id : Nat} (none_ : (s.engine id).epochs = []) (die : Nat) (seq : W16) (w : W32) :
    ∀ fuel, s.resolveStream id die seq w fuel = s
  | 0 => rfl
  | fuel + 1 => by
    rw [State.resolveStream, none_]
    rfl

/-- Leas fetched that a squash drops (R201). -/
def StreamEng.dropped (g : StreamEng) (n : Nat) : Nat :=
  ((g.under n).filter (fun l => l.fetched && (l.kind == .data || l.kind == .group))).length

section Resolve

variable {s : State} {id : Nat} {g : StreamEng} {seq : W16} {w : W32} {n bit : Nat} {predict : Bool} {other : Nat}
  (only : g.epochs = [{ number := n, branch := some (seq, bit, predict, other) }])
include only

theorem StreamEng.confirm_only : (g.confirm n).epochs = [] := by
  rw [StreamEng.confirm, only]
  simp

theorem StreamEng.squash_only (other : Nat) : (g.squash n other).epochs = [] := by
  rw [StreamEng.squash, only]
  simp

variable (engine : s.engine id = g)
include engine

/-- The only epoch found right (R200). -/
theorem State.resolveStream_right (right : w.getLsbD bit = predict) (die fuel : Nat) :
    s.resolveStream id die seq w (fuel + 1) = s.setEngine id (g.confirm n) := by
  have confirmed : (s.setEngine id (g.confirm n)).resolveStream id die seq w fuel = s.setEngine id (g.confirm n) := by
    refine State.resolveStream_of_none ?_ die seq w fuel
    rw [State.engine_setEngine, StreamEng.confirm_only only]
  rw [State.resolveStream, engine, only]
  simp only [List.find?_cons, Option.map_some, beq_self_eq_true]
  rw [if_pos right, confirmed]

/-- The only epoch found wrong (R200, R201). -/
theorem State.resolveStream_wrong (wrong : w.getLsbD bit ≠ predict) (die fuel : Nat) :
    s.resolveStream id die seq w (fuel + 1) =
      (s.setEngine id (g.squash n other)).bump Obj.specSquashed die (g.dropped n) := by
  have squashed : ((s.setEngine id (g.squash n other)).bump Obj.specSquashed die (g.dropped n)).resolveStream id die seq w fuel =
      (s.setEngine id (g.squash n other)).bump Obj.specSquashed die (g.dropped n) := by
    refine State.resolveStream_of_none ?_ die seq w fuel
    exact (congrArg StreamEng.epochs (State.engine_setEngine s id (g.squash n other))).trans (StreamEng.squash_only only other)
  rw [State.resolveStream, engine, only]
  simp only [List.find?_cons, Option.map_some, beq_self_eq_true]
  rw [if_neg wrong]
  exact squashed

end Resolve

/-! ## The statement -/

/-- Settles O32: a lea's arrival in the three ways it can go, and the decision relayed to no stream and to one. -/
theorem leasArriveAndDecisionsAreRelayed : Obligations.LeasArriveAndDecisionsAreRelayed := by
  unfold Obligations.LeasArriveAndDecisionsAreRelayed
  intro s up
  refine ⟨fun p stream e opened => ⟨exec_leaArrive_waits up opened, fun free whole => ?_⟩, fun seq w rest oldest => ?_⟩
  · have run := exec_leaArrive up opened free whole
    have name := Spindle.stream_of_stream? opened
    refine ⟨fun fin => ?_, fun more full => ?_, fun b buf more room at_ => ?_⟩
    · rw [if_pos fin] at run
      refine ⟨_, run, ?_, ?_, ?_⟩
      · rw [State.setStream_eq, State.spindle_setSpindle, ← name]
        exact Spindle.stream?_withStream _ { e with ended := true, expect := e.expect + 1, inbox := [] }
      · rw [State.setStream_eq, State.spindle_setSpindle]
        rfl
      · exact .setSpindle
    · rw [run, more, full]
      rfl
    · subst at_
      rw [more, room] at run
      obtain ⟨ks, st, len, wrote, landed, each, poisoned⟩ := s.landLea_spec p e ((s.spindle p).buf b)
      have idle := State.puts_of_engineFree free
      refine ⟨s.writeLea p e b, (e.brings ((s.spindle p).buf b).size).length, run, ?_, s.onlySpindle_writeLea p e b,
        fun _ place => State.queues_writeLea landed idle place, fun crowded => State.puts_writeLea landed idle crowded,
        fun good => ⟨?_, State.obj_writeLea_good good, fun i x hx => ?_⟩, fun bad => ⟨?_, ?_, ?_, fun i hi => ?_⟩,
        fun l out => ?_⟩
      · rw [← name]
        exact State.stream_writeLea landed
      · rw [SpStream.brings_good good]
      · rw [← SpStream.brings_good good] at hx
        obtain ⟨k, hk, poison, same⟩ := each good i x hx
        rw [State.store_writeLea landed, wrote.line_at hk]
        exact ⟨poison, same⟩
      · rw [SpStream.brings_bad bad, List.length_take]
      · exact (State.obj_writeLea_bad bad).1
      · exact (State.obj_writeLea_bad bad).2
      · obtain ⟨k, hk⟩ : ∃ k, ks[i]? = some k := ⟨_, List.getElem?_eq_getElem (len.symm ▸ hi)⟩
        rw [State.store_writeLea landed, wrote.line_at hk]
        exact poisoned bad k (List.mem_of_getElem? hk)
      · rw [State.store_writeLea landed, wrote.line_out (len.symm ▸ out)]
  · have run := exec_decisionRelay up oldest
    refine ⟨fun none_ => ?_, fun id g r n bit predict other one row only => ?_⟩
    · rw [run, none_]
      rfl
    · have die : r.die < 2 ^ 20 := stackOfPort_lt r.port
      have engine : (s.relay seq w rest).engine id = g := by
        refine State.engine_eq ?_
        show tget s.streams.engines id = some g
        rw [one, tget, if_pos rfl]
      have entry : State.resolveEntry seq w (s.relay seq w rest) (id, g) =
          (s.relay seq w rest).resolveStream id r.die seq w 17 := by
        have there : (s.relay seq w rest).streamRow? id = some r := row
        unfold State.resolveEntry
        rw [there]
      rw [one, List.foldl_cons, List.foldl_nil, entry] at run
      by_cases right : w.getLsbD bit = predict
      · rw [State.resolveStream_right only engine right] at run
        refine ⟨_, g.confirm n, run, rfl, tget_tput_self .., tget_tput_self .., StreamEng.confirm_only only,
          fun _ => ⟨rfl, List.length_map .., fun k l hl => ?_⟩, fun wrong => absurd right wrong, .refl _ s⟩
        simp [StreamEng.confirm, hl]
      · rw [State.resolveStream_wrong only engine right] at run
        have counted : s.OnlyRows (oneRow Obj.specSquashed r.die) (s.bump Obj.specSquashed r.die (g.dropped n)) :=
          .bump die ⟨rfl, rfl⟩
        refine ⟨_, g.squash n other, run, rfl, tget_tput_self .., tget_tput_self .., StreamEng.squash_only only other,
          fun taken => absurd taken right, fun _ => ⟨rfl, rfl, rfl, ?_⟩, counted⟩
        simp [StreamEng.squash, StreamEng.under, List.filter_filter, Bool.and_comm]

end Sys2Proof.Machine
end

section
/-! SUPPORT. What a shard's update leaves of the module besides the tiers, and what a die that resumes does with the record of its
first journal slot. -/

namespace Sys2Proof.Machine

/-! ## Fields of a number -/

theorem testBit_bits (n lo w i : Nat) : (bits n lo w).testBit i = (decide (i < w) && n.testBit (lo + i)) := by
  unfold bits
  rw [Nat.testBit_mod_two_pow, Nat.testBit_shiftRight]

/-- A field below one that is replaced stays. -/
theorem bits_setBits_below {lo lo' w' : Nat} (h : lo' + w' ≤ lo) (n w v : Nat) :
    bits (setBits n lo w v) lo' w' = bits n lo' w' := by
  refine Nat.eq_of_testBit_eq fun i => ?_
  rw [testBit_bits, testBit_bits, setBits_eq, Nat.testBit_two_pow_mul_add _ (Nat.mod_lt _ (Nat.two_pow_pos lo)),
    Nat.testBit_mod_two_pow]
  by_cases inside : i < w'
  · have low : lo' + i < lo := by omega
    simp [low]
  · simp [inside]

theorem bits_lt (n lo w : Nat) : bits n lo w < 2 ^ w := Nat.mod_lt _ (Nat.two_pow_pos w)

/-! ## States that differ in the tiers -/

/-- `t` differs from `s` in the bytes of the two tiers, in poison and in the read errors that stand there. -/
def State.OnlyTiers (s t : State) : Prop :=
  t = { s with fast := t.fast, fastPoison := t.fastPoison, slow := t.slow, faults := t.faults }

theorem State.OnlyTiers.refl (s : State) : s.OnlyTiers s := rfl

theorem State.OnlyTiers.trans {s t u : State} (h : s.OnlyTiers t) (k : t.OnlyTiers u) : s.OnlyTiers u := by
  unfold State.OnlyTiers at h k
  rw [h] at k
  exact k

theorem State.onlyTiers_foldl {β : Type} {f : State → β → State} (each : ∀ (s : State) (b : β), s.OnlyTiers (f s b))
    (bs : List β) (s : State) : s.OnlyTiers (bs.foldl f s) :=
  List.foldlRecOn bs f (.refl s) fun t h b _ => h.trans (each t b)

theorem State.onlyTiers_tierWrite (s : State) (slow : Bool) (a : Nat) (bs : List Byte) : s.OnlyTiers (s.tierWrite slow a bs) := by
  cases slow <;> rfl

theorem State.onlyTiers_writeArr (s : State) (d : Shard) (a : Arr) (k : Nat) (vs : List Nat) :
    s.OnlyTiers (s.writeArr d a k vs) := by
  unfold State.writeArr
  split
  · exact .refl s
  · exact s.onlyTiers_tierWrite ..

theorem State.onlyTiers_writeMask (s : State) (d : Shard) (bs : List Bool) : s.OnlyTiers (s.writeMask d bs) := by
  unfold State.writeMask
  split
  · exact .refl s
  · split <;> rfl

/-- The arrays and the mask that an update writes (R271). -/
theorem State.onlyTiers_written (s : State) (d : Shard) (x : News) (ca : W32) (from_ n : Nat) :
    s.OnlyTiers (((s.writeMoments d x).writeWeights d ca x from_ n).writeMask d x.mask) :=
  have moments := (s.onlyTiers_writeArr d .m 0 _).trans (State.onlyTiers_writeArr _ d .v 0 _)
  have weights := (State.onlyTiers_writeArr _ d .master 0 _).trans (State.onlyTiers_writeArr _ d .work 0 _)
  ((moments.trans weights).trans (State.onlyTiers_writeArr _ d .avg from_ _)).trans (State.onlyTiers_writeMask ..)

theorem State.onlyTiers_saveOld (s : State) (d : Shard) (j : Nat) : s.OnlyTiers (s.saveOld d j) :=
  State.onlyTiers_foldl (fun t _ => t.onlyTiers_tierWrite ..) _ s

theorem State.onlyTiers_restoreOld (s : State) (d : Shard) (j : Nat) : s.OnlyTiers (s.restoreOld d j) :=
  ((s.onlyTiers_writeArr ..).trans (State.onlyTiers_writeArr ..)).trans (State.onlyTiers_writeArr ..)

section OnlyTiers

variable {s t : State} (h : s.OnlyTiers t)
include h

theorem State.OnlyTiers.obj (id row : Nat) : t.obj id row = s.obj id row := by
  rw [h]
  rfl

theorem State.OnlyTiers.field (id row lo w : Nat) : t.field id row lo w = s.field id row lo w :=
  congrArg (fun v => bits v lo w) (h.obj id row)

theorem State.OnlyTiers.step : t.step = s.step := by
  rw [h]

theorem State.OnlyTiers.shard (i : Nat) : t.shard i = s.shard i := congrArg shardOf (h.obj Obj.residence i)

end OnlyTiers

/-! ## Shards -/

theorem State.shard_setShardState (s : State) (i v : Nat) :
    (s.setShardState i v).shard i = { s.shard i with state := v % 2 ^ 3 } := by
  unfold State.shard State.setShardState
  rw [State.obj_setField_self]
  simp [shardOf, bitAt, bits_setBits_self, bits_setBits_above, bits_setBits_below]

theorem State.shard_setShardGen (s : State) (i v : Nat) :
    (s.setShardGen i v).shard i = { s.shard i with gen := v % 2 ^ 16 } := by
  unfold State.shard State.setShardGen
  rw [State.obj_setField_self]
  simp [shardOf, bitAt, bits_setBits_self, bits_setBits_above, bits_setBits_below]

theorem State.gen_lt (s : State) (i : Nat) : (s.shard i).gen < 2 ^ 16 := bits_lt ..

/-! ## Journal slots -/

theorem journalRow_lt {die j : Nat} (hd : die < 32) (hj : j < 8) : journalRow die j < 2 ^ 20 := by
  unfold journalRow
  omega

theorem journalRow_ne {die i j : Nat} (h : i ≠ j) : journalRow die i ≠ journalRow die j := by
  unfold journalRow
  omega

theorem State.freeSlot_first {s : State} {die : Nat} (free : bitAt (s.obj Obj.journalSlot (journalRow die 0)) 63 = false) :
    s.freeSlot die = some 0 := List.find?_cons_of_pos (by rw [free]; rfl)

theorem State.slotOfEntry_first {s : State} {die entry : Nat} (valid : bitAt (s.obj Obj.journalSlot (journalRow die 0)) 63 = true)
    (holds : bits (s.obj Obj.journalSlot (journalRow die 0)) 45 18 = entry) : s.slotOfEntry die entry = some 0 :=
  List.find?_cons_of_pos (by simp [valid, holds])

theorem slotRecord_valid {entry gen : Nat} (hg : gen < 2 ^ 16) (he : entry < 2 ^ 18) :
    bitAt (slotRecord true entry gen 0) 63 = true ∧ bits (slotRecord true entry gen 0) 45 18 = entry := by
  simp only [bitAt, bits, slotRecord, Nat.shiftRight_eq_div_pow, Bool.toNat_true, beq_iff_eq]
  omega

/-! ## The end of an update -/

/-- The object rows that the update of an entry moves: the shard's and that of its die's first slot. -/
def updateRows (die i : Nat) : Nat → Nat → Prop := fun id row =>
  oneRow Obj.residence i id row ∨ oneRow Obj.journalSlot (journalRow die 0) id row

/-- `t` is `s` after the whole update of entry i by the die whose first slot held it: the shard is DONE at its next GEN, the slot is
cleared, and the entry is among those updated; besides the shard's and the slot's no object row moves. -/
structure State.Finished (die i : Nat) (s t : State) : Prop where
  shard : t.shard i = { s.shard i with state := shDone, gen := ((s.shard i).gen + 1) % 2 ^ 16 }
  slot : t.obj Obj.journalSlot (journalRow die 0) = 0
  updated : t.step.updated = s.step.updated ++ [i]
  rows : s.RowsOnly (updateRows die i) t

/-- What comes before the end of an update may move the same rows, and of the shard its STATE. -/
theorem State.Finished.after {die i v : Nat} {s t u : State} (h : State.Finished die i t u) (rows : s.RowsOnly (updateRows die i) t)
    (shard : t.shard i = { s.shard i with state := v }) (updated : t.step.updated = s.step.updated) : State.Finished die i s u where
  shard := by rw [h.shard, shard]
  slot := h.slot
  updated := by rw [h.updated, updated]
  rows := rows.trans h.rows

section Finished

variable {die i : Nat} {s t : State} (h : State.Finished die i s t)
include h

theorem State.Finished.obj {id row : Nat} (hr : row < 2 ^ 20) (shard : id ≠ Obj.residence) (slot : id ≠ Obj.journalSlot) :
    t.obj id row = s.obj id row :=
  h.rows id row hr fun moved => moved.elim (fun e => shard e.1) (fun e => slot e.1)

/-- The die's other slots stay. -/
theorem State.Finished.obj_slot (hd : die < 32) {j : Nat} (pos : 0 < j) (hj : j < 8) :
    t.obj Obj.journalSlot (journalRow die j) = s.obj Obj.journalSlot (journalRow die j) :=
  h.rows _ _ (journalRow_lt hd hj) fun moved =>
    moved.elim (fun e => absurd e.1 (by decide)) (fun e => journalRow_ne (Nat.ne_of_gt pos) e.2)

end Finished

/-- STATE DONE at a GEN. -/
def State.closeShard (s : State) (i gen : Nat) : State := (s.setShardState i shDone).setShardGen i gen

/-- STATE DONE at the next GEN and the slot cleared (R271 step 6). -/
def State.closeEntry (s : State) (i : Nat) (d : Shard) : State :=
  let t := s.closeShard i ((d.gen + 1) % 2 ^ 16)
  match t.slotOfEntry d.die i with
  | some j => t.setObj Obj.journalSlot (journalRow d.die j) 0
  | none => t

/-- What follows in the end of an update counts it: of the objects nothing more moves. -/
theorem State.obj_finishShard (s : State) (i : Nat) (d : Shard) (x : News) (id row : Nat) :
    (s.finishShard i d x).obj id row = (s.closeEntry i d).obj id row := (rfl)

theorem State.updated_finishShard (s : State) (i : Nat) (d : Shard) (x : News) :
    (s.finishShard i d x).step.updated = (s.closeEntry i d).step.updated ++ [i] := (rfl)

theorem State.onlyRows_closeShard (s : State) {i : Nat} (hi : i < 2 ^ 18) (gen : Nat) :
    s.OnlyRows (oneRow Obj.residence i) (s.closeShard i gen) :=
  (State.OnlyRows.setObj (by omega) ⟨rfl, rfl⟩).trans (.setObj (by omega) ⟨rfl, rfl⟩)

theorem State.shard_closeShard (s : State) (i gen : Nat) :
    (s.closeShard i gen).shard i = { s.shard i with state := shDone, gen := gen % 2 ^ 16 } := by
  rw [State.closeShard, State.shard_setShardGen, State.shard_setShardState]
  rfl

/-- A slot record that is valid and names an entry. -/
def State.Journals (s : State) (row entry : Nat) : Prop :=
  bitAt (s.obj Obj.journalSlot row) 63 = true ∧ bits (s.obj Obj.journalSlot row) 45 18 = entry

theorem State.Journals.of_obj {s t : State} {row entry : Nat} (h : s.Journals row entry)
    (same : t.obj Obj.journalSlot row = s.obj Obj.journalSlot row) : t.Journals row entry := by
  unfold State.Journals
  rw [same]
  exact h

section Finish

variable {s : State} {i : Nat} {d : Shard} (hi : i < 2 ^ 18) (hd : d.die < 32) (journals : s.Journals (journalRow d.die 0) i)
include hi hd journals

theorem State.closeEntry_eq : s.closeEntry i d =
    (s.closeShard i ((d.gen + 1) % 2 ^ 16)).setObj Obj.journalSlot (journalRow d.die 0) 0 := by
  have same : (s.closeShard i ((d.gen + 1) % 2 ^ 16)).obj Obj.journalSlot (journalRow d.die 0) =
      s.obj Obj.journalSlot (journalRow d.die 0) :=
    (s.onlyRows_closeShard hi _).2.1 _ _ (journalRow_lt hd (by decide)) fun row => absurd row.1 (by decide)
  obtain ⟨valid, holds⟩ := journals.of_obj same
  unfold State.closeEntry
  dsimp only
  rw [State.slotOfEntry_first valid holds]

theorem State.finished_finishShard (x : News) (gen : d.gen = (s.shard i).gen) : State.Finished d.die i s (s.finishShard i d x) := by
  have close := State.closeEntry_eq hi hd journals
  have slot := journalRow_lt hd (j := 0) (by decide)
  have shard : (s.finishShard i d x).shard i = (s.closeShard i ((d.gen + 1) % 2 ^ 16)).shard i := by
    refine congrArg shardOf ?_
    rw [State.obj_finishShard, close, State.obj_setObj_ne (objKey_ne_of_id slot (by omega) (by decide))]
  refine ⟨?_, ?_, ?_, fun id row hr other => ?_⟩
  · rw [shard, State.shard_closeShard, gen, Nat.mod_mod]
  · rw [State.obj_finishShard, close, State.obj_setObj_self]
  · rw [State.updated_finishShard, close]
    rfl
  · obtain ⟨notShard, notSlot⟩ := not_or.mp other
    rw [State.obj_finishShard, close]
    exact (State.RowsOnly.setObj slot ⟨rfl, rfl⟩ id row hr notSlot).trans ((s.onlyRows_closeShard hi _).2.1 id row hr notShard)

end Finish

/-- The update of a shard from its old arrays on (R271 steps 3 to 7). -/
theorem State.finished_runShard {s : State} {i : Nat} {d : Shard} (hi : i < 2 ^ 18) (hd : d.die < 32)
    (journals : s.Journals (journalRow d.die 0) i) (gen : d.gen = (s.shard i).gen) (sc : Scalars) (mark : Nat) :
    State.Finished d.die i s (s.runShard sc i d mark) := by
  have tiers := s.onlyTiers_written d (s.news sc d) (s.coef sc d).sc.ca (1024 * mark) d.ecount
  have done := State.finished_finishShard hi hd (journals.of_obj (tiers.obj ..)) (s.news sc d) (gen.trans (by rw [tiers.shard]))
  exact done.after (fun id row _ _ => tiers.obj id row) (tiers.shard i) (congrArg Step.updated tiers.step)

/-- The old arrays copied to the first slot, and its record (R271 steps 1 and 2). -/
def State.journaled (s : State) (i : Nat) (d : Shard) : State :=
  (s.saveOld d 0).setObj Obj.journalSlot (journalRow d.die 0) (slotRecord true i d.gen 0)

theorem State.onlyRows_journaled (s : State) {d : Shard} (hd : d.die < 32) (i : Nat) :
    (s.saveOld d 0).OnlyRows (oneRow Obj.journalSlot (journalRow d.die 0)) (s.journaled i d) :=
  .setObj (journalRow_lt hd (by decide)) ⟨rfl, rfl⟩

theorem State.journals_journaled (s : State) {i : Nat} (hi : i < 2 ^ 18) :
    (s.journaled i (s.shard i)).Journals (journalRow (s.shard i).die 0) i := by
  unfold State.Journals State.journaled
  rw [State.obj_setObj_self]
  exact slotRecord_valid (s.gen_lt i) hi

theorem State.updateShard_journaled {s : State} {i : Nat} (jrnl : (s.shard i).jrnl = true)
    (free : bitAt (s.obj Obj.journalSlot (journalRow (s.shard i).die 0)) 63 = false) (sc : Scalars) :
    s.updateShard sc i none = (s.journaled i (s.shard i)).runShard sc i (s.shard i) 0 := by
  have opened : s.openShard i (s.shard i) = some (s.journaled i (s.shard i)) := by
    rw [State.openShard, if_pos jrnl, State.freeSlot_first free, Option.map_some, State.journaled]
  rw [State.updateShard, opened]

section Resume

variable {s : State} {die i : Nat} (hi : i < 2 ^ 18) (hd : die < 32) (shard : (s.shard i).die = die)
include hi hd shard

/-- The update taken up from the old arrays in the journal (R273). -/
theorem State.finished_redo (journals : s.Journals (journalRow die 0) i) (sc : Scalars) (mark : Nat) :
    State.Finished die i s (((s.restoreOld (s.shard i) 0).setShardState i shJournaled).runShard sc i (s.shard i) mark) := by
  subst shard
  have tiers := s.onlyTiers_restoreOld (s.shard i) 0
  have rows : (s.restoreOld (s.shard i) 0).RowsOnly (oneRow Obj.residence i)
      ((s.restoreOld (s.shard i) 0).setShardState i shJournaled) := .setObj (by omega) ⟨rfl, rfl⟩
  have state := (s.restoreOld (s.shard i) 0).shard_setShardState i shJournaled
  rw [tiers.shard] at state
  have slot := (rows Obj.journalSlot (journalRow (s.shard i).die 0) (journalRow_lt hd (by decide))
    fun row => absurd row.1 (by decide)).trans (tiers.obj ..)
  have done := State.finished_runShard hi hd (journals.of_obj slot) (congrArg Shard.gen state).symm sc mark
  exact done.after (fun id row hr other => (rows id row hr fun own => other (.inl own)).trans (tiers.obj id row)) state
    (congrArg Step.updated ((State.setField_step ..).trans tiers.step))

/-- The update of a journaled shard from the start, where the first slot is free (R271). -/
theorem State.finished_updateShard (jrnl : (s.shard i).jrnl = true)
    (free : bitAt (s.obj Obj.journalSlot (journalRow die 0)) 63 = false) (sc : Scalars) :
    State.Finished die i s (s.updateShard sc i none) := by
  subst shard
  have tiers := s.onlyTiers_saveOld (s.shard i) 0
  have rows := State.onlyRows_journaled s hd i
  have state : (s.journaled i (s.shard i)).shard i = s.shard i := (congrArg shardOf
    (rows.2.1 Obj.residence i (by omega) fun slot => absurd slot.1 (by decide))).trans (tiers.shard i)
  rw [State.updateShard_journaled jrnl free]
  exact (State.finished_runShard hi hd (s.journals_journaled hi) (congrArg Shard.gen state).symm sc 0).after
    (fun id row hr other => (rows.2.1 id row hr fun own => other (.inr own)).trans (tiers.obj id row)) state
    (congrArg Step.updated ((State.setObj_step ..).trans tiers.step))

end Resume

/-! ## A die that resumes -/

theorem State.redoSlot_of_free {s : State} {die j : Nat} (free : bitAt (s.obj Obj.journalSlot (journalRow die j)) 63 = false)
    (sc : Scalars) : s.redoSlot sc die j = s := by
  rw [State.redoSlot, free]
  rfl

/-- A die that resumes with a record in its first slot alone takes that one up. -/
theorem exec_journalRedo {s t : State} {die : Fin 32} {sc : Scalars} (up : s.up = true) (scalars : s.step.scalars = some sc)
    (first : s.redoSlot sc die.val 0 = t)
    (others : ∀ j, 0 < j → j < 8 → bitAt (t.obj Obj.journalSlot (journalRow die.val j)) 63 = false) :
    exec (.journalRedo die) s = .next t := by
  have rest : (List.range' 1 7).foldl (fun u j => u.redoSlot sc die.val j) t = t := foldl_of_fixed fun j hj => by
    obtain ⟨pos, lt⟩ := List.mem_range'_1.mp hj
    exact State.redoSlot_of_free (others j pos lt) sc
  have all : List.range 8 = 0 :: List.range' 1 7 := by decide
  show execJournalRedo die s = _
  rw [execJournalRedo, scalars]
  dsimp only
  rw [if_pos up, all, List.foldl_cons, first, rest]
  rfl

section Slot

variable {s : State} {sc : Scalars} {die i : Nat} (journals : s.Journals (journalRow die 0) i)
include journals

theorem State.redoSlot_stopped (stopped : (s.shard i).state = shJournaled ∨ (s.shard i).state = shMoments) :
    s.redoSlot sc die 0 =
      ((((s.restoreOld (s.shard i) 0).setShardState i shJournaled).runShard sc i (s.shard i)
        (bits (s.obj Obj.journalSlot (journalRow die 0)) 18 11)).bump Obj.journalRedos 0 1).fault
        (if die < 24 then 0x4411 else 0x6411) (if die < 24 then die else die - 24) 0 := by
  obtain ⟨valid, holds⟩ := journals
  rw [State.redoSlot, valid, holds]
  exact if_pos stopped

theorem State.redoSlot_done (state : (s.shard i).state = shDone)
    (gen : (s.shard i).gen = (bits (s.obj Obj.journalSlot (journalRow die 0)) 29 16 + 1) % 2 ^ 16) :
    s.redoSlot sc die 0 = s.setObj Obj.journalSlot (journalRow die 0) 0 := by
  obtain ⟨valid, holds⟩ := journals
  rw [State.redoSlot, valid, holds]
  dsimp only
  rw [if_neg (by decide), if_neg (by rw [state]; decide), if_pos ⟨state, gen⟩]

theorem State.redoSlot_old (state : (s.shard i).state = shDone)
    (gen : (s.shard i).gen ≠ (bits (s.obj Obj.journalSlot (journalRow die 0)) 29 16 + 1) % 2 ^ 16) :
    s.redoSlot sc die 0 = (s.setObj Obj.journalSlot (journalRow die 0) 0).updateShard sc i none := by
  obtain ⟨valid, holds⟩ := journals
  rw [State.redoSlot, valid, holds]
  dsimp only
  rw [if_neg (by decide), if_neg (by rw [state]; decide), if_neg (fun h => gen h.2), if_pos state]

end Slot

section Resumes

variable {s : State} {die : Fin 32} {sc : Scalars} {i : Nat} (up : s.up = true) (scalars : s.step.scalars = some sc)
  (journals : s.Journals (journalRow die.val 0) i) (own : (s.shard i).die = die.val)
  (others : ∀ j, 0 < j → j < 8 → bitAt (s.obj Obj.journalSlot (journalRow die.val j)) 63 = false)
include up scalars journals others

/-- Nothing is left to do for a shard that is DONE at the new generation. -/
theorem exec_journalRedo_done (state : (s.shard i).state = shDone)
    (gen : (s.shard i).gen = (bits (s.obj Obj.journalSlot (journalRow die.val 0)) 29 16 + 1) % 2 ^ 16) :
    exec (.journalRedo die) s = .next (s.setObj Obj.journalSlot (journalRow die.val 0) 0) := by
  refine exec_journalRedo up scalars (State.redoSlot_done journals state gen) fun j pos hj => ?_
  rw [State.obj_setObj_ne (objKey_ne_of_row (journalRow_lt die.isLt (by decide)) (journalRow_lt die.isLt hj)
    (journalRow_ne (Nat.ne_of_lt pos)))]
  exact others j pos hj

include own

/-- A shard that is DONE at the old generation is updated from the start. -/
theorem exec_journalRedo_old (state : (s.shard i).state = shDone)
    (gen : (s.shard i).gen ≠ (bits (s.obj Obj.journalSlot (journalRow die.val 0)) 29 16 + 1) % 2 ^ 16)
    (jrnl : (s.shard i).jrnl = true) :
    ∃ t, exec (.journalRedo die) s = .next t ∧ State.Finished die.val i s t := by
  have hi : i < 2 ^ 18 := journals.2 ▸ bits_lt ..
  obtain ⟨u, hu⟩ : ∃ u, u = s.setObj Obj.journalSlot (journalRow die.val 0) 0 := ⟨_, rfl⟩
  have cleared : s.RowsOnly (oneRow Obj.journalSlot (journalRow die.val 0)) u :=
    hu ▸ .setObj (journalRow_lt die.isLt (by decide)) ⟨rfl, rfl⟩
  have shard : u.shard i = s.shard i :=
    congrArg shardOf (cleared Obj.residence i (by omega) fun slot => absurd slot.1 (by decide))
  have free : bitAt (u.obj Obj.journalSlot (journalRow die.val 0)) 63 = false := by
    rw [hu, State.obj_setObj_self]
    rfl
  have updated := State.finished_updateShard hi die.isLt ((congrArg Shard.die shard).trans own)
    ((congrArg Shard.jrnl shard).trans jrnl) free sc
  have done := updated.after (fun id row hr other => cleared id row hr fun slot => other (.inr slot))
    (v := (s.shard i).state) shard (by rw [hu, State.setObj_step])
  have run : s.redoSlot sc die.val 0 = u.updateShard sc i none := hu ▸ State.redoSlot_old journals state gen
  refine ⟨_, exec_journalRedo up scalars run fun j pos hj => ?_, done⟩
  rw [done.obj_slot die.isLt pos hj]
  exact others j pos hj

/-- A shard that stopped in its journal is finished, and the redo is counted and recorded. -/
theorem exec_journalRedo_stopped (stopped : (s.shard i).state = shJournaled ∨ (s.shard i).state = shMoments) :
    ∃ t u, State.Finished die.val i s t ∧ u = t.bump Obj.journalRedos 0 1 ∧ exec (.journalRedo die) s =
      .next (u.fault (if die.val < 24 then 0x4411 else 0x6411) (if die.val < 24 then die.val else die.val - 24) 0) := by
  have hi : i < 2 ^ 18 := journals.2 ▸ bits_lt ..
  have done := State.finished_redo hi die.isLt own journals sc (bits (s.obj Obj.journalSlot (journalRow die.val 0)) 18 11)
  refine ⟨_, _, done, rfl, exec_journalRedo up scalars (State.redoSlot_stopped journals stopped) fun j pos hj => ?_⟩
  have row := journalRow_lt die.isLt hj
  rw [State.obj_fault_other row (by decide), State.obj_bump_ne (objKey_ne_of_id (by decide) row (by decide)),
    done.obj_slot die.isLt pos hj]
  exact others j pos hj

end Resumes

/-- The record of a redo is the newest, and it counts one redo; the shard and its slot are those of the update. -/
theorem State.Finished.counted {die i : Nat} {s t : State} (h : State.Finished die i s t) (hi : i < 2 ^ 18) (hd : die < 32)
    {code : Nat} (hc : code < 2 ^ 16) (unit : Nat) :
    ((t.bump Obj.journalRedos 0 1).fault code unit 0).shard i =
        { s.shard i with state := shDone, gen := ((s.shard i).gen + 1) % 2 ^ 16 } ∧
      ((t.bump Obj.journalRedos 0 1).fault code unit 0).obj Obj.journalSlot (journalRow die 0) = 0 ∧
      ((t.bump Obj.journalRedos 0 1).fault code unit 0).step.updated = s.step.updated ++ [i] ∧
      ((t.bump Obj.journalRedos 0 1).fault code unit 0).obj Obj.journalRedos 0 = satAdd 64 (s.obj Obj.journalRedos 0) 1 ∧
      bits (((t.bump Obj.journalRedos 0 1).fault code unit 0).obj Obj.faultLog ((s.lastSeq + 1) % 2 ^ 32 % 4096)) 144 16 = code := by
  have row := journalRow_lt hd (j := 0) (by decide)
  have seq : (t.bump Obj.journalRedos 0 1).obj Obj.faultSeqLast 0 = s.lastSeq := by
    rw [State.obj_bump_ne (by decide), h.obj (by decide) (by decide) (by decide)]
    rfl
  refine ⟨?_, ?_, ?_, ?_, ?_⟩
  · refine (congrArg shardOf ?_).trans h.shard
    rw [State.obj_fault_other (by omega) (by decide), State.obj_bump_ne (objKey_ne_of_id (by decide) (by omega) (by decide))]
  · rw [State.obj_fault_other row (by decide), State.obj_bump_ne (objKey_ne_of_id (by decide) row (by decide)), h.slot]
  · rw [State.fault_step, State.bump_step, h.updated]
  · rw [State.obj_fault_other (by decide) (by decide), State.obj_bump_of_bits (by decide : objBits Obj.journalRedos = 64),
      h.obj (by decide) (by decide) (by decide)]
  · have code := State.code_fault (t.bump Obj.journalRedos 0 1) hc unit 0
    rwa [State.obj_fault_seqLast, seq] at code

end Sys2Proof.Machine
end

section
/-! SUPPORT. What a band's repacking writes: the part of the statement about updates (O40) that is about bands. -/

namespace Sys2Proof.Machine

/-- A number of n bytes written reads back. -/
theorem memNat_memWrite_leBytes (m : Mem) (a n v : Nat) : memNat (memWrite m a (leBytes n v)) a n = v % 2 ^ (8 * n) := by
  have read := memRead_memWrite_self (leBytes n v) m a
  rw [length_leBytes] at read
  rw [memNat, read, leNat_leBytes]

theorem memNat_lt (m : Mem) (a n : Nat) : memNat m a n < 2 ^ (8 * n) := by
  have lt := leNat_lt (memRead m a n)
  rwa [memRead_length] at lt

theorem State.slow_putSegs (L : Nat) : ∀ (bs : List (List Byte)) (s : State) (a : Nat), (s.putSegs a L bs).slow = s.slow
  | [], _, _ => rfl
  | b :: bs, s, a => State.slow_putSegs L bs (s.tierWrite false a b) (a + 64 * L)

theorem State.onlyTiers_putSegs (L : Nat) : ∀ (bs : List (List Byte)) (s : State) (a : Nat), s.OnlyTiers (s.putSegs a L bs)
  | [], s, _ => .refl s
  | b :: bs, s, a => (s.onlyTiers_tierWrite false a b).trans (State.onlyTiers_putSegs L bs _ _)

/-- A band's segments are written to the fast tier and its directory word counts them (R247). -/
theorem State.repackBand_spec (s : State) (row : Nat) (m : MaskRow) (stack : Nat) (column : Bool) (band : Nat) {n : Nat}
    (segs : (s.bandSegs m.tensor stack m column band).length = n) :
    ∃ u, s.OnlyTiers u ∧ u.slow = s.slow ∧
      memNat u.fast (s.bandDir m.tensor stack m column band) 8 =
        setBits (memNat s.fast (s.bandDir m.tensor stack m column band) 8) 28 12 n ∧
      (s.repackBand row m stack column band).1 = u.setField Obj.maskSegmentsPeak row (if column then 16 else 0) 16
        (max (u.field Obj.maskSegmentsPeak row (if column then 16 else 0) 16) n) := by
  unfold State.repackBand
  dsimp only
  rw [segs]
  refine ⟨_, ?_, ?_, ?_, rfl⟩
  · exact (State.onlyTiers_putSegs ..).trans (State.onlyTiers_tierWrite ..)
  · exact State.slow_putSegs ..
  · have word := memNat_lt s.fast (s.bandDir m.tensor stack m column band) 8
    refine (memNat_memWrite_leBytes ..).trans (Nat.mod_eq_of_lt ?_)
    rw [setBits_eq]
    omega

/-- The peak of a band's segments fits its 16 bits. -/
theorem State.field_peak {s u : State} {id row lo n : Nat} (small : n < 2 ^ 16) :
    (u.setField id row lo 16 (max (s.field id row lo 16) n)).field id row lo 16 = max (s.field id row lo 16) n := by
  have old : s.field id row lo 16 < 2 ^ 16 := bits_lt ..
  rw [State.field, State.obj_setField_self, bits_setBits_self]
  exact Nat.mod_eq_of_lt (max_lt old small)

/-- A band is due no more. -/
def Step.dropBand (w : Step) (key : Nat) : Step := { w with repack := w.repack.filter (· != key) }

def State.dropBand (s : State) (key : Nat) : State := { s with step := s.step.dropBand key }

section Repack

variable {s : State} {tensor : W32} {stack : StackNo} {column : Bool} {band row : Nat} {m : MaskRow}
  (up : s.up = true) (mask : s.maskOf tensor.toNat = some (row, m))
  (due : bandKey tensor.toNat stack.val column band ∈ s.step.repack)
include up mask due

/-- A due band repacked, its conversions counted (R243, R247). -/
theorem exec_bandRepack : exec (.bandRepack tensor stack column band) s =
    .next (((s.repackBand row m stack.val column band).1.countConv tensor.toNat
      (s.repackBand row m stack.val column band).2).dropBand (bandKey tensor.toNat stack.val column band)) := by
  have isDue : s.step.repack.contains (bandKey tensor.toNat stack.val column band) = true := List.contains_iff_mem.mpr due
  show execBandRepack tensor stack column band s = _
  unfold execBandRepack
  rw [mask]
  dsimp only
  rw [up, isDue]
  rfl

/-- R247: of a due band the directory word and the peak count the segments, and it is due no more. -/
theorem bandRepack_spec {n : Nat} (segs : (s.bandSegs m.tensor stack.val m column band).length = n) (small : n < 2 ^ 12) :
    ∃ t, exec (.bandRepack tensor stack column band) s = .next t ∧
      t.step = { s.step with repack := s.step.repack.filter (· != bandKey tensor.toNat stack.val column band) } ∧
      memNat t.fast (s.bandDir m.tensor stack.val m column band) 8 =
        setBits (memNat s.fast (s.bandDir m.tensor stack.val m column band) 8) 28 12 n ∧
      t.field Obj.maskSegmentsPeak row (if column then 16 else 0) 16 =
        max (s.field Obj.maskSegmentsPeak row (if column then 16 else 0) 16) n ∧ t.slow = s.slow := by
  obtain ⟨u, tiers, slow, dir, packed⟩ := s.repackBand_spec row m stack.val column band segs
  obtain ⟨stones, counted, _⟩ := (s.repackBand row m stack.val column band).1.countConv_spec tensor.toNat
    (s.repackBand row m stack.val column band).2
  have run := exec_bandRepack up mask due
  rw [counted, packed, tiers.field] at run
  refine ⟨_, run, ?_, dir, ?_, slow⟩
  · exact congrArg (fun w => Step.dropBand w (bandKey tensor.toNat stack.val column band)) tiers.step
  · exact State.field_peak (small.trans (by decide))

end Repack

end Sys2Proof.Machine
end

section
/-! SUPPORT. The laws of states that differ in frames sent (OnlyFrames): they compose, and what a port does with a control frame
meets them. -/

namespace Sys2Proof.Machine

/-! ## States that differ in frames sent -/

/-- A state with another's ports, arbiters and pending writes. -/
def State.unsent (t s : State) : State :=
  { t with link := s.link, fabric := { t.fabric with arbiters := s.fabric.arbiters }
           dict := { t.dict with pending := s.dict.pending } }

theorem State.OnlyRows.unsent {ch : Nat → Nat → Prop} {t u : State} (h : t.OnlyRows ch u) (s : State) :
    (t.unsent s).OnlyRows ch (u.unsent s) :=
  ⟨congrArg (fun w => State.unsent w s) h.1, h.2.1, h.2.2⟩

theorem State.OnlyFrames.refl (ch : Nat → Nat → Prop) (s : State) : s.OnlyFrames ch s :=
  ⟨.refl ch s, fun _ _ => rfl, fun _ _ => rfl⟩

section OnlyFrames

variable {ch : Nat → Nat → Prop} {s t : State}

theorem State.OnlyFrames.trans {u : State} (h : s.OnlyFrames ch t) (k : t.OnlyFrames ch u) : s.OnlyFrames ch u :=
  ⟨h.1.trans (State.OnlyRows.unsent k.1 s), fun i n => (k.2.1 i n).trans (h.2.1 i n), fun i n => (k.2.2 i n).trans (h.2.2 i n)⟩

theorem State.OnlyRows.frames (h : s.OnlyRows ch t) : s.OnlyFrames ch t := by
  have link : t.link = s.link := by rw [h.1]
  have fabric : t.fabric = s.fabric := by rw [h.1]
  have pending : t.dict.pending = s.dict.pending := by rw [h.1]
  refine ⟨?_, fun i _ => by rw [fabric], fun i _ => by rw [pending]⟩
  rw [← link, ← fabric, ← pending]
  exact h

variable (h : s.OnlyFrames ch t)
include h

theorem State.OnlyFrames.step : t.step = s.step :=
  have same := congrArg State.step h.1.1
  same

theorem State.OnlyFrames.fast : t.fast = s.fast :=
  have same := congrArg State.fast h.1.1
  same

theorem State.OnlyFrames.obj {id row : Nat} (hr : row < 2 ^ 20) (other : ¬ch id row) : t.obj id row = s.obj id row :=
  h.1.2.1 id row hr other

end OnlyFrames

theorem State.onlyFrames_setPort (ch : Nat → Nat → Prop) (s : State) (p : Nat) (x : Port) : s.OnlyFrames ch (s.setPort p x) :=
  .refl ch s

theorem State.onlyFrames_setArbiter (ch : Nat → Nat → Prop) (s : State) {p : Nat} (hp : p < 2 ^ 20) (a : Arbiter) :
    s.OnlyFrames ch (s.setArbiter 3 p a) := by
  refine ⟨.refl ch s, fun k other => tget_tput_ne (fun e => other ?_) .., fun _ _ => rfl⟩
  unfold arbKey at e
  omega

/-! ## A port sends -/

/-- A pending ARB_PRIO of the ports meets its boundary (R177, R411). -/
theorem State.onlyFrames_applyRound (s : State) : s.OnlyFrames linkRows (s.applyRound 3) := by
  unfold State.applyRound
  split
  · exact .refl _ s
  · exact ⟨State.OnlyRows.unsent (.setObj (by decide) (.inr ⟨rfl, rfl⟩)) s, fun _ _ => rfl,
      fun k other => tget_tdel_ne (Ne.symm other) _⟩

theorem State.onlyFrames_decideArb (s : State) {p : Nat} (hp : p < 2 ^ 20) (rs : List (Nat × Nat)) :
    s.OnlyFrames linkRows (s.decideArb 3 p rs) := by
  unfold State.decideArb
  dsimp only
  split <;> exact s.onlyFrames_applyRound.trans (State.onlyFrames_setArbiter _ _ hp _)

theorem State.onlyFrames_pumpOne (s : State) {p : Nat} (hp : p < 2 ^ 20) : s.OnlyFrames linkRows (s.pumpOne p) := by
  have decided := s.onlyFrames_decideArb hp ((s.port p).asks.map (fun c => (c, 0)))
  unfold State.pumpOne
  dsimp only
  split
  · exact decided
  · exact ((decided.trans (State.onlyFrames_setArbiter _ _ hp _)).trans (State.onlyFrames_setPort ..)).trans
      (State.OnlyRows.frames (.bump hp (.inl (by decide))))

theorem State.onlyFrames_pumpN {p : Nat} (hp : p < 2 ^ 20) : ∀ (n : Nat) (s : State), s.OnlyFrames linkRows (State.pumpN n p s)
  | 0, s => .refl _ s
  | n + 1, s => by
    rw [State.pumpN]
    split
    · exact .refl _ s
    · exact (s.onlyFrames_pumpOne hp).trans (State.onlyFrames_pumpN hp n _)

theorem State.onlyFrames_pump (s : State) {p : Nat} (hp : p < 2 ^ 20) : s.OnlyFrames linkRows (s.pump p) := by
  unfold State.pump
  dsimp only
  split
  · exact (s.onlyFrames_setPort ..).trans (State.onlyFrames_pumpN hp ..)
  · exact .refl _ s

/-! ## A control frame sent -/

theorem portsTo_lt {n : Neighbour} {p : Nat} (h : p ∈ portsTo n) : p < 8 := by
  cases n <;> simp [portsTo] at h <;> omega

theorem State.livePort_lt {s : State} {n : Neighbour} {p : Nat} (h : s.livePort n = some p) : p < 8 :=
  portsTo_lt (List.mem_of_find?_eq_some h)

theorem State.waitPort_lt (s : State) (n : Neighbour) : s.waitPort n < 8 := by
  unfold State.waitPort
  dsimp only
  cases found : ((portsTo n).find? (fun p => s.portState p == lkRetraining)).or
      ((portsTo n).find? (fun p => s.portState p != lkRetired)) with
  | none => cases n <;> decide
  | some p =>
    rcases Option.or_eq_some_iff.mp found with first | ⟨_, second⟩
    · exact portsTo_lt (List.mem_of_find?_eq_some first)
    · exact portsTo_lt (List.mem_of_find?_eq_some second)

section Control

variable {f : OutFrame} (control : isBulk f.typ.toNat = false)
include control

theorem State.onlyFrames_sendTo (s : State) (n : Neighbour) : s.OnlyFrames linkRows (s.sendTo n f) := by
  have port : (s.livePort n).getD (s.waitPort n) < 2 ^ 20 := by
    cases live : s.livePort n with
    | none => exact (s.waitPort_lt n).trans (by decide)
    | some p => exact (State.livePort_lt live).trans (by decide)
  unfold State.sendTo State.sendOn
  rw [control]
  exact (s.onlyFrames_setPort ..).trans (State.onlyFrames_pump _ port)

theorem State.onlyFrames_sendOut (s : State) (n : Neighbour) : s.OnlyFrames linkRows (s.sendOut n f) := by
  unfold State.sendOut
  split
  · exact s.onlyFrames_sendTo control n
  · split
    · exact s.onlyFrames_sendTo control n
    · exact .refl _ s

theorem State.onlyFrames_sendVotePath (s : State) : s.OnlyFrames linkRows (s.sendVotePath f) := by
  unfold State.sendVotePath
  split
  · exact s.onlyFrames_sendTo control _
  · split
    · exact .refl _ s
    · exact s.onlyFrames_sendTo control _

end Control

end Sys2Proof.Machine
end

section
/-! SUPPORT. What the end of an update shows and what the digest it sends leaves of that, and the statement about updates (O40). -/

namespace Sys2Proof.Machine

/-! ## What a complete update shows -/

/-- The objects that show a complete update (R275). -/
def completedIds : List Nat := [Obj.stepCount, Obj.updateTime, Obj.slowUpdateTime, Obj.digestLast]

/-- `t` shows the same of a complete update as `s`, with the fast tier as it was, the module's digest as sent and the masks held
alike. -/
structure State.ShowsAs (s t : State) : Prop where
  fast : t.fast = s.fast
  sent : t.step.digestSent = s.step.digestSent
  masks : t.step.maskSlots = s.step.maskSlots
  objs : ∀ id ∈ completedIds, t.obj id 0 = s.obj id 0

theorem State.ShowsAs.refl (s : State) : s.ShowsAs s := ⟨rfl, rfl, rfl, fun _ _ => rfl⟩

theorem State.ShowsAs.trans {s t u : State} (h : s.ShowsAs t) (k : t.ShowsAs u) : s.ShowsAs u :=
  ⟨k.fast.trans h.fast, k.sent.trans h.sent, k.masks.trans h.masks, fun id m => (k.objs id m).trans (h.objs id m)⟩

theorem State.showsAs_foldl {β : Type} {f : State → β → State} (each : ∀ (s : State) (b : β), s.ShowsAs (f s b)) (bs : List β)
    (s : State) : s.ShowsAs (bs.foldl f s) :=
  List.foldlRecOn bs f (.refl s) fun t h b _ => h.trans (each t b)

theorem State.OnlyFrames.showsAs {s t : State} (h : s.OnlyFrames linkRows t) : s.ShowsAs t := by
  refine ⟨h.fast, congrArg Step.digestSent h.step, congrArg Step.maskSlots h.step, fun id m => h.obj (by decide) ?_⟩
  unfold linkRows oneRow
  revert id
  decide

theorem State.showsAs_fault (s : State) (code unit detail : Nat) : s.ShowsAs (s.fault code unit detail) where
  fast := State.fault_fast ..
  sent := congrArg Step.digestSent (State.fault_step ..)
  masks := congrArg Step.maskSlots (State.fault_step ..)
  objs id m := State.obj_fault_other (by decide) (by revert id; decide) ..

section Shows

variable (s : State)

theorem State.showsAs_setObj {id : Nat} (other : id ∉ completedIds) (v : Nat) : s.ShowsAs (s.setObj id 0 v) where
  fast := State.setObj_fast ..
  sent := congrArg Step.digestSent (State.setObj_step ..)
  masks := congrArg Step.maskSlots (State.setObj_step ..)
  objs _ m := State.obj_setObj_ne (objKey_ne_of_id (by decide) (by decide) fun e => other (e ▸ m))

theorem State.showsAs_setField {id : Nat} (other : id ∉ completedIds) (lo w v : Nat) : s.ShowsAs (s.setField id 0 lo w v) :=
  s.showsAs_setObj other _

theorem State.showsAs_setFlag {id : Nat} (other : id ∉ completedIds) (i : Nat) : s.ShowsAs (s.setFlag id 0 i) :=
  s.showsAs_setObj other _

theorem State.showsAs_step {w : Step} (sent : w.digestSent = s.step.digestSent) (masks : w.maskSlots = s.step.maskSlots) :
    s.ShowsAs { s with step := w } := ⟨rfl, sent, masks, fun _ _ => rfl⟩

theorem State.showsAs_link (l : Link) : s.ShowsAs { s with link := l } := ⟨rfl, rfl, rfl, fun _ _ => rfl⟩

end Shows

/-! ## The digest -/

theorem State.showsAs_judgePace (s : State) (median : Nat) : s.ShowsAs (s.judgePace median) := by
  have shown := s.showsAs_setObj (id := Obj.paceMedian) (by decide) median
  have counted (n : Nat) := shown.trans (State.showsAs_setField _ (id := Obj.chainStatus) (by decide) 16 16 n)
  unfold State.judgePace
  dsimp only
  split
  · split
    · exact ((counted _).trans (State.showsAs_setFlag _ (by decide) _)).trans (State.showsAs_fault ..)
    · exact counted _
  · exact counted _

theorem State.showsAs_diverge (s : State) : s.ShowsAs s.diverge :=
  ((s.showsAs_setFlag (by decide) _).trans (State.showsAs_fault ..)).trans (State.showsAs_step _ rfl rfl)

theorem State.showsAs_split (s : State) : s.ShowsAs s.split := (s.showsAs_fault ..).trans (State.showsAs_step _ rfl rfl)

theorem State.showsAs_setPhase (s : State) (p : Nat) : s.ShowsAs (s.setPhase p) := s.showsAs_setField (by decide) ..

theorem State.showsAs_afterDigest (s : State) : s.ShowsAs s.afterDigest := by
  unfold State.afterDigest
  dsimp only
  split
  · exact .refl s
  · split
    · exact State.ShowsAs.trans (s.showsAs_step (by rfl) (by rfl)) (State.showsAs_setPhase ..)
    · exact s.showsAs_setPhase 7

theorem State.showsAs_takeVerdict (s : State) (m : Option W64) (map median : Nat) : s.ShowsAs (s.takeVerdict m map median) := by
  have seen : s.ShowsAs { s with step := { s.step with verdictSeen := true } } := s.showsAs_step rfl rfl
  have ends {t : State} (h : s.ShowsAs t) : s.ShowsAs (t.judgePace median).afterDigest :=
    (h.trans (t.showsAs_judgePace median)).trans (State.showsAs_afterDigest _)
  unfold State.takeVerdict
  split
  · exact .refl s
  · cases m with
    | none => exact ends (seen.trans (State.showsAs_split _))
    | some d =>
      dsimp only
      split
      · exact ends (seen.trans (State.showsAs_diverge _))
      · exact ends seen

theorem State.showsAs_reportRewoven (s : State) (p : Peer) : s.ShowsAs (s.reportRewoven p) := by
  unfold State.reportRewoven
  split
  · exact s.showsAs_link _
  · exact (State.onlyFrames_sendVotePath rfl s).showsAs

theorem State.showsAs_verdict (s : State) : s.ShowsAs s.verdict := by
  have sent {f : OutFrame} (control : isBulk f.typ.toNat = false) : s.ShowsAs ((s.sendOut .next f).sendOut .prev f) :=
    ((State.onlyFrames_sendOut control s _).trans (State.onlyFrames_sendOut control _ _)).showsAs
  unfold State.verdict
  exact (((sent rfl).trans (State.showsAs_link ..)).trans (State.showsAs_foldl State.showsAs_reportRewoven _ _)).trans
    (State.showsAs_takeVerdict ..)

theorem State.showsAs_tryDigest (s : State) : s.ShowsAs s.tryDigest := by
  unfold State.tryDigest
  dsimp only
  split
  · exact .refl s
  · split
    · exact s.showsAs_verdict
    · split
      · exact (s.showsAs_link _).trans (State.onlyFrames_sendTo rfl _ _).showsAs
      · exact s.showsAs_link _

/-- The module with its own entry formed (R329). -/
def State.ownEntry (s : State) : State :=
  { s with step := { s.step with digestSent := true }
           link := { s.link with digestList := s.link.digestList ++ [digestEntry s.step.digest (s.obj Obj.paceLast 0) s.myPos] } }

theorem State.showsAs_sendDigest (s : State) : s.ownEntry.ShowsAs s.sendDigest := by
  unfold State.sendDigest
  dsimp only
  split
  · exact ((s.ownEntry.showsAs_link _).trans (State.showsAs_setField _ (by decide) ..)).trans
      (State.onlyFrames_sendTo rfl _ _).showsAs
  · exact s.ownEntry.showsAs_tryDigest

/-! ## The masks close -/

/-- `t` has of `s` the fast tier, the step, the time and STEP_COUNT. -/
structure State.StepsAs (s t : State) : Prop where
  fast : t.fast = s.fast
  step : t.step = s.step
  time : t.time = s.time
  count : t.stepCount = s.stepCount

theorem State.StepsAs.refl (s : State) : s.StepsAs s := ⟨rfl, rfl, rfl, rfl⟩

theorem State.StepsAs.trans {s t u : State} (h : s.StepsAs t) (k : t.StepsAs u) : s.StepsAs u :=
  ⟨k.fast.trans h.fast, k.step.trans h.step, k.time.trans h.time, k.count.trans h.count⟩

theorem State.stepsAs_setObj (s : State) {id row : Nat} (hr : row < 2 ^ 20) (other : id ≠ Obj.stepCount) (v : Nat) :
    s.StepsAs (s.setObj id row v) :=
  ⟨rfl, rfl, rfl, State.obj_setObj_ne (objKey_ne_of_id hr (by decide) other)⟩

theorem State.masks_row_lt {s : State} {e : Nat × MaskRow} (h : e ∈ s.masks) : e.1 < 2 ^ 20 := by
  obtain ⟨r, hr, rfl⟩ := List.mem_map.mp (List.mem_of_mem_filter h)
  obtain ⟨k, _, rfl⟩ := List.mem_map.mp hr
  exact Nat.mod_lt _ (by decide)

theorem State.stepsAs_putHdr (s : State) (slot off n v : Nat) : s.StepsAs (s.putHdr slot off n v) := ⟨rfl, rfl, rfl, rfl⟩

theorem State.stepsAs_handBack (s : State) (slot : Nat) : s.StepsAs (s.handBack slot 1) :=
  (((s.stepsAs_putHdr ..).trans (State.stepsAs_putHdr ..)).trans (State.stepsAs_putHdr ..)).trans
    (State.stepsAs_setObj _ (by decide) (by decide) _)

theorem State.stepsAs_foldl {β : Type} {f : State → β → State} (bs : List β) (each : ∀ (s : State), ∀ b ∈ bs, s.StepsAs (f s b))
    (s : State) : s.StepsAs (bs.foldl f s) :=
  List.foldlRecOn bs f (motive := s.StepsAs) (.refl s) fun t h b m => h.trans (each t b m)

/-- The mask events of an update are noted and the mask slots are handed back (R235, R248, R392). -/
theorem State.closeMasks_spec (s : State) : s.closeMasks.fast = s.fast ∧ s.closeMasks.step = { s.step with maskSlots := [] } ∧
    s.closeMasks.time = s.time ∧ s.closeMasks.stepCount = s.stepCount := by
  have noted (u : State) {e : Nat × MaskRow} (used : e ∈ s.masks) :
      u.StepsAs ((u.setObj Obj.maskLastEvent e.1 (s.stepCount % 2 ^ 32)).bump Obj.maskEvents 0 1) :=
    (u.stepsAs_setObj (State.masks_row_lt used) (by decide) _).trans (State.stepsAs_setObj _ (by decide) (by decide) _)
  obtain ⟨fast, step, time, count⟩ := State.StepsAs.trans
    (State.stepsAs_foldl (s.masks.filter (fun e => e.2.pruneAt s.stepCount || (s.fixedSlot e.2.tensor).isSome))
      (fun u _ m => noted u (List.mem_of_mem_filter m)) s)
    (State.stepsAs_foldl s.step.maskSlots (fun u k _ => u.stepsAs_handBack k.slot) _)
  exact ⟨fast, congrArg (fun w : Step => { w with maskSlots := [] }) step, time, count⟩

/-- STEP_COUNT and the objects of R275 set. -/
def State.showUpdate (s : State) : State :=
  (((s.setObj Obj.stepCount 0 (s.stepCount + 1)).setObj Obj.updateTime 0 (s.time.now - s.step.commitTime)).setObj
    Obj.slowUpdateTime 0 s.step.slowTime).setObj Obj.digestLast 0 s.step.digest.toNat

theorem State.obj_showUpdate (s : State) : s.showUpdate.obj Obj.stepCount 0 = s.stepCount + 1 ∧
    s.showUpdate.obj Obj.updateTime 0 = s.time.now - s.step.commitTime ∧
    s.showUpdate.obj Obj.slowUpdateTime 0 = s.step.slowTime ∧ s.showUpdate.obj Obj.digestLast 0 = s.step.digest.toNat := by
  unfold State.showUpdate
  refine ⟨?_, ?_, ?_, State.obj_setObj_self ..⟩
  · rw [State.obj_setObj_ne (by decide), State.obj_setObj_ne (by decide), State.obj_setObj_ne (by decide), State.obj_setObj_self]
  · rw [State.obj_setObj_ne (by decide), State.obj_setObj_ne (by decide), State.obj_setObj_self]
  · rw [State.obj_setObj_ne (by decide), State.obj_setObj_self]

theorem exec_updateComplete {s : State} (up : s.up = true) (phase : s.phase = 4) (all : s.updateDone = true) :
    exec .updateComplete s = .next (s.closeMasks.showUpdate.setPhase 5).sendDigest := by
  show execUpdateComplete s = _
  unfold execUpdateComplete
  rw [State.ifUp_of_up up, phase, all]
  rfl

theorem exec_updateComplete_waits {s : State} (up : s.up = true) (part : s.updateDone = false) :
    exec .updateComplete s = .next s := by
  show execUpdateComplete s = _
  unfold execUpdateComplete
  rw [State.ifUp_of_up up, part, Bool.and_false]
  rfl

/-- R274, R275, R329: a complete update advances STEP_COUNT, shows its digest and times, and sends the digest. -/
theorem updateComplete_spec {s : State} (up : s.up = true) (phase : s.phase = 4) (all : s.updateDone = true) :
    ∃ t, exec .updateComplete s = .next t ∧ t.stepCount = s.stepCount + 1 ∧
      t.obj Obj.digestLast 0 = s.step.digest.toNat ∧ t.obj Obj.updateTime 0 = s.time.now - s.step.commitTime ∧
      t.obj Obj.slowUpdateTime 0 = s.step.slowTime ∧ t.step.digestSent = true ∧ t.step.maskSlots = [] ∧ t.fast = s.fast := by
  obtain ⟨fast, step, time, count⟩ := s.closeMasks_spec
  obtain ⟨stepCount, updateTime, slowTime, digest⟩ := s.closeMasks.obj_showUpdate
  rw [step, time] at updateTime
  rw [step] at slowTime digest
  rw [count] at stepCount
  have entered := s.closeMasks.showUpdate.showsAs_setPhase 5
  have sent := (s.closeMasks.showUpdate.setPhase 5).showsAs_sendDigest
  have shown {id : Nat} (m : id ∈ completedIds) := (sent.objs id m).trans (entered.objs id m)
  refine ⟨_, exec_updateComplete up phase all, (shown (by decide)).trans stepCount, (shown (by decide)).trans digest,
    (shown (by decide)).trans updateTime, (shown (by decide)).trans slowTime, sent.sent, ?_, ?_⟩
  · exact sent.masks.trans (entered.masks.trans (congrArg Step.maskSlots step))
  · exact sent.fast.trans (entered.fast.trans fast)

/-! ## The statement -/

/-- Settles O40: a resuming die takes up the record of its first slot in one of three ways; what a repacked band writes; and what a
complete update shows stays while its digest is sent. -/
theorem updatesResumeRepackAndComplete : Obligations.UpdatesResumeRepackAndComplete := by
  unfold Obligations.UpdatesResumeRepackAndComplete
  intro s up
  refine ⟨?_, fun tensor stack column band row m n mask due segs small => bandRepack_spec up mask due segs small,
    updateComplete_spec up, exec_updateComplete_waits up⟩
  rintro die sc w i d scalars rfl valid holds rfl own others
  have journals : s.Journals (journalRow die.val 0) i := ⟨valid, holds⟩
  have hi : i < 2 ^ 18 := holds ▸ bits_lt ..
  have slot := journalRow_lt die.isLt (j := 0) (by decide)
  refine ⟨fun state gen => ?_, fun state gen jrnl => ?_, fun stopped => ?_⟩
  · exact ⟨_, exec_journalRedo_done up scalars journals others state gen, State.obj_setObj_self .., .setObj slot ⟨rfl, rfl⟩⟩
  · obtain ⟨t, run, done⟩ := exec_journalRedo_old up scalars journals own others state gen jrnl
    have shard := done.shard
    rw [← state] at shard
    exact ⟨t, run, shard, done.slot, done.updated, done.obj (by decide) (by decide) (by decide)⟩
  · obtain ⟨t, u, done, rfl, run⟩ := exec_journalRedo_stopped up scalars journals own others stopped
    have code : (if die.val < 24 then 0x4411 else 0x6411) < 2 ^ 16 := by split <;> decide
    exact ⟨_, run, done.counted hi die.isLt code _⟩

end Sys2Proof.Machine
end

section
/-! SUPPORT. The laws of a frame that arrives and of frames a port sends: what a port keeps of the frames given to it, and the state
in which the effect of an accepted frame runs. -/

namespace Sys2Proof.Machine

/-! ## The raw rows of an object -/

theorem filter_tput {β : Type} (p : Nat × β → Bool) {k : Nat} {v : β} (out : ∀ w, p (k, w) = false) :
    ∀ m : SMap β, (tput m k v).filter p = m.filter p
  | [] => by simp [tput, out]
  | (i, w) :: m => by
    unfold tput
    split
    · rw [List.filter_cons_of_neg (by simp [out])]
    · split
      next same =>
        subst same
        rw [List.filter_cons_of_neg (by simp [out]), List.filter_cons_of_neg (by simp [out])]
      next => rw [List.filter_cons, List.filter_cons, filter_tput p out m]

theorem filter_tdel {β : Type} (p : Nat × β → Bool) {k : Nat} (out : ∀ w, p (k, w) = false) :
    ∀ m : SMap β, (tdel m k).filter p = m.filter p
  | [] => rfl
  | (i, w) :: m => by
    unfold tdel
    split
    next same =>
      subst same
      rw [List.filter_cons_of_neg (by simp [out]), filter_tdel p out m]
    next => rw [List.filter_cons, List.filter_cons, filter_tdel p out m]

theorem State.rowsOf_setObj {s : State} {id row v i : Nat} (hr : row < 2 ^ 20) (other : i ≠ id) :
    (s.setObj id row v).rowsOf i = s.rowsOf i := by
  have out (w : Nat) : ((objKey id row, w).1 / 2 ^ 20 == i) = false := by
    simp only [objKey, beq_eq_false_iff_ne]
    omega
  unfold State.rowsOf State.setObj putRow
  refine congrArg _ ?_
  split
  · exact filter_tdel (fun e => e.1 / 2 ^ 20 == i) out s.objs
  · exact filter_tput (fun e => e.1 / 2 ^ 20 == i) out s.objs

/-- The rows of every object with no row in `ch` stand in `t`'s table as in `s`'s. -/
def State.RawRows (ch : Nat → Nat → Prop) (s t : State) : Prop :=
  ∀ id, (∀ row, ¬ch id row) → t.rowsOf id = s.rowsOf id

section RawRows

variable {ch : Nat → Nat → Prop} {s t : State}

theorem State.RawRows.trans {u : State} (h : s.RawRows ch t) (k : t.RawRows ch u) : s.RawRows ch u :=
  fun id out => (k id out).trans (h id out)

theorem State.RawRows.of_objs (h : t.objs = s.objs) : s.RawRows ch t := fun _ _ => by
  unfold State.rowsOf
  rw [h]

theorem State.rawRows_setObj {id row v : Nat} (hr : row < 2 ^ 20) (h : ch id row) : s.RawRows ch (s.setObj id row v) :=
  fun _ out => State.rowsOf_setObj hr fun e => out row (e ▸ h)

theorem State.rawRows_fault {c u d : Nat} (h : ∀ k, ch Obj.faultLog k) (k : ch Obj.faultSeqLast 0) (l : ch Obj.faultReports 0) :
    s.RawRows ch (s.fault c u d) := by
  unfold State.fault State.record
  exact (State.rawRows_setObj (by decide) l).trans ((State.rawRows_setObj (by omega) (h _)).trans
    (State.rawRows_setObj (by decide) k))

end RawRows

/-! ## What a port holds -/

/-- A port that holds a frame given to it: it waits, or it is sent and unacknowledged. -/
def Port.Holds (q : Port) (f : OutFrame) : Prop := f ∈ q.waiting ∨ ∃ n, (n, f) ∈ q.unacked

theorem State.given_iff (s : State) (p : Nat) (f : OutFrame) : s.Given p f ↔ (s.port p).Holds f := .rfl

/-- A port with the same next number expected, and every frame that another holds. -/
structure Port.Keeps (q x : Port) : Prop where
  rxNext : x.rxNext = q.rxNext
  held : ∀ f, q.Holds f → x.Holds f

theorem Port.Keeps.refl (q : Port) : q.Keeps q := ⟨rfl, fun _ h => h⟩

theorem Port.Keeps.trans {q x y : Port} (h : q.Keeps x) (k : x.Keeps y) : q.Keeps y :=
  ⟨k.rxNext.trans h.rxNext, fun f m => k.held f (h.held f m)⟩

theorem Port.keeps_of_eq {q x : Port} (rxNext : x.rxNext = q.rxNext) (waiting : x.waiting = q.waiting)
    (unacked : x.unacked = q.unacked) : q.Keeps x :=
  ⟨rxNext, fun f => by unfold Port.Holds; rw [waiting, unacked]; exact id⟩

theorem Port.keeps_put (q : Port) (f : OutFrame) : q.Keeps (q.put f) := by
  refine ⟨rfl, fun g held => ?_⟩
  by_cases same : g = f
  · exact .inr ⟨q.txNext, by simp [Port.put, same]⟩
  · rcases held with waits | ⟨n, sent⟩
    · exact .inl ((List.mem_erase_of_ne same).mpr waits)
    · exact .inr ⟨n, List.mem_append_left _ sent⟩

theorem Port.keeps_waiting (q : Port) (fs : List OutFrame) : q.Keeps { q with waiting := q.waiting ++ fs } :=
  ⟨rfl, fun _ held => held.imp (List.mem_append_left _) id⟩

theorem State.keeps_emit (s : State) (p : Nat) : ∀ (fs : List (W16 × OutFrame)) (q : Port), q.Keeps (s.emit p fs q)
  | [], q => .refl q
  | (n, f) :: fs, q => by
    rw [State.emit]
    exact Port.Keeps.trans (Port.keeps_of_eq (q := q) (by rfl) (by rfl) (by rfl)) (s.keeps_emit p fs _)

theorem State.keeps_putOnLine (s : State) (p : Nat) (fs : List (W16 × OutFrame)) (q : Port) : q.Keeps (s.putOnLine p fs q) := by
  unfold State.putOnLine
  split
  · exact .refl q
  · exact .trans (x := { q with lastSent := [] }) (Port.keeps_of_eq rfl rfl rfl) (s.keeps_emit p fs _)

theorem State.port_setPort (s : State) (p i : Nat) (x : Port) :
    (s.setPort p x).port i = if i = p ∧ p < s.link.ports.length then x else s.port i := by
  unfold State.port State.setPort nth setNth
  by_cases same : i = p
  · subst same
    by_cases inside : i < s.link.ports.length
    · simp [inside]
    · simp [inside]
  · simp [same, List.getElem?_set_ne (Ne.symm same)]

/-! ## States that differ in frames sent, with what their ports hold -/

/-- `t` differs from `s` in the frames that its ports send, with everything else of the links as it was. -/
structure State.Hears (ch : Nat → Nat → Prop) (s t : State) : Prop where
  frames : s.OnlyFrames ch t
  raw : s.RawRows ch t
  link : t.link = { s.link with ports := t.link.ports }
  size : t.link.ports.length = s.link.ports.length

/-- And every frame given to a port of `s` is with that port in `t`. -/
structure State.Sends (ch : Nat → Nat → Prop) (s t : State) : Prop extends s.Hears ch t where
  keeps : ∀ p, (s.port p).Keeps (t.port p)

section Sends

variable {ch : Nat → Nat → Prop} {s t u : State}

theorem State.Hears.trans (h : s.Hears ch t) (k : t.Hears ch u) : s.Hears ch u where
  frames := h.frames.trans k.frames
  raw := h.raw.trans k.raw
  link := by rw [k.link, h.link]
  size := k.size.trans h.size

theorem State.Sends.refl (ch : Nat → Nat → Prop) (s : State) : s.Sends ch s :=
  ⟨⟨.refl ch s, .of_objs rfl, rfl, rfl⟩, fun _ => .refl _⟩

theorem State.Sends.trans (h : s.Sends ch t) (k : t.Sends ch u) : s.Sends ch u :=
  ⟨h.toHears.trans k.toHears, fun p => (h.keeps p).trans (k.keeps p)⟩

theorem State.Sends.of_link (frames : s.OnlyFrames ch t) (raw : s.RawRows ch t) (same : t.link = s.link) : s.Sends ch t :=
  ⟨⟨frames, raw, by rw [same], by rw [same]⟩, fun p => by unfold State.port; rw [same]; exact .refl _⟩

theorem State.Sends.given (h : s.Sends ch t) {p : Nat} {f : OutFrame} (held : s.Given p f) : t.Given p f :=
  (h.keeps p).held f held

theorem State.Hears.member (h : s.Hears ch t) : t.link.member = s.link.member :=
  have same := congrArg Link.member h.link
  same

theorem State.Hears.decided (h : s.Hears ch t) : t.link.decided = s.link.decided :=
  have same := congrArg Link.decided h.link
  same

theorem State.Hears.joined (h : s.Hears ch t) : t.link.joined = s.link.joined :=
  have same := congrArg Link.joined h.link
  same

theorem State.Hears.reweaving (h : s.Hears ch t) : t.link.reweaving = s.link.reweaving :=
  have same := congrArg Link.reweaving h.link
  same

theorem State.Hears.queries (h : s.Hears ch t) : t.link.queries = s.link.queries :=
  have same := congrArg Link.queries h.link
  same

theorem State.Hears.asked (h : s.Hears ch t) : t.link.asked = s.link.asked :=
  have same := congrArg Link.asked h.link
  same

theorem State.Hears.early (h : s.Hears ch t) : t.link.early = s.link.early :=
  have same := congrArg Link.early h.link
  same

theorem State.Hears.digestList (h : s.Hears ch t) : t.link.digestList = s.link.digestList :=
  have same := congrArg Link.digestList h.link
  same

theorem State.hears_setPort (s : State) (p : Nat) (x : Port) : s.Hears ch (s.setPort p x) where
  frames := State.onlyFrames_setPort ..
  raw := .of_objs rfl
  link := rfl
  size := List.length_set ..

theorem State.sends_setPort {p : Nat} {x : Port} (keeps : (s.port p).Keeps x) : s.Sends ch (s.setPort p x) where
  toHears := s.hears_setPort p x
  keeps i := by
    rw [State.port_setPort]
    split
    next same => rw [same.1]; exact keeps
    next => exact .refl _

theorem State.sends_setObj {id row v : Nat} (hr : row < 2 ^ 20) (h : ch id row) : s.Sends ch (s.setObj id row v) :=
  .of_link (State.OnlyRows.setObj hr h).frames (State.rawRows_setObj hr h) rfl

end Sends

/-! ## A port sends -/

theorem State.rawRows_decideArb (s : State) (p : Nat) (rs : List (Nat × Nat)) : s.RawRows linkRows (s.decideArb 3 p rs) := by
  have round : s.RawRows linkRows (s.applyRound 3) := by
    unfold State.applyRound
    split
    · exact .of_objs rfl
    · exact (State.rawRows_setObj (by decide) (.inr ⟨rfl, rfl⟩)).trans (.of_objs rfl)
  unfold State.decideArb
  dsimp only
  split <;> exact round.trans (.of_objs rfl)

theorem State.link_decideArb (s : State) (k p : Nat) (rs : List (Nat × Nat)) : (s.decideArb k p rs).link = s.link := by
  have round : (s.applyRound k).link = s.link := by
    unfold State.applyRound
    split <;> rfl
  unfold State.decideArb
  dsimp only
  split <;> exact round

theorem State.sends_decideArb (s : State) {p : Nat} (hp : p < 2 ^ 20) (rs : List (Nat × Nat)) :
    s.Sends linkRows (s.decideArb 3 p rs) :=
  .of_link (s.onlyFrames_decideArb hp rs) (s.rawRows_decideArb p rs) (s.link_decideArb 3 p rs)

theorem State.sends_setArbiter (s : State) {p : Nat} (hp : p < 2 ^ 20) (a : Arbiter) : s.Sends linkRows (s.setArbiter 3 p a) :=
  .of_link (State.onlyFrames_setArbiter _ s hp a) (.of_objs rfl) rfl

theorem State.sends_pumpOne (s : State) {p : Nat} (hp : p < 2 ^ 20) : s.Sends linkRows (s.pumpOne p) := by
  have decided := s.sends_decideArb hp ((s.port p).asks.map (fun c => (c, 0)))
  have port : (s.decideArb 3 p ((s.port p).asks.map (fun c => (c, 0)))).port p = s.port p := by
    unfold State.port
    rw [State.link_decideArb]
  unfold State.pumpOne
  dsimp only
  split
  · exact decided
  · refine ((decided.trans (State.sends_setArbiter _ hp _)).trans (State.sends_setPort ?_)).trans
      (State.sends_setObj hp (.inl (by decide)))
    show Port.Keeps ((s.decideArb 3 p _).port p) _
    rw [port]
    exact (Port.keeps_put ..).trans (State.keeps_emit ..)

theorem State.sends_pumpN {p : Nat} (hp : p < 2 ^ 20) : ∀ (n : Nat) (s : State), s.Sends linkRows (State.pumpN n p s)
  | 0, s => .refl _ s
  | n + 1, s => by
    rw [State.pumpN]
    split
    · exact .refl _ s
    · exact (s.sends_pumpOne hp).trans (State.sends_pumpN hp n _)

theorem State.sends_pump (s : State) {p : Nat} (hp : p < 2 ^ 20) : s.Sends linkRows (s.pump p) := by
  unfold State.pump
  dsimp only
  split
  · exact (State.sends_setPort (x := { s.port p with lastSent := [] }) (Port.keeps_of_eq rfl rfl rfl)).trans
      (State.sends_pumpN hp ..)
  · exact .refl _ s

theorem State.sends_giveFrame (s : State) {p : Nat} (hp : p < 2 ^ 20) (f : OutFrame) : s.Sends linkRows (s.giveFrame p f) :=
  (State.sends_setPort (Port.keeps_waiting ..)).trans (State.sends_pump _ hp)

theorem State.given_giveFrame {s : State} {p : Nat} (inside : p < s.link.ports.length) (hp : p < 2 ^ 20) (f : OutFrame) :
    (s.giveFrame p f).Given p f := by
  refine (State.sends_pump _ hp).given ?_
  rw [State.given_iff, State.port_setPort, if_pos ⟨rfl, inside⟩]
  exact .inl (List.mem_append_right _ (List.mem_singleton.mpr rfl))

/-! ## A control frame sent -/

section Control

variable {f : OutFrame} (control : isBulk f.typ.toNat = false)
include control

theorem State.sendTo_control (s : State) (n : Neighbour) : s.sendTo n f = s.giveFrame ((s.livePort n).getD (s.waitPort n)) f := by
  unfold State.sendTo State.sendOn
  rw [control]
  rfl

theorem State.sends_sendTo (s : State) (n : Neighbour) : s.Sends linkRows (s.sendTo n f) := by
  have port : (s.livePort n).getD (s.waitPort n) < 2 ^ 20 := by
    cases live : s.livePort n with
    | none => exact (s.waitPort_lt n).trans (by decide)
    | some p => exact (State.livePort_lt live).trans (by decide)
  rw [State.sendTo_control control]
  exact s.sends_giveFrame port f

theorem State.given_sendTo {s : State} {n : Neighbour} {p : Nat} (size : s.link.ports.length = 8) (live : s.livePort n = some p) :
    (s.sendTo n f).Given p f := by
  have inside := State.livePort_lt live
  rw [State.sendTo_control control, live]
  exact State.given_giveFrame (size ▸ inside) (inside.trans (by decide)) f

theorem State.sends_sendOut (s : State) (n : Neighbour) : s.Sends linkRows (s.sendOut n f) := by
  unfold State.sendOut
  split
  · exact s.sends_sendTo control n
  · split
    · exact s.sends_sendTo control n
    · exact .refl _ s

theorem State.sends_sendVotePath (s : State) : s.Sends linkRows (s.sendVotePath f) := by
  unfold State.sendVotePath
  split
  · exact s.sends_sendTo control _
  · split
    · exact .refl _ s
    · exact s.sends_sendTo control _

theorem State.given_sendVotePath {s : State} {n : Neighbour} {p : Nat} (size : s.link.ports.length = 8)
    (path : s.towardsHead = some n) (live : s.livePort n = some p) : (s.sendVotePath f).Given p f := by
  unfold State.sendVotePath
  rw [path]
  exact State.given_sendTo control size live

theorem State.sends_sendDecisionPath (s : State) : s.Sends linkRows (s.sendDecisionPath f) := by
  have both := (s.sends_sendOut control .next).trans (State.sends_sendOut control _ .prev)
  unfold State.sendDecisionPath
  dsimp only
  split
  · exact (both.trans (State.sends_sendTo control _ _)).trans (State.sends_sendTo control _ _)
  · exact both

theorem State.sends_forwardDecision (s : State) (p : Nat) : s.Sends linkRows (s.forwardDecision p f) := by
  have onward (n : Neighbour) := ((s.sends_sendTo control n).trans (State.sends_sendOut control _ .next)).trans
    (State.sends_sendOut control _ .prev)
  unfold State.forwardDecision
  split
  · exact s.sends_sendOut control _
  · exact s.sends_sendOut control _
  · exact onward _
  · exact onward _

end Control

/-! ## The grid as a module sees it -/

/-- The objects that give the grid's shape, L and the module's place in it. -/
def gridIds : List Nat := [Obj.chainAddress, Obj.chainIndex, Obj.chainPositions, Obj.gridChains, Obj.membership]

/-- `t` sees the grid as `s` does. -/
structure State.SeesAs (s t : State) : Prop where
  member : t.link.member = s.link.member
  grid : ∀ id ∈ gridIds, t.obj id 0 = s.obj id 0

theorem State.SeesAs.refl (s : State) : s.SeesAs s := ⟨rfl, fun _ _ => rfl⟩

theorem State.SeesAs.trans {s t u : State} (h : s.SeesAs t) (k : t.SeesAs u) : s.SeesAs u :=
  ⟨k.member.trans h.member, fun id m => (k.grid id m).trans (h.grid id m)⟩

theorem State.OnlyFrames.sees {ch : Nat → Nat → Prop} {s t : State} (h : s.OnlyFrames ch t) (member : t.link.member = s.link.member)
    (out : ∀ id ∈ gridIds, ¬ch id 0) : s.SeesAs t := ⟨member, fun id m => h.obj (by decide) (out id m)⟩

theorem State.Hears.sees {s t : State} (h : s.Hears linkRows t) : s.SeesAs t :=
  h.frames.sees h.member (by unfold linkRows oneRow; decide)

section SeesAs

variable {s t : State} (h : s.SeesAs t)
include h

theorem State.SeesAs.myPos : t.myPos = s.myPos := h.grid _ (by decide)
theorem State.SeesAs.myChain : t.myChain = s.myChain := h.grid _ (by decide)
theorem State.SeesAs.gridP : t.gridP = s.gridP := h.grid _ (by decide)
theorem State.SeesAs.gridC : t.gridC = s.gridC := h.grid _ (by decide)
theorem State.SeesAs.membership : t.obj Obj.membership 0 = s.obj Obj.membership 0 := h.grid _ (by decide)

theorem State.SeesAs.liveMap : t.liveMap = s.liveMap := congrArg (fun w => bits w 32 32) h.membership
theorem State.SeesAs.epoch : t.epoch = s.epoch := congrArg (fun w => bits w 16 16) h.membership
theorem State.SeesAs.memberCount : t.memberCount = s.memberCount := congrArg (fun w => bits w 0 11) h.membership

theorem State.SeesAs.line : t.line = s.line := by
  unfold State.line
  rw [h.gridP, h.liveMap]

theorem State.SeesAs.linePos (p : Nat) : t.linePos p = s.linePos p := by
  unfold State.linePos
  rw [h.line]

theorem State.SeesAs.head : t.head = s.head := by
  unfold State.head State.live
  rw [h.liveMap]

theorem State.SeesAs.isChainHead : t.isChainHead = s.isChainHead := by
  unfold State.isChainHead
  rw [h.member, h.myPos, h.head]

theorem State.SeesAs.isGridHead : t.isGridHead = s.isGridHead := by
  unfold State.isGridHead
  rw [h.isChainHead, h.myChain]

theorem State.SeesAs.towardsHead : t.towardsHead = s.towardsHead := by
  unfold State.towardsHead
  simp only [h.linePos, h.myPos, h.head]

theorem State.SeesAs.entriesAwaited : t.entriesAwaited = s.entriesAwaited := by
  unfold State.entriesAwaited
  simp only [h.linePos, h.myPos, h.head, h.line, h.isChainHead]

end SeesAs

theorem State.OnlyFrames.livePort {s t : State} (h : s.OnlyFrames linkRows t) (n : Neighbour) : t.livePort n = s.livePort n := by
  unfold State.livePort
  refine List.find?_congr fun p m => ?_
  have row : p < 2 ^ 20 := (portsTo_lt m).trans (by decide)
  have same : t.obj Obj.linkState p = s.obj Obj.linkState p := h.obj row (by unfold linkRows oneRow; simp)
  exact congrArg (fun w => bits w 0 4 == lkUp) same

/-! ## A frame arrives -/

theorem State.sends_fault (s : State) (c u d : Nat) : s.Sends linkRows (s.fault c u d) :=
  have logged (k : Nat) : linkRows Obj.faultLog k := .inl (by decide)
  have seq : linkRows Obj.faultSeqLast 0 := .inl (by decide)
  have reports : linkRows Obj.faultReports 0 := .inl (by decide)
  .of_link (State.OnlyRows.fault logged seq reports).frames (State.rawRows_fault logged seq reports) (State.fault_link ..)

theorem State.sends_bump (s : State) {id p n : Nat} (hp : p < 2 ^ 20) (counter : linkRows id p) :
    s.Sends linkRows (s.bump id p n) := State.sends_setObj hp counter

theorem State.sends_replay (s : State) {p : Nat} (hp : p < 2 ^ 20) : s.Sends linkRows (s.replay p) := by
  unfold State.replay
  dsimp only
  split
  · exact .refl _ s
  · exact (((State.sends_setPort (s.keeps_putOnLine ..)).trans (State.sends_bump _ hp (.inl (by decide)))).trans
      (State.sends_bump _ hp (.inl (by decide)))).trans (State.sends_fault ..)

/-- What a header brings leaves the port's next number and the rest of the links alone. -/
theorem State.takeHeader_spec (s : State) {p : Nat} (hp : p < 2 ^ 20) (h : FrameHdr) :
    s.Hears linkRows (s.takeHeader p h) ∧ ((s.takeHeader p h).port p).rxNext = (s.port p).rxNext := by
  unfold State.takeHeader
  dsimp only
  generalize hx : ({ s.port p with
    unacked := acked h.ackseq (s.port p).unacked
    ctlCredits := min 8 ((s.port p).ctlCredits + h.ccred.toNat)
    bulkCredits := min 56 ((s.port p).bulkCredits + h.bcred.toNat) } : Port) = x
  have next : ((s.setPort p x).port p).rxNext = (s.port p).rxNext := by
    rw [State.port_setPort, ← hx]
    split <;> rfl
  have sent : (s.setPort p x).Sends linkRows ((if h.nak then (s.setPort p x).replay p else s.setPort p x).pump p) := by
    refine State.Sends.trans ?_ (State.sends_pump _ hp)
    split
    · exact State.sends_replay _ hp
    · exact .refl ..
  exact ⟨(s.hears_setPort p x).trans sent.toHears, (sent.keeps p).rxNext.trans next⟩

/-- An accepted frame's effect runs in a state that differs from the one before in what its ports send. -/
theorem State.Arrives.accept {s : State} {p : PortNo} {h : FrameHdr} (arrives : s.Arrives p h) (typ : Nat) :
    ∃ u, s.Hears linkRows u ∧ s.up = true ∧ u.link.ports.length = 8 ∧ ∀ effect, s.accept p.val h typ effect = effect u := by
  obtain ⟨up, receives, size, expected, current⟩ := arrives
  have hp : p.val < 2 ^ 20 := by omega
  obtain ⟨heard, next⟩ := s.takeHeader_spec hp h
  have young : epochOlder h.mepoch.toNat (s.takeHeader p.val h).epoch = false := by
    rw [← current]
    exact congrArg (fun w => epochOlder h.mepoch.toNat (bits w 16 16)) (heard.frames.obj (by decide) (by
      unfold linkRows oneRow
      decide))
  generalize hx : ({ (s.takeHeader p.val h).port p.val with
    rxNext := ((s.takeHeader p.val h).port p.val).rxNext + 1
    ctlReturn := if isBulk typ then ((s.takeHeader p.val h).port p.val).ctlReturn else ((s.takeHeader p.val h).port p.val).ctlReturn + 1
    bulkReturn := if isBulk typ then ((s.takeHeader p.val h).port p.val).bulkReturn + 1 else
      ((s.takeHeader p.val h).port p.val).bulkReturn } : Port) = x
  have counted : s.Hears linkRows (((s.takeHeader p.val h).setPort p.val x).bump Obj.linkFramesRx p.val 1) :=
    (heard.trans (State.hears_setPort ..)).trans (State.sends_setObj hp (.inl (by decide))).toHears
  refine ⟨_, counted, up, counted.size.trans size, fun effect => ?_⟩
  unfold State.accept
  rw [receives, if_neg (by decide)]
  dsimp only
  rw [if_neg (not_not.mpr (expected.trans next.symm)), hx]
  show (if epochOlder h.mepoch.toNat (State.takeHeader s p.val h).epoch then _ else _) = _
  rw [young]
  rfl

end Sys2Proof.Machine
end

section
/-! SUPPORT. The digest's reports and verdicts (R278, R329 to R331), and the statement about them (O41). -/

namespace Sys2Proof.Machine

/-! ## A verdict taken -/

/-- What the judgement of the pace moves. -/
def paceIds : List Nat := [Obj.paceMedian, Obj.chainStatus, Obj.faultLog, Obj.faultSeqLast, Obj.faultReports]

theorem State.onlyRows_fault_of_mem {ids : List Nat} (h : [Obj.faultLog, Obj.faultSeqLast, Obj.faultReports] ⊆ ids) (s : State)
    (c u d : Nat) : s.OnlyRows (Machine.rowsOf ids) (s.fault c u d) :=
  .fault (fun _ => h (by decide)) (h (by decide)) (h (by decide))

theorem State.onlyRows_setObj_of_mem {ids : List Nat} {id : Nat} (h : id ∈ ids) (s : State) (v : Nat) :
    s.OnlyRows (Machine.rowsOf ids) (s.setObj id 0 v) := .setObj (by decide) h

/-- The pace judged against a median: what else of the objects it moves (R331). -/
theorem State.onlyRows_judgePace (s : State) (median : Nat) :
    (s.setObj Obj.paceMedian 0 median).OnlyRows (Machine.rowsOf paceIds.tail) (s.judgePace median) := by
  have count (n : Nat) := State.onlyRows_setObj_of_mem (ids := paceIds.tail) (id := Obj.chainStatus) (by decide)
    (s.setObj Obj.paceMedian 0 median) (setBits ((s.setObj Obj.paceMedian 0 median).obj Obj.chainStatus 0) 16 16 n)
  unfold State.judgePace
  dsimp only
  split
  · split
    · exact ((count _).trans (State.onlyRows_setObj_of_mem (by decide) _ _)).trans (State.onlyRows_fault_of_mem (by decide) ..)
    · exact count _
  · exact count _

/-- What a verdict leaves of the state with the step `w` that notes it. -/
structure State.VerdictTaken (s : State) (w : Step) (median : Nat) (t : State) : Prop where
  seen : t.step.verdictSeen = w.verdictSeen
  mustPause : t.step.mustPause = w.mustPause
  divergent : t.step.divergent = w.divergent
  leaveAsked : t.step.leaveAsked = w.leaveAsked
  median : t.obj Obj.paceMedian 0 = median
  link : t.link = s.link
  phase_ne : t.phase ≠ 5
  phase : s.phase = 5 → bits (s.obj Obj.evalControl 0) 0 16 = 0 → t.phase = 7
  bytes : s.SameBytes t

/-- The phase after the digest (R279). -/
theorem State.afterDigest_taken (s : State) : s.VerdictTaken s.step (s.obj Obj.paceMedian 0) s.afterDigest := by
  have moved (u : State) (p : Nat) : (u.setPhase p).obj Obj.paceMedian 0 = u.obj Obj.paceMedian 0 :=
    State.obj_setField_ne (by decide)
  unfold State.afterDigest
  dsimp only
  split
  next other => exact ⟨rfl, rfl, rfl, rfl, rfl, rfl, other, fun e => absurd e other, .refl s⟩
  next =>
    split
    next due =>
      refine ⟨rfl, rfl, rfl, rfl, moved _ 6, rfl, ?_, fun _ none => absurd due.1 (by rw [none]; decide), .of_eq rfl rfl rfl⟩
      rw [State.phase_setPhase _ (by decide)]
      decide
    next =>
      have phase := s.phase_setPhase (k := 7) (by decide)
      exact ⟨rfl, rfl, rfl, rfl, moved s 7, rfl, by rw [phase]; decide, fun _ _ => phase, .of_eq rfl rfl rfl⟩

/-- `u` has noted a verdict as the step `w`, and has of `s` what a verdict does not note. -/
structure State.Notes (s : State) (w : Step) (u : State) : Prop where
  step : u.step = w
  link : u.link = s.link
  phase : u.phase = s.phase
  eval : u.obj Obj.evalControl 0 = s.obj Obj.evalControl 0
  bytes : s.SameBytes u

theorem State.notes_step (s : State) (w : Step) : s.Notes w { s with step := w } := ⟨rfl, rfl, rfl, rfl, .refl s⟩

section Notes

variable {s u : State} {w : Step} (h : s.Notes w u)
include h

theorem State.Notes.onlyRows {t : State} (moved : u.OnlyRows (Machine.rowsOf paceIds) t) : s.Notes w t where
  step := by rw [moved.1]; exact h.step
  link := by rw [moved.1]; exact h.link
  phase := (congrArg (fun w => bits w 0 4) (moved.2.1 _ 0 (by decide) (by unfold Machine.rowsOf; decide))).trans h.phase
  eval := (moved.2.1 _ 0 (by decide) (by unfold Machine.rowsOf; decide)).trans h.eval
  bytes := h.bytes.trans moved.2.2

theorem State.Notes.withStep (w' : Step) : s.Notes w' { u with step := w' } := ⟨rfl, h.link, h.phase, h.eval, h.bytes⟩

/-- The pace judged and the phase left (R279, R331). -/
theorem State.Notes.judged (median : Nat) : s.VerdictTaken w median (u.judgePace median).afterDigest := by
  have moved := u.onlyRows_judgePace median
  have shown : (u.judgePace median).obj Obj.paceMedian 0 = median :=
    (moved.2.1 _ 0 (by decide) (by unfold Machine.rowsOf; decide)).trans (State.obj_setObj_self ..)
  have first := State.onlyRows_setObj_of_mem (ids := paceIds) (id := Obj.paceMedian) (by decide) u median
  have noted := h.onlyRows (first.trans (moved.mono fun _ _ => List.mem_of_mem_tail))
  have judged := (u.judgePace median).afterDigest_taken
  rw [noted.step, shown] at judged
  exact ⟨judged.seen, judged.mustPause, judged.divergent, judged.leaveAsked, judged.median, judged.link.trans noted.link,
    judged.phase_ne, fun five none => judged.phase (noted.phase.trans five) (noted.eval ▸ none),
    noted.bytes.trans judged.bytes⟩

end Notes

theorem State.notes_split (s : State) : s.Notes { s.step with mustPause := true } s.split := by
  have noted := (s.notes_step s.step).onlyRows (State.onlyRows_fault_of_mem (by decide) s 0xB414 0 0)
  unfold State.split
  dsimp only
  rw [noted.step]
  exact noted.withStep _

theorem State.notes_diverge (s : State) :
    ∃ seq, s.Notes { s.step with divergent := true, leaveAsked := true, divergeSeq := seq } s.diverge := by
  have noted := (s.notes_step s.step).onlyRows ((State.onlyRows_setObj_of_mem (ids := paceIds) (id := Obj.chainStatus)
    (by decide) s _).trans (State.onlyRows_fault_of_mem (by decide) (s.setFlag Obj.chainStatus 0 6) 0xB413 0 0))
  unfold State.diverge
  dsimp only
  rw [noted.step]
  exact ⟨_, noted.withStep _⟩

/-- The step once a verdict is noted (R278). -/
def Step.noted (w : Step) (seq : Nat) (split differs : Bool) : Step :=
  let seen := { w with verdictSeen := true }
  if split then { seen with mustPause := true }
  else if differs then { seen with divergent := true, leaveAsked := true, divergeSeq := seq } else seen

@[simp] theorem Step.noted_seen (w : Step) (seq : Nat) (split differs : Bool) : (w.noted seq split differs).verdictSeen = true := by
  unfold Step.noted
  cases split <;> cases differs <;> rfl

/-- The module with a verdict seen. -/
def State.seeing (s : State) : State := { s with step := { s.step with verdictSeen := true } }

theorem State.Notes.of_seeing {s u : State} {w : Step} (h : s.seeing.Notes w u) : s.Notes w u :=
  ⟨h.step, h.link, h.phase, h.eval, h.bytes⟩

/-- A verdict taken for the first time: what a module notes of it (R278, R330). -/
theorem State.takeVerdict_taken {s : State} (first : s.step.verdictSeen = false) (m : Option W64) (map median : Nat) :
    ∃ seq, s.VerdictTaken (s.step.noted seq m.isNone (bitAt map (s.myPos - 1))) median (s.takeVerdict m map median) := by
  unfold State.takeVerdict
  rw [first, if_neg (by decide)]
  change ∃ seq, s.VerdictTaken (s.step.noted seq m.isNone (bitAt map (s.myPos - 1))) median ((match m with
    | none => s.seeing.split
    | some _ => if bitAt map (s.myPos - 1) then s.seeing.diverge else s.seeing).judgePace median).afterDigest
  cases m with
  | none => exact ⟨0, s.seeing.notes_split.of_seeing.judged median⟩
  | some d =>
    dsimp only
    cases bitAt map (s.myPos - 1) with
    | false => exact ⟨0, (s.notes_step s.seeing.step).judged median⟩
    | true =>
      obtain ⟨seq, noted⟩ := s.seeing.notes_diverge
      exact ⟨seq, noted.of_seeing.judged median⟩

/-! ## A report -/

/-- The report list of a state replaced. -/
def State.withDigests (s : State) (es : List (BitVec 128)) : State := { s with link := { s.link with digestList := es } }

/-- The entries of a list for live positions. -/
def State.liveEntries (s : State) (es : List (BitVec 128)) : List (BitVec 128) :=
  es.filter (fun e => bitAt s.liveMap (bits e.toNat 0 8 - 1))

theorem State.sees_withDigests (s : State) (es : List (BitVec 128)) : s.SeesAs (s.withDigests es) := ⟨rfl, fun _ _ => rfl⟩

theorem State.OnlyFrames.withDigests {ch : Nat → Nat → Prop} {s t : State} (h : s.OnlyFrames ch t) (es : List (BitVec 128)) :
    s.OnlyFrames ch (t.withDigests es) := h

theorem State.tryDigest_waits {s : State} (own : s.step.digestSent = false) : s.tryDigest = s := by
  unfold State.tryDigest
  simp [own]

/-- A module's list is complete: its own entry stands in it and those it waits for. -/
structure State.Complete (s : State) : Prop where
  sent : s.step.digestSent = true
  open_ : s.step.verdictSeen = false
  entries : s.entriesAwaited + 1 ≤ (s.liveEntries s.link.digestList).length

theorem State.tryDigest_of_complete {s : State} (complete : s.Complete) : s.tryDigest =
    if s.isChainHead then s.verdict
    else
      let f := s.frame tyDigest 0 (packFields 128 (s.link.digestList.map (·.toNat))) (16 * s.link.digestList.length)
      match s.towardsHead with
      | some n => (s.withDigests []).sendTo n f
      | none => s.withDigests [] := by
  obtain ⟨sent, unseen, entries⟩ := complete
  have counted : ¬ (List.filter (fun e => bitAt s.liveMap (bits e.toNat 0 8 - 1)) s.link.digestList).length < s.entriesAwaited + 1 :=
    not_lt.mpr entries
  unfold State.tryDigest
  simp only [sent, unseen, counted, Bool.not_true, Bool.false_or, decide_false, Bool.false_eq_true, if_false]
  rfl

/-- A chain head's verdict: its own list is empty again, and the verdict is taken (R329, R330). -/
theorem State.verdict_spec {s : State} (first : s.step.verdictSeen = false) :
    s.verdict.step.verdictSeen = true ∧ s.verdict.link.digestList = [] ∧ s.verdict.phase ≠ 5 := by
  have reported (bs : List Peer) (u : State) (step : u.step = s.step) (list : u.link.digestList = []) :
      (bs.foldl State.reportRewoven u).step = s.step ∧ (bs.foldl State.reportRewoven u).link.digestList = [] := by
    refine List.foldlRecOn bs State.reportRewoven (motive := fun v => v.step = s.step ∧ v.link.digestList = []) ⟨step, list⟩
      fun v ⟨same, empty⟩ p _ => ?_
    unfold State.reportRewoven
    split
    · exact ⟨same, empty⟩
    · have sent := State.sends_sendVotePath (f := v.joinFrame p.1 p.2 (v.obj Obj.loadedId 0)) rfl v
      exact ⟨sent.frames.step.trans same, sent.digestList.trans empty⟩
  have sent {f : OutFrame} (control : isBulk f.typ.toNat = false) : ((s.sendOut .next f).sendOut .prev f).step = s.step :=
    ((State.sends_sendOut control s .next).trans (State.sends_sendOut control _ .prev)).frames.step
  have taken (u : State) (same : u.step = s.step) (empty : u.link.digestList = []) (m : Option W64) (map median : Nat) :
      (u.takeVerdict m map median).step.verdictSeen = true ∧ (u.takeVerdict m map median).link.digestList = [] ∧
        (u.takeVerdict m map median).phase ≠ 5 := by
    obtain ⟨seq, judged⟩ := State.takeVerdict_taken (s := u) (same ▸ first) m map median
    exact ⟨judged.seen.trans (Step.noted_seen ..), by rw [judged.link, empty], judged.phase_ne⟩
  unfold State.verdict
  dsimp only
  obtain ⟨same, empty⟩ := reported _ (State.withDigests ((s.sendOut .next (s.frame tyDigest (2 ^ 56) _ 24)).sendOut .prev _) [])
    (sent rfl) rfl
  exact taken _ same empty _ _ _

/-! ## The reports and verdicts that arrive -/

theorem exec_digestReport {s : State} {port : PortNo} {hdr : FrameHdr} (arrives : s.Arrives port hdr)
    (member : s.link.member = true) : ∃ u, s.Hears linkRows u ∧ u.link.ports.length = 8 ∧ ∀ entries,
      exec (.digestReport port hdr entries) s = .next (u.withDigests (s.link.digestList ++
        entries.filter (fun e => !s.link.digestList.any (fun k => bits k.toNat 0 8 == bits e.toNat 0 8)))).tryDigest := by
  obtain ⟨u, heard, up, size, run⟩ := arrives.accept tyDigest
  refine ⟨u, heard, size, fun entries => ?_⟩
  show execDigestReport port hdr entries s = _
  unfold execDigestReport
  rw [State.ifUp_of_up up, run, heard.member, member, heard.digestList]
  rfl

/-- R329: a report's new entries join the list, which goes on once it is complete. -/
theorem digestReport_spec {s : State} {port : PortNo} {hdr : FrameHdr} (arrives : s.Arrives port hdr)
    (member : s.link.member = true) {entries new : List (BitVec 128)}
    (news : entries.filter (fun e => !s.link.digestList.any (fun k => bits k.toNat 0 8 == bits e.toNat 0 8)) = new) :
    (s.step.digestSent = false → ∃ t, exec (.digestReport port hdr entries) s = .next t ∧
      t.link.digestList = s.link.digestList ++ new ∧ s.OnlyFrames linkRows t) ∧
    (s.step.digestSent = true → s.step.verdictSeen = false →
      s.entriesAwaited + 1 ≤ (s.liveEntries (s.link.digestList ++ new)).length →
      (s.isChainHead = true → ∃ t, exec (.digestReport port hdr entries) s = .next t ∧ t.step.verdictSeen = true ∧
        t.link.digestList = [] ∧ t.phase ≠ 5) ∧
      (∀ n p, s.isChainHead = false → s.towardsHead = some n → s.livePort n = some p →
        ∃ t, exec (.digestReport port hdr entries) s = .next t ∧ t.link.digestList = [] ∧
          t.Given p (s.frame tyDigest 0 (packFields 128 ((s.link.digestList ++ new).map (·.toNat)))
            (16 * (s.link.digestList ++ new).length)) ∧ s.OnlyFrames linkRows t)) := by
  obtain ⟨u, heard, size, run⟩ := exec_digestReport arrives member
  have run := run entries
  rw [news] at run
  have step := heard.frames.step
  have frames := heard.frames.withDigests (s.link.digestList ++ new)
  have sees := heard.sees.trans (u.sees_withDigests (s.link.digestList ++ new))
  refine ⟨fun own => ⟨_, run, ?_, ?_⟩, fun sent unseen entriesThere => ?_⟩
  · rw [State.tryDigest_waits (by exact (congrArg Step.digestSent step).trans own)]
    rfl
  · rw [State.tryDigest_waits (by exact (congrArg Step.digestSent step).trans own)]
    exact frames
  have complete : (u.withDigests (s.link.digestList ++ new)).Complete := by
    refine ⟨(congrArg Step.digestSent step).trans sent, (congrArg Step.verdictSeen step).trans unseen, ?_⟩
    unfold State.liveEntries
    rw [sees.entriesAwaited, sees.liveMap]
    exact entriesThere
  rw [State.tryDigest_of_complete complete, sees.isChainHead, sees.towardsHead] at run
  refine ⟨fun head => ?_, fun n p other path live => ?_⟩
  · rw [head] at run
    obtain ⟨seen, empty, phase⟩ := State.verdict_spec complete.open_
    exact ⟨_, run, seen, empty, phase⟩
  · rw [other, path] at run
    have count : u.stepCount = s.stepCount := heard.frames.obj (by decide) (by unfold linkRows oneRow; decide)
    have same (payload bytes : Nat) : (u.withDigests (s.link.digestList ++ new)).frame tyDigest 0 payload bytes =
        s.frame tyDigest 0 payload bytes := congrArg (fun n => OutFrame.mk _ _ (BitVec.ofNat 48 n) false payload bytes) count
    rw [same] at run
    have sent := State.sends_sendTo (f := s.frame tyDigest 0 (packFields 128 ((s.link.digestList ++ new).map (·.toNat)))
      (16 * (s.link.digestList ++ new).length)) rfl (u.withDigests []) n
    refine ⟨_, run, sent.digestList, State.given_sendTo rfl size ?_, (heard.frames.withDigests []).trans sent.frames⟩
    exact (heard.frames.livePort n).trans live

/-- A verdict travels on from the port it came on, as sent frames alone. -/
def State.passVerdict (s : State) (port : Nat) (f : OutFrame) : State :=
  match neighbourOf port with
  | .prev => s.sendOut .next f
  | .next => s.sendOut .prev f
  | _ => s

theorem State.sends_passVerdict {f : OutFrame} (control : isBulk f.typ.toNat = false) (s : State) (port : Nat) :
    s.Sends linkRows (s.passVerdict port f) := by
  unfold State.passVerdict
  split
  · exact s.sends_sendOut control _
  · exact s.sends_sendOut control _
  · exact .refl _ s

section Verdict

variable {s : State} {port : PortNo} {hdr : FrameHdr} (arrives : s.Arrives port hdr) (member : s.link.member = true)
  (woven : s.link.reweaving = false) (m : Option W64) (map : W32) (median : BitVec 56)
include arrives member woven

/-- A second copy of a verdict changes nothing (R278). -/
theorem exec_digestVerdict_again (seen : s.step.verdictSeen = true) :
    ∃ t, exec (.digestVerdict port hdr m map median) s = .next t ∧ s.OnlyFrames linkRows t := by
  obtain ⟨u, heard, up, _, run⟩ := arrives.accept tyDigest
  refine ⟨u, ?_, heard.frames⟩
  show execDigestVerdict port hdr m map median s = _
  unfold execDigestVerdict
  rw [State.ifUp_of_up up, run, heard.reweaving, woven, heard.member, member, heard.frames.step, seen]
  rfl

/-- A first copy is passed on and taken (R278, R330). -/
theorem exec_digestVerdict_first (first : s.step.verdictSeen = false) :
    ∃ u, s.Hears linkRows u ∧ exec (.digestVerdict port hdr m map median) s =
      .next (u.takeVerdict m map.toNat median.toNat) := by
  obtain ⟨u, heard, up, _, run⟩ := arrives.accept tyDigest
  have sent := u.sends_passVerdict (f := u.frame tyDigest (2 ^ 56) (verdictPayload m map.toNat median.toNat) 24) rfl port.val
  refine ⟨_, heard.trans sent.toHears, ?_⟩
  show execDigestVerdict port hdr m map median s = _
  unfold execDigestVerdict
  rw [State.ifUp_of_up up, run, heard.reweaving, woven, heard.member, member, heard.frames.step, first]
  rfl

/-- R278, R331: what a module notes of a verdict. -/
theorem digestVerdict_spec (first : s.step.verdictSeen = false) :
    ∃ t, exec (.digestVerdict port hdr m map median) s = .next t ∧ t.step.verdictSeen = true ∧
      t.obj Obj.paceMedian 0 = median.toNat ∧
      (m = none → t.step.mustPause = true) ∧
      (m.isSome = true → t.step.mustPause = s.step.mustPause ∧
        t.step.divergent = (s.step.divergent || bitAt map.toNat (s.myPos - 1)) ∧
        t.step.leaveAsked = (s.step.leaveAsked || bitAt map.toNat (s.myPos - 1))) ∧
      (s.phase = 5 → bits (s.obj Obj.evalControl 0) 0 16 = 0 → t.phase = 7) ∧ s.SameBytes t := by
  obtain ⟨u, heard, run⟩ := exec_digestVerdict_first arrives member woven m map median first
  have step := heard.frames.step
  have other {id : Nat} (out : ¬linkRows id 0) : u.obj id 0 = s.obj id 0 := heard.frames.obj (by decide) out
  have phase : u.phase = s.phase := congrArg (fun w => bits w 0 4) (other (by unfold linkRows oneRow; decide))
  have eval := other (id := Obj.evalControl) (by unfold linkRows oneRow; decide)
  obtain ⟨seq, judged⟩ := State.takeVerdict_taken (s := u) (by rw [step, first]) m map.toNat median.toNat
  rw [step, heard.sees.myPos] at judged
  refine ⟨_, run, judged.seen.trans (Step.noted_seen ..), judged.median, ?_, ?_, ?_,
    State.SameBytes.trans heard.frames.1.2.2 judged.bytes⟩
  · rintro rfl
    exact judged.mustPause
  · intro held
    obtain ⟨d, rfl⟩ := Option.isSome_iff_exists.mp held
    rw [judged.mustPause, judged.divergent, judged.leaveAsked]
    unfold Step.noted
    cases bitAt map.toNat (s.myPos - 1) with
    | false => exact ⟨rfl, (Bool.or_false _).symm, (Bool.or_false _).symm⟩
    | true => exact ⟨rfl, (Bool.or_true _).symm, (Bool.or_true _).symm⟩
  · exact fun five none => judged.phase (phase.trans five) (eval ▸ none)

end Verdict

/-- Settles O41: a report's entries join the list of a state that differs in frames sent, and what a module or the chain head then
does with it; and what a verdict taken once leaves. -/
theorem digestsAreGatheredAndJudged : Obligations.DigestsAreGatheredAndJudged := by
  unfold Obligations.DigestsAreGatheredAndJudged
  exact fun port hdr s arrives member woven => ⟨fun entries new news => digestReport_spec arrives member news,
    fun m map median first => digestVerdict_spec arrives member woven m map median first,
    fun m map median seen => exec_digestVerdict_again arrives member woven m map median seen⟩

end Sys2Proof.Machine
end

section
/-! SUPPORT. A decision taken (R260 to R263): the fields of its payload, the COMMIT and the ABANDON of a member, and the grid head's
decision sent and taken. -/

namespace Sys2Proof.Machine

/-! ## A decision's payload -/

section Word

variable {decision cause : Nat} (step members : Nat) (r : Report512)

theorem decisionWord_toNat (hd : decision < 2 ^ 8) : (decisionWord step decision cause members r).toNat =
    r.tokens % 2 ^ 64 * 2 ^ 192 + r.loss.toNat * 2 ^ 256 + r.n2.toNat * 2 ^ 320 + members % 2 ^ 16 * 2 ^ 416 +
      cause % 256 * 2 ^ 432 + decision * 2 ^ 440 + step % 2 ^ 64 * 2 ^ 448 := by
  have loss := r.loss.isLt
  have n2 := r.n2.isLt
  unfold decisionWord
  rw [BitVec.toNat_ofNat, Nat.mod_eq_of_lt]
  omega

variable (hd : decision < 2 ^ 8)
include hd

theorem decisionOf_decisionWord : decisionOf (decisionWord step decision cause members r) = decision := by
  have loss := r.loss.isLt
  have n2 := r.n2.isLt
  unfold decisionOf bits
  rw [decisionWord_toNat _ _ _ hd, Nat.shiftRight_eq_div_pow]
  omega

theorem causeByte_decisionWord (hc : cause < 2 ^ 8) : causeByte (decisionWord step decision cause members r) = cause := by
  have loss := r.loss.isLt
  have n2 := r.n2.isLt
  unfold causeByte bits
  rw [decisionWord_toNat _ _ _ hd, Nat.shiftRight_eq_div_pow]
  omega

theorem stepOf_decisionWord (hs : step < 2 ^ 64) : stepOf (decisionWord step decision cause members r) = step := by
  have loss := r.loss.isLt
  have n2 := r.n2.isLt
  unfold stepOf bits
  rw [decisionWord_toNat _ _ _ hd, Nat.shiftRight_eq_div_pow]
  omega

theorem n2_decisionWord : bits (decisionWord step decision cause members r).toNat 320 64 = r.n2.toNat := by
  have loss := r.loss.isLt
  have n2 := r.n2.isLt
  unfold bits
  rw [decisionWord_toNat _ _ _ hd, Nat.shiftRight_eq_div_pow]
  omega

theorem loss_decisionWord : bits (decisionWord step decision cause members r).toNat 256 64 = r.loss.toNat := by
  have loss := r.loss.isLt
  have n2 := r.n2.isLt
  unfold bits
  rw [decisionWord_toNat _ _ _ hd, Nat.shiftRight_eq_div_pow]
  omega

end Word

theorem State.causeOf_lt (s : State) (r : Report512) : s.causeOf r < 2 ^ 8 := by
  have bool (b : Bool) : b.toNat ≤ 1 := Bool.toNat_le b
  have ready := bool (!bitAt r.flags 0 || r.members != s.memberCount)
  have grad := bool (!bitAt r.flags 1 || !isFin64 r.n2)
  have loss := bool (!bitAt r.flags 2 || !isFin64 r.loss)
  have config := bool (!bitAt r.flags 3)
  have change := bool s.step.memberChange
  have tokens := bool (s.tokenDivisor && r.tokens == 0)
  unfold State.causeOf
  dsimp only
  omega

/-! ## COMMIT -/

/-- `t` has of `s` the phase, the links and the step but for the masks held. -/
structure State.MasksOnly (s t : State) : Prop where
  step : ∃ held, t.step = { s.step with maskSlots := held }
  link : t.link = s.link
  phase : t.phase = s.phase

theorem State.MasksOnly.refl (s : State) : s.MasksOnly s := ⟨⟨s.step.maskSlots, rfl⟩, rfl, rfl⟩

theorem State.MasksOnly.trans {s t u : State} (h : s.MasksOnly t) (k : t.MasksOnly u) : s.MasksOnly u := by
  obtain ⟨a, first⟩ := h.step
  obtain ⟨b, second⟩ := k.step
  exact ⟨⟨b, by rw [second, first]⟩, k.link.trans h.link, k.phase.trans h.phase⟩

theorem State.phase_of_obj {s t : State} (h : t.obj Obj.stepStatus 0 = s.obj Obj.stepStatus 0) : t.phase = s.phase :=
  congrArg (fun w => bits w 0 4) h

theorem State.masksOnly_setObj (s : State) {id row v : Nat} (h : objKey id row ≠ objKey Obj.stepStatus 0) :
    s.MasksOnly (s.setObj id row v) := ⟨⟨s.step.maskSlots, rfl⟩, rfl, State.phase_of_obj (State.obj_setObj_ne h)⟩

theorem State.masksOnly_fault (s : State) (c u d : Nat) : s.MasksOnly (s.fault c u d) :=
  ⟨⟨s.step.maskSlots, State.fault_step ..⟩, State.fault_link .., State.phase_of_obj (State.obj_fault_other (by decide) (by decide) ..)⟩

theorem State.masksOnly_judgeMask (s : State) (k : Taken) : s.MasksOnly (s.judgeMask k) := by
  unfold State.judgeMask
  split
  · exact .refl s
  · dsimp only
    split
    · exact .refl s
    · refine State.MasksOnly.trans (t := State.bump (State.handBack { s with step := { s.step with
        maskSlots := s.step.maskSlots.filter (fun u => u.slot != k.slot) } } k.slot 8) Obj.maskRefusals 0 1) ?_
        (State.masksOnly_fault ..)
      refine State.MasksOnly.trans (t := State.handBack _ k.slot 8) ?_ (State.masksOnly_setObj _ (by decide))
      refine State.MasksOnly.trans (t := State.putHdr (State.putHdr (State.putHdr _ k.slot 32 8 _) k.slot 44 4 8) k.slot 0 4 1) ?_
        (State.masksOnly_setObj _ (by decide))
      exact ⟨⟨_, rfl⟩, rfl, rfl⟩

theorem State.masksOnly_judgeMasks (s : State) : s.MasksOnly s.judgeMasks :=
  List.foldlRecOn _ _ (motive := s.MasksOnly) (.refl s) fun t h k _ => h.trans (t.masksOnly_judgeMask k)

/-- What a member shows of a decision taken. -/
structure State.Took (w : BitVec 512) (t : State) : Prop where
  decision : t.step.decision = some w
  decided : t.link.decided = true
  queries : t.link.queries = 0

/-- The state with a decision noted. -/
def State.deciding (s : State) (w : BitVec 512) : State :=
  { s with step := { s.step with decision := some w, decisionEpoch := s.epoch }
           link := { s.link with decided := true, queries := 0 } }

theorem State.took_deciding (s : State) (w : BitVec 512) : (s.deciding w).Took w := ⟨rfl, rfl, rfl⟩

/-- COMMIT acted on: the update begins. -/
structure State.Committed (s : State) (w : BitVec 512) (t : State) : Prop extends t.Took w where
  phase : t.phase = 4
  time : t.step.commitTime = s.time.now
  scalars : t.step.scalars.isSome = true

/-- The state as the update begins, before its masks are judged (R265, R266). -/
def State.updating (s : State) (w : BitVec 512) : State :=
  let u := s.setPhase 4
  { u with step := { u.step with commitTime := u.time.now, scalars := some (u.stepScalars w), slowTime := 0 } }

theorem State.phase_updating (s : State) (w : BitVec 512) : (s.updating w).phase = 4 := s.phase_setPhase (k := 4) (by decide)

theorem State.commitStep_committed (s : State) (w : BitVec 512) : s.Committed w ((s.deciding w).commitStep w) := by
  obtain ⟨⟨held, step⟩, link, phase⟩ := ((s.deciding w).updating w).masksOnly_judgeMasks
  change s.Committed w ((s.deciding w).updating w).judgeMasks
  have links : ((s.deciding w).updating w).judgeMasks.link = (s.deciding w).link := link.trans rfl
  exact ⟨⟨congrArg Step.decision step, congrArg Link.decided links, congrArg Link.queries links⟩,
    phase.trans (State.phase_updating ..), congrArg Step.commitTime step, congrArg (fun x : Step => x.scalars.isSome) step⟩

/-! ## ABANDON -/

/-- ABANDON acted on: the step is over, and the wafer is stopped where it still ran. -/
structure State.Abandoned (s : State) (w : BitVec 512) (t : State) : Prop extends t.Took w where
  phase : t.phase = 7
  counted : t.obj Obj.stepsAbandoned 0 = satAdd 64 (s.obj Obj.stepsAbandoned 0) 1
  stopped : t.step.mbRunning = false
  halted : s.step.mbRunning = true ∨ s.step.exchangeEnded = false →
    ∀ p : Site, (tget t.spindles p.row).isSome = true → (t.spindle p).halted = true

theorem tget_map_snd {β γ : Type} (f : β → γ) (k : Nat) : ∀ m : SMap β, tget (m.map (fun e => (e.1, f e.2))) k = (tget m k).map f
  | [] => rfl
  | (i, v) :: m => by
    rw [List.map_cons, tget, tget]
    split
    · rfl
    · exact tget_map_snd f k m

theorem State.halted_haltWafer (s : State) (p : Site) (h : (tget s.haltWafer.spindles p.row).isSome = true) :
    (s.haltWafer.spindle p).halted = true := by
  have look : tget s.haltWafer.spindles p.row = (tget s.spindles p.row).map Spindle.stop := tget_map_snd ..
  unfold State.spindle
  rw [look] at h ⊢
  obtain ⟨x, found⟩ := Option.isSome_iff_exists.mp ((Option.isSome_map ..).symm.trans h)
  rw [found]
  rfl

/-- The end of a wait for input keeps the spindles, the links and the step but for the wait. -/
theorem State.endWait_spec (s : State) : s.endWait.spindles = s.spindles ∧ s.endWait.link = s.link ∧
    s.endWait.step.mbRunning = s.step.mbRunning ∧ s.endWait.step.decision = s.step.decision ∧
    s.endWait.obj Obj.stepsAbandoned 0 = s.obj Obj.stepsAbandoned 0 := by
  have shown : (s.setObj Obj.bobbinWait 0 0xFFFFFFFF).obj Obj.stepsAbandoned 0 = s.obj Obj.stepsAbandoned 0 :=
    State.obj_setObj_ne (by decide)
  unfold State.endWait
  dsimp only
  split
  · exact ⟨rfl, rfl, rfl, rfl, shown⟩
  · exact ⟨rfl, rfl, rfl, rfl, (State.obj_setObj_ne (by decide)).trans shown⟩

/-- An abandoned step's wafer: halted where the step still ran or its exchange had not ended (R261). -/
def State.stopped (s : State) : State := if s.step.mbRunning || !s.step.exchangeEnded then s.haltWafer else s

/-- An abandoned step counted and recorded (R263). -/
def State.abandoning (s : State) (cause : Nat) : State := (s.endWait.bump Obj.stepsAbandoned 0 1).fault 0xB410 0 cause

theorem State.abandoning_spec (s : State) (cause : Nat) : (s.abandoning cause).spindles = s.endWait.spindles ∧
    (s.abandoning cause).link = s.endWait.link ∧ (s.abandoning cause).step = s.endWait.step ∧
    (s.abandoning cause).obj Obj.stepsAbandoned 0 = satAdd 64 (s.endWait.obj Obj.stepsAbandoned 0) 1 :=
  ⟨State.fault_spindles .., State.fault_link .., State.fault_step ..,
    (State.obj_fault_other (by decide) (by decide) ..).trans (State.obj_bump_of_bits (by decide) ..)⟩

theorem State.abandonStep_eq (s : State) (w : BitVec 512) : s.abandonStep w = State.setPhase { s.stopped.abandoning (causeByte w) with
    step := { (s.stopped.abandoning (causeByte w)).step with noMore := true, partials := [] } } 7 := rfl

/-- The step's end noted and the phase left, from a state that has stopped and counted. -/
theorem State.abandoned_of_counted {s v : State} {w : BitVec 512} (took : v.Took w)
    (counted : v.obj Obj.stepsAbandoned 0 = satAdd 64 (s.obj Obj.stepsAbandoned 0) 1) (stopped : v.step.mbRunning = false)
    (halted : s.step.mbRunning = true ∨ s.step.exchangeEnded = false →
      ∀ p : Site, (tget v.spindles p.row).isSome = true → (v.spindle p).halted = true) :
    s.Abandoned w (State.setPhase { v with step := { v.step with noMore := true, partials := [] } } 7) where
  decision := took.decision
  decided := took.decided
  queries := took.queries
  phase := State.phase_setPhase _ (k := 7) (by decide)
  counted := (State.obj_setField_ne (by decide)).trans counted
  stopped := stopped
  halted := halted

/-- The wafer of a step that is decided, stopped where the step still ran (R261). -/
theorem State.stopped_deciding (s : State) (w : BitVec 512) : (s.deciding w).stopped.Took w ∧
    (s.deciding w).stopped.step.mbRunning = false ∧
    (s.step.mbRunning = true ∨ s.step.exchangeEnded = false →
      ∀ p : Site, (tget (s.deciding w).stopped.spindles p.row).isSome = true → ((s.deciding w).stopped.spindle p).halted = true) ∧
    (s.deciding w).stopped.obj Obj.stepsAbandoned 0 = s.obj Obj.stepsAbandoned 0 := by
  unfold State.stopped
  split
  next => exact ⟨⟨rfl, rfl, rfl⟩, rfl, fun _ p => State.halted_haltWafer _ p, rfl⟩
  next ended =>
    have idle : s.step.mbRunning = false ∧ s.step.exchangeEnded = true := by simpa [State.deciding] using ended
    refine ⟨s.took_deciding w, idle.1, fun runs => ?_, rfl⟩
    rw [idle.1, idle.2] at runs
    simp at runs

theorem State.abandonStep_abandoned (s : State) (w : BitVec 512) : s.Abandoned w ((s.deciding w).abandonStep w) := by
  obtain ⟨took, idle, halted, count⟩ := s.stopped_deciding w
  obtain ⟨spindles, link, step, shown⟩ := (s.deciding w).stopped.abandoning_spec (causeByte w)
  obtain ⟨waitSpindles, waitLink, running, decision, waitShown⟩ := (s.deciding w).stopped.endWait_spec
  have links := link.trans waitLink
  rw [State.abandonStep_eq]
  refine State.abandoned_of_counted ⟨?_, ?_, ?_⟩ (shown.trans (by rw [waitShown, count]))
    ((congrArg Step.mbRunning step).trans (running.trans idle)) fun runs p => ?_
  · exact (congrArg Step.decision step).trans (decision.trans took.decision)
  · exact (congrArg Link.decided links).trans took.decided
  · exact (congrArg Link.queries links).trans took.queries
  · unfold State.spindle
    rw [spindles, waitSpindles]
    exact halted runs p

/-! ## A decision sent and taken -/

theorem State.OnlyFrames.time {ch : Nat → Nat → Prop} {s t : State} (h : s.OnlyFrames ch t) : t.time = s.time :=
  have same := congrArg State.time h.1.1
  same

theorem State.takeDecision_of_open {s : State} {w : BitVec 512} (undecided : s.step.decision = none)
    (step : stepOf w = s.stepCount) : s.takeDecision w =
      if decisionOf w = 1 then (s.deciding w).commitStep w
      else if decisionOf w = 2 then (s.deciding w).abandonStep w else s.deciding w := by
  unfold State.takeDecision
  rw [undecided, if_neg (by simp [step])]
  rfl

section Open

variable {s u : State} {w : BitVec 512} (sent : s.Hears linkRows u) (undecided : s.step.decision = none)
  (step : stepOf w = s.stepCount)
include sent undecided step

/-- A COMMIT taken in a state that differs in frames sent. -/
theorem State.Hears.committed (commit : decisionOf w = 1) : s.Committed w (u.takeDecision w) := by
  have count : u.stepCount = s.stepCount := sent.frames.obj (by decide) (by unfold linkRows oneRow; decide)
  rw [State.takeDecision_of_open ((congrArg Step.decision sent.frames.step).trans undecided) (step.trans count.symm), if_pos commit]
  have done := u.commitStep_committed w
  exact ⟨done.toTook, done.phase, done.time.trans (congrArg Time.now sent.frames.time), done.scalars⟩

/-- An ABANDON taken in a state that differs in frames sent. -/
theorem State.Hears.abandoned (abandon : decisionOf w = 2) : s.Abandoned w (u.takeDecision w) := by
  have count : u.stepCount = s.stepCount := sent.frames.obj (by decide) (by unfold linkRows oneRow; decide)
  have shown : u.obj Obj.stepsAbandoned 0 = s.obj Obj.stepsAbandoned 0 :=
    sent.frames.obj (by decide) (by unfold linkRows oneRow; decide)
  rw [State.takeDecision_of_open ((congrArg Step.decision sent.frames.step).trans undecided) (step.trans count.symm),
    if_neg (by rw [abandon]; decide), if_pos abandon]
  have done := u.abandonStep_abandoned w
  exact ⟨done.toTook, done.phase, by rw [done.counted, shown], done.stopped, by rw [← sent.frames.step]; exact done.halted⟩

end Open

theorem State.hears_decide (s : State) (w : BitVec 512) : ∃ u, s.Hears linkRows u ∧ s.decide_ w = u.takeDecision w :=
  ⟨_, (State.sends_sendDecisionPath (f := s.frame tyCommit 0 w.toNat 64) rfl s).toHears, rfl⟩

end Sys2Proof.Machine
end

section
/-! SUPPORT. The vote (R258, R260, R314, R325), and the statement about it (O37). -/

namespace Sys2Proof.Machine

/-! ## A step that changes with what is sent -/

/-- A state that differs in frames sent, with another step. -/
theorem State.OnlyFrames.withStep {ch : Nat → Nat → Prop} {s t : State} (h : s.OnlyFrames ch t) (w : Step) :
    s.OnlyFrames ch { { t with step := w } with step := s.step } := by
  have same : ({ t with step := s.step } : State) = t := by rw [← h.step]
  show s.OnlyFrames ch { t with step := s.step }
  rw [same]
  exact h

/-! ## The report -/

theorem exec_voteReportSend {s : State} (up : s.up = true) : exec .voteReportSend s = .next s.tryVote :=
  congrArg Host.Outcome.next (State.ifUp_of_up up State.tryVote)

theorem State.tryVote_of_exchanging {s : State} (running : s.step.exchangeEnded = false) : s.tryVote = s := by
  unfold State.tryVote
  simp [running]

/-- A member with its exchange ended and every aggregate it waits for, that has not yet voted. -/
structure State.Voting (s : State) : Prop where
  member : s.link.member = true
  phase : s.phase = 3
  undecided : s.step.decision = none
  ended : s.step.exchangeEnded = true
  unsent : s.step.voteSent = false
  aggregates : s.haveAggregates = true

/-- The module's aggregate as a frame of the vote path. -/
def State.voteFrame (s : State) : OutFrame := s.frame tyVote 0 s.aggregate.word 64

section Voting

variable {s : State} (h : s.Voting)
include h

theorem State.tryVote_of_voting : s.tryVote = if s.isGridHead then s.headDecides
    else { s.sendVotePath s.voteFrame with step := { (s.sendVotePath s.voteFrame).step with voteSent := true } } := by
  have ready : (s.link.member && s.undecided && s.phase == 3 && s.step.exchangeEnded && !s.step.voteSent && s.haveAggregates) =
      true := by
    unfold State.undecided
    simp [h.member, h.phase, h.undecided, h.ended, h.unsent, h.aggregates]
  unfold State.tryVote
  rw [ready]
  rfl

/-- R258, R325: a member's report goes towards the grid head. -/
theorem State.tryVote_sends (other : s.isGridHead = false) (size : s.link.ports.length = 8) {n : Neighbour} {p : Nat}
    (path : s.towardsHead = some n) (live : s.livePort n = some p) :
    s.tryVote.step = { s.step with voteSent := true } ∧ s.tryVote.Given p s.voteFrame ∧
      s.OnlyFrames linkRows { s.tryVote with step := s.step } := by
  have sent := s.sends_sendVotePath (f := s.voteFrame) rfl
  have given : (s.sendVotePath s.voteFrame).Given p s.voteFrame := State.given_sendVotePath rfl size path live
  rw [State.tryVote_of_voting h, other, if_neg (by decide)]
  exact ⟨congrArg (fun w : Step => { w with voteSent := true }) sent.frames.step, given, sent.frames.withStep _⟩

/-- The first step after LOAD is decided once every module has joined (R314). -/
theorem State.tryVote_waits (head : s.isGridHead = true) (first : s.link.decided = false) (missing : s.allJoined = false) :
    s.tryVote = s := by
  rw [State.tryVote_of_voting h, head, if_pos rfl]
  unfold State.headDecides
  rw [first, missing]
  rfl

end Voting

/-- The decision payload of a step at the grid head. -/
def State.headWord (s : State) : BitVec 512 :=
  let c := s.causeOf s.aggregate
  decisionWord s.stepCount (if c = 0 then 1 else 2) c s.aggregate.members s.aggregate

section Head

variable {s : State} (h : s.Voting) (head : s.isGridHead = true) (may : s.link.decided = true ∨ s.allJoined = true)
include h head may

theorem State.tryVote_decides : s.tryVote = s.decide_ s.headWord := by
  rw [State.tryVote_of_voting h, head, if_pos rfl]
  unfold State.headDecides
  rw [if_neg (by rcases may with m | m <;> simp [m])]
  rfl

variable (small : s.stepCount < 2 ^ 64)
include small

/-- R260: the grid head decides COMMIT on an aggregate without a cause against it. -/
theorem State.tryVote_commits (good : s.causeOf s.aggregate = 0) : ∃ w, decisionOf w = 1 ∧ causeByte w = 0 ∧
    bits w.toNat 448 64 = s.stepCount ∧ bits w.toNat 320 64 = s.aggregate.n2.toNat ∧
    bits w.toNat 256 64 = s.aggregate.loss.toNat ∧ s.Committed w s.tryVote := by
  have word : s.headWord = decisionWord s.stepCount 1 0 s.aggregate.members s.aggregate := by
    unfold State.headWord
    simp only [good, if_pos]
  have commit := decisionOf_decisionWord (decision := 1) (cause := 0) s.stepCount s.aggregate.members s.aggregate (by decide)
  have step := stepOf_decisionWord (decision := 1) (cause := 0) s.stepCount s.aggregate.members s.aggregate (by decide) small
  obtain ⟨u, sent, run⟩ := s.hears_decide s.headWord
  rw [word] at run
  refine ⟨_, commit, causeByte_decisionWord _ _ _ (by decide) (by decide), step, n2_decisionWord _ _ _ (by decide),
    loss_decisionWord _ _ _ (by decide), ?_⟩
  rw [State.tryVote_decides h head may, word, run]
  exact sent.committed h.undecided step commit

/-- R260: it decides ABANDON with the cause on any other. -/
theorem State.tryVote_abandons (bad : s.causeOf s.aggregate ≠ 0) : ∃ w, decisionOf w = 2 ∧
    causeByte w = s.causeOf s.aggregate ∧ s.Abandoned w s.tryVote := by
  have word : s.headWord = decisionWord s.stepCount 2 (s.causeOf s.aggregate) s.aggregate.members s.aggregate := by
    unfold State.headWord
    simp only [if_neg bad]
  have cause := s.causeOf_lt s.aggregate
  have abandon := decisionOf_decisionWord (decision := 2) (cause := s.causeOf s.aggregate) s.stepCount s.aggregate.members
    s.aggregate (by decide)
  have step := stepOf_decisionWord (decision := 2) (cause := s.causeOf s.aggregate) s.stepCount s.aggregate.members
    s.aggregate (by decide) small
  obtain ⟨u, sent, run⟩ := s.hears_decide s.headWord
  rw [word] at run
  refine ⟨_, abandon, causeByte_decisionWord _ _ _ (by decide) cause, ?_⟩
  rw [State.tryVote_decides h head may, word, run]
  exact sent.abandoned h.undecided step abandon

end Head

/-! ## An aggregate that arrives -/

/-- The step with an aggregate kept for the port it came on (R258). -/
def Step.heard (w : Step) (port : Nat) (payload : BitVec 512) : Step :=
  { w with
    voteNext := if port < 3 then some payload else w.voteNext
    votePrev := if 3 ≤ port ∧ port < 6 then some payload else w.votePrev
    voteColumn := if port = 7 then some payload else w.voteColumn }

theorem Step.heard_eq (w : Step) (port : PortNo) (payload : BitVec 512) : w.heard port.val payload =
    match neighbourOf port.val with
    | .next => { w with voteNext := some payload }
    | .prev => { w with votePrev := some payload }
    | .columnHigh => { w with voteColumn := some payload }
    | .columnLow => w := by
  obtain ⟨port, small⟩ := port
  unfold Step.heard
  interval_cases port <;> rfl

/-- An aggregate that arrives is kept; a module that is not the grid head does nothing more with it. -/
theorem voteFrame_spec {s : State} {port : PortNo} {hdr : FrameHdr} (arrives : s.Arrives port hdr) (other : s.isGridHead = false)
    (payload : BitVec 512) : ∃ t, exec (.voteFrame port hdr payload) s = .next t ∧
      t.step = s.step.heard port.val payload ∧ s.OnlyFrames linkRows { t with step := s.step } := by
  obtain ⟨u, heard, up, _, run⟩ := arrives.accept tyVote
  have kept : u.step.heard port.val payload = s.step.heard port.val payload := by rw [heard.frames.step]
  refine ⟨{ u with step := u.step.heard port.val payload }, ?_, kept, heard.frames.withStep _⟩
  have head : u.isGridHead = false := heard.sees.isGridHead.trans other
  show execVoteFrame port hdr payload s = _
  unfold execVoteFrame
  rw [State.ifUp_of_up up, run, Step.heard_eq]
  cases neighbourOf port.val <;> exact congrArg Host.Outcome.next (if_neg (ne_true_of_eq_false head))

/-- Settles O37: what a member with its exchange ended sends, or decides as the grid head, once it holds every aggregate it waits
for; and what a module keeps of an aggregate that arrives. -/
theorem votesAreGatheredAndDecided : Obligations.VotesAreGatheredAndDecided := by
  unfold Obligations.VotesAreGatheredAndDecided
  refine fun s => ⟨fun up member phase undecided ended unsent aggregates size => ?_, fun up running => ?_,
    fun port hdr payload arrives other => voteFrame_spec arrives other payload⟩
  · have voting : s.Voting := ⟨member, phase, undecided, ended, unsent, aggregates⟩
    have run := exec_voteReportSend up
    refine ⟨fun n p other path live => ?_, fun head first missing => ?_, fun head may small => ⟨fun good => ?_, fun bad => ?_⟩⟩
    · exact ⟨_, run, State.tryVote_sends voting other size path live⟩
    · rw [run, State.tryVote_waits voting head first missing]
    · obtain ⟨w, commit, cause, step, n2, loss, done⟩ := State.tryVote_commits voting head may small good
      exact ⟨_, w, run, done.decision, commit, cause, step, n2, loss, done.phase, done.time, done.scalars, done.decided⟩
    · obtain ⟨w, abandon, cause, done⟩ := State.tryVote_abandons voting head may small bad
      exact ⟨_, w, run, done.decision, abandon, cause, done.phase, done.counted, done.stopped, done.decided⟩
  · rw [exec_voteReportSend up, State.tryVote_of_exchanging running]

end Sys2Proof.Machine
end

section
/-! SUPPORT. Decisions that reach a member, queries and answers (R260 to R263, R326), and the statement about them (O38). -/

namespace Sys2Proof.Machine

section Hears

variable {s u : State} (h : s.Hears linkRows u)
include h

theorem State.Hears.stepCount : u.stepCount = s.stepCount := h.frames.obj (by decide) (by unfold linkRows oneRow; decide)

theorem State.Hears.phase : u.phase = s.phase :=
  State.phase_of_obj (h.frames.obj (by decide) (by unfold linkRows oneRow; decide))

theorem State.Hears.undecided : u.undecided = s.undecided := by
  unfold State.undecided
  rw [h.frames.step, h.phase]

theorem State.Hears.isEarly (w : BitVec 512) : u.isEarly w = s.isEarly w := by
  unfold State.isEarly
  rw [h.frames.step, h.undecided, h.stepCount, h.sees.epoch]

theorem State.Hears.ctrl (kind payload bytes : Nat) : u.ctrl kind payload bytes = s.ctrl kind payload bytes := by
  unfold State.ctrl State.frame
  rw [h.stepCount]

end Hears

theorem State.decision_of_undecided {s : State} (h : s.undecided = true) : s.step.decision = none := by
  unfold State.undecided at h
  cases held : s.step.decision with
  | none => rfl
  | some w => simp [held] at h

/-! ## A decision that arrives -/

theorem exec_commitFrame {s : State} {port : PortNo} {hdr : FrameHdr} (arrives : s.Arrives port hdr)
    (woven : s.link.reweaving = false) (member : s.link.member = true) :
    ∃ u, s.Hears linkRows u ∧ ∀ w, exec (.commitFrame port hdr w) s = .next (u.hearDecision port.val w) := by
  obtain ⟨u, heard, up, _, run⟩ := arrives.accept tyCommit
  refine ⟨u, heard, fun w => ?_⟩
  show execCommitFrame port hdr w s = _
  unfold execCommitFrame
  rw [State.ifUp_of_up up, run, heard.reweaving, woven, heard.member, member]
  rfl

/-- The first copy of a decision for the open step is sent on and taken (R260, R326). -/
theorem State.Hears.hearDecision_open {s u : State} (h : s.Hears linkRows u) (p : Nat) {w : BitVec 512}
    (undecided : s.undecided = true) (step : stepOf w = s.stepCount) :
    ∃ v, s.Hears linkRows v ∧ u.hearDecision p w = v.takeDecision w := by
  have on := u.sends_forwardDecision (f := u.frame tyCommit 0 w.toNat 64) rfl p
  refine ⟨_, h.trans on.toHears, ?_⟩
  unfold State.hearDecision
  rw [h.undecided, undecided, h.stepCount, step, beq_self_eq_true]
  rfl

/-- Any other copy is kept where it is for the step to come, and otherwise discarded (R326). -/
theorem State.Hears.hearDecision_other {s u : State} (h : s.Hears linkRows u) (p : Nat) {w : BitVec 512}
    (other : s.undecided = false ∨ stepOf w ≠ s.stepCount) :
    s.OnlyFrames linkRows (u.hearDecision p w) ∧
      (u.hearDecision p w).link.early = if s.isEarly w && s.link.early.isNone then some w else s.link.early := by
  have closed : (u.undecided && stepOf w == u.stepCount) = false := by
    rw [h.undecided, h.stepCount]
    rcases other with past | step
    · rw [past, Bool.false_and]
    · rw [beq_false_of_ne step, Bool.and_false]
  unfold State.hearDecision
  dsimp only
  rw [closed, if_neg (by decide), h.isEarly, h.early]
  split
  · have on := State.sends_forwardDecision (f := u.frame tyCommit 0 w.toNat 64) rfl
      { u with link := { u.link with early := some w } } p
    have kept : s.OnlyFrames linkRows { u with link := { u.link with early := some w } } := h.frames
    exact ⟨kept.trans on.frames, on.early⟩
  · exact ⟨h.frames, h.early⟩

/-! ## A query -/

/-- What an answer to a query carries (R262). -/
def answerBody (held : Option (BitVec 512)) : Nat :=
  match held with
  | some w => 1 + w.toNat * 2 ^ 64
  | none => 0

/-- A query answered: noted, forwarded, answered, and a decision held given to the neighbour that asked. -/
def State.answerQuery (s : State) (p : Nat) : State :=
  let t := { s with link := { s.link with asked := some s.epoch } }
  let t := t.forwardDecision p (t.ctrl 5 0 0)
  let t := t.sendVotePath (t.ctrl 6 (answerBody t.step.decision) 72)
  match t.step.decision with
  | some w => t.sendTo (neighbourOf p) (t.frame tyCommit 0 w.toNat 64)
  | none => t

/-- R262, R326: an answered query is noted in its epoch, and the answer goes towards the grid head. -/
theorem State.answerQuery_spec {s u : State} (h : s.Hears linkRows u) (size : u.link.ports.length = 8) (p : Nat) :
    s.OnlyFrames linkRows (u.answerQuery p) ∧ (u.answerQuery p).link.asked = some s.epoch ∧
      ∀ n q, s.towardsHead = some n → s.livePort n = some q →
        (u.answerQuery p).Given q (s.ctrl 6 (answerBody s.step.decision) 72) := by
  have noted : s.OnlyFrames linkRows { u with link := { u.link with asked := some u.epoch } } := h.frames
  have sees : s.SeesAs { u with link := { u.link with asked := some u.epoch } } := ⟨h.member, h.sees.grid⟩
  generalize hv : ({ u with link := { u.link with asked := some u.epoch } } : State) = v at *
  have asked : v.link.asked = some s.epoch := by
    rw [← hv, ← h.sees.epoch]
  have sized : v.link.ports.length = 8 := by
    rw [← hv]
    exact size
  have on := v.sends_forwardDecision (f := v.ctrl 5 0 0) rfl p
  generalize hw : v.forwardDecision p (v.ctrl 5 0 0) = w at on
  have known := noted.trans on.frames
  have count : w.stepCount = s.stepCount := known.obj (by decide) (by unfold linkRows oneRow; decide)
  have frame : w.ctrl 6 (answerBody w.step.decision) 72 = s.ctrl 6 (answerBody s.step.decision) 72 := by
    unfold State.ctrl State.frame
    rw [known.step, count]
  have replied := w.sends_sendVotePath (f := s.ctrl 6 (answerBody s.step.decision) 72) rfl
  generalize hx : w.sendVotePath (s.ctrl 6 (answerBody s.step.decision) 72) = x at replied
  have given (n : Neighbour) (q : Nat) (path : s.towardsHead = some n) (live : s.livePort n = some q) :
      x.Given q (s.ctrl 6 (answerBody s.step.decision) 72) := by
    rw [← hx]
    refine State.given_sendVotePath rfl (on.size.trans sized) ?_ ((known.livePort n).trans live)
    exact ((sees.trans on.toHears.sees).towardsHead).trans path
  have end_ : x.Sends linkRows (u.answerQuery p) := by
    unfold State.answerQuery
    rw [hv]
    dsimp only
    rw [hw, frame, hx]
    split
    · exact State.sends_sendTo rfl ..
    · exact .refl ..
  exact ⟨(known.trans replied.frames).trans end_.frames, end_.asked.trans (replied.asked.trans (on.asked.trans asked)),
    fun n q path live => end_.given (given n q path live)⟩

theorem exec_decisionQuery {s : State} {port : PortNo} {hdr : FrameHdr} (arrives : s.Arrives port hdr)
    (member : s.link.member = true) : ∃ u, s.Hears linkRows u ∧ u.link.ports.length = 8 ∧
      exec (.decisionQuery port hdr) s = .next (if s.link.asked = some s.epoch then u else u.answerQuery port.val) := by
  obtain ⟨u, heard, up, size, run⟩ := arrives.accept tyCtrl
  refine ⟨u, heard, size, ?_⟩
  have new : u.newQuery = (s.link.asked != some s.epoch) := by
    unfold State.newQuery
    rw [heard.member, member, heard.asked, heard.sees.epoch, Bool.true_and]
  show execDecisionQuery port hdr s = _
  unfold execDecisionQuery
  rw [State.ifUp_of_up up, run, new]
  by_cases again : s.link.asked = some s.epoch
  · rw [if_pos again, again, bne_self_eq_false]
    rfl
  · rw [if_neg again, bne_iff_ne.mpr again]
    rfl

/-- R262, R326: a query is answered once in a membership epoch. -/
theorem decisionQuery_spec {s : State} {port : PortNo} {hdr : FrameHdr} (arrives : s.Arrives port hdr)
    (member : s.link.member = true) : ∃ t, exec (.decisionQuery port hdr) s = .next t ∧ s.OnlyFrames linkRows t ∧
      t.link.asked = some s.epoch ∧ (s.link.asked ≠ some s.epoch → ∀ n p, s.towardsHead = some n → s.livePort n = some p →
        t.Given p (s.ctrl 6 (answerBody s.step.decision) 72)) := by
  obtain ⟨u, heard, size, run⟩ := exec_decisionQuery arrives member
  refine ⟨_, run, ?_⟩
  split
  next again => exact ⟨heard.frames, heard.asked.trans again, fun new => absurd again new⟩
  next =>
    obtain ⟨frames, asked, given⟩ := State.answerQuery_spec heard size port.val
    exact ⟨frames, asked, fun _ => given⟩

/-! ## An answer -/

theorem exec_decisionAnswer {s : State} {port : PortNo} {hdr : FrameHdr} (arrives : s.Arrives port hdr)
    (member : s.link.member = true) : ∃ u, s.Hears linkRows u ∧ ∀ held, exec (.decisionAnswer port hdr held) s =
      .next (if s.isGridHead then u.headAnswer held else u.sendVotePath (s.ctrl 6 (answerBody held) 72)) := by
  obtain ⟨u, heard, up, _, run⟩ := arrives.accept tyCtrl
  refine ⟨u, heard, fun held => ?_⟩
  show execDecisionAnswer port hdr held s = _
  unfold execDecisionAnswer
  rw [State.ifUp_of_up up, run, heard.member, member, heard.sees.isGridHead, ← heard.ctrl]
  rfl

/-- The count of the answers still out replaced. -/
def State.withQueries (s : State) (n : Nat) : State := { s with link := { s.link with queries := n } }

section Answer

variable {s u : State} (h : s.Hears linkRows u) (undecided : s.undecided = true)
include h undecided

/-- R262: a COMMIT in an answer is sent on by the new grid head and taken. -/
theorem State.Hears.headAnswer_commit {w : BitVec 512} (commit : decisionOf w = 1) (step : stepOf w = s.stepCount) :
    s.Committed w (u.headAnswer (some w)) := by
  obtain ⟨v, sent, run⟩ := u.hears_decide w
  have answered : u.headAnswer (some w) = v.takeDecision w := by
    unfold State.headAnswer
    rw [Option.filter_some, if_pos (by rw [commit]; decide), h.undecided, undecided]
    exact run
  rw [answered]
  exact (h.trans sent).committed (State.decision_of_undecided undecided) step commit

/-- An answer without a COMMIT: the count of those still out falls, and after the last the step is decided ABANDON. -/
theorem State.Hears.headAnswer_none {held : Option (BitVec 512)} (none_ : ∀ w, held = some w → decisionOf w ≠ 1) :
    u.headAnswer held = if s.link.queries = 1 then (u.withQueries (s.link.queries - 1)).decideLost
      else u.withQueries (s.link.queries - 1) := by
  have filtered : held.filter (fun w => decisionOf w == 1) = none := by
    cases held with
    | none => rfl
    | some w => exact if_neg (by simpa using none_ w rfl)
  have due : (u.withQueries (s.link.queries - 1)).undecided = true := h.undecided.trans undecided
  unfold State.headAnswer
  rw [filtered, h.queries]
  change (if s.link.queries = 1 ∧ (u.withQueries (s.link.queries - 1)).undecided = true then _ else _) = _
  rw [due]
  simp only [and_true]
  rfl

/-- R262: after the last answer without one, ABANDON with MEMBER_LOST. -/
theorem State.Hears.headAnswer_last {held : Option (BitVec 512)} (none_ : ∀ w, held = some w → decisionOf w ≠ 1)
    (last : s.link.queries = 1) (small : s.stepCount < 2 ^ 64) :
    ∃ w, decisionOf w = 2 ∧ causeByte w = 16 ∧ s.Abandoned w (u.headAnswer held) := by
  rw [h.headAnswer_none undecided none_, last, if_pos rfl]
  have frames : s.OnlyFrames linkRows (u.withQueries (1 - 1)) := h.frames
  generalize u.withQueries (1 - 1) = v at *
  have count : v.stepCount = s.stepCount := frames.obj (by decide) (by unfold linkRows oneRow; decide)
  have shown : v.obj Obj.stepsAbandoned 0 = s.obj Obj.stepsAbandoned 0 :=
    frames.obj (by decide) (by unfold linkRows oneRow; decide)
  generalize hr : ({ v.ownReport with n2 := 0, loss := 0, tokens := 0 } : Report512) = r
  have abandon := decisionOf_decisionWord (decision := 2) (cause := 16) v.stepCount v.memberCount r (by decide)
  have step := stepOf_decisionWord (decision := 2) (cause := 16) v.stepCount v.memberCount r (by decide) (count ▸ small)
  obtain ⟨x, sent, run⟩ := v.hears_decide (decisionWord v.stepCount 2 16 v.memberCount r)
  refine ⟨_, abandon, causeByte_decisionWord _ _ _ (by decide) (by decide), ?_⟩
  unfold State.decideLost
  dsimp only
  rw [hr, run]
  have done := sent.abandoned ((congrArg Step.decision frames.step).trans (State.decision_of_undecided undecided)) step abandon
  exact ⟨done.toTook, done.phase, by rw [done.counted, shown], done.stopped, by rw [← frames.step]; exact done.halted⟩

end Answer

/-- Settles O38: what a member does with a decision for its open step, with another copy, with a query, and as the new grid head with
an answer. -/
theorem decisionsAreTakenOnceAndAnswered : Obligations.DecisionsAreTakenOnceAndAnswered := by
  unfold Obligations.DecisionsAreTakenOnceAndAnswered
  intro port hdr s arrives woven member
  obtain ⟨u, heard, run⟩ := exec_commitFrame arrives woven member
  obtain ⟨v, told, answered⟩ := exec_decisionAnswer arrives member
  refine ⟨fun w undecided step => ?_, fun w other => ?_, decisionQuery_spec arrives member, fun elsewhere held => ?_,
    fun head undecided => ⟨fun w commit step => ?_, fun held none_ => ⟨fun last small => ?_, fun more => ?_⟩⟩⟩
  · obtain ⟨x, on, taken⟩ := heard.hearDecision_open port.val undecided step
    have undone := State.decision_of_undecided undecided
    refine ⟨fun commit => ⟨_, run w, ?_⟩, fun abandon => ⟨_, run w, ?_⟩⟩
    · rw [taken]
      have done := on.committed undone step commit
      exact ⟨done.decision, done.phase, done.time, done.scalars⟩
    · rw [taken]
      have done := on.abandoned undone step abandon
      exact ⟨done.decision, done.phase, done.counted, done.halted, done.stopped⟩
  · obtain ⟨frames, early⟩ := heard.hearDecision_other port.val other
    refine ⟨fun isEarly none_ => ⟨_, run w, ?_, frames⟩, fun discarded => ⟨_, run w, ?_, frames⟩⟩
    · rw [early, isEarly, none_]
      rfl
    · rw [early, if_neg]
      rcases discarded with late | kept
      · simp [late]
      · simp [kept]
  · refine ⟨_, answered held, ?_⟩
    rw [elsewhere, if_neg (by decide)]
    exact told.frames.trans (State.sends_sendVotePath rfl v).frames
  · have done := told.headAnswer_commit undecided commit step
    refine ⟨_, answered (some w), ?_⟩
    rw [if_pos head]
    exact ⟨done.decision, done.phase, done.queries⟩
  · obtain ⟨w, abandon, cause, done⟩ := told.headAnswer_last undecided none_ last small
    refine ⟨_, w, answered held, ?_⟩
    rw [if_pos head]
    exact ⟨done.decision, abandon, cause, done.phase⟩
  · refine ⟨_, answered held, ?_⟩
    rw [if_pos head, told.headAnswer_none undecided none_, if_neg (by omega)]
    exact ⟨rfl, told.frames⟩

end Sys2Proof.Machine
end

section
/-! SUPPORT. Power that comes, goes and trips, and a bolt whose rail fails (R264, R441 to R448, R463, R470), and the statement about
them (O56). -/

namespace Sys2Proof.Machine

/-! ## Rows kept -/

/-- The rows of every object but some. -/
def otherThan (ids : List Nat) : Nat → Nat → Prop := fun id _ => id ∉ ids

section Kept

variable {ids : List Nat} {s t : State}

theorem State.RowsOnly.kept (h : s.RowsOnly (otherThan ids) t) {id row : Nat} (hr : row < 2 ^ 20) (m : id ∈ ids) :
    t.obj id row = s.obj id row := h id row hr fun n => n m

theorem State.rowsOnly_setObj (s : State) {id row : Nat} (hr : row < 2 ^ 20) (out : id ∉ ids) (v : Nat) :
    s.RowsOnly (otherThan ids) (s.setObj id row v) := .setObj hr out

theorem State.rowsOnly_fault (out : ∀ id ∈ [Obj.faultLog, Obj.faultSeqLast, Obj.faultReports], id ∉ ids) (s : State) (c u d : Nat) :
    s.RowsOnly (otherThan ids) (s.fault c u d) :=
  (State.OnlyRows.fault (fun _ => out _ (by decide)) (out _ (by decide)) (out _ (by decide))).2.1

theorem State.OnlyFrames.power {ch : Nat → Nat → Prop} (h : s.OnlyFrames ch t) : t.power = s.power :=
  have same := congrArg State.power h.1.1
  same

theorem State.OnlyFrames.prog {ch : Nat → Nat → Prop} (h : s.OnlyFrames ch t) : t.prog = s.prog :=
  have same := congrArg State.prog h.1.1
  same

theorem State.OnlyFrames.rowsOnly {ch : Nat → Nat → Prop} (h : s.OnlyFrames ch t) (out : ∀ id row, ch id row → id ∉ ids) :
    s.RowsOnly (otherThan ids) t := State.RowsOnly.mono out h.1.2.1

end Kept

/-! ## Power off -/

theorem tget_filter_key {β : Type} (p : Nat → Bool) (k : Nat) : ∀ m : SMap β,
    tget (m.filter (fun e => p e.1)) k = if p k then tget m k else none
  | [] => by simp [tget]
  | (i, v) :: m => by
    rw [List.filter_cons, tget]
    by_cases same : i = k
    · subst same
      cases held : p i with
      | true => simp [tget]
      | false => simp [tget_filter_key p i m, held]
    · rw [if_neg same]
      split
      · rw [tget, if_neg same, tget_filter_key p k m]
      · exact tget_filter_key p k m

theorem State.obj_powerOff (s : State) (tripped : Bool) {id row : Nat} (hr : row < 2 ^ 20) :
    (s.powerOff tripped).obj id row = if inFlash id then s.obj id row else objDefault id row := by
  have key : objKey id row / 2 ^ 20 = id := by
    unfold objKey
    omega
  have raw : (s.powerOff tripped).raw id row = if inFlash id then s.raw id row else objDefault id row := by
    unfold State.raw State.powerOff
    dsimp only
    rw [tget_filter_key (fun k => inFlash (k / 2 ^ 20)), key]
    split <;> rfl
  have copies : tget (s.powerOff tripped).dict.copies (objKey id row) =
      if inFlash id then tget s.dict.copies (objKey id row) else none := by
    unfold State.powerOff
    dsimp only
    rw [tget_filter_key (fun k => inFlash (k / 2 ^ 20)), key]
  unfold State.obj State.voteFailed
  rw [raw, copies]
  cases inFlash id <;> rfl

theorem State.powerOff_spec (s : State) (tripped : Bool) : (s.powerOff tripped).up = false ∧
    (s.powerOff tripped).power.tripped = tripped ∧ (s.powerOff tripped).pending = s.pending := ⟨rfl, rfl, rfl⟩

/-- The word of LAST_SHUTDOWN holds its cause. -/
theorem bits_lastShutdown {cause : Nat} (small : cause < 2 ^ 8) (h i v t : Nat) :
    bits (cause * 2 ^ 128 + h % 256 * 2 ^ 136 + i * 2 ^ 144 + v % 2 ^ 16 * 2 ^ 176 + t % 2 ^ 64 * 2 ^ 192) 128 8 = cause := by
  unfold bits
  rw [Nat.shiftRight_eq_div_pow]
  omega

theorem State.trip_eq (s : State) (cause : Nat) : s.trip cause = (s.setObj Obj.lastShutdown 0 (cause * 2 ^ 128 +
    s.hottest.2 % 256 * 2 ^ 136 + unsigned 32 s.hottest.1 * 2 ^ 144 + s.obj Obj.inputVolt 0 % 2 ^ 16 * 2 ^ 176 +
    s.time.now % 2 ^ 64 * 2 ^ 192)).powerOff true := rfl

/-- Power off with a word in LAST_SHUTDOWN that names a cause. -/
theorem State.tripped_spec (s : State) {v cause : Nat} (named : bits v 128 8 = cause) :
    ((s.setObj Obj.lastShutdown 0 v).powerOff true).up = false ∧
    ((s.setObj Obj.lastShutdown 0 v).powerOff true).power.tripped = true ∧
    bits (((s.setObj Obj.lastShutdown 0 v).powerOff true).obj Obj.lastShutdown 0) 128 8 = cause ∧
    ((s.setObj Obj.lastShutdown 0 v).powerOff true).pending = s.pending := by
  obtain ⟨up, tripped, pending⟩ := (s.setObj Obj.lastShutdown 0 v).powerOff_spec true
  refine ⟨up, tripped, ?_, pending⟩
  rw [State.obj_powerOff _ _ (by decide), if_pos (by decide), State.obj_setObj_self]
  exact named

/-- R443, R460: a trip leaves the module without its input, tripped, with the cause in LAST_SHUTDOWN. -/
theorem State.trip_spec (s : State) {cause : Nat} (small : cause < 2 ^ 8) : (s.trip cause).up = false ∧
    (s.trip cause).power.tripped = true ∧ bits ((s.trip cause).obj Obj.lastShutdown 0) 128 8 = cause ∧
    (s.trip cause).pending = s.pending := by
  rw [State.trip_eq]
  exact s.tripped_spec (bits_lastShutdown small ..)

/-! ## Power applied -/

/-- The objects of a start that are looked at later. -/
def bootIds : List Nat := [Obj.inputVolt, Obj.fwMinSvn]

/-- `t` has of `s` what the choice of a firmware bank and the answer to POWER_APPLIED look at. -/
structure State.BootsAs (s t : State) : Prop where
  on : t.power.on = s.power.on
  banks : t.sec.banks = s.sec.banks
  preferred : t.sec.preferred = s.sec.preferred
  recovery : t.sec.recovery = s.sec.recovery
  rows : s.RowsOnly (otherThan bootIds) t

theorem State.BootsAs.refl (s : State) : s.BootsAs s := ⟨rfl, rfl, rfl, rfl, .refl _ s⟩

theorem State.BootsAs.trans {s t u : State} (h : s.BootsAs t) (k : t.BootsAs u) : s.BootsAs u :=
  ⟨k.on.trans h.on, k.banks.trans h.banks, k.preferred.trans h.preferred, k.recovery.trans h.recovery, h.rows.trans k.rows⟩

theorem State.pickBank_congr {s t : State} (banks : t.sec.banks = s.sec.banks)
    (svn : t.obj Obj.fwMinSvn 0 = s.obj Obj.fwMinSvn 0) (first : Bool) (c : Nat) : t.pickBank first c = s.pickBank first c := by
  unfold State.pickBank State.verifies State.fwImage
  rw [svn, banks]

section BootsAs

variable (s : State)

theorem State.bootsAs_setObj {id row : Nat} (hr : row < 2 ^ 20) (out : id ∉ bootIds) (v : Nat) : s.BootsAs (s.setObj id row v) :=
  ⟨rfl, rfl, rfl, rfl, s.rowsOnly_setObj hr out v⟩

theorem State.bootsAs_fault (c u d : Nat) : s.BootsAs (s.fault c u d) :=
  ⟨congrArg Power.on (State.fault_power ..), congrArg Security.banks (State.fault_sec ..), congrArg Security.preferred (State.fault_sec ..),
    congrArg Security.recovery (State.fault_sec ..), State.rowsOnly_fault (by decide) s c u d⟩

theorem State.bootsAs_setMode (m c : Nat) : s.BootsAs (s.setMode m c) :=
  ((s.bootsAs_setObj (by decide) (by decide) _).trans (State.bootsAs_setObj _ (by decide) (by decide) _)).trans
    (State.bootsAs_setObj _ (by decide) (by decide) _)

theorem State.bootsAs_setTimeState (h p st : Nat) : s.BootsAs (s.setTimeState h p st) :=
  s.bootsAs_setObj (by decide) (by decide) _

theorem State.bootsAs_time (w : Time) : s.BootsAs { s with time := w } := ⟨rfl, rfl, rfl, rfl, .refl _ s⟩

theorem State.bootsAs_checkTime : s.BootsAs s.checkTime := by
  unfold State.checkTime
  dsimp only
  split
  · split
    · exact .refl s
    · exact (s.bootsAs_time _).trans (State.bootsAs_setTimeState ..)
  · split
    · split
      · exact s.bootsAs_setTimeState ..
      · exact (s.bootsAs_setTimeState ..).trans (State.bootsAs_time ..)
    · split
      · exact s.bootsAs_setTimeState ..
      · exact (s.bootsAs_setTimeState ..).trans (State.bootsAs_fault ..)

theorem State.bootsAs_drawNonce : s.BootsAs s.drawNonce :=
  State.BootsAs.trans (t := { s with sec := { s.sec with nonceDraws := s.sec.nonceDraws + 1 } }) ⟨rfl, rfl, rfl, rfl, .refl _ s⟩
    (State.bootsAs_setObj _ (by decide) (by decide) _)

variable {s} {t : State} (h : s.BootsAs t)
include h

theorem State.BootsAs.pickBank (first : Bool) (c : Nat) : t.pickBank first c = s.pickBank first c :=
  State.pickBank_congr h.banks (h.rows.kept (by decide) (by decide)) first c

theorem State.BootsAs.inputVolt : t.obj Obj.inputVolt 0 = s.obj Obj.inputVolt 0 := h.rows.kept (by decide) (by decide)

end BootsAs

theorem State.bootsAs_runBank (s : State) (banks : List Bool) :
    s.BootsAs { s with sec := { s.sec with runBank := banks } } := ⟨rfl, rfl, rfl, rfl, .refl _ s⟩

theorem State.bootsAs_measureFw (s : State) {c : Nat} (hc : c < 2 ^ 20) (h : BitVec 1024) : s.BootsAs (s.measureFw c h) :=
  s.bootsAs_setObj hc (by decide) _

/-- A component's start, where a bank verifies (R472). -/
theorem State.startFw_some {s : State} {first b : Bool} (found : s.pickBank first 0 = some b) :
    ∃ t, s.startFw first 0 = some t ∧ s.BootsAs t := by
  have fallen : s.BootsAs (if b = first then s else s.fault 0xA403 0 0) := by
    split
    · exact .refl s
    · exact s.bootsAs_fault ..
  unfold State.startFw
  rw [found]
  refine ⟨_, rfl, ?_⟩
  dsimp only
  generalize (if b = first then s else s.fault 0xA403 0 0) = u at *
  exact ((fallen.trans (u.bootsAs_runBank _)).trans
    (State.bootsAs_setObj _ (id := Obj.firmwareVersion) (row := 0) (by decide) (by decide) _)).trans
    (State.bootsAs_measureFw _ (by decide) _)

/-- The field defects forgotten where their clearing was asked for. -/
def State.fieldCleared (s : State) : State :=
  if s.sec.clearField then
    let t := (List.range 48).foldl (fun t b => t.setObj Obj.fieldDefects b (objDefault Obj.fieldDefects b)) s
    { t with sec := { t.sec with fieldMemory := [], clearField := false } }
  else s

theorem State.bootsAs_fieldCleared (s : State) : s.BootsAs s.fieldCleared := by
  have defects (bs : List Nat) (small : ∀ b ∈ bs, b < 2 ^ 20) :
      s.BootsAs (bs.foldl (fun t b => t.setObj Obj.fieldDefects b (objDefault Obj.fieldDefects b)) s) :=
    List.foldlRecOn bs _ (motive := s.BootsAs) (.refl s) fun t h b m =>
      h.trans (t.bootsAs_setObj (id := Obj.fieldDefects) (row := b) (small b m) (by decide) _)
  have kept := defects (List.range 48) fun b m => (List.mem_range.mp m).trans (by decide)
  unfold State.fieldCleared
  dsimp only
  generalize (List.range 48).foldl (fun t b => State.setObj t Obj.fieldDefects b (objDefault Obj.fieldDefects b)) s = t at *
  split
  · exact ⟨kept.on, kept.banks, kept.preferred, kept.recovery, kept.rows⟩
  · exact .refl s

/-- The input switched on. -/
def State.lit (s : State) : State := { s with power := { s.power with on := true, railsOff := List.range 48 } }

/-- The module with its input applied, as its first bank is chosen (R441, R463). -/
def State.booting (s : State) (millivolts : Nat) : State :=
  ((((s.lit.fieldCleared.setObj Obj.inputVolt 0 (millivolts / 10)).setField Obj.clockState 0 8 1 1).drawNonce).setMode
    stBoot 0).checkTime

theorem State.mode_setMode (s : State) (m c : Nat) : (s.setMode m c).mode = m := by
  unfold State.setMode State.mode
  rw [State.obj_setObj_ne (by decide), State.obj_setObj_ne (by decide), State.obj_setObj_self]

theorem State.booting_spec (s : State) (mv : Nat) : (s.booting mv).power.on = true ∧ (s.booting mv).obj Obj.inputVolt 0 = mv / 10 ∧
    (s.booting mv).sec.recovery = s.sec.recovery ∧ (s.booting mv).sec.preferred = s.sec.preferred ∧
    ∀ first, (s.booting mv).pickBank first 0 = s.pickBank first 0 := by
  have known := s.lit.bootsAs_fieldCleared
  unfold State.booting
  generalize s.lit.fieldCleared = v at *
  have clock := (v.setObj Obj.inputVolt 0 (mv / 10)).bootsAs_setObj (id := Obj.clockState) (row := 0) (by decide) (by decide)
    (setBits ((v.setObj Obj.inputVolt 0 (mv / 10)).obj Obj.clockState 0) 8 1 1)
  have after := ((clock.trans (State.bootsAs_drawNonce _)).trans (State.bootsAs_setMode _ stBoot 0)).trans
    (State.bootsAs_checkTime _)
  have svn : (v.setObj Obj.inputVolt 0 (mv / 10)).obj Obj.fwMinSvn 0 = s.obj Obj.fwMinSvn 0 :=
    (State.obj_setObj_ne (by decide)).trans (known.rows.kept (by decide) (by decide))
  exact ⟨after.on.trans known.on, after.inputVolt.trans (State.obj_setObj_self ..), after.recovery.trans known.recovery,
    after.preferred.trans known.preferred, fun first => (after.pickBank first 0).trans (State.pickBank_congr
      (s := s) (t := v.setObj Obj.inputVolt 0 (mv / 10)) known.banks svn first 0)⟩

theorem exec_powerApplied {s : State} {mv : Nat} (off : s.power.on = false) (armed : s.power.tripped = false) (low : 40000 ≤ mv)
    (high : mv ≤ 54000) : exec (.powerApplied mv) s = .next (match (s.booting mv).startFw (s.booting mv).sec.preferred 0 with
      | none => (s.booting mv).enterRecovery
      | some t => t.setMode stUnaddressed 0) := by
  have starts : (s.power.on || s.power.tripped || decide (mv < 40000 ∨ 54000 < mv)) = false := by
    rw [off, armed, Bool.false_or, Bool.false_or, decide_eq_false]
    omega
  show execPowerApplied mv s = _
  unfold execPowerApplied
  rw [starts, if_neg (by decide)]
  rfl

theorem exec_powerApplied_ignored {s : State} {mv : Nat}
    (h : s.power.on = true ∨ s.power.tripped = true ∨ mv < 40000 ∨ 54000 < mv) : exec (.powerApplied mv) s = .next s := by
  have stays : (s.power.on || s.power.tripped || decide (mv < 40000 ∨ 54000 < mv)) = true := by
    simp only [Bool.or_eq_true, decide_eq_true_eq]
    tauto
  show execPowerApplied mv s = _
  unfold execPowerApplied
  rw [stays, if_pos rfl]
  rfl

theorem State.bootsAs_railsOff (s : State) (rails : List Nat) :
    s.BootsAs { s with power := { s.power with railsOff := rails } } := ⟨rfl, rfl, rfl, rfl, .refl _ s⟩

theorem State.startFailed_spec (s : State) (step cause : Nat) :
    s.BootsAs (s.startFailed step cause) ∧ (s.startFailed step cause).mode = stQuiet := by
  have drawn : s.BootsAs (s.drew 1) := ⟨rfl, rfl, rfl, rfl, .refl _ s⟩
  unfold State.startFailed
  dsimp only
  generalize 3 + Config.freeNat s.free % 101 * 2 ^ 8 + cause * 2 ^ 16 + step * 2 ^ 24 = x
  generalize step * 2 ^ 8 + cause = d
  have shown := drawn.trans (State.bootsAs_setObj _ (id := Obj.selftestStatus) (row := 0) (by decide) (by decide) x)
  have told := (shown.trans (State.bootsAs_fault _ 0xB440 0 d)).trans (State.bootsAs_railsOff _ (List.range 48))
  exact ⟨told.trans (State.bootsAs_setMode ..), State.mode_setMode ..⟩

/-- Only the recovery subset runs: the module is in QUIET (R470). -/
theorem State.enterRecovery_spec (s : State) : s.enterRecovery.power.on = s.power.on ∧
    s.enterRecovery.obj Obj.inputVolt 0 = s.obj Obj.inputVolt 0 ∧ s.enterRecovery.mode = stQuiet ∧
    s.enterRecovery.sec.recovery = true := by
  obtain ⟨boots, mode⟩ := State.startFailed_spec { s with sec := { s.sec with recovery := true } } 1 1
  exact ⟨boots.on, boots.inputVolt, mode, boots.recovery⟩

/-- R441, R463, R470: what a module shows once its input is applied. -/
theorem powerApplied_spec {s : State} {mv : Nat} (off : s.power.on = false) (armed : s.power.tripped = false) (low : 40000 ≤ mv)
    (high : mv ≤ 54000) : ∃ t, exec (.powerApplied mv) s = .next t ∧ t.up = true ∧ t.obj Obj.inputVolt 0 = mv / 10 ∧
      ((s.pickBank s.sec.preferred 0).isSome = true → t.mode = stUnaddressed ∧ t.sec.recovery = s.sec.recovery) ∧
      (s.pickBank s.sec.preferred 0 = none → t.mode = stQuiet ∧ t.sec.recovery = true) := by
  obtain ⟨on, volt, recovery, preferred, bank⟩ := s.booting_spec mv
  have run := exec_powerApplied off armed low high
  cases found : s.pickBank s.sec.preferred 0 with
  | none =>
    have none_ : (s.booting mv).startFw (s.booting mv).sec.preferred 0 = none := by
      unfold State.startFw
      rw [preferred, bank, found]
      rfl
    rw [none_] at run
    obtain ⟨power, shown, mode, subset⟩ := (s.booting mv).enterRecovery_spec
    exact ⟨_, run, power.trans on, shown.trans volt, fun some_ => absurd some_ (by decide), fun _ => ⟨mode, subset⟩⟩
  | some b =>
    obtain ⟨t, started, boots⟩ := State.startFw_some ((bank s.sec.preferred).trans found)
    rw [preferred, started] at run
    have ends := boots.trans (t.bootsAs_setMode stUnaddressed 0)
    exact ⟨_, run, ends.on.trans on, ends.inputVolt.trans volt,
      fun _ => ⟨State.mode_setMode .., ends.recovery.trans recovery⟩, fun none_ => by cases none_⟩

/-! ## An input window -/

/-- The rows that a fault writes. -/
def faultIds : List Nat := [Obj.faultLog, Obj.faultSeqLast, Obj.faultReports]

theorem State.OnlyRows.withPower {ch : Nat → Nat → Prop} {s t : State} (h : s.OnlyRows ch t) (p : Power) :
    ({ s with power := p } : State).OnlyRows ch { t with power := p } :=
  ⟨congrArg (fun w : State => { w with power := p }) h.1, h.2.1, h.2.2⟩

/-- `t` differs from `s` in the rows of fault records and in the power that `p` gives. -/
def State.Requests (s : State) (p : Power) (t : State) : Prop :=
  t.power = p ∧ s.OnlyRows (Machine.rowsOf faultIds) { t with power := s.power }

/-- A request whose fault is written where it is new. -/
theorem State.requests_of_fault (s : State) (told : Bool) (c u d : Nat) : ∃ t, (if told then s else s.fault c u d) = t ∧
    t.power = s.power ∧ t.obj Obj.coreDiv 0 = s.obj Obj.coreDiv 0 ∧ ∀ p, s.Requests p { t with power := p } := by
  have power : (if told then s else s.fault c u d).power = s.power := by
    split
    · rfl
    · exact State.fault_power ..
  have frame : s.OnlyRows (Machine.rowsOf faultIds) (if told then s else s.fault c u d) := by
    split
    · exact .refl _ s
    · exact State.onlyRows_fault_of_mem (List.Subset.refl _) ..
  generalize (if told then s else s.fault c u d) = t at *
  have same : ({ t with power := s.power } : State) = t := by rw [← power]
  refine ⟨t, rfl, power, frame.2.1 _ 0 (by decide) (by unfold Machine.rowsOf; decide), fun p => ⟨rfl, ?_⟩⟩
  show s.OnlyRows (Machine.rowsOf faultIds) { t with power := s.power }
  rw [same]
  exact frame

/-- The requests of a low input, as an input window leaves them (R442). -/
def Power.asksLow (p : Power) (volt : Nat) : Power :=
  if volt < 4000 then { p with lowRequest := true, inputClear := 0 }
  else { p with inputClear := p.inputClear + 1, lowRequest := p.lowRequest && decide (p.inputClear + 1 < 100) }

theorem State.inputRequest_requests (s : State) (volt : Nat) : s.Requests (s.power.asksLow volt) (s.inputRequest volt) := by
  obtain ⟨t, told, power, _, asks⟩ := s.requests_of_fault s.power.lowRequest 0xB802 0 volt
  unfold State.inputRequest Power.asksLow
  dsimp only
  split
  · rw [told, power]
    exact asks _
  · exact ⟨rfl, .refl _ s⟩

/-- The requests of the power limit, as an input window leaves them (R455). -/
def Power.asksLimit (p : Power) (limit div power : Nat) : Power :=
  if limit < power then { p with powerRequest := some (slowerDiv div), powerClear := 0 }
  else
    let n := if power * 100 ≤ limit * 95 then p.powerClear + 1 else 0
    { p with powerClear := n, powerRequest := if 100 ≤ n then none else p.powerRequest }

theorem State.limitRequest_requests (s : State) (power : Nat) :
    s.Requests (s.power.asksLimit (s.obj Obj.powerLimit 0) (s.obj Obj.coreDiv 0) power) (s.limitRequest power) := by
  obtain ⟨t, told, same, div, asks⟩ := s.requests_of_fault s.power.powerRequest.isSome 0xB801 0 power
  unfold State.limitRequest Power.asksLimit
  dsimp only
  split
  · rw [told, same, div]
    exact asks _
  · exact ⟨rfl, .refl _ s⟩

/-- The readings of an input window shown, and a voltage out of range counted (R442). -/
def State.metered (s : State) (v current power : Nat) : State :=
  let s := ((s.setObj Obj.inputVolt 0 v).setObj Obj.inputCurrent 0 current).setObj Obj.inputPower 0 power
  if v < 4000 ∨ 5400 < v then s.bump Obj.inputEvents 0 1 else s

/-- The objects an input window moves before its requests. -/
def meterIds : List Nat := [Obj.inputVolt, Obj.inputCurrent, Obj.inputPower, Obj.inputEvents]

theorem State.metered_spec (s : State) (v current power : Nat) : s.OnlyRows (Machine.rowsOf meterIds) (s.metered v current power) ∧
    (s.metered v current power).obj Obj.inputVolt 0 = v ∧ (s.metered v current power).obj Obj.inputCurrent 0 = current ∧
    (s.metered v current power).obj Obj.inputPower 0 = power ∧
    (s.metered v current power).obj Obj.inputEvents 0 = if v < 4000 ∨ 5400 < v then satAdd 64 (s.obj Obj.inputEvents 0) 1
      else s.obj Obj.inputEvents 0 := by
  generalize hu : ((s.setObj Obj.inputVolt 0 v).setObj Obj.inputCurrent 0 current).setObj Obj.inputPower 0 power = u
  have frame : s.OnlyRows (Machine.rowsOf meterIds) u := by
    rw [← hu]
    exact ((State.onlyRows_setObj_of_mem (by decide) s v).trans (State.onlyRows_setObj_of_mem (by decide) _ current)).trans
      (State.onlyRows_setObj_of_mem (by decide) _ power)
  have volt : u.obj Obj.inputVolt 0 = v := by
    rw [← hu, State.obj_setObj_ne (by decide), State.obj_setObj_ne (by decide), State.obj_setObj_self]
  have amps : u.obj Obj.inputCurrent 0 = current := by rw [← hu, State.obj_setObj_ne (by decide), State.obj_setObj_self]
  have watts : u.obj Obj.inputPower 0 = power := by rw [← hu, State.obj_setObj_self]
  have events : u.obj Obj.inputEvents 0 = s.obj Obj.inputEvents 0 := by
    rw [← hu, State.obj_setObj_ne (by decide), State.obj_setObj_ne (by decide), State.obj_setObj_ne (by decide)]
  have meter : s.metered v current power = if v < 4000 ∨ 5400 < v then u.bump Obj.inputEvents 0 1 else u := by
    rw [← hu]
    rfl
  rw [meter]
  split
  · refine ⟨frame.trans (State.onlyRows_setObj_of_mem (by decide) ..), ?_, ?_, ?_, ?_⟩
    · exact (State.obj_bump_ne (by decide)).trans volt
    · exact (State.obj_bump_ne (by decide)).trans amps
    · exact (State.obj_bump_ne (by decide)).trans watts
    · rw [State.obj_bump_of_bits (w := 64) (by decide), events]
  · exact ⟨frame, volt, amps, watts, events⟩

/-- The windows below 38 V in a row, with this one. -/
def below38 (p : Power) (v : Nat) : Nat := if v < 3800 then p.below38 + 1 else 0

/-- The power as an input window's requests leave it. -/
def State.windowPower (s : State) (v power : Nat) : Power :=
  { (s.power.asksLow v).asksLimit (s.obj Obj.powerLimit 0) (s.obj Obj.coreDiv 0) power with below38 := below38 s.power v }

theorem Power.below38_asks (p : Power) (v limit div power : Nat) :
    ((p.asksLow v).asksLimit limit div power).below38 = p.below38 := by
  have low : (p.asksLow v).below38 = p.below38 := by
    unfold Power.asksLow
    split <;> rfl
  unfold Power.asksLimit
  split <;> exact low

/-- An input window before it may trip: measured, with its requests. -/
theorem State.window_spec (s : State) (v current power : Nat) : ∃ t,
    (((s.metered v current power).inputRequest v).limitRequest power) = t ∧
    s.OnlyRows (Machine.rowsOf (meterIds ++ faultIds)) { t with power := s.power } ∧
    ({ t with power := { t.power with below38 := below38 t.power v } } : State) = { t with power := s.windowPower v power } ∧
    t.power.below38 = s.power.below38 ∧
    ∀ id ∈ meterIds, t.obj id 0 = (s.metered v current power).obj id 0 := by
  obtain ⟨frame, _⟩ := s.metered_spec v current power
  generalize s.metered v current power = u at *
  obtain ⟨low, first⟩ := u.inputRequest_requests v
  generalize u.inputRequest v = x at *
  obtain ⟨limit, second⟩ := x.limitRequest_requests power
  generalize x.limitRequest power = y at *
  have upower : u.power = s.power := by rw [frame.1]
  have uobj {id : Nat} (out : id ∉ meterIds) : u.obj id 0 = s.obj id 0 := frame.2.1 id 0 (by decide) out
  have xobj {id : Nat} (out : id ∉ faultIds) : x.obj id 0 = u.obj id 0 := first.2.1 id 0 (by decide) out
  have yobj {id : Nat} (out : id ∉ faultIds) : y.obj id 0 = x.obj id 0 := second.2.1 id 0 (by decide) out
  have power_eq : y.power = (s.power.asksLow v).asksLimit (s.obj Obj.powerLimit 0) (s.obj Obj.coreDiv 0) power := by
    rw [limit, low, xobj (by decide), xobj (by decide), uobj (by decide), uobj (by decide), upower]
  have below : y.power.below38 = s.power.below38 := by rw [power_eq, Power.below38_asks]
  refine ⟨y, rfl, ?_, ?_, below, fun id m => (yobj ?_).trans (xobj ?_)⟩
  · have a := frame.mono (dh := Machine.rowsOf (meterIds ++ faultIds)) fun _ _ m => List.mem_append_left _ m
    have b := first.mono (dh := Machine.rowsOf (meterIds ++ faultIds)) fun _ _ m => List.mem_append_right _ m
    have c := second.mono (dh := Machine.rowsOf (meterIds ++ faultIds)) fun _ _ m => List.mem_append_right _ m
    rw [upower] at b
    exact a.trans (b.trans (State.OnlyRows.withPower c s.power))
  · unfold State.windowPower below38
    rw [power_eq, Power.below38_asks]
  · revert id
    decide
  · revert id
    decide

theorem exec_inputWindow {s : State} (up : s.up = true) (volt current : W16) (power : W32) :
    exec (.inputWindow volt current power) s =
      .next (let t := ((s.metered volt.toNat current.toNat power.toNat).inputRequest volt.toNat).limitRequest power.toNat
        let u := { t with power := { t.power with below38 := below38 t.power volt.toNat } }
        if 10 ≤ below38 t.power volt.toNat then u.trip 1 else if 5600 < volt.toNat then u.trip 2 else u) := by
  show execInputWindow volt current power s = _
  unfold execInputWindow
  rw [State.ifUp_of_up up]
  rfl

/-- What an input window's requests leave of the power. -/
theorem State.windowPower_spec (s : State) (v power : Nat) : (s.windowPower v power).on = s.power.on ∧
    (v < 4000 → (s.windowPower v power).lowRequest = true) ∧
    (4000 ≤ v → (s.windowPower v power).lowRequest = (s.power.lowRequest && decide (s.power.inputClear + 1 < 100))) ∧
    (s.obj Obj.powerLimit 0 < power →
      (s.windowPower v power).powerRequest = some (slowerDiv (s.obj Obj.coreDiv 0))) := by
  have kept (p : Power) (limit div : Nat) : (p.asksLimit limit div power).on = p.on ∧
      (p.asksLimit limit div power).lowRequest = p.lowRequest := by
    unfold Power.asksLimit
    split <;> exact ⟨rfl, rfl⟩
  obtain ⟨on, low⟩ := kept (s.power.asksLow v) (s.obj Obj.powerLimit 0) (s.obj Obj.coreDiv 0)
  have lowOn : (s.power.asksLow v).on = s.power.on := by
    unfold Power.asksLow
    split <;> rfl
  refine ⟨on.trans lowOn, fun under => low.trans ?_, fun clear => low.trans ?_, fun above => ?_⟩
  · unfold Power.asksLow
    rw [if_pos under]
  · unfold Power.asksLow
    rw [if_neg (by omega)]
  · show (Power.asksLimit _ _ _ power).powerRequest = _
    unfold Power.asksLimit
    rw [if_pos above]

section Window

variable {s : State} (up : s.up = true) (volt current : W16) (power : W32)
include up

/-- R443: ten windows below 38 V in a row, and one above 56 V, trip the module. -/
theorem inputWindow_trips : (5600 < volt.toNat → ∃ t, exec (.inputWindow volt current power) s = .next t ∧ t.up = false ∧
      t.power.tripped = true ∧ bits (t.obj Obj.lastShutdown 0) 128 8 = 2 ∧ t.pending = s.pending) ∧
    (volt.toNat < 3800 → 9 ≤ s.power.below38 → ∃ t, exec (.inputWindow volt current power) s = .next t ∧ t.up = false ∧
      t.power.tripped = true ∧ bits (t.obj Obj.lastShutdown 0) 128 8 = 1) := by
  have run := exec_inputWindow up volt current power
  obtain ⟨t, requested, frame, _, below, _⟩ := s.window_spec volt.toNat current.toNat power.toNat
  rw [requested] at run
  dsimp only at run
  refine ⟨fun above => ?_, fun under long => ?_⟩
  · have count : ¬10 ≤ below38 t.power volt.toNat := by
      unfold below38
      rw [if_neg (by omega)]
      decide
    rw [if_neg count, if_pos above] at run
    obtain ⟨off, tripped, cause, pending⟩ := State.trip_spec
      { t with power := { t.power with below38 := below38 t.power volt.toNat } } (cause := 2) (by decide)
    have same := congrArg State.pending frame.1
    exact ⟨_, run, off, tripped, cause, pending.trans same⟩
  · have count : 10 ≤ below38 t.power volt.toNat := by
      unfold below38
      rw [if_pos under]
      omega
    rw [if_pos count] at run
    obtain ⟨off, tripped, cause, _⟩ := State.trip_spec
      { t with power := { t.power with below38 := below38 t.power volt.toNat } } (cause := 1) (by decide)
    exact ⟨_, run, off, tripped, cause⟩

/-- R442, R455: any other window is shown, and its requests stand. -/
theorem inputWindow_measures (sound : volt.toNat ≤ 5600) (short : 3800 ≤ volt.toNat ∨ s.power.below38 < 9) :
    ∃ t, exec (.inputWindow volt current power) s = .next t ∧
      t.up = true ∧ t.obj Obj.inputVolt 0 = volt.toNat ∧ t.obj Obj.inputCurrent 0 = current.toNat ∧
      t.obj Obj.inputPower 0 = power.toNat ∧
      t.power.below38 = (if volt.toNat < 3800 then s.power.below38 + 1 else 0) ∧
      t.obj Obj.inputEvents 0 = (if volt.toNat < 4000 ∨ 5400 < volt.toNat then satAdd 64 (s.obj Obj.inputEvents 0) 1
        else s.obj Obj.inputEvents 0) ∧
      (volt.toNat < 4000 → t.power.lowRequest = true) ∧
      (4000 ≤ volt.toNat → t.power.lowRequest = (s.power.lowRequest && decide (s.power.inputClear + 1 < 100))) ∧
      (s.obj Obj.powerLimit 0 < power.toNat → t.power.powerRequest = some (slowerDiv (s.obj Obj.coreDiv 0))) ∧
      t.mode = s.mode ∧ t.spindles = s.spindles := by
  have run := exec_inputWindow up volt current power
  obtain ⟨t, requested, frame, powered, below, shown⟩ := s.window_spec volt.toNat current.toNat power.toNat
  obtain ⟨_, meterVolt, meterCurrent, meterPower, meterEvents⟩ := s.metered_spec volt.toNat current.toNat power.toNat
  obtain ⟨on, low, clear, limit⟩ := s.windowPower_spec volt.toNat power.toNat
  have count : ¬10 ≤ below38 t.power volt.toNat := by
    unfold below38
    split
    · omega
    · decide
  rw [requested] at run
  dsimp only at run
  rw [if_neg count, if_neg (by omega), powered] at run
  have mode : t.obj Obj.moduleState 0 = s.obj Obj.moduleState 0 :=
    frame.2.1 _ 0 (by decide) (by unfold Machine.rowsOf; decide)
  have spindles := congrArg State.spindles frame.1
  exact ⟨_, run, on.trans up, (shown _ (by decide)).trans meterVolt, (shown _ (by decide)).trans meterCurrent,
    (shown _ (by decide)).trans meterPower, rfl, (shown _ (by decide)).trans meterEvents, low, clear, limit, mode, spindles⟩

end Window

/-! ## A bolt lost -/

/-- `t` has of `s` the state of every bolt, the power and the program, and no microbatch where `s` has none. -/
structure State.LossKeeps (s t : State) : Prop where
  rows : s.RowsOnly (otherThan [Obj.boltState]) t
  power : t.power = s.power
  prog : t.prog = s.prog
  idle : s.step.mbRunning = false → t.step.mbRunning = false

theorem State.LossKeeps.refl (s : State) : s.LossKeeps s := ⟨.refl _ s, rfl, rfl, id⟩

theorem State.LossKeeps.trans {s t u : State} (h : s.LossKeeps t) (k : t.LossKeeps u) : s.LossKeeps u :=
  ⟨h.rows.trans k.rows, k.power.trans h.power, k.prog.trans h.prog, k.idle ∘ h.idle⟩

section LossKeeps

variable (s : State)

theorem State.lossKeeps_setObj {id row : Nat} (hr : row < 2 ^ 20) (out : id ∉ [Obj.boltState]) (v : Nat) :
    s.LossKeeps (s.setObj id row v) := ⟨s.rowsOnly_setObj hr out v, rfl, rfl, fun h => h⟩

theorem State.lossKeeps_faults (f : Faults) : s.LossKeeps { s with faults := f } := ⟨.refl _ s, rfl, rfl, id⟩

theorem State.lossKeeps_link (l : Link) : s.LossKeeps { s with link := l } := ⟨.refl _ s, rfl, rfl, id⟩

theorem State.lossKeeps_record (r : Rec) : s.LossKeeps (s.record r) := by
  have row : (s.lastSeq + 1) % 2 ^ 32 % 4096 < 2 ^ 20 := by omega
  unfold State.record
  exact (s.lossKeeps_setObj row (by decide) _).trans (State.lossKeeps_setObj _ (by decide) (by decide) _)

theorem State.lossKeeps_fault (c u d : Nat) : s.LossKeeps (s.fault c u d) := by
  unfold State.fault
  exact (s.lossKeeps_setObj (by decide) (by decide) _).trans (State.lossKeeps_record ..)

theorem State.lossKeeps_setMode (m c : Nat) : s.LossKeeps (s.setMode m c) := by
  unfold State.setMode
  exact ((s.lossKeeps_setObj (by decide) (by decide) _).trans (State.lossKeeps_setObj _ (by decide) (by decide) _)).trans
    (State.lossKeeps_setObj _ (by decide) (by decide) _)

theorem State.lossKeeps_causeWritten : s.LossKeeps s.causeWritten := by
  unfold State.causeWritten
  split
  · exact (s.lossKeeps_setObj (by decide) (by decide) _).trans (State.lossKeeps_faults ..)
  · exact .refl s

theorem State.lossKeeps_retireRecord (c u d : Nat) (hard : Bool) (related : Nat) :
    s.LossKeeps (s.retireRecord c u d hard related) := by
  unfold State.retireRecord
  exact ((s.lossKeeps_setObj (by decide) (by decide) _).trans (State.lossKeeps_record ..)).trans (State.lossKeeps_causeWritten _)

theorem State.lossKeeps_recordRetired (u : UnitId) (c d : Nat) (hard : Bool) : s.LossKeeps (s.recordRetired u c d hard) := by
  unfold State.recordRetired
  split
  · exact s.lossKeeps_faults _
  · exact s.lossKeeps_retireRecord ..

variable {s} in
theorem State.OnlyFrames.lossKeeps {t : State} (h : s.OnlyFrames linkRows t) : s.LossKeeps t where
  rows := h.rowsOnly fun id row m => by
    rcases m with counter | ⟨rfl, _⟩
    · revert id
      decide
    · decide
  power := h.power
  prog := h.prog
  idle := by rw [h.step]; exact fun idle => idle

theorem State.lossKeeps_sendLeave : s.LossKeeps s.sendLeave := by
  unfold State.sendLeave State.sendLoss
  split
  · exact (State.sends_sendDecisionPath rfl s).frames.lossKeeps
  · exact (State.sends_sendVotePath rfl s).frames.lossKeeps

theorem State.lossKeeps_endWeave : s.LossKeeps s.endWeave := by
  unfold State.endWeave
  split
  · exact (s.lossKeeps_link _).trans (State.lossKeeps_setObj _ (by decide) (by decide) _)
  · exact .refl s

/-- A member says LEAVE, and its re-weave and its membership end. -/
theorem State.lossKeeps_parted : s.LossKeeps ((if s.link.member then s.sendLeave else s).endWeave.setMember false) := by
  refine State.LossKeeps.trans (State.LossKeeps.trans ?_ (State.lossKeeps_endWeave _)) (State.lossKeeps_link ..)
  split
  · exact s.lossKeeps_sendLeave
  · exact .refl s

/-- The phase IDLE with no microbatch running. -/
theorem State.lossKeeps_idled : s.LossKeeps { s.setPhase 0 with step := { s.step with mbRunning := false } } :=
  ⟨s.rowsOnly_setObj (by decide) (by decide) _, rfl, rfl, fun _ => rfl⟩

theorem State.lossKeeps_leaveGrid (cause : Nat) : s.LossKeeps (s.leaveGrid cause) := by
  unfold State.leaveGrid
  exact ((s.lossKeeps_parted.trans (State.lossKeeps_fault _ 0xB431 0 cause)).trans
    (State.lossKeeps_setMode _ stStandby _)).trans (State.lossKeeps_idled _)

theorem State.lossKeeps_leaveEarly (u : UnitId) : s.LossKeeps (s.leaveEarly u) := by
  unfold State.leaveEarly
  exact ((s.lossKeeps_parted.trans (State.lossKeeps_setMode _ stStandby _)).trans (State.lossKeeps_faults ..)).trans
    (State.lossKeeps_idled _)

theorem State.lossKeeps_recovered (kind start root : Nat) : s.LossKeeps (s.recovered kind start root) :=
  s.lossKeeps_setObj (by decide) (by decide) _

end LossKeeps

/-- The wafer stopped for good, before the module leaves its grid. -/
def State.unrun (s : State) : State := { s.haltWafer with prog := { s.haltWafer.prog with unrunnable := true } }

/-- A module that ran drains. -/
def State.drained (s : State) (seq : Nat) : State :=
  if s.mode = stRun ∨ s.mode = stRecover then s.setMode stDrain seq else s

theorem State.lossKeeps_drained (s : State) (seq : Nat) : s.LossKeeps (s.drained seq) := by
  unfold State.drained
  split
  · exact s.lossKeeps_setMode ..
  · exact .refl s

theorem State.cannotLose_eq (s : State) (u : UnitId) : s.cannotLose u =
    let t := s.unrun.drained s.lastSeq
    let inGrid := decide (s.unrun.mode = stRun ∨ s.unrun.mode = stRecover ∨ s.unrun.mode = stDrain)
    if s.faults.owed.any (fun o => sameUnit o.unit u) then (if inGrid then t.leaveEarly u else t)
    else ((if inGrid then t.leaveGrid s.lastSeq else t).recovered 5 s.time.now s.lastSeq).causeWritten := rfl

theorem State.cannotLose_keeps (s : State) (u : UnitId) : s.unrun.LossKeeps (s.cannotLose u) := by
  have drained := s.unrun.lossKeeps_drained s.lastSeq
  rw [State.cannotLose_eq]
  generalize s.unrun.drained s.lastSeq = t at *
  dsimp only
  split
  · split
    · exact drained.trans (t.lossKeeps_leaveEarly u)
    · exact drained
  · refine ((drained.trans ?_).trans (State.lossKeeps_recovered ..)).trans (State.lossKeeps_causeWritten _)
    split
    · exact t.lossKeeps_leaveGrid _
    · exact .refl t

/-- A bolt's loss up to its record (R371). -/
def State.boltRecorded (s : State) (b cause code detail : Nat) : State :=
  let s := s.setField Obj.boltState b 0 4 cause
  let s := { s with faults := { s.faults with dueFence := s.faults.dueFence.filter (fun d => d.1 != b) } }
  let seen : HardSeen :=
    { time := s.time.now, unit := unitId lvBolt b, code := BitVec.ofNat 16 code, detail := BitVec.ofNat 32 detail }
  let s := if s.inOpenGroup (unitId lvBolt b) then { s with faults := { s.faults with hard := s.faults.hard ++ [seen] } } else s
  s.recordRetired (unitId lvBolt b) code detail true

theorem State.boltRecorded_keeps (s : State) (b cause code detail : Nat) :
    (s.setField Obj.boltState b 0 4 cause).LossKeeps (s.boltRecorded b cause code detail) := by
  unfold State.boltRecorded
  dsimp only
  refine State.LossKeeps.trans ?_ (State.lossKeeps_recordRetired ..)
  split <;> exact ⟨.refl _ _, rfl, rfl, id⟩

theorem State.lossKeeps_clockLost (s : State) {b : Nat} (hb : b < 2 ^ 20) : s.LossKeeps (s.clockLost b) := by
  unfold State.clockLost
  dsimp only
  split
  · exact ((s.lossKeeps_setObj hb (by decide) _).trans (State.lossKeeps_setObj _ (by decide) (by decide) _)).trans
      (State.lossKeeps_setObj _ (by decide) (by decide) _)
  · exact s.lossKeeps_setObj hb (by decide) _

/-- A rail taken off. -/
def State.railOff (s : State) (b : Nat) : State := { s with power := { s.power with railsOff := s.power.railsOff ++ [b] } }

theorem State.loseBolt_eq {s : State} {b : Nat} (good : s.field Obj.boltState b 0 4 = 0) (cause code detail : Nat) :
    s.loseBolt b cause code detail =
      ((((s.boltRecorded b cause code detail).railOff b).clockLost b).markRetired (unitId lvBolt b)).cannotLose (unitId lvBolt b) := by
  unfold State.loseBolt
  rw [good, if_neg (by decide)]
  rfl

/-- R371, R447: what a lost bolt leaves. -/
theorem State.loseBolt_spec {s : State} {b : Nat} (hb : b < 2 ^ 20) (good : s.field Obj.boltState b 0 4 = 0) {cause : Nat}
    (hc : cause < 2 ^ 4) (code detail : Nat) :
    (s.loseBolt b cause code detail).field Obj.boltState b 0 4 = cause ∧ b ∈ (s.loseBolt b cause code detail).power.railsOff ∧
      (s.loseBolt b cause code detail).prog.unrunnable = true ∧ (s.loseBolt b cause code detail).step.mbRunning = false := by
  have recorded := s.boltRecorded_keeps b cause code detail
  rw [State.loseBolt_eq good]
  generalize s.boltRecorded b cause code detail = t at *
  have retired := ((t.railOff b).lossKeeps_clockLost hb).trans (State.lossKeeps_faults _ (((t.railOff b).clockLost b).markRetired
    (unitId lvBolt b)).faults)
  change (t.railOff b).LossKeeps (((t.railOff b).clockLost b).markRetired (unitId lvBolt b)) at retired
  generalize ((t.railOff b).clockLost b).markRetired (unitId lvBolt b) = u at *
  have left := u.cannotLose_keeps (unitId lvBolt b)
  generalize u.cannotLose (unitId lvBolt b) = v at *
  have state : v.obj Obj.boltState b = setBits (s.obj Obj.boltState b) 0 4 cause := by
    rw [left.rows.kept hb (by decide)]
    refine (retired.rows.kept hb (by decide)).trans ((recorded.rows.kept hb (by decide)).trans ?_)
    exact State.obj_setField_self ..
  refine ⟨?_, ?_, by rw [left.prog]; rfl, left.idle rfl⟩
  · unfold State.field
    rw [state, bits_setBits_self, Nat.mod_eq_of_lt hc]
  · rw [left.power]
    show b ∈ u.power.railsOff
    rw [retired.power]
    exact List.mem_append_right _ (List.mem_singleton.mpr rfl)

/-- A regulator's fault at a bolt (R447). -/
theorem exec_boltFault {s : State} (up : s.up = true) (b : BoltNo) {i : Instr}
    (fault : i = .boltOvercurrent b ∨ i = .boltUndervoltage b) : ∃ detail, exec i s =
      .next (if s.power.railsOff.contains b.val then s else s.loseBolt b.val 1 0x2801 detail) := by
  rcases fault with rfl | rfl
  · exact ⟨1, congrArg Host.Outcome.next (State.ifUp_of_up up _)⟩
  · exact ⟨2, congrArg Host.Outcome.next (State.ifUp_of_up up _)⟩

theorem boltFault_spec {s : State} (up : s.up = true) (b : BoltNo) {i : Instr}
    (fault : i = .boltOvercurrent b ∨ i = .boltUndervoltage b) :
    (s.power.railsOff.contains b.val = true → exec i s = .next s) ∧
    (s.power.railsOff.contains b.val = false → s.field Obj.boltState b.val 0 4 = 0 → ∃ t, exec i s = .next t ∧
      t.field Obj.boltState b.val 0 4 = 1 ∧ b.val ∈ t.power.railsOff ∧ t.prog.unrunnable = true ∧ t.step.mbRunning = false) := by
  obtain ⟨detail, run⟩ := exec_boltFault up b fault
  refine ⟨fun off => ?_, fun on good => ⟨_, run, ?_⟩⟩
  · rw [run, off, if_pos rfl]
  · rw [on, if_neg (by decide)]
    exact State.loseBolt_spec (by omega) good (by decide) 0x2801 detail

/-! ## The statement -/

/-- R264, R443: what stays when the input goes. -/
theorem powerRemoved_spec (s : State) : ∃ t, exec .powerRemoved s = .next t ∧ t.up = false ∧ t.power.tripped = false ∧
    t.pending = s.pending ∧ t.prog = {} ∧ t.spindles = [] ∧ t.link.member = false ∧ t.dict.lockOwner = none ∧
    t.sec.banks = s.sec.banks ∧
    (∀ a, memGet t.fast a = 0 ∧ memGet t.slow a = 0 ∧ memGet t.host.staging a = 0 ∧ memGet t.host.retained a = 0) ∧
    (∀ id row, row < 2 ^ 20 → t.obj id row = (if inFlash id then s.obj id row else objDefault id row)) :=
  ⟨s.powerOff false, rfl, rfl, rfl, rfl, rfl, rfl, rfl, rfl, rfl, fun _ => ⟨rfl, rfl, rfl, rfl⟩,
    fun _ _ hr => s.obj_powerOff false hr⟩

/-- Settles O56: what a module shows when its input comes, goes or leaves its range, and the loss of a bolt whose rail fails. -/
theorem powerComesGoesAndTrips : Obligations.PowerComesGoesAndTrips := by
  unfold Obligations.PowerComesGoesAndTrips
  refine ⟨fun mv s => ⟨exec_powerApplied_ignored, powerApplied_spec⟩, powerRemoved_spec, fun s up => ⟨?_, fun b => ⟨?_, ?_⟩⟩⟩
  · rintro volt current power v rfl
    obtain ⟨above, below⟩ := inputWindow_trips up volt current power
    exact ⟨above, below, inputWindow_measures up volt current power⟩
  · obtain ⟨off, tripped, cause, _⟩ := s.trip_spec (cause := 4) (by decide)
    exact ⟨s.trip 4, congrArg Host.Outcome.next (State.ifUp_of_up up _), off, tripped, cause⟩
  · exact fun i fault => boltFault_spec up b fault

end Sys2Proof.Machine
end

section
/-! SUPPORT. The bytes of values written one after another: what a later read of one of them returns, and what a write beside it
leaves (R1, R5). -/

namespace Sys2Proof.Machine

theorem memRead_congr_range {m k : Mem} : ∀ (n a : Nat), (∀ c, a ≤ c → c < a + n → memGet m c = memGet k c) →
    memRead m a n = memRead k a n
  | 0, _, _ => rfl
  | n + 1, a, h => by
    rw [memRead, memRead, h a (Nat.le_refl a) (by omega),
      memRead_congr_range n (a + 1) fun c low high => h c (by omega) (by omega)]

theorem memNat_congr_range {m k : Mem} {a n : Nat} (h : ∀ c, a ≤ c → c < a + n → memGet m c = memGet k c) :
    memNat m a n = memNat k a n := congrArg leNat (memRead_congr_range n a h)

theorem memWrite_append : ∀ (bs cs : List Byte) (m : Mem) (a : Nat),
    memWrite m a (bs ++ cs) = memWrite (memWrite m a bs) (a + bs.length) cs
  | [], _, _, _ => rfl
  | b :: bs, cs, m, a => by
    rw [List.cons_append, memWrite, memWrite, memWrite_append bs cs, List.length_cons, Nat.add_right_comm, Nat.add_assoc]

theorem length_flatMap_leBytes (w : Nat) (vs : List Nat) : (vs.flatMap (leBytes w)).length = w * vs.length := by
  rw [List.length_flatMap, List.map_congr_left (g := fun _ => w) fun v _ => length_leBytes w v, List.map_const',
    List.sum_replicate, smul_eq_mul, Nat.mul_comm]

/-- Values written one after another are read back, each in its bytes. -/
theorem memNat_memWrite_flatMap (w : Nat) : ∀ (vs : List Nat) (m : Mem) (a n : Nat), n < vs.length →
    memNat (memWrite m a (vs.flatMap (leBytes w))) (a + w * n) w = nth vs n 0 % 2 ^ (8 * w)
  | [], _, _, _, h => absurd h (Nat.not_lt_zero _)
  | v :: vs, m, a, 0, _ => by
    rw [List.flatMap_cons, memWrite_append, length_leBytes, Nat.mul_zero, Nat.add_zero]
    refine (memNat_congr_range fun c _ high => memGet_memWrite_out (.inl high)).trans ?_
    exact memNat_memWrite_leBytes m a w v
  | v :: vs, m, a, n + 1, h => by
    have next := memNat_memWrite_flatMap w vs (memWrite m a (leBytes w v)) (a + w) n (Nat.lt_of_succ_lt_succ h)
    rw [List.flatMap_cons, memWrite_append, length_leBytes, Nat.mul_succ, Nat.add_comm (w * n), ← Nat.add_assoc]
    exact next

/-- Bytes written where they were read leave every byte as it is. -/
theorem memGet_memWrite_memRead (c : Nat) : ∀ (n : Nat) (m k : Mem) (a : Nat), (∀ b, memGet k b = memGet m b) →
    memGet (memWrite k a (memRead m a n)) c = memGet m c
  | 0, _, _, _, same => same c
  | n + 1, m, k, a, same => by
    rw [memRead, memWrite]
    refine memGet_memWrite_memRead c n m _ (a + 1) fun b => ?_
    rw [memGet_memPut]
    split
    next at_ => rw [at_]
    next => exact same b

end Sys2Proof.Machine
end

section
/-! SUPPORT. The update of one shard (R268, R271, R272): what its reads leave, what it writes and where, its end and its stops, and
the statement about it (O39). -/

namespace Sys2Proof.Machine

/-! ## The reads of an update -/

/-- `t` is `s` after reads that may have reported errors: what is read stays, and so does which lines are unreadable. -/
structure State.Checks (s t : State) : Prop where
  reports : s.Reports t
  free : t.free = s.free
  unreadable : ∀ slow a, t.unreadable slow a = s.unreadable slow a

theorem State.Checks.refl (s : State) : s.Checks s := ⟨s.reports_refl, rfl, fun _ _ => rfl⟩

theorem State.Checks.trans {s t u : State} (h : s.Checks t) (k : t.Checks u) : s.Checks u :=
  ⟨h.reports.trans k.reports, k.free.trans h.free, fun slow a => (k.unreadable slow a).trans (h.unreadable slow a)⟩

theorem State.unreadable_of_readErrs {s t : State} (h : t.faults.readErrs = s.faults.readErrs) (slow : Bool) (a : Nat) :
    t.unreadable slow a = s.unreadable slow a := by
  unfold State.unreadable
  rw [h]

section Stepping

variable {s : State} (steps : s.stepping = true)
include steps

theorem State.occurrence_quiet (u : UnitId) : (s.occurrence u).free = s.free ∧
    (s.occurrence u).faults.readErrs = s.faults.readErrs := by
  unfold State.occurrence
  dsimp only
  split
  · exact ⟨rfl, rfl⟩
  · split
    · split
      · exact ⟨rfl, rfl⟩
      · next idle => exact absurd steps idle
    · exact ⟨rfl, rfl⟩

theorem State.checks_faultOf (code unit detail : Nat) (u : UnitId) : s.Checks ((s.fault code unit detail).occurrence u) := by
  have steps' := (s.reports_fault code unit detail).stepping steps
  obtain ⟨free, errs⟩ := State.occurrence_quiet steps' u
  exact ⟨State.reports_faultOf steps .., free.trans (State.fault_free ..),
    State.unreadable_of_readErrs (errs.trans (by rw [State.fault_faults]))⟩

/-- Retried reads counted, with their record where they are too many (R347). -/
theorem State.checks_rated (rates : SMap (Nat × Nat)) (c : Prop) [Decidable c] (code unit : Nat) (u : UnitId) :
    s.Checks (let t : State := { s with faults := { s.faults with eccRate := rates } }
      if c then (t.fault code unit 0).occurrence u else t) := by
  have counted : s.Checks { s with faults := { s.faults with eccRate := rates } } := ⟨s.reports_faults _, rfl, fun _ _ => rfl⟩
  dsimp only
  split
  · exact counted.trans (State.checks_faultOf (counted.reports.stepping steps) ..)
  · exact counted

theorem State.checks_retried (u : UnitId) (code n : Nat) : s.Checks (s.retried u code n) := by
  unfold State.retried
  split
  · exact .refl s
  · exact State.checks_rated steps ..

/-- An error that the retries overcome is gone, and it made nothing unreadable. -/
theorem State.checks_noteRead (e : ReadErr) : s.Checks (s.noteRead e) := by
  have retried := State.checks_retried steps e.unit ((if e.slow then 0x9000 else 0x5000) + 0x101) 1
  unfold State.noteRead
  dsimp only
  generalize s.retried e.unit ((if e.slow then 0x9000 else 0x5000) + 0x101) 1 = t at *
  split
  · exact retried.trans (State.checks_faultOf (retried.reports.stepping steps) ..)
  next brief =>
    refine retried.trans ⟨t.reports_faults _, rfl, fun slow a => ?_⟩
    unfold State.unreadable
    rw [Bool.eq_iff_iff, List.any_eq_true, List.any_eq_true]
    constructor
    · rintro ⟨x, m, stands⟩
      exact ⟨x, List.mem_of_mem_erase m, stands⟩
    · rintro ⟨x, m, stands⟩
      refine ⟨x, (List.mem_erase_of_ne ?_).mpr m, stands⟩
      rintro rfl
      simp only [Bool.and_eq_true] at stands
      exact brief stands.2

omit steps in
theorem State.checks_foldl {β : Type} {f : State → β → State} (each : ∀ (t : State) (b : β), t.stepping = true → t.Checks (f t b)) :
    ∀ (bs : List β) {s : State}, s.stepping = true → s.Checks (bs.foldl f s)
  | [], s, _ => .refl s
  | b :: bs, s, steps =>
    have first := each s b steps
    first.trans (State.checks_foldl each bs (first.reports.stepping steps))

theorem State.checks_checkShard (d : Shard) : s.Checks (s.checkShard d) :=
  State.checks_foldl (fun _ _ h => State.checks_foldl (fun _ e k => State.checks_noteRead k e) _ h) _ steps

end Stepping

theorem State.checkShard_of_none {s : State} (h : s.faults.readErrs = []) (d : Shard) : s.checkShard d = s := by
  unfold State.checkShard
  exact foldl_of_fixed fun a _ => State.checkRead_of_none h ..

section Checks

variable {s t : State} (h : s.Checks t)
include h

theorem State.Checks.obj {id row : Nat} (hr : row < 2 ^ 20) (other : id ∉ faultIds) : t.obj id row = s.obj id row :=
  h.reports.2.1 id row hr other

theorem State.Checks.step : t.step = s.step :=
  have same := congrArg State.step h.reports.1
  same

theorem State.Checks.tier (slow : Bool) : t.tier slow = s.tier slow := by
  have fast := congrArg State.fast h.reports.1
  have slowTier := congrArg State.slow h.reports.1
  cases slow
  · exact fast
  · exact slowTier

theorem State.Checks.shard {i : Nat} (hi : i < 2 ^ 18) : t.shard i = s.shard i :=
  congrArg shardOf (h.obj (by omega) (by decide))

end Checks

/-! ## The old arrays -/

/-- An array as an update reads it: what is unreadable is a free value. -/
theorem State.readOld_eq (s : State) (d : Shard) (a : Arr) : s.readOld d a = (s.readArr d a).mapIdx (fun i v =>
    if s.unreadable (d.place a).1 ((d.place a).2 + a.width * i) then
      Config.freeNat (s.free + ((d.place a).2 + a.width * i)) % 2 ^ (8 * a.width) else v) := by
  unfold State.readOld
  dsimp only
  split
  next none_ =>
    have empty := List.isEmpty_iff.mp none_
    have readable (slow : Bool) (b : Nat) : s.unreadable slow b = false := by
      unfold State.unreadable
      rw [empty]
      rfl
    simp only [readable, Bool.false_eq_true, if_false]
    exact (List.ext_getElem (by simp) fun i _ _ => by simp).symm
  next => rfl

/-- `t` shows an update the same old values and coefficients as `s`. -/
structure State.ReadsAs (s t : State) : Prop where
  tier : ∀ slow, t.tier slow = s.tier slow
  free : t.free = s.free
  unreadable : ∀ slow a, t.unreadable slow a = s.unreadable slow a
  rows : s.RowsOnly (otherThan [Obj.hyper, Obj.compactExp, Obj.stepCount]) t

theorem State.ReadsAs.trans {s t u : State} (h : s.ReadsAs t) (k : t.ReadsAs u) : s.ReadsAs u :=
  ⟨fun x => (k.tier x).trans (h.tier x), k.free.trans h.free, fun x a => (k.unreadable x a).trans (h.unreadable x a),
    h.rows.trans k.rows⟩

theorem State.Checks.readsAs {s t : State} (h : s.Checks t) : s.ReadsAs t where
  tier := h.tier
  free := h.free
  unreadable := h.unreadable
  rows := State.RowsOnly.mono (fun id row m => by
    revert id
    unfold recordRows Machine.rowsOf otherThan
    decide) h.reports.2.1

section ReadsAs

variable {s t : State} (h : s.ReadsAs t)
include h

theorem State.ReadsAs.readArr (d : Shard) (a : Arr) : t.readArr d a = s.readArr d a := by
  unfold State.readArr
  dsimp only
  rw [h.tier]

theorem State.ReadsAs.readOld (d : Shard) (a : Arr) : t.readOld d a = s.readOld d a := by
  rw [State.readOld_eq, State.readOld_eq, h.readArr, h.free]
  simp only [h.unreadable]

theorem State.ReadsAs.olds (d : Shard) : t.olds d = s.olds d := by
  unfold State.olds
  simp only [h.readOld]

theorem State.ReadsAs.coef (sc : Scalars) (d : Shard) (small : d.hset < 2 ^ 20) : t.coef sc d = s.coef sc d := by
  have hyper : t.obj Obj.hyper d.hset = s.obj Obj.hyper d.hset := h.rows.kept small (by decide)
  have count : t.stepCount = s.stepCount := h.rows.kept (by decide) (by decide)
  have exp : (if d.layer < 4096 then t.obj Obj.compactExp d.layer else 0) =
      if d.layer < 4096 then s.obj Obj.compactExp d.layer else 0 := by
    split
    next low => exact h.rows.kept (by omega) (by decide)
    next => rfl
  unfold State.coef State.shardScalars
  rw [hyper, count, exp]

end ReadsAs

theorem State.obj_setShardState (s : State) {i id row : Nat} (hi : i < 2 ^ 18) (hr : row < 2 ^ 20) (other : Obj.residence ≠ id)
    (v : Nat) : (s.setShardState i v).obj id row = s.obj id row :=
  State.obj_setField_ne (objKey_ne_of_id (by omega) hr other)

theorem State.readsAs_setShardState (s : State) {i : Nat} (hi : i < 2 ^ 18) (v : Nat) : s.ReadsAs (s.setShardState i v) where
  tier slow := by
    unfold State.tier State.setShardState
    rw [State.setField_fast, State.setField_slow]
  free := State.setField_free ..
  unreadable := State.unreadable_of_readErrs (congrArg Faults.readErrs (State.setField_faults ..))
  rows := s.rowsOnly_setObj (by omega) (by decide) _

/-! ## Where an array's values are written -/

theorem State.tier_tierWrite (s : State) (w : Bool) (a : Nat) (bs : List Byte) (slow : Bool) :
    (s.tierWrite w a bs).tier slow = if w = slow then memWrite (s.tier slow) a bs else s.tier slow := by
  cases w <;> cases slow <;> rfl

theorem Shard.size_le_padded (d : Shard) (a : Arr) : d.count a * a.width ≤ d.padded a := by
  unfold Shard.padded ceilDiv
  rw [if_neg (by decide)]
  generalize d.count a * a.width = n
  omega

/-- A byte of a tier is outside the room of an array. -/
def Shard.Outside (d : Shard) (a : Arr) (slow : Bool) (c : Nat) : Prop :=
  d.count a = 0 ∨ (d.place a).1 ≠ slow ∨ c < (d.place a).2 ∨ (d.place a).2 + d.padded a ≤ c

/-- No more values than an array has, where it has any. -/
def Shard.Fits (d : Shard) (a : Arr) (vs : List Nat) : Prop := d.count a ≠ 0 → vs.length ≤ d.count a

/-- Values written from the start of an array stay within its room. -/
theorem State.memGet_writeArr {s : State} {d : Shard} {a : Arr} {vs : List Nat} (fits : d.Fits a vs) {slow : Bool} {c : Nat}
    (out : d.Outside a slow c) : memGet ((s.writeArr d a 0 vs).tier slow) c = memGet (s.tier slow) c := by
  unfold State.writeArr
  split
  · rfl
  next some_ =>
    have size : a.width * vs.length ≤ d.padded a :=
      (Nat.mul_le_mul_left _ (fits some_)).trans (by rw [Nat.mul_comm]; exact d.size_le_padded a)
    dsimp only
    rw [State.tier_tierWrite]
    split
    next same =>
      refine memGet_memWrite_out ?_
      rw [length_flatMap_leBytes]
      rcases out with none_ | other | low | high
      · exact absurd none_ some_
      · exact absurd same other
      · exact .inl (by omega)
      · exact .inr (by omega)
    next => rfl

/-- The arrays of a shard. -/
def allArrs : List Arr := [.work, .grad, .master, .m, .v, .avg]

/-- The rooms of two arrays have no byte in common. -/
def Shard.Apart (d : Shard) (a b : Arr) : Prop :=
  d.count a = 0 ∨ d.count b = 0 ∨
    meet ((d.place a).1, (d.place a).2, d.padded a) ((d.place b).1, (d.place b).2, d.padded b) = false

theorem Shard.Apart.symm {d : Shard} {a b : Arr} (h : d.Apart a b) : d.Apart b a := by
  rcases h with a0 | b0 | apart
  · exact .inr (.inl a0)
  · exact .inl b0
  · refine .inr (.inr ?_)
    simp only [meet, Bool.and_eq_false_iff, beq_eq_false_iff_ne, decide_eq_false_iff_not] at apart ⊢
    rcases apart with tiers | far
    · exact .inl (Ne.symm tiers)
    · exact .inr (by omega)

theorem Shard.apart_of_pairwise {d : Shard} (h : d.spans.Pairwise (fun x y => meet x y = false)) {a b : Arr} (ne : a ≠ b) :
    d.Apart a b := by
  have all : allArrs.Pairwise d.Apart := by
    unfold Shard.spans at h
    rw [List.pairwise_map, List.pairwise_filter] at h
    refine h.imp fun {x y} clear => ?_
    by_cases x0 : d.count x = 0
    · exact .inl x0
    · by_cases y0 : d.count y = 0
      · exact .inr (.inl y0)
      · exact .inr (.inr (clear (bne_iff_ne.mpr x0) (bne_iff_ne.mpr y0)))
  have listed (x : Arr) : x ∈ allArrs := by cases x <;> decide
  have symmetric : Std.Symm d.Apart := ⟨fun _ _ => Shard.Apart.symm⟩
  exact all.forall (listed a) (listed b) ne

/-- An array reads as before where only bytes outside its room have changed. -/
theorem State.readArr_congr {s t : State} {d : Shard} {a : Arr}
    (same : d.count a ≠ 0 → ∀ c, (d.place a).2 ≤ c → c < (d.place a).2 + d.padded a →
      memGet (t.tier (d.place a).1) c = memGet (s.tier (d.place a).1) c) : t.readArr d a = s.readArr d a := by
  unfold State.readArr readVals
  refine List.map_congr_left fun i m => ?_
  have inside := List.mem_range.mp m
  have room := d.size_le_padded a
  have last : a.width * i + a.width ≤ d.count a * a.width := by
    rw [← Nat.mul_succ, Nat.mul_comm]
    exact Nat.mul_le_mul_right _ inside
  exact memNat_congr_range fun c low high => same (by omega) c (by omega) (by omega)

/-- A write of one array leaves another's values. -/
theorem State.readArr_writeArr_other {s : State} {d : Shard} {a b : Arr} {vs : List Nat} (fits : d.Fits a vs)
    (apart : d.Apart a b) : (s.writeArr d a 0 vs).readArr d b = s.readArr d b := by
  refine State.readArr_congr fun some_ c low high => State.memGet_writeArr fits ?_
  rcases apart with a0 | b0 | clear
  · exact .inl a0
  · exact absurd b0 some_
  · simp only [meet, Bool.and_eq_false_iff, beq_eq_false_iff_ne, decide_eq_false_iff_not] at clear
    rcases clear with tiers | far
    · exact .inr (.inl tiers)
    · exact .inr (.inr (by omega))

/-- The values written to an array are read back from it. -/
theorem State.nth_readArr_writeArr {s : State} {d : Shard} {a : Arr} {vs : List Nat} {n : Nat} (inside : n < d.count a)
    (given : n < vs.length) : nth ((s.writeArr d a 0 vs).readArr d a) n 0 = nth vs n 0 % 2 ^ (8 * a.width) := by
  have some_ : d.count a ≠ 0 := by omega
  unfold State.writeArr State.readArr readVals
  rw [if_neg some_]
  dsimp only
  rw [State.tier_tierWrite, if_pos rfl, Nat.mul_zero, Nat.add_zero]
  have read : nth (List.map (fun i => memNat (memWrite (s.tier (d.place a).1) (d.place a).2 (vs.flatMap (leBytes a.width)))
      ((d.place a).2 + a.width * i) a.width) (List.range (d.count a))) n 0 =
      memNat (memWrite (s.tier (d.place a).1) (d.place a).2 (vs.flatMap (leBytes a.width))) ((d.place a).2 + a.width * n) a.width := by
    unfold nth
    rw [List.getElem?_map, List.getElem?_range inside]
    rfl
  rw [read]
  exact memNat_memWrite_flatMap a.width vs _ _ n given

/-! ## What an update writes -/

theorem Shard.count_eq {d : Shard} {a : Arr} (each : a = .work ∨ a = .master ∨ a = .avg) (some_ : d.count a ≠ 0) :
    d.count a = d.ecount := by
  rcases each with rfl | rfl | rfl <;>
  · unfold Shard.count at some_ ⊢
    grind

section Written

variable (s : State) (d : Shard) (x : News) (ca : W32)

theorem Shard.fits_take (a : Arr) (vs : List Nat) : d.Fits a (vs.take (d.count a)) := fun _ => List.length_take_le ..

theorem Shard.fits_take_ecount {a : Arr} (each : a = .work ∨ a = .master ∨ a = .avg) (vs : List Nat) :
    d.Fits a (vs.take d.ecount) := fun some_ => by
  rw [Shard.count_eq each some_]
  exact List.length_take_le ..

/-- The arrays written, in their order. -/
def State.writtenM : State := s.writeArr d .m 0 ((x.m.map (·.toNat)).take (d.count .m))
/-- V after M. -/
def State.writtenV : State := (s.writtenM d x).writeArr d .v 0 ((x.v.map (·.toNat)).take (d.count .v))
/-- The master array after them. -/
def State.writtenW : State := (s.writtenV d x).writeArr d .master 0 ((x.master.map (·.toNat)).take d.ecount)
/-- The work array after them. -/
def State.writtenK : State := (s.writtenW d x).writeArr d .work 0 (x.work.take d.ecount)
/-- The averages last. -/
def State.writtenA : State :=
  (s.writtenK d x).writeArr d .avg 0 ((newAvgs ca ((s.writtenK d x).readArr d .avg) x.wv).take d.ecount)

theorem State.written_eq : (s.writeMoments d x).writeWeights d ca x (1024 * 0) d.ecount = s.writtenA d x ca := rfl

/-- Every byte outside the arrays stays. -/
theorem State.memGet_written {slow : Bool} {c : Nat} (out : ∀ a, d.Outside a slow c) :
    memGet ((s.writtenA d x ca).tier slow) c = memGet (s.tier slow) c :=
  calc
    _ = memGet ((s.writtenK d x).tier slow) c := State.memGet_writeArr (d.fits_take_ecount (by decide) _) (out .avg)
    _ = memGet ((s.writtenW d x).tier slow) c := State.memGet_writeArr (d.fits_take_ecount (by decide) _) (out .work)
    _ = memGet ((s.writtenV d x).tier slow) c := State.memGet_writeArr (d.fits_take_ecount (by decide) _) (out .master)
    _ = memGet ((s.writtenM d x).tier slow) c := State.memGet_writeArr (d.fits_take .v _) (out .v)
    _ = memGet (s.tier slow) c := State.memGet_writeArr (d.fits_take .m _) (out .m)

variable {s d x} (apart : ∀ {a b}, a ≠ b → d.Apart a b)
include apart

theorem State.readArr_written_master : (s.writtenA d x ca).readArr d .master = (s.writtenW d x).readArr d .master :=
  (State.readArr_writeArr_other (d.fits_take_ecount (by decide) _) (apart (by decide))).trans
    (State.readArr_writeArr_other (d.fits_take_ecount (by decide) _) (apart (by decide)))

theorem State.readArr_written_m : (s.writtenA d x ca).readArr d .m = (s.writtenM d x).readArr d .m :=
  (State.readArr_writeArr_other (d.fits_take_ecount (by decide) _) (apart (by decide))).trans
    ((State.readArr_writeArr_other (d.fits_take_ecount (by decide) _) (apart (by decide))).trans
      ((State.readArr_writeArr_other (d.fits_take_ecount (by decide) _) (apart (by decide))).trans
        (State.readArr_writeArr_other (d.fits_take .v _) (apart (by decide)))))

end Written

/-- A word written to an array of words is read back. -/
theorem State.nth_readArr_words {s : State} {d : Shard} {a : Arr} (wide : a.width = 4) {ws : List W32} {k n : Nat}
    (inside : n < d.count a) (given : n < ws.length) (taken : n < k) :
    nth ((s.writeArr d a 0 ((ws.map (·.toNat)).take k)).readArr d a) n 0 = (nth ws n 0).toNat := by
  have length : n < ((ws.map (·.toNat)).take k).length := by
    rw [List.length_take, List.length_map]
    omega
  rw [State.nth_readArr_writeArr inside length, wide]
  have value : nth ((ws.map (·.toNat)).take k) n 0 = (nth ws n 0).toNat := by
    unfold nth
    rw [List.getElem?_take_of_lt taken, List.getElem?_map, List.getElem?_eq_getElem given]
    rfl
  rw [value]
  exact Nat.mod_eq_of_lt (nth ws n 0).isLt

/-- The elements' new values, under a rule other than ADAFACTOR of a shard that is not COMPACT (R268). -/
theorem State.news_elems (s : State) (sc : Scalars) {d : Shard} (rule : d.rule ≠ 7) (cls : d.cls ≠ clsCompact) :
    (s.news sc d).master = ((s.coef sc d).elems d.rule (s.olds d)).map (·.w) ∧
      (s.news sc d).m = ((s.coef sc d).elems d.rule (s.olds d)).map (·.m) := by
  unfold State.news
  simp only [if_neg rule, if_neg cls, and_self]

theorem Coef.nth_elems (c : Coef) (rule : Nat) (o : Olds) {n : Nat} (inside : n < o.g.length) {β : Type} (f : Elem → β) (z : β) :
    nth ((c.elems rule o).map f) n z = f (c.elem rule (nth o.g n 0) (nth o.w n 0) (nth o.m n 0) (nth o.v n 0)) := by
  unfold Coef.elems
  simp [nth, inside]

theorem State.length_readOld (s : State) (d : Shard) (a : Arr) : (s.readOld d a).length = d.count a := by
  rw [State.readOld_eq]
  simp [State.readArr, readVals]

/-! ## The end of an update -/

theorem Shard.die_lt (w : Nat) : (shardOf w).die < 32 := by
  have home : (shardOf w).home < 2 ^ 5 := bits_lt ..
  have weft : (shardOf w).weft < 2 ^ 3 := bits_lt ..
  unfold Shard.die
  split <;> omega

theorem State.slotOfEntry_congr {s t : State} {die : Nat}
    (same : ∀ j, j < 8 → t.obj Obj.journalSlot (journalRow die j) = s.obj Obj.journalSlot (journalRow die j)) (i : Nat) :
    t.slotOfEntry die i = s.slotOfEntry die i :=
  List.find?_congr fun j m => by rw [same j (List.mem_range.mp m)]

theorem State.slotOfEntry_lt {s : State} {die i j : Nat} (h : s.slotOfEntry die i = some j) : j < 8 :=
  List.mem_range.mp (List.mem_of_find?_eq_some h)

theorem State.closeEntry_tier (s : State) (i : Nat) (d : Shard) (slow : Bool) : (s.closeEntry i d).tier slow = s.tier slow := by
  have closed (gen : Nat) : (s.closeShard i gen).tier slow = s.tier slow := by
    unfold State.tier State.closeShard State.setShardGen State.setShardState
    rw [State.setField_fast, State.setField_fast, State.setField_slow, State.setField_slow]
  unfold State.closeEntry
  dsimp only
  split
  · refine Eq.trans ?_ (closed ((d.gen + 1) % 2 ^ 16))
    unfold State.tier
    rw [State.setObj_fast, State.setObj_slow]
  · exact closed _

theorem State.finishShard_tier (s : State) (i : Nat) (d : Shard) (x : News) (slow : Bool) :
    (s.finishShard i d x).tier slow = s.tier slow := by
  have same : (s.finishShard i d x).tier slow = (s.closeEntry i d).tier slow := by
    cases slow <;> rfl
  rw [same, State.closeEntry_tier]

/-- The end of an update: the shard is DONE at its next GEN, a slot that held it is cleared, and the entry is among those updated. -/
theorem State.finishShard_spec {s : State} {i : Nat} {d : Shard} (hi : i < 2 ^ 18) (hd : d.die < 32) (x : News)
    (gen : d.gen = (s.shard i).gen) :
    (s.finishShard i d x).shard i = { s.shard i with state := shDone, gen := ((s.shard i).gen + 1) % 2 ^ 16 } ∧
      (s.finishShard i d x).step.updated = s.step.updated ++ [i] ∧
      ∀ j, s.slotOfEntry d.die i = some j → (s.finishShard i d x).obj Obj.journalSlot (journalRow d.die j) = 0 := by
  have slots : (s.closeShard i ((d.gen + 1) % 2 ^ 16)).slotOfEntry d.die i = s.slotOfEntry d.die i :=
    State.slotOfEntry_congr (fun j hj => (s.onlyRows_closeShard hi _).2.1 _ _ (journalRow_lt hd hj)
      fun row => absurd row.1 (by decide)) i
  have closed := s.shard_closeShard i ((d.gen + 1) % 2 ^ 16)
  have entry : s.closeEntry i d = match s.slotOfEntry d.die i with
      | some j => (s.closeShard i ((d.gen + 1) % 2 ^ 16)).setObj Obj.journalSlot (journalRow d.die j) 0
      | none => s.closeShard i ((d.gen + 1) % 2 ^ 16) := by
    unfold State.closeEntry
    dsimp only
    rw [slots] <;> rfl
  have shard : (s.closeEntry i d).shard i = (s.closeShard i ((d.gen + 1) % 2 ^ 16)).shard i := by
    rw [entry]
    cases held : s.slotOfEntry d.die i with
    | none => rfl
    | some j =>
      have row := journalRow_lt hd (State.slotOfEntry_lt held)
      exact congrArg shardOf (State.obj_setObj_ne (objKey_ne_of_id row (by omega) (by decide)))
  refine ⟨?_, ?_, fun j held => ?_⟩
  · refine (congrArg shardOf (State.obj_finishShard s i d x Obj.residence i)).trans (shard.trans ?_)
    rw [closed, gen, Nat.mod_mod]
  · rw [State.updated_finishShard, entry]
    cases s.slotOfEntry d.die i <;> rfl
  · rw [State.obj_finishShard, entry, held, State.obj_setObj_self]

/-- What the rest of an update leaves of a state in which it has begun. -/
theorem State.runShard_spec {s : State} {i : Nat} {d : Shard} (hi : i < 2 ^ 18) (hd : d.die < 32) (gen : d.gen = (s.shard i).gen)
    (sc : Scalars) : (s.runShard sc i d 0).shard i = { s.shard i with state := shDone, gen := ((s.shard i).gen + 1) % 2 ^ 16 } ∧
      (s.runShard sc i d 0).step.updated = s.step.updated ++ [i] ∧
      ∀ j, s.slotOfEntry d.die i = some j → (s.runShard sc i d 0).obj Obj.journalSlot (journalRow d.die j) = 0 := by
  have tiers := s.onlyTiers_written d (s.news sc d) (s.coef sc d).sc.ca (1024 * 0) d.ecount
  obtain ⟨shard, updated, slot⟩ := State.finishShard_spec hi hd (s.news sc d) (gen.trans (by rw [tiers.shard]))
  rw [tiers.shard] at shard
  rw [tiers.step] at updated
  have slots : State.slotOfEntry _ d.die i = s.slotOfEntry d.die i := State.slotOfEntry_congr (fun j _ => tiers.obj _ _) i
  exact ⟨shard, updated, fun j held => slot j (slots.trans held)⟩

/-- The tiers after the rest of an unmasked shard's update are those with its arrays written. -/
theorem State.runShard_tier {d : Shard} (unmasked : d.maskmode = 0) (s : State) (sc : Scalars) (i : Nat) (slow : Bool) :
    (s.runShard sc i d 0).tier slow = (s.writtenA d (s.news sc d) (s.coef sc d).sc.ca).tier slow := by
  have bare (t : State) (bs : List Bool) : t.writeMask d bs = t := by
    unfold State.writeMask
    split
    · rfl
    · rw [if_pos unmasked]
  unfold State.runShard
  dsimp only
  rw [State.finishShard_tier, bare, State.written_eq]

theorem State.readArr_of_tier {s t : State} (h : ∀ slow, t.tier slow = s.tier slow) (d : Shard) (a : Arr) :
    t.readArr d a = s.readArr d a := by
  unfold State.readArr
  dsimp only
  rw [h]

/-! ## An update that may start -/

/-- What the update of an entry needs of the entry and the module. -/
structure State.MayUpdate (s : State) (i : Nat) : Prop where
  up : s.up = true
  stepping : s.stepping = true
  some_ : (s.shard i).ecount ≠ 0
  rule : (s.shard i).rule ≠ 0
  state : (s.shard i).state = shDone
  slot : s.slotOfEntry (s.shard i).die i = none

theorem State.mayUpdate_of_canUpdate {s : State} {i : Nat} (h : s.canUpdate i = true) : s.MayUpdate i := by
  unfold State.canUpdate at h
  simp only [Bool.and_eq_true, bne_iff_ne, beq_iff_eq, Option.isNone_iff_eq_none] at h
  obtain ⟨⟨⟨⟨⟨⟨⟨⟨⟨⟨up, phase⟩, _⟩, some_⟩, rule⟩, state⟩, _⟩, slot⟩, _⟩, _⟩, _⟩ := h
  refine ⟨up, ?_, some_, rule, state, slot⟩
  unfold State.stepping
  rw [phase]
  rfl

theorem State.updateShard_of_open {s t : State} {i : Nat} (opened : s.openShard i (s.shard i) = some t) (sc : Scalars) :
    s.updateShard sc i none = t.runShard sc i (s.shard i) 0 := by
  rw [State.updateShard, opened]

theorem State.openShard_plain {s : State} {i : Nat} {d : Shard} (plain : d.jrnl = false) :
    s.openShard i d = some (s.setShardState i shTorn) := by
  rw [State.openShard, plain]
  rfl

section Update

variable {s : State} {entry : BitVec 18} {sc : Scalars} (scalars : s.step.scalars = some sc)
  (may : s.canUpdate entry.toNat = true)
include scalars may

theorem exec_shardUpdate (stop : Option UpdateStop) : ∃ u, s.Checks u ∧
    u = s.checkShard (s.shard entry.toNat) ∧ u.shard entry.toNat = s.shard entry.toNat ∧
    exec (.shardUpdate entry stop) s = .next (u.updateShard sc entry.toNat stop) := by
  have checks := State.checks_checkShard (s.mayUpdate_of_canUpdate may).stepping (s.shard entry.toNat)
  refine ⟨_, checks, rfl, checks.shard entry.isLt, ?_⟩
  show execShardUpdate entry stop s = _
  unfold execShardUpdate
  rw [scalars]
  dsimp only
  rw [may]
  rfl

/-- An unjournaled shard's update (R272): torn from its start, DONE at its end. -/
theorem exec_shardUpdate_plain (plain : (s.shard entry.toNat).jrnl = false) : ∃ v, s.ReadsAs v ∧ v.step = s.step ∧
    v.shard entry.toNat = { s.shard entry.toNat with state := shTorn } ∧
    v.slotOfEntry (s.shard entry.toNat).die entry.toNat = none ∧
    exec (.shardUpdate entry none) s = .next (v.runShard sc entry.toNat (s.shard entry.toNat) 0) := by
  obtain ⟨u, checks, _, shard, run⟩ := exec_shardUpdate scalars may none
  have ready := s.mayUpdate_of_canUpdate may
  have torn : (u.setShardState entry.toNat shTorn).shard entry.toNat = { s.shard entry.toNat with state := shTorn } := by
    rw [State.shard_setShardState, shard]
    rfl
  have hd : (s.shard entry.toNat).die < 32 := Shard.die_lt _
  refine ⟨u.setShardState entry.toNat shTorn, checks.readsAs.trans (u.readsAs_setShardState entry.isLt _),
    (State.setField_step ..).trans checks.step, torn, ?_, ?_⟩
  · rw [← ready.slot]
    refine State.slotOfEntry_congr (fun j hj => ?_) entry.toNat
    have row := journalRow_lt hd hj
    exact (u.obj_setShardState entry.isLt row (by decide) shTorn).trans (checks.obj row (by decide))
  · have opened := State.openShard_plain (s := u) (i := entry.toNat) plain
    rw [← shard] at opened
    rw [run, State.updateShard_of_open opened, shard]

end Update

/-- R268, R272: a whole update of an unjournaled shard. -/
theorem shardUpdate_plain {s : State} {entry : BitVec 18} {sc : Scalars} {d : Shard} (scalars : s.step.scalars = some sc)
    (may : s.canUpdate entry.toNat = true) (hd : s.shard entry.toNat = d) (plain : d.jrnl = false) :
    ∃ t, exec (.shardUpdate entry none) s = .next t ∧
      t.shard entry.toNat = { d with state := shDone, gen := (d.gen + 1) % 2 ^ 16 } ∧
      t.step.updated = s.step.updated ++ [entry.toNat] ∧
      (d.maskmode = 0 → (∀ (slow : Bool) (a : Nat), (∀ x ∈ d.spans, x.1 ≠ slow ∨ a < x.2.1 ∨ x.2.1 + x.2.2 ≤ a) →
          memGet (t.tier slow) a = memGet (s.tier slow) a) ∧
        (d.spans.Pairwise (fun x y => meet x y = false) → d.cls ≠ clsCompact → d.rule ≤ 6 → ∀ n, n < d.ecount →
          nth (t.readArr d .master) n 0 = ((s.coef sc d).elem d.rule (nth (s.olds d).g n 0) (nth (s.olds d).w n 0)
            (nth (s.olds d).m n 0) (nth (s.olds d).v n 0)).w.toNat ∧
          (2 ≤ d.rule → nth (t.readArr d .m) n 0 = ((s.coef sc d).elem d.rule (nth (s.olds d).g n 0) (nth (s.olds d).w n 0)
            (nth (s.olds d).m n 0) (nth (s.olds d).v n 0)).m.toNat))) := by
  subst hd
  have die : (s.shard entry.toNat).die < 32 := Shard.die_lt _
  have hset : (s.shard entry.toNat).hset < 2 ^ 20 := (bits_lt _ 98 8).trans (by decide)
  obtain ⟨_, _, some_, ruled, _, _⟩ := s.mayUpdate_of_canUpdate may
  obtain ⟨v, reads, step, torn, _, run⟩ := exec_shardUpdate_plain scalars may plain
  obtain ⟨shard, updated, _⟩ := State.runShard_spec (s := v) entry.isLt die (by rw [torn]) sc
  rw [torn] at shard
  rw [step] at updated
  have olds := reads.olds (s.shard entry.toNat)
  have coef := reads.coef sc (s.shard entry.toNat) hset
  refine ⟨_, run, shard, updated, fun unmasked => ?_⟩
  have tier := State.runShard_tier unmasked v sc entry.toNat
  generalize s.shard entry.toNat = d at *
  refine ⟨fun slow a out => ?_, fun pairwise cls rule n inside => ?_⟩
  · rw [tier, State.memGet_written, reads.tier]
    intro b
    by_cases none_ : d.count b = 0
    · exact .inl none_
    · refine .inr (out ((d.place b).1, (d.place b).2, d.padded b) (List.mem_map.mpr ⟨b, List.mem_filter.mpr ⟨?_, ?_⟩, rfl⟩))
      · cases b <;> decide
      · exact bne_iff_ne.mpr none_
  · have apart {a b : Arr} (ne : a ≠ b) : d.Apart a b := Shard.apart_of_pairwise pairwise ne
    obtain ⟨master, moment⟩ := v.news_elems sc (by omega : d.rule ≠ 7) cls
    rw [olds, coef] at master moment
    have grads : n < (s.olds d).g.length := by
      have count : d.count .grad = d.ecount := by simp [Shard.count, some_, ruled]
      show n < (words (s.readOld d .grad)).length
      rw [words, List.length_map, State.length_readOld, count]
      exact inside
    have elems {β : Type} (f : Elem → β) (z : β) := (s.coef sc d).nth_elems d.rule (s.olds d) grads f z
    have given (f : Elem → W32) : n < (((s.coef sc d).elems d.rule (s.olds d)).map f).length := by
      rw [List.length_map, Coef.elems, List.length_mapIdx]
      exact grads
    refine ⟨?_, fun second => ?_⟩
    · have count : d.count .master = d.ecount := by simp [Shard.count, some_, ruled, cls]
      rw [State.readArr_of_tier tier, State.readArr_written_master _ apart]
      refine (State.nth_readArr_words rfl (count ▸ inside) (by rw [master]; exact given _) inside).trans ?_
      rw [master, elems]
    · have count : d.count .m = d.ecount := by simp [Shard.count, some_, second]
      rw [State.readArr_of_tier tier, State.readArr_written_m _ apart]
      refine (State.nth_readArr_words rfl (count ▸ inside) (by rw [moment]; exact given _) (count ▸ inside)).trans ?_
      rw [moment, elems]

/-! ## Updates that stop -/

theorem State.onlyTiers_putBursts : ∀ (es : List (Bool × Nat × List Byte)) (s : State) (n : Nat), s.OnlyTiers (s.putBursts n es)
  | [], s, _ => .refl s
  | e :: es, s, n => by
    rw [State.putBursts]
    split
    · exact s.onlyTiers_tierWrite ..
    · exact (s.onlyTiers_tierWrite ..).trans (State.onlyTiers_putBursts es _ _)

theorem State.onlyTiers_writeMoments (s : State) (d : Shard) (x : News) : s.OnlyTiers (s.writeMoments d x) :=
  (s.onlyTiers_writeArr d .m 0 _).trans (State.onlyTiers_writeArr _ d .v 0 _)

theorem State.onlyTiers_writeWeights (s : State) (d : Shard) (ca : W32) (x : News) (from_ n : Nat) :
    s.OnlyTiers (s.writeWeights d ca x from_ n) :=
  ((s.onlyTiers_writeArr d .master 0 _).trans (State.onlyTiers_writeArr _ d .work 0 _)).trans
    (State.onlyTiers_writeArr _ d .avg from_ _)

/-- What a stop leaves where the shard has no journal: bytes of the tiers alone. -/
theorem State.onlyTiers_stopShard {d : Shard} (plain : d.jrnl = false) (s : State) (sc : Scalars) (i : Nat) (stop : UpdateStop) :
    s.OnlyTiers (s.stopShard sc i d stop) := by
  cases stop <;> simp only [State.stopShard, plain, Bool.false_eq_true, if_false]
  case copying => exact .refl s
  case inJournal => exact .refl s
  case journaled => exact .refl s
  case moments => exact s.onlyTiers_writeMoments ..
  case inMoments => exact State.onlyTiers_putBursts ..
  case blocks => exact (s.onlyTiers_writeMoments ..).trans (State.onlyTiers_writeWeights ..)
  case inBlock => exact ((s.onlyTiers_writeMoments ..).trans (State.onlyTiers_writeWeights ..)).trans (State.onlyTiers_putBursts ..)

/-- A stop before anything is written. -/
def stopsEarly : UpdateStop → Bool
  | .copying _ => true
  | .inJournal => true
  | _ => false

section Plain

variable {s : State} {i : Nat} (plain : (s.shard i).jrnl = false) (sc : Scalars)
include plain

theorem State.updateShard_early {stop : UpdateStop} (early : stopsEarly stop = true) : s.updateShard sc i (some stop) = s := by
  rw [State.updateShard, State.openShard_plain plain]
  dsimp only
  rw [plain]
  cases stop
  case copying => rfl
  case inJournal => rfl
  all_goals exact absurd early (by simp [stopsEarly])

theorem State.updateShard_late {stop : UpdateStop} (late : stopsEarly stop = false) : s.updateShard sc i (some stop) =
    ((s.setShardState i shTorn).stopShard sc i (s.shard i) stop).fault 0xB412 0 0 := by
  rw [State.updateShard, State.openShard_plain plain]
  dsimp only
  rw [plain]
  cases stop
  case copying => exact absurd late (by simp [stopsEarly])
  case inJournal => exact absurd late (by decide)
  all_goals rfl

/-- R272: an unjournaled shard whose update stops once something may be written is TORN, and that is recorded. -/
theorem State.updateShard_late_spec (hi : i < 2 ^ 18) {stop : UpdateStop} (late : stopsEarly stop = false) :
    (s.updateShard sc i (some stop)).shard i = { s.shard i with state := shTorn } ∧
      (s.updateShard sc i (some stop)).step = s.step ∧
      bits ((s.updateShard sc i (some stop)).obj Obj.faultLog ((s.lastSeq + 1) % 2 ^ 32 % 4096)) 144 16 = 0xB412 := by
  have tiers := State.onlyTiers_stopShard plain (s.setShardState i shTorn) sc i stop
  rw [State.updateShard_late plain sc late]
  generalize (s.setShardState i shTorn).stopShard sc i (s.shard i) stop = w at *
  have code := State.code_fault w (by decide : 0xB412 < 2 ^ 16) 0 0
  have seq : w.obj Obj.faultSeqLast 0 = s.lastSeq :=
    (tiers.obj ..).trans (s.obj_setShardState hi (by decide) (by decide) shTorn)
  rw [State.obj_fault_seqLast, seq] at code
  refine ⟨?_, ?_, code⟩
  · refine (congrArg shardOf (State.obj_fault_other (by omega) (by decide) ..)).trans ((tiers.shard i).trans ?_)
    rw [State.shard_setShardState]
    rfl
  · rw [State.fault_step, tiers.step]
    exact State.setField_step ..

end Plain

/-! ## The journal -/

theorem slotRecord_mark (entry gen : Nat) {mark : Nat} (small : mark < 2 ^ 11) :
    setBits (slotRecord true entry gen 0) 18 11 mark = slotRecord true entry gen mark := by
  rw [setBits_eq]
  simp only [slotRecord, Bool.toNat_true]
  omega

theorem State.freeSlot_congr {s t : State} {die : Nat}
    (same : ∀ j, j < 8 → t.obj Obj.journalSlot (journalRow die j) = s.obj Obj.journalSlot (journalRow die j)) :
    t.freeSlot die = s.freeSlot die := List.find?_congr fun j m => by rw [same j (List.mem_range.mp m)]

/-- `t` is a state in which entry i, a shard `d`, stands in its journal slot j with the record `w`, and of which the step is
`st`. -/
structure State.InSlot (i : Nat) (d : Shard) (j w : Nat) (st : Step) (t : State) : Prop where
  shard : t.shard i = d
  record : t.obj Obj.journalSlot (journalRow d.die j) = w
  step : t.step = st

section InSlot

variable {i j w : Nat} {d : Shard} {st : Step} {t : State} (h : State.InSlot i d j w st t)
include h

theorem State.InSlot.tiers {u : State} (moved : t.OnlyTiers u) : State.InSlot i d j w st u :=
  ⟨(moved.shard i).trans h.shard, (moved.obj ..).trans h.record, moved.step.trans h.step⟩

theorem State.InSlot.setState (hi : i < 2 ^ 18) (hd : d.die < 32) (hj : j < 8) (v : Nat) :
    State.InSlot i { d with state := v % 2 ^ 3 } j w st (t.setShardState i v) := by
  refine ⟨?_, (t.obj_setShardState hi (journalRow_lt hd hj) (by decide) v).trans h.record,
    (State.setField_step ..).trans h.step⟩
  rw [State.shard_setShardState, h.shard]

theorem State.InSlot.setMark (hj : j < 8) (hd : d.die < 32) {gen mark : Nat} (entered : w = slotRecord true i gen 0)
    (held : t.slotOfEntry d.die i = some j) (small : mark < 2 ^ 11) {d' : Shard} (die : d'.die = d.die) (hi : i < 2 ^ 18) :
    State.InSlot i d j (slotRecord true i gen mark) st (t.setMark d' i mark) := by
  have row := journalRow_lt hd hj
  unfold State.setMark
  rw [die, held]
  dsimp only
  refine ⟨?_, ?_, (State.setField_step ..).trans h.step⟩
  · exact (congrArg shardOf (State.obj_setField_ne (objKey_ne_of_id row (by omega) (by decide)))).trans h.shard
  · unfold State.setField
    rw [State.obj_setObj_self, h.record, entered, slotRecord_mark i gen small]

end InSlot

/-- The state with its old arrays in slot j and the record of that (R271 steps 1 and 2). -/
def State.journaledIn (s : State) (i : Nat) (d : Shard) (j : Nat) : State :=
  (s.saveOld d j).setObj Obj.journalSlot (journalRow d.die j) (slotRecord true i d.gen 0)

theorem State.openShard_journaled {s : State} {i j : Nat} {d : Shard} (jrnl : d.jrnl = true) (free : s.freeSlot d.die = some j) :
    s.openShard i d = some (s.journaledIn i d j) := by
  rw [State.openShard, jrnl, free]
  rfl

section Journaled

variable {s : State} {i j : Nat} (hi : i < 2 ^ 18) (hj : j < 8)
include hi hj

theorem State.inSlot_journaledIn :
    State.InSlot i (s.shard i) j (slotRecord true i (s.shard i).gen 0) s.step (s.journaledIn i (s.shard i) j) := by
  have tiers := s.onlyTiers_saveOld (s.shard i) j
  have row := journalRow_lt (Shard.die_lt (s.obj Obj.residence i)) hj
  refine ⟨?_, State.obj_setObj_self .., (State.setObj_step ..).trans tiers.step⟩
  exact (congrArg shardOf (State.obj_setObj_ne (objKey_ne_of_id row (by omega) (by decide)))).trans (tiers.shard i)

/-- The slot that now holds the entry is the one taken. -/
theorem State.slotOfEntry_journaledIn (none_ : s.slotOfEntry (s.shard i).die i = none) :
    (s.journaledIn i (s.shard i) j).slotOfEntry (s.shard i).die i = some j := by
  have die := Shard.die_lt (s.obj Obj.residence i)
  have tiers := s.onlyTiers_saveOld (s.shard i) j
  have held := (State.inSlot_journaledIn (s := s) hi hj).record
  have valid := slotRecord_valid (s.gen_lt i) hi
  have others {k : Nat} (hk : k < 8) (ne : j ≠ k) : (s.journaledIn i (s.shard i) j).obj Obj.journalSlot
      (journalRow (s.shard i).die k) = s.obj Obj.journalSlot (journalRow (s.shard i).die k) :=
    (State.obj_setObj_ne (objKey_ne_of_row (journalRow_lt die hj) (journalRow_lt die hk) (journalRow_ne ne))).trans (tiers.obj ..)
  unfold State.slotOfEntry at none_ ⊢
  cases found : (List.range 8).find? (fun k =>
      let w := (s.journaledIn i (s.shard i) j).obj Obj.journalSlot (journalRow (s.shard i).die k)
      bitAt w 63 && bits w 45 18 == i) with
  | none =>
    have never := List.find?_eq_none.mp found j (List.mem_range.mpr hj)
    rw [held] at never
    exact absurd (by simp [valid.1, valid.2]) never
  | some k =>
    have hk := List.mem_range.mp (List.mem_of_find?_eq_some found)
    have here := List.find?_some found
    by_cases same : j = k
    · rw [same]
    · have before := List.find?_eq_none.mp none_ k (List.mem_range.mpr hk)
      dsimp only at here
      rw [others hk same] at here
      exact absurd here before

end Journaled

section Stopped

variable {i j : Nat} {d : Shard} {st : Step} {t : State} (hi : i < 2 ^ 18) (hj : j < 8) (hd : d.die < 32)
  (h : State.InSlot i d j (slotRecord true i d.gen 0) st t) (jrnl : d.jrnl = true) (sc : Scalars)
include hi hj hd h jrnl

/-- R271: what a stop before the blocks leaves of a journaled shard. -/
theorem State.inSlot_stopShard :
    State.InSlot i d j (slotRecord true i d.gen 0) st (t.stopShard sc i d .inJournal) ∧
      State.InSlot i { d with state := shJournaled } j (slotRecord true i d.gen 0) st (t.stopShard sc i d .journaled) ∧
      (∀ n, State.InSlot i { d with state := shJournaled } j (slotRecord true i d.gen 0) st (t.stopShard sc i d (.inMoments n))) ∧
      State.InSlot i { d with state := shMoments } j (slotRecord true i d.gen 0) st (t.stopShard sc i d .moments) := by
  have branch (a b : State) : (if d.jrnl = true then a else b) = a := if_pos jrnl
  simp only [State.stopShard, branch]
  exact ⟨h, h.setState hi hd hj shJournaled, fun n => (h.tiers (State.onlyTiers_putBursts ..)).setState hi hd hj shJournaled,
    (h.tiers (t.onlyTiers_writeMoments ..)).setState hi hd hj shMoments⟩

variable (held : t.slotOfEntry d.die i = some j)
include held

omit jrnl in
/-- Bytes written, the shard in MOMENTS and its slot's AVGMARK (R271 step 5). -/
theorem State.InSlot.marked {u : State} (moved : t.OnlyTiers u) {mark : Nat} (small : mark < 2 ^ 11) :
    State.InSlot i { d with state := shMoments } j (slotRecord true i d.gen mark) st
      ((u.setShardState i shMoments).setMark d i mark) := by
  have entered := (h.tiers moved).setState hi hd hj shMoments
  refine entered.setMark hj hd rfl ?_ small rfl hi
  rw [← held]
  exact State.slotOfEntry_congr (fun k hk =>
    (u.obj_setShardState hi (journalRow_lt hd hk) (by decide) shMoments).trans (moved.obj ..)) i

/-- R271: what a stop among the blocks leaves. -/
theorem State.inSlot_stopShard_blocks {n : Nat} (k : Nat) (small : n < 2 ^ 11) :
    State.InSlot i { d with state := shMoments } j (slotRecord true i d.gen (min n (ceilDiv d.ecount 1024))) st
        (t.stopShard sc i d (.blocks n)) ∧
      State.InSlot i { d with state := shMoments } j (slotRecord true i d.gen (min n (ceilDiv d.ecount 1024))) st
        (t.stopShard sc i d (.inBlock n k)) := by
  have mark : min n (ceilDiv d.ecount 1024) < 2 ^ 11 := by omega
  have weights (x : News) (ca : W32) : t.OnlyTiers ((t.writeMoments d x).writeWeights d ca x 0 (1024 * n)) :=
    (t.onlyTiers_writeMoments ..).trans (State.onlyTiers_writeWeights ..)
  have branch (a b : State) : (if d.jrnl = true then a else b) = a := if_pos jrnl
  simp only [State.stopShard, branch]
  exact ⟨h.marked hi hj hd held (weights ..) mark,
    h.marked hi hj hd held ((weights ..).trans (State.onlyTiers_putBursts ..)) mark⟩

end Stopped

section Open

variable {s : State} {i j : Nat} (jrnl : (s.shard i).jrnl = true) (free : s.freeSlot (s.shard i).die = some j) (sc : Scalars)
include jrnl free

theorem State.updateShard_copying (n : Nat) :
    s.updateShard sc i (some (.copying n)) = s.putBursts n (s.oldWrites (s.shard i) j) := by
  rw [State.updateShard, State.openShard_journaled jrnl free]
  dsimp only
  rw [jrnl, free]
  rfl

theorem State.updateShard_stops {stop : UpdateStop} (past : ∀ n, stop ≠ .copying n) :
    s.updateShard sc i (some stop) = (s.journaledIn i (s.shard i) j).stopShard sc i (s.shard i) stop := by
  rw [State.updateShard, State.openShard_journaled jrnl free]
  dsimp only
  rw [jrnl]
  cases stop
  case copying n => exact absurd rfl (past n)
  all_goals rfl

end Open

section Journal

variable {s : State} {entry : BitVec 18} {sc : Scalars} {d : Shard} (scalars : s.step.scalars = some sc)
  (may : s.canUpdate entry.toNat = true) (hd : s.shard entry.toNat = d) (jrnl : d.jrnl = true)
include scalars may hd

/-- What an update's reads leave for a journaled shard: it, its die's free slot and the record of each. -/
theorem exec_shardUpdate_reads (stop : Option UpdateStop) : ∃ u : State, u.shard entry.toNat = d ∧ u.step = s.step ∧
    u.freeSlot d.die = s.freeSlot d.die ∧ u.slotOfEntry d.die entry.toNat = none ∧
    (∀ j, j < 8 → u.obj Obj.journalSlot (journalRow d.die j) = s.obj Obj.journalSlot (journalRow d.die j)) ∧
    exec (.shardUpdate entry stop) s = .next (u.updateShard sc entry.toNat stop) := by
  subst hd
  obtain ⟨u, checks, _, shard, run⟩ := exec_shardUpdate scalars may stop
  have slots (j : Nat) (hj : j < 8) := checks.obj (journalRow_lt (Shard.die_lt (s.obj Obj.residence entry.toNat)) hj)
    (by decide : Obj.journalSlot ∉ faultIds)
  exact ⟨u, shard, checks.step, State.freeSlot_congr slots,
    (State.slotOfEntry_congr slots _).trans (s.mayUpdate_of_canUpdate may).slot, slots, run⟩

include jrnl

/-- R271: the whole update of a journaled shard, and each of its stops. -/
theorem shardUpdate_journaled {j : Nat} (free : s.freeSlot d.die = some j) :
    (∃ t, exec (.shardUpdate entry none) s = .next t ∧
      t.shard entry.toNat = { d with state := shDone, gen := (d.gen + 1) % 2 ^ 16 } ∧
      t.step.updated = s.step.updated ++ [entry.toNat] ∧ t.obj Obj.journalSlot (journalRow d.die j) = 0) ∧
    ∀ stop, ∃ u t, exec (.shardUpdate entry (some stop)) s = .next t ∧
      State.InSlot entry.toNat d j (s.obj Obj.journalSlot (journalRow d.die j)) s.step u ∧
      State.InSlot entry.toNat d j (slotRecord true entry.toNat d.gen 0) s.step (u.journaledIn entry.toNat d j) ∧
      (u.journaledIn entry.toNat d j).slotOfEntry d.die entry.toNat = some j ∧
      (∀ n, stop = .copying n → u.OnlyTiers t) ∧
      ((∀ n, stop ≠ .copying n) → t = (u.journaledIn entry.toNat d j).stopShard sc entry.toNat d stop) := by
  have hj : j < 8 := List.mem_range.mp (List.mem_of_find?_eq_some free)
  have die : d.die < 32 := by rw [← hd]; exact Shard.die_lt _
  refine ⟨?_, fun stop => ?_⟩
  · obtain ⟨u, shard, step, slot, unheld, _, run⟩ := exec_shardUpdate_reads scalars may hd none
    have inSlot := State.inSlot_journaledIn (s := u) entry.isLt hj
    have held := State.slotOfEntry_journaledIn (s := u) entry.isLt hj (by rw [shard]; exact unheld)
    have opened := State.openShard_journaled (s := u) (i := entry.toNat) jrnl (slot.trans free)
    rw [shard] at inSlot held
    rw [← shard] at opened
    have whole := State.updateShard_of_open opened sc
    rw [shard] at whole
    obtain ⟨done, updated, cleared⟩ := State.runShard_spec entry.isLt die (congrArg Shard.gen inSlot.shard.symm) sc
    rw [inSlot.shard] at done
    rw [inSlot.step, step] at updated
    exact ⟨_, run.trans (by rw [whole]), done, updated, cleared j held⟩
  · obtain ⟨u, shard, step, slot, unheld, rows, run⟩ := exec_shardUpdate_reads scalars may hd (some stop)
    have inSlot := State.inSlot_journaledIn (s := u) entry.isLt hj
    have held := State.slotOfEntry_journaledIn (s := u) entry.isLt hj (by rw [shard]; exact unheld)
    rw [shard, step] at inSlot
    rw [shard] at held
    refine ⟨u, _, run, ⟨shard, rows j hj, step⟩, inSlot, held, ?_, fun past => ?_⟩
    · rintro n rfl
      rw [State.updateShard_copying (by rw [shard]; exact jrnl) (by rw [shard]; exact slot.trans free)]
      exact State.onlyTiers_putBursts ..
    · rw [State.updateShard_stops (by rw [shard]; exact jrnl) (by rw [shard]; exact slot.trans free) sc past, shard]

end Journal

/-- R271: the stops of a journaled shard's update, as the statement lists them. -/
def State.StopsAt (s : State) (entry : BitVec 18) (d : Shard) (j : Nat) (stop : UpdateStop) (state record : Nat) : Prop :=
  ∃ t, exec (.shardUpdate entry (some stop)) s = .next t ∧ t.shard entry.toNat = { d with state := state } ∧
    t.obj Obj.journalSlot (journalRow d.die j) = record ∧ t.step = s.step

theorem State.InSlot.stopsAt {s t u : State} {entry : BitVec 18} {d : Shard} {j state w : Nat} {stop : UpdateStop}
    (run : exec (.shardUpdate entry (some stop)) s = .next t) (same : t = u)
    (h : State.InSlot entry.toNat { d with state := state } j w s.step u) : s.StopsAt entry d j stop state w :=
  ⟨t, run, by rw [same]; exact h.shard, by rw [same]; exact h.record, by rw [same]; exact h.step⟩

theorem shardUpdate_stopsAt {s : State} {entry : BitVec 18} {sc : Scalars} {d : Shard} (scalars : s.step.scalars = some sc)
    (may : s.canUpdate entry.toNat = true) (hd : s.shard entry.toNat = d) (jrnl : d.jrnl = true) {j : Nat}
    (free : s.freeSlot d.die = some j) :
    (∀ n, s.StopsAt entry d j (.copying n) d.state (s.obj Obj.journalSlot (journalRow d.die j))) ∧
      s.StopsAt entry d j .inJournal d.state (slotRecord true entry.toNat d.gen 0) ∧
      s.StopsAt entry d j .journaled shJournaled (slotRecord true entry.toNat d.gen 0) ∧
      (∀ n, s.StopsAt entry d j (.inMoments n) shJournaled (slotRecord true entry.toNat d.gen 0)) ∧
      s.StopsAt entry d j .moments shMoments (slotRecord true entry.toNat d.gen 0) ∧
      ∀ n k mark, n < 2 ^ 11 → mark = min n (ceilDiv d.ecount 1024) →
        s.StopsAt entry d j (.blocks n) shMoments (slotRecord true entry.toNat d.gen mark) ∧
        s.StopsAt entry d j (.inBlock n k) shMoments (slotRecord true entry.toNat d.gen mark) := by
  have hj : j < 8 := List.mem_range.mp (List.mem_of_find?_eq_some free)
  have die : d.die < 32 := by rw [← hd]; exact Shard.die_lt _
  obtain ⟨_, stops⟩ := shardUpdate_journaled scalars may hd jrnl free
  refine ⟨fun n => ?_, ?_, ?_, fun n => ?_, ?_, fun n k mark small marked => ⟨?_, ?_⟩⟩
  · obtain ⟨u, t, run, before, _, _, copies, _⟩ := stops (.copying n)
    exact (before.tiers (copies n rfl)).stopsAt run rfl
  · obtain ⟨u, t, run, _, opened, _, _, stopped⟩ := stops .inJournal
    obtain ⟨stays, _⟩ := State.inSlot_stopShard entry.isLt hj die opened jrnl sc
    exact stays.stopsAt run (stopped nofun)
  · obtain ⟨u, t, run, _, opened, _, _, stopped⟩ := stops .journaled
    obtain ⟨_, copied, _⟩ := State.inSlot_stopShard entry.isLt hj die opened jrnl sc
    exact copied.stopsAt run (stopped nofun)
  · obtain ⟨u, t, run, _, opened, _, _, stopped⟩ := stops (.inMoments n)
    obtain ⟨_, _, among, _⟩ := State.inSlot_stopShard entry.isLt hj die opened jrnl sc
    exact (among n).stopsAt run (stopped nofun)
  · obtain ⟨u, t, run, _, opened, _, _, stopped⟩ := stops .moments
    obtain ⟨_, _, _, moments⟩ := State.inSlot_stopShard entry.isLt hj die opened jrnl sc
    exact moments.stopsAt run (stopped nofun)
  · subst marked
    obtain ⟨u, t, run, _, opened, held, _, stopped⟩ := stops (.blocks n)
    obtain ⟨between, _⟩ := State.inSlot_stopShard_blocks entry.isLt hj die opened jrnl sc held k small
    exact between.stopsAt run (stopped nofun)
  · subst marked
    obtain ⟨u, t, run, _, opened, held, _, stopped⟩ := stops (.inBlock n k)
    obtain ⟨_, within⟩ := State.inSlot_stopShard_blocks entry.isLt hj die opened jrnl sc held k small
    exact within.stopsAt run (stopped nofun)

/-- R271: without a free slot a journaled shard's update waits. -/
theorem shardUpdate_waits {s : State} {entry : BitVec 18} {sc : Scalars} (scalars : s.step.scalars = some sc)
    (may : s.canUpdate entry.toNat = true) (clean : s.faults.readErrs = []) (jrnl : (s.shard entry.toNat).jrnl = true)
    (full : s.freeSlot (s.shard entry.toNat).die = none) (stop : Option UpdateStop) :
    exec (.shardUpdate entry stop) s = .next s := by
  obtain ⟨u, _, read, _, run⟩ := exec_shardUpdate scalars may stop
  have same : u = s := read.trans (State.checkShard_of_none clean _)
  have unopened : s.openShard entry.toNat (s.shard entry.toNat) = none := by
    rw [State.openShard, jrnl, full]
    rfl
  rw [run, same, State.updateShard, unopened]

/-- R272: the stops of an unjournaled shard's update, where no read errs. -/
theorem shardUpdate_plain_stops {s : State} {entry : BitVec 18} {sc : Scalars} (scalars : s.step.scalars = some sc)
    (may : s.canUpdate entry.toNat = true) (clean : s.faults.readErrs = []) (plain : (s.shard entry.toNat).jrnl = false)
    (stop : UpdateStop) :
    (stopsEarly stop = true → exec (.shardUpdate entry (some stop)) s = .next s) ∧
      (stopsEarly stop = false → ∃ t, exec (.shardUpdate entry (some stop)) s = .next t ∧
        t.shard entry.toNat = { s.shard entry.toNat with state := shTorn } ∧ t.step = s.step ∧
        bits (t.obj Obj.faultLog ((s.lastSeq + 1) % 2 ^ 32 % 4096)) 144 16 = 0xB412) := by
  obtain ⟨u, _, read, _, run⟩ := exec_shardUpdate scalars may (some stop)
  have same : u = s := read.trans (State.checkShard_of_none clean _)
  rw [same] at run
  refine ⟨fun early => ?_, fun late => ⟨_, run, State.updateShard_late_spec plain sc entry.isLt late⟩⟩
  rw [run, State.updateShard_early plain sc early]

/-- Settles O39: the reads leave what the update needs; then `runShard_spec` for a whole update, `stopShard` case by case for
one that stops. -/
theorem shardUpdatesFollowTheirRuleAndJournal : Obligations.ShardUpdatesFollowTheirRuleAndJournal := by
  unfold Obligations.ShardUpdatesFollowTheirRuleAndJournal
  intro entry s sc d scalars may hd
  refine ⟨shardUpdate_plain scalars may hd, fun clean => ⟨fun plain stop => ?_, fun jrnl full stop => ?_⟩,
    fun j jrnl free => ⟨(shardUpdate_journaled scalars may hd jrnl free).1, shardUpdate_stopsAt scalars may hd jrnl free⟩⟩
  · subst hd
    have stops := shardUpdate_plain_stops scalars may clean plain stop
    cases stop <;> exact stops
  · subst hd
    exact shardUpdate_waits scalars may clean jrnl full stop

end Sys2Proof.Machine
end

section
/-! SUPPORT. The gradient exchange (R254 to R256, R312, R320 to R323): what a sent block, a summed block and a received one leave
of the module, and the statement about them (O36). -/

namespace Sys2Proof.Machine

/-! ## Blocks that ports send -/

theorem State.OnlyFrames.mono {ch dh : Nat → Nat → Prop} (i : ∀ id row, ch id row → dh id row) {s t : State}
    (h : s.OnlyFrames ch t) : s.OnlyFrames dh t := ⟨h.1.mono i, h.2⟩

theorem State.Hears.mono {ch dh : Nat → Nat → Prop} (i : ∀ id row, ch id row → dh id row) {s t : State} (h : s.Hears ch t) :
    s.Hears dh t where
  frames := h.frames.mono i
  raw := fun id out => h.raw id fun row moved => out row (i id row moved)
  link := h.link
  size := h.size

theorem State.Hears.bulk {s t : State} (h : s.Hears linkRows t) : s.Hears bulkRows t := h.mono fun _ _ => .inl

theorem State.Sends.bulk {s t : State} (h : s.Sends linkRows t) : s.Sends bulkRows t := ⟨h.toHears.bulk, h.keeps⟩

/-- A frame's flits cross the wafer to a port (R312): three counters and free values. -/
theorem State.sends_crossWafer (s : State) {p : Nat} (hp : p < 8) (bytes : Nat) : s.Sends bulkRows (s.crossWafer p bytes) := by
  have back : 4 * p + Config.freeNat (s.free + 1) % 4 < 2 ^ 20 := by omega
  have edge : Config.freeNat (s.free + 2) % 352 < 2 ^ 20 := by omega
  have drew : s.Sends bulkRows (s.drew 5) := .of_link State.OnlyRows.drew.frames (.of_objs rfl) rfl
  exact ((drew.trans (State.sends_setObj (by decide) (.inr (.inl ⟨rfl, rfl⟩)))).trans
    (State.sends_setObj back (.inr (.inr (by decide))))).trans (State.sends_setObj edge (.inr (.inr (by decide))))

theorem State.sends_sendOn (s : State) {p : Nat} (hp : p < 8) (f : OutFrame) : s.Sends bulkRows (s.sendOn p f) := by
  refine State.Sends.trans ?_ (State.sends_giveFrame _ (by omega) f).bulk
  split
  · exact s.sends_crossWafer hp _
  · exact .refl ..

theorem State.gradPort_lt (s : State) (n : Neighbour) (b : Nat) : s.gradPort n b < 8 := by
  unfold State.gradPort
  dsimp only
  generalize b / 2 % max 1 (portsTo n).length = k
  cases found : ((portsTo n).drop k ++ (portsTo n).take k).find? s.portUp with
  | none => exact s.waitPort_lt n
  | some p =>
    refine portsTo_lt (n := n) ?_
    rcases List.mem_append.mp (List.mem_of_find?_eq_some found) with m | m
    · exact List.mem_of_mem_drop m
    · exact List.mem_of_mem_take m

section Sent

variable (s : State) (layer b : Nat) (poison : Bool) (vs : List W32)

theorem State.sends_sendGrad (n : Neighbour) (phase : Nat) : s.Sends bulkRows (s.sendGrad n layer b phase poison vs) :=
  s.sends_sendOn (s.gradPort_lt n b) _

theorem State.sends_foldl {β : Type} {ch : Nat → Nat → Prop} {f : State → β → State} (each : ∀ (s : State) (x : β), s.Sends ch (f s x))
    (xs : List β) (s : State) : s.Sends ch (xs.foldl f s) :=
  List.foldlRecOn xs f (.refl ch s) fun _ h x _ => h.trans (each _ x)

theorem State.sends_forwardJoiner : s.Sends bulkRows (s.forwardJoiner layer b poison vs) :=
  State.sends_foldl (fun t n => t.sends_sendGrad layer b poison vs n 3) _ s

theorem State.sends_gatherFrom : s.Sends bulkRows (s.gatherFrom layer b poison vs) := by
  unfold State.gatherFrom
  split
  · split
    · exact s.sends_sendGrad ..
    · exact .refl ..
  · have next : s.Sends bulkRows (if s.canGo .next = true then s.sendGrad .next layer b 3 poison vs else s) := by
      split
      · exact s.sends_sendGrad ..
      · exact .refl ..
    generalize (if s.canGo .next = true then s.sendGrad .next layer b 3 poison vs else s) = t at *
    dsimp only
    split
    · exact next.trans (State.sends_sendGrad ..)
    · exact next

theorem State.sends_gatherOn (n : Neighbour) : s.Sends bulkRows (s.gatherOn n layer b poison vs) := by
  unfold State.gatherOn
  split
  · exact .refl ..
  · split
    · exact .refl ..
    · exact s.sends_sendGrad ..

end Sent

/-! ## A block moved on -/

/-- A block's grid sum stands in G. -/
def State.noteSummed (s : State) (layer b : Nat) : State :=
  { s with step := { s.step with summed := s.step.summed ++ [blockKey layer b] } }

/-- A block's chain sum stands in G. -/
def State.noteChained (s : State) (layer b : Nat) : State :=
  { s with step := { s.step with chained := s.step.chained ++ [blockKey layer b] } }

theorem State.takeSum_eq (s : State) (layer b : Nat) (k : Block) (poison : Bool) (vs : List W32) :
    s.takeSum layer b k poison vs =
      (((s.writeG k vs).badBlock layer b poison).noteSummed layer b).forwardJoiner layer b poison vs := rfl

theorem State.chainSum_eq (s : State) (layer b : Nat) (k : Block) (poison : Bool) (vs : List W32) :
    s.chainSum layer b k poison vs =
      (((s.writeG k vs).badBlock layer b poison).noteChained layer b).columnStep layer b k := rfl

/-- `t` differs from `s` in no byte of the FAST tier outside block `k`, in nothing of the SLOW tier and the spindles, and the
layers under way are the same. -/
structure State.MovesBlock (k : Block) (s t : State) : Prop where
  fast : ∀ a, (a < k.addr ∨ k.addr + 4 * k.len ≤ a) → memGet t.fast a = memGet s.fast a
  slow : t.slow = s.slow
  spindles : t.spindles = s.spindles
  started : t.step.layersStarted = s.step.layersStarted

section Moves

variable {k : Block} {s t u : State}

theorem State.MovesBlock.refl (k : Block) (s : State) : s.MovesBlock k s := ⟨fun _ _ => rfl, rfl, rfl, rfl⟩

theorem State.MovesBlock.trans (h : s.MovesBlock k t) (g : t.MovesBlock k u) : s.MovesBlock k u :=
  ⟨fun a out => (g.fast a out).trans (h.fast a out), g.slow.trans h.slow, g.spindles.trans h.spindles,
    g.started.trans h.started⟩

theorem State.Sends.moves {ch : Nat → Nat → Prop} (h : s.Sends ch t) : s.MovesBlock k t := by
  have slow := congrArg State.slow h.frames.1.1
  have spindles := congrArg State.spindles h.frames.1.1
  exact ⟨fun a _ => by rw [h.frames.fast], slow, spindles, by rw [h.frames.step]⟩

theorem State.movesBlock_step (w : Step) (started : w.layersStarted = s.step.layersStarted) :
    s.MovesBlock k { s with step := w } := ⟨fun _ _ => rfl, rfl, rfl, started⟩

theorem State.length_writeG (k : Block) (vs : List W32) :
    ((vs.take k.len).flatMap (fun v => leBytes 4 v.toNat)).length ≤ 4 * k.len := by
  rw [List.length_flatMap, List.map_congr_left (g := fun _ => 4) fun v _ => length_leBytes 4 v.toNat, List.map_const',
    List.sum_replicate, smul_eq_mul, List.length_take]
  omega

theorem State.movesBlock_writeG (s : State) (k : Block) (vs : List W32) : s.MovesBlock k (s.writeG k vs) := by
  have length := State.length_writeG k vs
  refine ⟨fun a out => memGet_memWrite_out ?_, rfl, rfl, rfl⟩
  omega

theorem State.movesBlock_badBlock (s : State) (layer b : Nat) (poison : Bool) : s.MovesBlock k (s.badBlock layer b poison) := by
  unfold State.badBlock
  split
  · exact State.movesBlock_step _ rfl
  · exact .refl ..

section Layer

variable (s) (layer b : Nat) (k : Block) (poison : Bool) (vs : List W32)

theorem State.movesBlock_use (phase dir : Nat) : s.MovesBlock k (s.use layer b phase dir) := State.movesBlock_step _ rfl

theorem State.movesBlock_markSent : s.MovesBlock k (s.markSent layer b) := State.movesBlock_step _ rfl

theorem State.movesBlock_noteSummed : s.MovesBlock k (s.noteSummed layer b) := State.movesBlock_step _ rfl

theorem State.movesBlock_takeSum : s.MovesBlock k (s.takeSum layer b k poison vs) :=
  (((s.movesBlock_writeG k vs).trans (State.movesBlock_badBlock _ layer b poison)).trans
    (State.movesBlock_noteSummed ..)).trans (State.sends_forwardJoiner _ layer b poison vs).moves

theorem State.movesBlock_ownSum : s.MovesBlock k (s.ownSum layer b k poison vs) :=
  (s.movesBlock_takeSum ..).trans (State.sends_gatherFrom _ layer b poison vs).moves

theorem State.movesBlock_columnStep : s.MovesBlock k (s.columnStep layer b k) := by
  have sent (t : State) (n : Neighbour) (phase : Nat) (p : Bool) (ws : List W32) :
      t.MovesBlock k (t.sendGrad n layer b phase p ws) := (t.sends_sendGrad ..).moves
  unfold State.columnStep
  dsimp only
  split
  · exact s.movesBlock_ownSum ..
  · split
    · split
      · exact .refl ..
      · exact ((State.movesBlock_use ..).trans (sent ..)).trans (State.movesBlock_ownSum ..)
    · split
      · exact .refl ..
      · split
        · exact (sent ..).trans (State.movesBlock_markSent ..)
        · split
          · exact .refl ..
          · exact ((State.movesBlock_use ..).trans (sent ..)).trans (State.movesBlock_markSent ..)

theorem State.movesBlock_noteChained : s.MovesBlock k (s.noteChained layer b) := State.movesBlock_step _ rfl

theorem State.movesBlock_chainSum : s.MovesBlock k (s.chainSum layer b k poison vs) :=
  (((s.movesBlock_writeG k vs).trans (State.movesBlock_badBlock _ layer b poison)).trans
    (State.movesBlock_noteChained ..)).trans (State.movesBlock_columnStep ..)

theorem State.movesBlock_scatter (n : Neighbour) (first : Bool) : s.MovesBlock k (s.scatter n first layer b k) := by
  have sent (t : State) (p : Bool) (ws : List W32) : t.MovesBlock k (t.sendGrad n layer b 0 p ws) := (t.sends_sendGrad ..).moves
  unfold State.scatter
  dsimp only
  split
  · exact .refl ..
  · split
    · exact (sent ..).trans (State.movesBlock_markSent ..)
    · split
      · exact .refl ..
      · exact ((State.movesBlock_use ..).trans (sent ..)).trans (State.movesBlock_markSent ..)

theorem State.movesBlock_ringOwner : s.MovesBlock k (s.ringOwner layer b k) := by
  unfold State.ringOwner
  split
  · exact State.movesBlock_chainSum ..
  · split
    · exact .refl ..
    · exact (State.movesBlock_use ..).trans (State.movesBlock_chainSum ..)

theorem State.movesBlock_lineOwner : s.MovesBlock k (s.lineOwner layer b k) := by
  unfold State.lineOwner
  dsimp only
  split
  · exact .refl ..
  · exact .refl ..
  · exact ((State.movesBlock_use ..).trans (State.movesBlock_use ..)).trans (State.movesBlock_chainSum ..)
  · exact (State.movesBlock_use ..).trans (State.movesBlock_chainSum ..)
  · exact (State.movesBlock_use ..).trans (State.movesBlock_chainSum ..)
  · exact State.movesBlock_chainSum ..

/-- What a block can do now moves nothing of G outside it (R321, R322). -/
theorem State.movesBlock_blockStep : s.MovesBlock k (s.blockStep layer b k) := by
  unfold State.blockStep
  dsimp only
  split
  · exact .refl ..
  · split
    · exact State.movesBlock_columnStep ..
    · split
      · split
        · exact State.movesBlock_ringOwner ..
        · exact State.movesBlock_scatter ..
      · split
        · exact State.movesBlock_lineOwner ..
        · split <;> exact State.movesBlock_scatter ..

end Layer

end Moves

/-- The exchange of a layer, once started, writes G within the layer's blocks alone (R254). -/
theorem State.layerSteps_spec (s : State) (layer : Nat) :
    (∀ a, (∀ k ∈ s.blocks layer, a < k.addr ∨ k.addr + 4 * k.len ≤ a) → memGet (s.layerSteps layer).fast a = memGet s.fast a) ∧
      (s.layerSteps layer).slow = s.slow ∧ (s.layerSteps layer).spindles = s.spindles ∧
      (s.layerSteps layer).step.layersStarted = s.step.layersStarted := by
  refine List.foldlRecOn (motive := fun t : State =>
    (∀ a, (∀ k ∈ s.blocks layer, a < k.addr ∨ k.addr + 4 * k.len ≤ a) → memGet t.fast a = memGet s.fast a) ∧
      t.slow = s.slow ∧ t.spindles = s.spindles ∧ t.step.layersStarted = s.step.layersStarted)
    ((s.blocks layer).zipIdx) (fun t e => t.blockStep layer e.2 e.1) ⟨fun _ _ => rfl, rfl, rfl, rfl⟩ fun t before e m => ?_
  obtain ⟨fast, slow, spindles, started⟩ := before
  have moves := t.movesBlock_blockStep layer e.2 e.1
  have listed : e.1 ∈ s.blocks layer := List.fst_mem_of_mem_zipIdx m
  exact ⟨fun a out => (moves.fast a (out e.1 listed)).trans (fast a out), moves.slow.trans slow, moves.spindles.trans spindles,
    moves.started.trans started⟩

/-! ## A module alone in its grid -/

theorem leBytes_leNat : ∀ bs : List Byte, leBytes bs.length (leNat bs) = bs
  | [] => rfl
  | b :: bs => by
    have low : BitVec.ofNat 8 (b.toNat + 256 * leNat bs) = b := BitVec.eq_of_toNat_eq (by
      rw [BitVec.toNat_ofNat]
      have := b.isLt
      omega)
    have high : (b.toNat + 256 * leNat bs) / 256 = leNat bs := by
      have := b.isLt
      omega
    rw [List.length_cons, leNat, leBytes, low, high, leBytes_leNat bs]

theorem memRead_append (m : Mem) : ∀ (n k a : Nat), memRead m a (n + k) = memRead m a n ++ memRead m (a + n) k
  | 0, k, a => by rw [Nat.zero_add, memRead, List.nil_append, Nat.add_zero]
  | n + 1, k, a => by
    rw [Nat.add_right_comm, memRead, memRead, List.cons_append, memRead_append m n k (a + 1), Nat.add_right_comm a 1 n,
      Nat.add_assoc a n 1]

/-- The bytes of the values read one after another are the bytes read. -/
theorem flatMap_leBytes_readVals (m : Mem) (a w : Nat) : ∀ n, (readVals m a w n).flatMap (leBytes w) = memRead m a (w * n)
  | 0 => rfl
  | n + 1 => by
    have last : leBytes w (memNat m (a + w * n) w) = memRead m (a + w * n) w := by
      have bytes := leBytes_leNat (memRead m (a + w * n) w)
      rw [memRead_length] at bytes
      exact bytes
    have before := flatMap_leBytes_readVals m a w n
    unfold readVals at before ⊢
    rw [List.range_succ, List.map_append, List.flatMap_append, before, Nat.mul_succ, memRead_append, List.map_singleton,
      List.flatMap_singleton, last]

/-- A block written with the values it has is as it was. -/
theorem State.memGet_writeG_readG (s : State) (k : Block) (a : Nat) : memGet (s.writeG k (s.readG k)).fast a = memGet s.fast a := by
  have whole : (s.readG k).take k.len = s.readG k := List.take_of_length_le (by simp [State.readG, readVals])
  have small (v : Nat) (m : v ∈ readVals s.fast k.addr 4 k.len) : v < 2 ^ 32 := by
    obtain ⟨i, _, rfl⟩ := List.mem_map.mp m
    exact memNat_lt ..
  have bytes : (s.readG k).flatMap (fun v => leBytes 4 v.toNat) = memRead s.fast k.addr (4 * k.len) := by
    unfold State.readG
    rw [← flatMap_leBytes_readVals, List.flatMap_map]
    exact List.flatMap_congr fun v m => by rw [BitVec.toNat_ofNat, Nat.mod_eq_of_lt (small v m)]
  show memGet (memWrite s.fast k.addr (((s.readG k).take k.len).flatMap (fun v => leBytes 4 v.toNat))) a = _
  rw [whole, bytes]
  exact memGet_memWrite_memRead a _ _ _ _ fun _ => rfl

/-- A module that is its whole grid: every block is its own, and there is nowhere to send one. -/
structure State.Alone (s : State) : Prop where
  closed : s.closed = true
  live : s.live.length ≤ 1
  chains : s.gridC ≤ 1
  owner : ∀ b, s.myPos = s.ownerPos b

theorem State.alone_of_grid {s : State} (P : s.gridP = 1) (C : s.gridC = 1) (L : s.liveMap = 1) (me : s.myPos = 1) : s.Alone := by
  have live : s.live = [1] := by
    unfold State.live
    rw [L]
    decide
  refine ⟨?_, by rw [live]; decide, by omega, fun b => ?_⟩
  · unfold State.closed
    rw [L, P]
    decide
  · unfold State.ownerPos
    rw [live, me, List.length_singleton, Nat.max_self, Nat.mod_one]
    rfl

/-- `t` differs from `s` in what the sums of blocks note of the step and of the tiers, with the bytes as they were. -/
structure State.SumsIn (s t : State) : Prop where
  rest : t = { s with fast := t.fast, fastPoison := t.fastPoison, faults := t.faults, step := t.step }
  fast : ∀ a, memGet t.fast a = memGet s.fast a
  summed : ∀ x ∈ s.step.summed, x ∈ t.step.summed

section Alone

variable {s t u : State}

theorem State.SumsIn.refl (s : State) : s.SumsIn s := ⟨rfl, fun _ => rfl, fun _ => id⟩

theorem State.SumsIn.trans (h : s.SumsIn t) (g : t.SumsIn u) : s.SumsIn u := by
  refine ⟨?_, fun a => (g.fast a).trans (h.fast a), fun x m => g.summed x (h.summed x m)⟩
  have first := h.rest
  have second := g.rest
  rw [first] at second
  exact second

theorem State.SumsIn.obj (h : s.SumsIn t) (id row : Nat) : t.obj id row = s.obj id row := by
  rw [h.rest]
  rfl

theorem State.SumsIn.link (h : s.SumsIn t) : t.link = s.link := by
  rw [h.rest]

theorem State.SumsIn.sees (h : s.SumsIn t) : s.SeesAs t := ⟨by rw [h.link], fun id _ => h.obj id 0⟩

theorem State.SeesAs.closed (h : s.SeesAs t) : t.closed = s.closed := by
  unfold State.closed
  rw [h.liveMap, h.gridP]

theorem State.SeesAs.live (h : s.SeesAs t) : t.live = s.live := congrArg positionsOf h.liveMap

theorem State.SeesAs.alone (h : s.SeesAs t) (alone : s.Alone) : t.Alone where
  closed := h.closed.trans alone.closed
  live := h.live ▸ alone.live
  chains := h.gridC ▸ alone.chains
  owner b := by
    unfold State.ownerPos
    rw [h.live, h.myPos]
    exact alone.owner b

theorem State.sumsIn_writeG (s : State) (k : Block) : s.SumsIn (s.writeG k (s.readG k)) :=
  ⟨rfl, s.memGet_writeG_readG k, fun _ => id⟩

theorem State.sumsIn_badBlock (s : State) (layer b : Nat) (poison : Bool) : s.SumsIn (s.badBlock layer b poison) := by
  unfold State.badBlock
  split <;> exact ⟨rfl, fun _ => rfl, fun _ => id⟩

variable (layer b : Nat) (k : Block) (poison : Bool)

theorem State.sumsIn_noteSummed (s : State) : s.SumsIn (s.noteSummed layer b) :=
  ⟨rfl, fun _ => rfl, fun _ => List.mem_append_left _⟩

theorem State.sumsIn_noteChained (s : State) : s.SumsIn (s.noteChained layer b) := ⟨rfl, fun _ => rfl, fun _ => id⟩

variable (alone : s.Alone)
include alone

theorem State.forwardJoiner_alone (vs : List W32) : s.forwardJoiner layer b poison vs = s := by
  unfold State.forwardJoiner
  simp [alone.closed]

theorem State.gatherFrom_alone (vs : List W32) : s.gatherFrom layer b poison vs = s := by
  have single := alone.live
  unfold State.gatherFrom
  rw [if_pos alone.closed, if_neg (by omega)]

/-- The block's own values are its grid sum. -/
theorem State.ownSum_alone : s.SumsIn (s.ownSum layer b k poison (s.readG k)) ∧
    blockKey layer b ∈ (s.ownSum layer b k poison (s.readG k)).step.summed := by
  have noted : s.SumsIn (((s.writeG k (s.readG k)).badBlock layer b poison).noteSummed layer b) :=
    ((s.sumsIn_writeG k).trans (State.sumsIn_badBlock _ layer b poison)).trans (State.sumsIn_noteSummed layer b _)
  have stays := noted.sees.alone alone
  unfold State.ownSum
  rw [State.takeSum_eq, State.forwardJoiner_alone layer b poison stays, State.gatherFrom_alone layer b poison stays]
  exact ⟨noted, List.mem_append_right _ (List.mem_singleton.mpr rfl)⟩

theorem State.columnStep_alone : s.SumsIn (s.columnStep layer b k) ∧ blockKey layer b ∈ (s.columnStep layer b k).step.summed := by
  unfold State.columnStep
  dsimp only
  rw [if_pos alone.chains]
  exact State.ownSum_alone layer b k _ alone

theorem State.chainSum_alone : s.SumsIn (s.chainSum layer b k poison (s.readG k)) ∧
    blockKey layer b ∈ (s.chainSum layer b k poison (s.readG k)).step.summed := by
  have noted : s.SumsIn (((s.writeG k (s.readG k)).badBlock layer b poison).noteChained layer b) :=
    ((s.sumsIn_writeG k).trans (State.sumsIn_badBlock _ layer b poison)).trans (State.sumsIn_noteChained layer b _)
  obtain ⟨sums, summed⟩ := State.columnStep_alone layer b k (noted.sees.alone alone)
  rw [State.chainSum_eq]
  exact ⟨noted.trans sums, summed⟩

/-- R321, R322: alone, a module has every block summed at once. -/
theorem State.blockStep_alone : s.SumsIn (s.blockStep layer b k) ∧ blockKey layer b ∈ (s.blockStep layer b k).step.summed := by
  unfold State.blockStep
  dsimp only
  split
  next already => exact ⟨.refl s, List.contains_iff_mem.mp already⟩
  · split
    · exact State.columnStep_alone layer b k alone
    · rw [if_pos alone.closed, if_pos (alone.owner b), State.ringOwner, if_pos alone.live]
      exact State.chainSum_alone layer b k _ alone

end Alone

theorem State.foldl_blockStep_alone (layer : Nat) : ∀ (es : List (Block × Nat)) {s : State}, s.Alone →
    s.SumsIn (es.foldl (fun t e => t.blockStep layer e.2 e.1) s) ∧
      ∀ e ∈ es, blockKey layer e.2 ∈ (es.foldl (fun t e => t.blockStep layer e.2 e.1) s).step.summed
  | [], s, _ => ⟨.refl s, fun _ m => absurd m List.not_mem_nil⟩
  | e :: es, s, alone => by
    obtain ⟨sums, here⟩ := State.blockStep_alone layer e.2 e.1 alone
    obtain ⟨rest, others⟩ := State.foldl_blockStep_alone layer es (sums.sees.alone alone)
    refine ⟨sums.trans rest, fun x m => ?_⟩
    rcases List.mem_cons.mp m with rfl | m
    · exact rest.summed _ here
    · exact others x m

/-- R321, R322: alone in its grid a module's own values are the sums of every block. -/
theorem State.layerSteps_alone {s : State} (alone : s.Alone) (layer : Nat) : s.SumsIn (s.layerSteps layer) ∧
    ∀ b, b < (s.blocks layer).length → blockKey layer b ∈ (s.layerSteps layer).step.summed := by
  obtain ⟨sums, all⟩ := State.foldl_blockStep_alone layer ((s.blocks layer).zipIdx) alone
  refine ⟨sums, fun b inside => all ((s.blocks layer)[b], b) ?_⟩
  exact List.mem_zipIdx_iff_getElem?.mpr (List.getElem?_eq_getElem inside)

/-! ## The start and the end of an exchange -/

section Start

variable {s : State} {layer : W16} (up : s.up = true)
include up

theorem exec_layerExchangeStart_waits (waits : layer.toNat ∈ s.step.layersStarted ∨ s.layerFinal layer.toNat = false) :
    exec (.layerExchangeStart layer) s = .next s := by
  show execLayerExchangeStart layer s = _
  unfold execLayerExchangeStart
  rw [State.ifUp_of_up up]
  refine congrArg Host.Outcome.next ?_
  dsimp only
  rcases waits with started | pending
  · have same : s.startLayer layer.toNat = s := by
      unfold State.startLayer
      rw [if_pos (List.contains_iff_mem.mpr started)]
    rw [same, ite_self]
  · rw [if_neg (by simp [pending])]

/-- R254: a layer whose G is final enters the exchange. -/
theorem exec_layerExchangeStart (planned : layer.toNat ∈ s.planLayers)
    (last : s.phase = 2 ∨ (s.phase = 1 ∧ s.step.mbRunning = true ∧ s.step.evaluating = false ∧ s.mbIndex + 1 = s.step.total))
    (fresh : layer.toNat ∉ s.step.layersStarted) (final : s.layerFinal layer.toNat = true) :
    exec (.layerExchangeStart layer) s = .next
      (({ s with step := { s.step with layersStarted := s.step.layersStarted ++ [layer.toNat] } }).layerSteps layer.toNat) := by
  have due : (s.phase == 1 && s.step.mbRunning && !s.step.evaluating && s.mbIndex + 1 == s.step.total || s.phase == 2) = true := by
    rcases last with two | ⟨one, running, training, total⟩
    · simp [two]
    · simp [one, running, training, total]
  show execLayerExchangeStart layer s = _
  unfold execLayerExchangeStart
  rw [State.ifUp_of_up up]
  refine congrArg Host.Outcome.next ?_
  dsimp only
  rw [due, final, if_pos (by simp [planned]), State.startLayer,
    if_neg (by simp [fresh])]

end Start

theorem State.onlyRows_setPhase_withStep (s : State) (w : Step) (v : Nat) :
    s.OnlyRows (oneRow Obj.stepStatus 0) { ({ s with step := w } : State).setPhase v with step := s.step } := by
  have same : { ({ s with step := w } : State).setPhase v with step := s.step } = s.setPhase v := rfl
  rw [same]
  exact .setObj (by decide) ⟨rfl, rfl⟩

section End

variable {s : State} (up : s.up = true)
include up

theorem exec_exchangeEnd_waits (missing : s.allSummed = false) : exec .exchangeEnd s = .next s := by
  show execExchangeEnd s = _
  unfold execExchangeEnd
  rw [State.ifUp_of_up up]
  refine congrArg Host.Outcome.next ?_
  dsimp only
  rw [if_neg (by simp [missing])]

theorem exec_exchangeEnd (phase : s.phase = 1 ∨ s.phase = 2) (running : s.step.exchangeEnded = false) (all : s.allSummed = true) :
    exec .exchangeEnd s = .next (if s.phase = 2 then
      ({ s with step := { s.step with exchangeEnded := true, n2 := s.normPartial } }).setPhase 3
      else { s with step := { s.step with exchangeEnded := true, n2 := s.normPartial } }) := by
  show execExchangeEnd s = _
  unfold execExchangeEnd
  rw [State.ifUp_of_up up]
  refine congrArg Host.Outcome.next ?_
  dsimp only
  rw [if_pos (by rcases phase with one | two <;> simp [*])]
  rfl

/-- R255, R256: every block summed, the exchange ends with the norm partial. -/
theorem exchangeEnd_spec (phase : s.phase = 1 ∨ s.phase = 2) (running : s.step.exchangeEnded = false) (all : s.allSummed = true) :
    ∃ t, exec .exchangeEnd s = .next t ∧ t.step = { s.step with exchangeEnded := true, n2 := s.normPartial } ∧
      t.phase = (if s.phase = 2 then 3 else 1) ∧ s.OnlyRows (oneRow Obj.stepStatus 0) { t with step := s.step } := by
  refine ⟨_, exec_exchangeEnd up phase running all, ?_⟩
  by_cases two : s.phase = 2
  · rw [if_pos two, if_pos two]
    exact ⟨rfl, State.phase_setPhase _ (by decide), State.onlyRows_setPhase_withStep ..⟩
  · rw [if_neg two, if_neg two]
    exact ⟨rfl, phase.resolve_right two, .refl ..⟩

end End

theorem State.layerFinal_iff (s : State) (layer : Nat) : s.layerFinal layer = true ↔
    (∀ e ∈ s.prog.exchange, e.1.toNat = layer → e.2 ∈ s.fabric.doneSeqs ++ s.fabric.results.map (·.dseq)) ∧
    (∀ r ∈ s.gradRows, s.rowOfLayer layer r.2 = true → ∀ f ∈ (tget s.fabric.edge r.2.port).getD [], f.rid ≠ r.2.rid) := by
  unfold State.layerFinal State.doffsDone
  simp only [Bool.and_eq_true, List.all_eq_true, List.mem_filter, beq_iff_eq, and_imp, List.contains_iff_mem, Bool.or_eq_true,
    Bool.not_eq_eq_eq_not, Bool.not_true, bne_iff_ne]
  refine and_congr_right fun _ => forall₂_congr fun r _ => ?_
  cases s.rowOfLayer layer r.2 <;> simp

/-! ## A block arrives -/

/-- A state with the step and the FAST tier of another. -/
def State.restored (t s : State) : State :=
  { t with step := s.step, fast := s.fast, fastPoison := s.fastPoison, faults := { t.faults with readErrs := s.faults.readErrs } }

theorem State.OnlyFrames.restored {ch : Nat → Nat → Prop} {s t : State} (h : s.OnlyFrames ch t) (r : State) :
    (s.restored r).OnlyFrames ch (t.restored r) := by
  obtain ⟨⟨rest, rows, bytes⟩, arbiters, pending⟩ := h
  exact ⟨⟨congrArg (fun w => State.restored w r) rest, rows, fun a => ⟨rfl, (bytes a).2⟩⟩, arbiters, pending⟩

/-- G written with a grid sum, the block noted, and the step poisoned where the block is (R323). -/
def State.sumIn (s : State) (layer b : Nat) (k : Block) (poison : Bool) (vs : List W32) : State :=
  ((s.writeG k vs).badBlock layer b poison).noteSummed layer b

section SumIn

variable (s : State) (layer b : Nat) (k : Block) (poison : Bool) (vs : List W32)

theorem State.sumIn_step : (s.sumIn layer b k poison vs).step = { s.step with
    summed := s.step.summed ++ [blockKey layer b]
    badBlocks := s.step.badBlocks ++ (if poison then [blockKey layer b] else [])
    poisoned := s.step.poisoned || poison } := by
  cases poison
  · simp [State.sumIn, State.badBlock, State.noteSummed, State.writeG, State.tierWrite]
  · simp [State.sumIn, State.badBlock, State.noteSummed, State.writeG, State.tierWrite]

theorem State.sumIn_fast : (s.sumIn layer b k poison vs).fast =
    memWrite s.fast k.addr ((vs.take k.len).flatMap (fun v => leBytes 4 v.toNat)) := by
  cases poison <;> rfl

theorem State.sumIn_restored : (s.sumIn layer b k poison vs).restored s = s := by
  cases poison <;> rfl

variable {s layer b k poison vs}

theorem State.memNat_sumIn (whole : vs.length = k.len) {i : Nat} {v : W32} (at_ : vs[i]? = some v) :
    memNat (s.sumIn layer b k poison vs).fast (k.addr + 4 * i) 4 = v.toNat := by
  have inside : i < (vs.map BitVec.toNat).length := by
    rw [List.length_map]
    exact (List.getElem?_eq_some_iff.mp at_).1
  have value : nth (vs.map BitVec.toNat) i 0 = v.toNat := by
    unfold nth
    rw [List.getElem?_map, at_]
    rfl
  have bytes : vs.flatMap (fun v => leBytes 4 v.toNat) = (vs.map BitVec.toNat).flatMap (leBytes 4) := by rw [List.flatMap_map]
  rw [State.sumIn_fast, List.take_of_length_le (by omega), bytes, memNat_memWrite_flatMap 4 _ _ _ i inside, value]
  exact Nat.mod_eq_of_lt v.isLt

end SumIn

/-- A block's grid sum taken between frames sent: G holds it, the step notes it, and nothing else moved but what frames move. -/
theorem State.sumIn_spec {s u t : State} {layer b : Nat} {k : Block} {poison : Bool} {vs : List W32} (before : s.OnlyFrames bulkRows u)
    (after : (u.sumIn layer b k poison vs).OnlyFrames bulkRows t) (whole : vs.length = k.len) :
    (∀ (i : Nat) (v : W32), vs[i]? = some v → memNat t.fast (k.addr + 4 * i) 4 = v.toNat) ∧
      (∀ a, (a < k.addr ∨ k.addr + 4 * k.len ≤ a) → memGet t.fast a = memGet s.fast a) ∧
      t.step = { s.step with
        summed := s.step.summed ++ [blockKey layer b]
        badBlocks := s.step.badBlocks ++ (if poison then [blockKey layer b] else [])
        poisoned := s.step.poisoned || poison } ∧
      s.OnlyFrames bulkRows (t.restored s) := by
  have length := State.length_writeG k vs
  have moved := after.restored u
  rw [State.sumIn_restored] at moved
  have poisons := congrArg State.fastPoison before.1.1
  have faults := congrArg State.faults before.1.1
  have same : t.restored u = t.restored s := by
    unfold State.restored
    rw [before.step, before.fast, show u.fastPoison = s.fastPoison from poisons, show u.faults = s.faults from faults]
  refine ⟨fun i v at_ => ?_, fun a out => ?_, ?_, ?_⟩
  · rw [after.fast]
    exact State.memNat_sumIn whole at_
  · rw [after.fast, State.sumIn_fast, ← before.fast]
    exact memGet_memWrite_out (by omega)
  · rw [after.step, State.sumIn_step, before.step]
  · exact before.trans (same ▸ moved)

theorem State.sends_takeSum (s : State) (layer b : Nat) (k : Block) (poison : Bool) (vs : List W32) :
    (s.sumIn layer b k poison vs).Sends bulkRows (s.takeSum layer b k poison vs) := by
  rw [State.takeSum_eq]
  exact State.sends_forwardJoiner ..

section Frame

variable {port : PortNo} {hdr : FrameHdr} {layer : W16} {block : W32} {phase : BitVec 2} {data : List W32} {s : State}
  (arrives : s.Arrives port hdr) (member : s.link.member = true) (woven : s.link.reweaving = false)
include arrives member

/-- An accepted block runs in a state that differs in frames alone; its data have crossed the wafer (R312). -/
theorem exec_gradFrame : ∃ u, s.Hears bulkRows u ∧ exec (.gradFrame port hdr layer block phase data) s =
    .next (u.takeGrad port.val hdr.step.toNat layer.toNat block.toNat phase.toNat hdr.poison data) := by
  obtain ⟨u, heard, up, _, run⟩ := arrives.accept tyGrad
  have crossed := heard.bulk.trans (u.sends_crossWafer port.isLt (4 * data.length)).toHears
  refine ⟨_, crossed, ?_⟩
  show execGradFrame port hdr layer block phase data s = _
  unfold execGradFrame
  rw [State.ifUp_of_up up, run]
  dsimp only
  rw [show (u.crossWafer port.val (4 * data.length)).link.member = true from crossed.member.trans member]
  rfl

end Frame

theorem State.Hears.blocks {s u : State} (h : s.Hears bulkRows u) (layer : Nat) : u.blocks layer = s.blocks layer := by
  have rows : u.rowsOf Obj.residence = s.rowsOf Obj.residence := h.raw _ fun row => by
    unfold bulkRows linkRows oneRow
    simp
  unfold State.blocks State.liveShards State.shards
  rw [rows]

theorem State.Hears.stepTag {s u : State} (h : s.Hears bulkRows u) : u.stepTag = s.stepTag :=
  congrArg (· % 2 ^ 48) (h.frames.obj (by decide) (by unfold bulkRows linkRows oneRow; decide))

section Taken

variable {s u : State} {port step layer b phase : Nat} {poison : Bool} {vs : List W32} (heard : s.Hears bulkRows u)
  (woven : s.link.reweaving = false)
include heard woven

/-- R321: a block of a scatter phase that comes before the module's own values are final is kept. -/
theorem State.takeGrad_kept (scatter : phase ≤ 1) (early : layer ∉ s.step.layersStarted) (chain : port < 6) :
    u.takeGrad port step layer b phase poison vs = { u with step := { u.step with
      partials := tput u.step.partials (partialKey step layer b phase (if port < 3 then 1 else 0)) (poison, vs) } } := by
  have unstarted : u.step.layersStarted.contains layer = false := by
    rw [heard.frames.step]
    simpa using early
  have side : (neighbourOf port = .next ∧ (if port < 3 then 1 else 0) = 1) ∨
      (neighbourOf port = .prev ∧ (if port < 3 then 1 else 0) = 0) := by
    by_cases first : port < 3 <;> simp [neighbourOf, first, chain]
  have kept (dir : Nat) : ¬(step = (u.keepPartial step layer b phase dir poison vs).stepTag ∧
      (u.keepPartial step layer b phase dir poison vs).step.layersStarted.contains layer = true) :=
    fun both => Bool.false_ne_true (unstarted.symm.trans both.2)
  unfold State.takeGrad
  rw [heard.reweaving.trans woven, if_neg (by decide), if_pos scatter]
  rcases side with ⟨at_, dir⟩ | ⟨at_, dir⟩
  all_goals
    rw [at_, dir]
    dsimp only
    split
    · exact if_neg (kept _)
    · rfl

/-- R323: a grid sum of another step, or of a block summed already, is discarded. -/
theorem State.takeGrad_discarded (gather : 2 ≤ phase) (stale : step ≠ s.stepTag ∨ blockKey layer b ∈ s.step.summed) :
    u.takeGrad port step layer b phase poison vs = u := by
  have drop : step ≠ u.stepTag ∨ u.step.summed.contains (blockKey layer b) = true := by
    rw [heard.stepTag, heard.frames.step, List.contains_iff_mem]
    exact stale
  unfold State.takeGrad
  rw [heard.reweaving.trans woven, if_neg (by decide), if_neg (by omega)]
  exact if_pos drop

/-- R322, R323: a grid sum that arrives is taken, with the frames that pass it on. -/
theorem State.takeGrad_taken (gather : 2 ≤ phase) (tag : step = s.stepTag) (new : blockKey layer b ∉ s.step.summed) {k : Block}
    (at_ : (s.blocks layer)[b]? = some k) : ∃ v, s.OnlyFrames bulkRows v ∧
      (v.sumIn layer b k poison vs).OnlyFrames bulkRows (u.takeGrad port step layer b phase poison vs) := by
  have wanted : ¬(step ≠ u.stepTag ∨ u.step.summed.contains (blockKey layer b) = true) := by
    rw [heard.stepTag, heard.frames.step, List.contains_iff_mem]
    simp [tag, new]
  unfold State.takeGrad
  rw [heard.reweaving.trans woven, if_neg (by decide), if_neg (by omega)]
  rw [if_neg wanted, heard.blocks, at_]
  dsimp only
  split
  · have before : u.Sends bulkRows (if nextChain u.gridC u.myChain b = u.ownerChain b then u
        else u.sendGrad (columnDir b) layer b 2 poison vs) := by
      split
      · exact .refl ..
      · exact u.sends_sendGrad ..
    unfold State.columnGather
    refine ⟨_, heard.frames.trans before.frames, ?_⟩
    exact ((State.sends_takeSum ..).trans (State.sends_gatherFrom ..)).frames
  · exact ⟨u, heard.frames, ((State.sends_takeSum ..).trans (State.sends_gatherOn ..)).frames⟩

end Taken

/-- Settles O36: `movesBlock_blockStep` for a layer's exchange, `layerSteps_alone` on a grid of one module, and `takeGrad` case by
case for a block that arrives. -/
theorem exchangesSumEveryBlockAndKeepOrWriteIt : Obligations.ExchangesSumEveryBlockAndKeepOrWriteIt := by
  unfold Obligations.ExchangesSumEveryBlockAndKeepOrWriteIt
  refine ⟨fun s up => ⟨fun layer planned last => ⟨exec_layerExchangeStart_waits up, fun fresh final => ?_⟩,
    exchangeEnd_spec up, exec_exchangeEnd_waits up⟩, State.layerFinal_iff,
    fun port hdr layer block phase data s arrives woven member => ?_⟩
  · have run := exec_layerExchangeStart up planned last fresh final
    obtain ⟨fast, slow, spindles, started⟩ :=
      State.layerSteps_spec { s with step := { s.step with layersStarted := s.step.layersStarted ++ [layer.toNat] } } layer.toNat
    refine ⟨⟨_, run, started, fast, slow, spindles⟩, fun P C L me => ⟨_, run, ?_⟩⟩
    have alone : State.Alone { s with step := { s.step with layersStarted := s.step.layersStarted ++ [layer.toNat] } } :=
      State.alone_of_grid P C L me
    obtain ⟨sums, all⟩ := State.layerSteps_alone alone layer.toNat
    exact ⟨all, sums.fast, sums.link⟩
  · obtain ⟨u, heard, run⟩ := exec_gradFrame (layer := layer) (block := block) (phase := phase) (data := data) arrives member
    refine ⟨fun scatter early chain => ?_, fun k gather tag new at_ whole => ?_, fun gather stale => ?_⟩
    · rw [State.takeGrad_kept heard woven scatter early chain] at run
      exact ⟨_, run, by rw [heard.frames.step], heard.frames.withStep _⟩
    · obtain ⟨v, before, after⟩ := State.takeGrad_taken (port := port.val) (poison := hdr.poison) (vs := data) heard woven gather tag
        new at_
      exact ⟨_, run, State.sumIn_spec before after whole⟩
    · rw [State.takeGrad_discarded heard woven gather stale] at run
      exact ⟨u, run, heard.frames⟩

end Sys2Proof.Machine
end

section
/-! SUPPORT. What the writes that wait for a boundary leave as it was when they are applied (R409, R411, R412): every object that no
buffered write may name, the links, the step, the program and the spindles. -/

namespace Sys2Proof.Machine

/-! ## States that differ in objects set -/

/-- `t` has of `s` the rows of some objects, and the links, the step, the program, the spindles and the time. -/
structure State.Sets (ids : List Nat) (s t : State) : Prop where
  rows : s.RowsOnly (otherThan ids) t
  link : t.link = s.link
  step : t.step = s.step
  prog : t.prog = s.prog
  spindles : t.spindles = s.spindles
  time : t.time = s.time

section Sets

variable {ids : List Nat} {s t u : State}

theorem State.Sets.refl (ids : List Nat) (s : State) : s.Sets ids s := ⟨.refl _ s, rfl, rfl, rfl, rfl, rfl⟩

theorem State.Sets.trans (h : s.Sets ids t) (k : t.Sets ids u) : s.Sets ids u :=
  ⟨h.rows.trans k.rows, k.link.trans h.link, k.step.trans h.step, k.prog.trans h.prog, k.spindles.trans h.spindles,
    k.time.trans h.time⟩

theorem State.Sets.foldl {β : Type} {f : State → β → State} (es : List β) (each : ∀ e ∈ es, ∀ t : State, t.Sets ids (f t e))
    (s : State) : s.Sets ids (es.foldl f s) :=
  List.foldlRecOn es f (.refl ids s) fun t h e m => h.trans (each e m t)

theorem State.Sets.obj (h : s.Sets ids t) {id row : Nat} (hr : row < 2 ^ 20) (m : id ∈ ids) : t.obj id row = s.obj id row :=
  h.rows.kept hr m

theorem State.sets_setObj (s : State) {id row : Nat} (hr : row < 2 ^ 20) (out : id ∉ ids) (v : Nat) :
    s.Sets ids (s.setObj id row v) := ⟨s.rowsOnly_setObj hr out v, rfl, rfl, rfl, rfl, rfl⟩

/-- A row of an object above all of these, whatever its number. -/
theorem State.sets_setObj_above (s : State) {id : Nat} (above : ∀ i ∈ ids, i < id) (row v : Nat) :
    s.Sets ids (s.setObj id row v) := by
  refine ⟨fun i r hr kept => State.obj_setObj_ne ?_, rfl, rfl, rfl, rfl, rfl⟩
  have less := above i (not_not.mp kept)
  unfold objKey
  omega

theorem State.sets_fault (out : ∀ id ∈ [Obj.faultLog, Obj.faultSeqLast, Obj.faultReports], id ∉ ids) (s : State) (c u d : Nat) :
    s.Sets ids (s.fault c u d) :=
  ⟨State.rowsOnly_fault out s c u d, State.fault_link .., State.fault_step .., State.fault_prog .., State.fault_spindles ..,
    State.fault_time ..⟩

theorem State.OnlyTiers.sets (h : s.OnlyTiers t) : s.Sets ids t := by
  refine ⟨fun id row _ _ => h.obj id row, ?_, ?_, ?_, ?_, ?_⟩ <;> rw [h]

/-- A state with the same objects in the same copies. -/
theorem State.sets_of_objs (objs : t.objs = s.objs) (copies : t.dict.copies = s.dict.copies) (link : t.link = s.link)
    (step : t.step = s.step) (prog : t.prog = s.prog) (spindles : t.spindles = s.spindles) (time : t.time = s.time) :
    s.Sets ids t := by
  refine ⟨fun id row _ _ => ?_, link, step, prog, spindles, time⟩
  unfold State.obj State.voteFailed State.raw
  rw [objs, copies]

end Sets

/-! ## Writes that wait -/

theorem State.sets_setKeys {ids : List Nat} (es : List (Nat × Nat)) (out : ∀ e ∈ es, e.1 / 2 ^ 20 ∉ ids) (s : State) :
    s.Sets ids (s.setKeys es) :=
  .foldl es (fun e m t => t.sets_setObj (Nat.mod_lt _ (by decide)) (out e m) _) s

theorem mem_of_mem_subsets {α : Type} : ∀ {l m : List α}, m ∈ subsets l → ∀ x ∈ m, x ∈ l
  | [], m, h, x, hx => by
    rw [subsets, List.mem_singleton] at h
    exact h ▸ hx
  | a :: l, m, h, x, hx => by
    rw [subsets, List.mem_append] at h
    rcases h with h | h
    · obtain ⟨n, hn, rfl⟩ := List.mem_map.mp h
      rcases List.mem_cons.mp hx with rfl | hx
      · exact List.mem_cons_self
      · exact List.mem_cons_of_mem _ (mem_of_mem_subsets hn x hx)
    · exact List.mem_cons_of_mem _ (mem_of_mem_subsets h x hx)

theorem State.sets_applyTogether {ids : List Nat} (es : List (Nat × Nat)) (out : ∀ e ∈ es, e.1 / 2 ^ 20 ∉ ids) (s : State)
    (ok : State → Bool) (names : List Nat) : s.Sets ids (s.applyTogether ok names es).1 := by
  unfold State.applyTogether
  dsimp only
  split
  next m found =>
    have listed := List.mem_mergeSort.mp (List.mem_of_find?_eq_some found)
    refine State.sets_setKeys m (fun e he => out e ?_) s
    obtain ⟨id, _, mine⟩ := List.mem_flatMap.mp (mem_of_mem_subsets listed e he)
    exact (List.mem_filter.mp mine).1
  next => exact .refl ids s

/-! ## The STEP boundary -/

/-- The objects a STEP boundary leaves that RUN looks at. -/
def runIds : List Nat := [Obj.moduleState, Obj.stepControl, Obj.stepCount]

/-- A write due at a boundary names an object of that boundary. -/
theorem due_out {ids : List Nat} {apply : Nat} (fixed : ∀ o ∈ objTable, o.access = 3 → o.apply = apply → o.id ∉ ids) {k : Nat}
    (due : keyIs 3 apply k = true) : k / 2 ^ 20 ∉ ids := by
  unfold keyIs at due
  cases info : objInfo? (k / 2 ^ 20) with
  | none =>
    rw [info] at due
    exact absurd due Bool.false_ne_true
  | some o =>
    rw [info] at due
    simp only [Bool.and_eq_true, beq_iff_eq] at due
    rw [← objInfo?_id info]
    exact fixed o (List.mem_of_find?_eq_some info) due.1 due.2

theorem runIds_fixed : ∀ o ∈ objTable, o.access = 3 → o.apply = apStep → o.id ∉ runIds := by decide +kernel

theorem State.sets_changeEntry (s : State) {i : Nat} (hi : i < 2 ^ 20) (w : Nat) : s.Sets runIds (s.changeEntry i w) := by
  have arrays (d : Shard) (vs : List (Arr × List Nat)) : s.Sets runIds (vs.foldl (fun t e => t.writeArr d e.1 0 e.2) s) :=
    (State.onlyTiers_foldl (fun t e => t.onlyTiers_writeArr d e.1 0 e.2) vs s).sets
  unfold State.changeEntry
  exact ((arrays ..).trans (State.sets_setObj _ hi (by decide) _)).trans (State.sets_setObj _ (by decide) (by decide) _)

theorem State.sets_applyEntry (s : State) {i : Nat} (hi : i < 2 ^ 20) (w : Nat) : s.Sets runIds (s.applyEntry i w) := by
  unfold State.applyEntry
  split
  · exact (s.sets_setObj (by decide) (by decide) _).trans (State.sets_fault (by decide) ..)
  · exact s.sets_changeEntry hi w

theorem State.sets_applyStepWrite (s : State) {k : Nat} (out : k / 2 ^ 20 ∉ runIds) (v : Nat) :
    s.Sets runIds (s.applyStepWrite k v) := by
  have row : k % 2 ^ 20 < 2 ^ 20 := Nat.mod_lt _ (by decide)
  have set := s.sets_setObj (ids := runIds) row out v
  have refused := s.sets_fault (ids := runIds) (by decide) 0xB604 0 0x38
  unfold State.applyStepWrite
  dsimp only
  split
  · exact s.sets_applyEntry row v
  · split
    · split
      · exact refused
      · exact set
    · split
      · split
        · exact refused
        · exact set
      · split
        · split
          · exact .refl ..
          · exact set
        · split
          · exact .refl ..
          · exact set

theorem State.sets_endStreaks (s : State) : s.Sets runIds s.endStreaks := by
  have rows : s.Sets runIds ((s.rowsOf Obj.zeroStreakCount).foldl (fun t e =>
      if s.trainedLayers.contains e.1 then t else t.setObj Obj.zeroStreakCount e.1 0) s) := by
    refine .foldl _ (fun e m t => ?_) s
    obtain ⟨x, _, rfl⟩ := List.mem_map.mp m
    split
    · exact .refl ..
    · exact t.sets_setObj (Nat.mod_lt _ (by decide)) (by decide) _
  exact rows.trans (State.sets_of_objs rfl rfl rfl rfl rfl rfl rfl)

theorem State.sets_countClasses {ids : List Nat} (out : ∀ id ∈ [Obj.classParams, Obj.residenceUsed], id ∉ ids) (s : State) :
    s.Sets ids s.countClasses := by
  have classes : Obj.classParams ∉ ids := out _ (by decide)
  exact (((s.sets_setObj (by decide) classes _).trans (State.sets_setObj _ (by decide) classes _)).trans
    (State.sets_setObj _ (by decide) classes _)).trans (State.sets_setObj _ (by decide) (out _ (by decide)) _)

/-- R411: the STEP boundary leaves the objects RUN looks at, the links, the step, the program and the spindles. -/
theorem State.sets_applyStep (s : State) : s.Sets runIds s.applyStep := by
  have out : ∀ e ∈ s.due apStep, e.1 / 2 ^ 20 ∉ runIds := fun e m => due_out runIds_fixed (List.mem_filter.mp m).2
  have taken : s.Sets runIds (s.takeDue apStep) := State.sets_of_objs rfl rfl rfl rfl rfl rfl rfl
  have first (t : State) : t.Sets runIds (t.setKeys ((s.due apStep).filter (fun e => e.1 / 2 ^ 20 == Obj.expMax))) :=
    State.sets_setKeys _ (fun e m => out e (List.mem_filter.mp m).1) t
  have scale (t : State) : t.Sets runIds (t.applyLossScale (s.due apStep)) := by
    unfold State.applyLossScale
    dsimp only
    split
    · exact (State.sets_applyTogether _ out t ..).trans (State.sets_setObj _ (by decide) (by decide) _)
    · exact State.sets_applyTogether _ out t ..
  have still (t : State) : t.Sets runIds (t.applyStill (s.due apStep)) := State.sets_applyTogether _ out t ..
  have rest (t : State) : t.Sets runIds (((s.due apStep).filter (fun e => e.1 / 2 ^ 20 != Obj.expMax)).foldl
      (fun u e => u.applyStepWrite e.1 e.2) t) :=
    .foldl _ (fun e m u => u.sets_applyStepWrite (out e (List.mem_filter.mp m).1) e.2) t
  have adopted (t : State) : t.Sets runIds (t.adopt apStep) := State.sets_of_objs rfl rfl rfl rfl rfl rfl rfl
  have drew (t : State) : t.Sets runIds (t.drew 1) := State.sets_of_objs rfl rfl rfl rfl rfl rfl rfl
  have through := ((((taken.trans (first _)).trans (scale _)).trans (still _)).trans (rest _))
  unfold State.applyStep
  dsimp only
  split
  · exact ((((through.trans (State.sets_countClasses (by decide) _)).trans (State.sets_endStreaks _)).trans
      (State.sets_setObj _ (by decide) (by decide) _)).trans (drew _)).trans (adopted _)
  · exact (through.trans (State.sets_setObj _ (by decide) (by decide) _)).trans (adopted _)

end Sys2Proof.Machine
end

section
/-! SUPPORT. The controls of the dictionary that are bits of one word (R414): the write of one bit by a master, with whatever status
its action answers. -/

namespace Sys2Proof.Machine

/-! ## A command with a status -/

/-- The report of an access with its status (R433). -/
def State.answered (s : State) (m : MasterNo) (status : Nat) : State := if m.val = 0 then s.setMirror status else s

theorem State.MayWrite.command_status {s t : State} {m : MasterNo} {status : Nat} (h : s.MayWrite m) {id row : Nat}
    {data : List Byte} (w : (s.counted m).writeEntry m.val id row .whole data = (t, status)) :
    s.command m.val id row .whole data = t.answered m status := by
  unfold State.counted at w
  unfold State.command
  rw [if_neg (by simp [h.served])]
  split
  case isTrue zero =>
    rw [zero] at w
    unfold State.hostWrite State.answered
    dsimp only
    rw [State.hostUp_of_linkUp (h.linkUp zero), w, if_pos zero]
  case isFalse other =>
    rw [if_neg (h.addressed other), w, State.answered, if_neg other]

theorem State.onlyRows_answered {ch : Nat → Nat → Prop} (access : ∀ id row, id ∈ accessRows → ch id row) (s : State) (m : MasterNo)
    (status : Nat) : s.OnlyRows ch (s.answered m status) := by
  have set (v : Nat) : s.OnlyRows ch (s.setObj Obj.mirrorStatus 0 v) := .setObj (by decide) (access _ _ (by decide))
  unfold State.answered
  split
  · unfold State.setMirror
    dsimp only
    generalize status % 2 ^ 8 + _ = v
    split
    · exact set v
    · exact (set v).trans (.bump (by decide) (access _ _ (by decide)))
  · exact .refl ch s

theorem State.OnlyRows.sets {ch : Nat → Nat → Prop} {ids : List Nat} {s t : State} (h : s.OnlyRows ch t)
    (out : ∀ id row, ch id row → id ∉ ids) : s.Sets ids t := by
  obtain ⟨rest, rows, _⟩ := h
  refine ⟨State.RowsOnly.mono out rows, ?_, ?_, ?_, ?_, ?_⟩ <;> rw [rest]

theorem State.sets_answered {ids : List Nat} (out : ∀ id ∈ accessRows, id ∉ ids) (s : State) (m : MasterNo) (status : Nat) :
    s.Sets ids (s.answered m status) :=
  (State.onlyRows_answered (ch := Machine.rowsOf accessRows) (fun _ _ => id) s m status).sets fun id _ h => out id h

theorem State.sets_counted {ids : List Nat} (out : ∀ id ∈ accessRows, id ∉ ids) (s : State) (m : MasterNo) :
    s.Sets ids (s.counted m) :=
  (State.OnlyRows.counted (ch := Machine.rowsOf accessRows) fun _ _ => id).sets fun id _ h => out id h

/-! ## One bit of a control written -/

/-- A word of control bits: no other path of the dictionary takes its write, and any value may be written. -/
def Control (id : Nat) : Prop :=
  id ≠ Obj.dictWindowCtl ∧ id ≠ Obj.dictLock ∧ id ≠ Obj.debugToken ∧ isMirror id = false ∧ Unbounded id ∧
    (objInfo? id).any (fun o => o.access == 1 && o.rows == 1 && o.rowBytes == 4) = true

theorem control_load : Control Obj.loadControl := by
  unfold Control Unbounded
  decide +kernel

theorem control_step : Control Obj.stepControl := by
  unfold Control Unbounded
  decide +kernel

theorem Control.writeEntry {s : State} {id : Nat} (ctl : Control id) (whole : s.sec.recovery = false)
    (free : s.dict.lockOwner = none) (m : Nat) {v : Nat} (small : v < 2 ^ 32) :
    s.writeEntry m id 0 .whole (leBytes 4 v) = s.applyRow id 0 v := by
  obtain ⟨window, lock, token, mirror, unbounded, found⟩ := ctl
  obtain ⟨listed, shape⟩ := (Option.any_eq_true_iff_get ..).mp found
  have info := (Option.some_get listed).symm
  generalize (objInfo? id).get listed = o at info shape
  simp only [Bool.and_eq_true, beq_iff_eq] at shape
  obtain ⟨⟨access, rows⟩, bytes⟩ := shape
  have named : o.id = id := objInfo?_id info
  have value : leNat (leBytes 4 v) = v := (leNat_leBytes ..).trans (Nat.mod_eq_of_lt small)
  have served : s.notServed id = false := by
    rw [State.notServed, whole, Bool.false_and]
  have vals : rowVals o (leBytes 4 v) = [v] := by
    unfold rowVals
    rw [bytes, length_leBytes, Nat.div_self (by decide), fields, fields, value, Nat.mod_eq_of_lt small]
  have judged : s.valueBad id v = false := State.valueBad_unbounded unbounded s v
  have applied : s.applyWrite o 0 (leBytes 4 v) = s.applyRow id 0 v := by
    unfold State.applyWrite
    rw [named, if_neg token, vals]
  have written : s.writeRows m o 0 (leBytes 4 v) = s.applyRow id 0 v := by
    unfold State.writeRows
    dsimp only
    rw [vals, if_neg (by simp [bytes, rows]), named, if_neg (by simp [judged]), if_neg lock, if_neg (by simp [mirror]), free,
      if_neg nofun, if_neg (by simp), applied]
  unfold State.writeEntry State.writePlain
  rw [if_neg fun h => window h.1, info]
  dsimp only
  rw [served, if_neg Bool.false_ne_true, if_neg (by simp [leBytes]), if_neg (by omega), if_neg (by omega), written]

/-- R414: one bit of a control written by a master is its action, counted and reported. -/
theorem State.MayWrite.control_bit {s t : State} {m : MasterNo} (h : s.MayWrite m) {id bit status : Nat} (ctl : Control id)
    (small : 2 ^ bit + 2 ^ (16 + bit) < 2 ^ 32)
    (applied : (s.counted m).applyRow id 0 (2 ^ bit + 2 ^ (16 + bit)) = (t, status)) : s.control m.val id bit = t.answered m status :=
  h.command_status ((ctl.writeEntry (s := s.counted m) h.whole h.free m.val small).trans applied)

end Sys2Proof.Machine
end

section
/-! SUPPORT. Programs loaded, restarted and unloaded, RUN and STOP_AT_BOUNDARY (R276, R314, R362, R399 to R406, R438), and the
statement about them (O55). -/

namespace Sys2Proof.Machine

/-! ## The bits of LOAD_CONTROL -/

theorem State.applyRow_loadControl (s : State) (v : Nat) :
    s.applyRow Obj.loadControl 0 v = runActs (ctlActs v) 0 [State.load, State.restart, State.unload] s := by
  have access : ((objInfo? Obj.loadControl).map (·.access)).getD 0 ≠ 3 := by decide +kernel
  unfold State.applyRow
  rw [if_neg access, if_neg (by decide), if_pos rfl]

theorem runActs_done (acts i : Nat) (f : State → State × Nat) (fs : List (State → State × Nat)) (s : State)
    (here : bitAt acts i = true) (others : ∀ t, runActs acts (i + 1) fs t = (t, stOk)) : runActs acts i (f :: fs) s = f s := by
  rw [runActs, if_pos here]
  dsimp only
  rw [others]
  split
  next ok => rw [← ok]
  next => rfl

theorem runActs_skip {acts i : Nat} (idle : bitAt acts i = false) (f : State → State × Nat) (fs : List (State → State × Nat))
    (s : State) : runActs acts i (f :: fs) s = runActs acts (i + 1) fs s := by
  rw [runActs, idle, if_neg Bool.false_ne_true]

theorem State.applyRow_load (s : State) : s.applyRow Obj.loadControl 0 (2 ^ 0 + 2 ^ (16 + 0)) = s.load := by
  rw [State.applyRow_loadControl]
  exact runActs_done _ 0 _ _ s (by decide) fun t => rfl

theorem State.applyRow_restart (s : State) : s.applyRow Obj.loadControl 0 (2 ^ 1 + 2 ^ (16 + 1)) = s.restart := by
  rw [State.applyRow_loadControl, runActs_skip (by decide)]
  exact runActs_done _ 1 _ _ s (by decide) fun t => rfl

theorem State.applyRow_unload (s : State) : s.applyRow Obj.loadControl 0 (2 ^ 2 + 2 ^ (16 + 2)) = s.unload := by
  rw [State.applyRow_loadControl, runActs_skip (by decide), runActs_skip (by decide)]
  exact runActs_done _ 2 _ _ s (by decide) fun t => rfl

section Commands

variable {s t : State} {m : MasterNo} {status : Nat} (h : s.MayWrite m)
include h

theorem State.MayWrite.exec_imageLoad (run : (s.counted m).load = (t, status)) :
    exec (.imageLoad m) s = .next (t.answered m status) :=
  congrArg Host.Outcome.next (h.control_bit control_load (by decide) ((State.applyRow_load _).trans run))

theorem State.MayWrite.exec_restart (run : (s.counted m).restart = (t, status)) :
    exec (.restart m) s = .next (t.answered m status) :=
  congrArg Host.Outcome.next (h.control_bit control_load (by decide) ((State.applyRow_restart _).trans run))

theorem State.MayWrite.exec_unload (run : (s.counted m).unload = (t, status)) :
    exec (.unload m) s = .next (t.answered m status) :=
  congrArg Host.Outcome.next (h.control_bit control_load (by decide) ((State.applyRow_unload _).trans run))

end Commands

/-! ## Refusals -/

/-- R406: LOAD_STATUS holds the refusal, and nothing else moved but what an access moves. -/
theorem State.refused_spec (s : State) (m : MasterNo) (c k status : Nat) :
    (((s.counted m).refuseLoad c k).answered m status).obj Obj.loadStatus 0 = 5 + k % 2 ^ 12 * 2 ^ 12 + c * 2 ^ 24 ∧
      s.OnlyRows (Machine.rowsOf (Obj.loadStatus :: accessRows)) (((s.counted m).refuseLoad c k).answered m status) := by
  have answered := State.sets_answered (ids := [Obj.loadStatus]) (by decide) ((s.counted m).refuseLoad c k) m status
  refine ⟨(answered.obj (by decide) (by decide)).trans (State.obj_setObj_self ..), ?_⟩
  exact ((State.OnlyRows.counted fun _ _ access => List.mem_cons_of_mem _ access).trans
    (.setObj (by decide) List.mem_cons_self)).trans (State.onlyRows_answered (fun _ _ access => List.mem_cons_of_mem _ access) ..)

/-- The state and the phase of the module as an access is counted. -/
theorem State.mode_counted (s : State) (m : MasterNo) : (s.counted m).mode = s.mode ∧ (s.counted m).stepping = s.stepping := by
  have mode : (s.counted m).mode = s.mode := s.obj_counted_ne m (by decide) (by decide)
  have phase : (s.counted m).phase = s.phase := State.phase_of_obj (s.obj_counted_ne m (by decide) (by decide))
  exact ⟨mode, by unfold State.stepping; rw [phase]⟩

theorem State.loadable_counted (s : State) (m : MasterNo) : (s.counted m).loadable = s.loadable := by
  obtain ⟨mode, stepping⟩ := s.mode_counted m
  unfold State.loadable
  rw [mode, stepping]

/-! ## The image's records -/

theorem access_above : ∀ o ∈ objTable, o.access = 1 ∨ o.access = 3 → Obj.moduleState < o.id := by decide +kernel

theorem State.initCause_none {s : State} {r : List Byte × List Byte} (h : s.initCause r = none) :
    Obj.moduleState < (initOf r).1 := by
  unfold State.initCause at h
  dsimp only at h
  split at h
  · exact absurd h nofun
  next o info =>
    split at h
    · exact absurd h nofun
    next kept =>
      rw [← objInfo?_id info]
      refine access_above o (List.mem_of_find?_eq_some info) ?_
      by_contra other
      exact kept (.inl (not_or.mp other))

theorem firstCause_none {l : List Cause} (h : firstCause l = none) : ∀ c ∈ l, c = none := by
  unfold firstCause at h
  exact List.findSome?_eq_none_iff.mp h

/-- Every record of OBJECT_INIT in a checked image names an object that may be written (R403 step 6). -/
theorem State.initRecords_above {s : State} {i : Img} (h : s.checkContents i = none) :
    ∀ r ∈ (initRecords (i.bytes scInit 0)).1, Obj.moduleState < (initOf r).1 := by
  cases found : i.sect? scInit 0 with
  | none =>
    have empty : i.bytes scInit 0 = [] := by
      unfold Img.bytes
      rw [found]
      rfl
    rw [empty]
    exact fun r m => absurd m List.not_mem_nil
  | some e =>
    have typ : e.2.typ = scInit := by
      have named := List.find?_some found
      simp only [Bool.and_eq_true, beq_iff_eq] at named
      exact named.1
    obtain ⟨k, inside, at_⟩ := List.mem_mapIdx.mp (List.mem_of_find?_eq_some found)
    have named : i.sects[k].typ = scInit := by
      rw [← typ, ← at_]
    have clear := firstCause_none h ((((s.laidOut i).sectCause i i.sects[k].typ i.sects[k].idx)).map (fun c => (c, k)))
      (List.mem_append_left _ (List.mem_append_left _ (List.mem_mapIdx.mpr ⟨k, inside, rfl⟩)))
    rw [named, Option.map_eq_none_iff] at clear
    intro r m
    have judged : (initRecords (i.bytes scInit 0)).1.findSome? (s.laidOut i).initCause = none := clear
    exact State.initCause_none (List.findSome?_eq_none_iff.mp judged r m)

theorem State.checked_of_judge {s : State} {m : Mem} {i : Img} (h : s.judge m = .inr i) : s.checkContents i = none := by
  unfold State.judge at h
  dsimp only at h
  split at h
  · exact absurd h nofun
  split at h
  · exact absurd h nofun
  split at h
  · exact absurd h nofun
  split at h
  · exact absurd h nofun
  split at h
  · exact absurd h nofun
  split at h
  · exact absurd h nofun
  next checked => exact Sum.inr.inj h ▸ checked

/-! ## The program placed -/

theorem State.obj_of_objs {s t : State} (objs : t.objs = s.objs) (copies : t.dict.copies = s.dict.copies) (id row : Nat) :
    t.obj id row = s.obj id row := by
  unfold State.obj State.voteFailed State.raw
  rw [objs, copies]

/-- Rows of some objects dropped leave those of the others. -/
theorem State.sets_filterObjs {ids : List Nat} (s : State) (p : Nat → Bool)
    (kept : ∀ id ∈ ids, ∀ row, row < 2 ^ 20 → p (objKey id row) = true) :
    s.Sets ids { s with objs := s.objs.filter (fun e => p e.1) } := by
  refine ⟨fun id row hr m => ?_, rfl, rfl, rfl, rfl, rfl⟩
  have found : tget (s.objs.filter (fun e => p e.1)) (objKey id row) = tget s.objs (objKey id row) := by
    rw [tget_filter_key, if_pos (kept id (not_not.mp m) row hr)]
  unfold State.obj State.voteFailed State.raw
  dsimp only
  rw [found]

theorem objKey_div {id row : Nat} (hr : row < 2 ^ 20) : objKey id row / 2 ^ 20 = id := by
  unfold objKey
  omega

theorem State.sets_clearRows {ids : List Nat} {id : Nat} (out : id ∉ ids) (s : State) : s.Sets ids (s.clearRows id) := by
  refine s.sets_filterObjs (fun k => k / 2 ^ 20 != id) fun i m row hr => ?_
  rw [objKey_div hr, bne_iff_ne]
  rintro rfl
  exact out m

theorem State.sets_putTiers {ids : List Nat} (s : State) (i : Img) : s.Sets ids (s.putTiers i) := by
  refine .foldl _ (fun e _ t => ?_) s
  dsimp only
  split
  · exact (t.onlyTiers_tierWrite ..).sets
  · split
    · exact (State.onlyTiers_foldl (fun u _ => u.onlyTiers_tierWrite ..) _ t).sets
    · exact .refl ..

theorem State.sets_withSlow {ids : List Nat} (s : State) (m : Mem) : s.Sets ids { s with slow := m } :=
  State.sets_of_objs rfl rfl rfl rfl rfl rfl rfl

theorem State.sets_resetSlots {ids : List Nat} (s : State) : s.Sets ids s.resetSlots := by
  unfold State.resetSlots
  generalize leBytes 256 1 = reset
  exact .foldl _ (fun _ _ t => t.sets_withSlow _) s

/-- Every spindle as an image places it (R404 step 2). -/
def Img.wafer (i : Img) (seed : Nat) : SMap Spindle := (List.range 9216).map (fun r => (r, i.spindle r seed))

/-- A state with these tables and spindles. -/
def State.withTables (s : State) (p : Prog) (m : SMap Spindle) : State := { s with prog := p, spindles := m }

theorem State.rest_withTables (s : State) (p : Prog) (m : SMap Spindle) : (s.withTables p m).spindles = m ∧
    (s.withTables p m).prog = p ∧ (s.withTables p m).mode = s.mode := ⟨rfl, rfl, rfl⟩

/-- The state with an image's tables and spindles. -/
def State.withImage (s : State) (i : Img) : State := s.withTables i.prog (i.wafer (s.free + 1))

theorem State.rest_withImage (s : State) (i : Img) : (s.withImage i).spindles = i.wafer (s.free + 1) ∧
    (s.withImage i).prog = i.prog ∧ (s.withImage i).mode = s.mode := s.rest_withTables ..

/-- The wafer and the tiers of a load, from the tables and spindles placed (R404 steps 3 to 6). -/
def State.tiersPlaced (s : State) (i : Img) : State :=
  ((((s.drew 1).loadBolts i).putTiers i).clearRows Obj.journalSlot).resetSlots

theorem State.sets_tiersPlaced (s : State) (i : Img) : s.Sets [Obj.moduleState] (s.tiersPlaced i) := by
  have drew : s.Sets [Obj.moduleState] (s.drew 1) := State.sets_of_objs rfl rfl rfl rfl rfl rfl rfl
  have bolts (t : State) : t.Sets [Obj.moduleState] (t.loadBolts i) := State.sets_of_objs rfl rfl rfl rfl rfl rfl rfl
  exact (((drew.trans (bolts _)).trans (State.sets_putTiers _ i)).trans (State.sets_clearRows (by decide) _)).trans
    (State.sets_resetSlots _)

theorem State.sets_resetAtLoad (s : State) : s.Sets [Obj.moduleState] s.resetAtLoad := by
  have kept := s.sets_filterObjs (ids := [Obj.moduleState])
    (fun k => !((objInfo? (k / 2 ^ 20)).map (·.loadReset)).getD false) fun id m row hr => by
      rw [objKey_div hr, List.mem_singleton.mp m]
      decide +kernel
  exact kept.trans (State.sets_of_objs rfl rfl rfl rfl rfl rfl rfl)

theorem loadIds_fixed : ∀ o ∈ objTable, o.access = 3 → o.apply = apLoad → o.id ∉ [Obj.moduleState] := by decide +kernel

theorem State.sets_above {id : Nat} (above : Obj.moduleState < id) (s : State) (row v : Nat) :
    s.Sets [Obj.moduleState] (s.setObj id row v) :=
  s.sets_setObj_above (fun _ m => List.mem_singleton.mp m ▸ above) row v

theorem State.sets_putRows {id : Nat} (above : Obj.moduleState < id) (s : State) (rows : List (Nat × Nat)) :
    s.Sets [Obj.moduleState] (s.putRows id rows) := by
  have out : id ∉ [Obj.moduleState] := fun m => absurd (List.mem_singleton.mp m) above.ne'
  exact (State.sets_clearRows out s).trans (.foldl _ (fun _ _ t => t.sets_above above ..) _)

theorem State.sets_putLayout (s : State) (i : Img) : s.Sets [Obj.moduleState] (s.putLayout i) :=
  ((((((s.sets_putRows (by decide) _).trans (State.sets_putRows (by decide) _ _)).trans
    (State.sets_putRows (by decide) _ _)).trans (State.sets_putRows (by decide) _ _)).trans
    (State.sets_above (by decide) ..)).trans (State.sets_above (by decide) ..)).trans (State.sets_above (by decide) ..)

theorem State.sets_initObjects (s : State) {i : Img}
    (above : ∀ r ∈ (initRecords (i.bytes scInit 0)).1, Obj.moduleState < (initOf r).1) :
    s.Sets [Obj.moduleState] (s.initObjects i) := .foldl _ (fun r m t => t.sets_above (above r m) ..) s

theorem State.sets_withFaults {ids : List Nat} (s : State) (f : Faults) : s.Sets ids { s with faults := f } :=
  State.sets_of_objs rfl rfl rfl rfl rfl rfl rfl

theorem eq_of_ite_some {α : Type} {c d : Prop} [Decidable c] [Decidable d] {x y : α}
    (h : (if c then none else if d then none else some x) = some y) : x = y := by
  by_cases hc : c
  · simp [hc] at h
  · by_cases hd : d
    · simp [hc, hd] at h
    · simpa [hc, hd] using h

theorem State.sets_redirect {s t : State} {die k n : Nat} (h : s.redirect die k = some (t, n)) : s.Sets [Obj.moduleState] t := by
  have retired (map : Nat) : s.Sets [Obj.moduleState] (if die < 24 then s.setObj Obj.channelRetired die map
      else s.setField Obj.slowdevRetired 0 (4 * (die - 24)) 4 map) := by
    split
    · exact s.sets_above (by decide) ..
    · exact s.sets_above (by decide) ..
  unfold State.redirect at h
  have same := congrArg Prod.fst (eq_of_ite_some h)
  dsimp only at same
  rw [← same]
  exact (retired _).trans (State.sets_withFaults ..)

/-- A chain of steps that may each fail, from a state to one that differs in what each sets. -/
theorem State.sets_foldl_bind {ids : List Nat} {β : Type} {f : State → β → Option State}
    (each : ∀ {s t : State} {b : β}, f s b = some t → s.Sets ids t) :
    ∀ (bs : List β) {s t : State}, bs.foldl (fun (m : Option State) b => m.bind (fun u => f u b)) (some s) = some t → s.Sets ids t
  | [], s, t, h => Option.some.inj h ▸ .refl ids s
  | b :: bs, s, t, h => by
    rw [List.foldl_cons, Option.bind_some] at h
    cases step : f s b with
    | none =>
      have stuck : ∀ cs : List β, cs.foldl (fun (m : Option State) b => m.bind (fun u => f u b)) none = none := by
        intro cs
        induction cs with
        | nil => rfl
        | cons c cs ih => exact ih
      rw [step, stuck] at h
      exact absurd h nofun
    | some u =>
      rw [step] at h
      exact (each step).trans (State.sets_foldl_bind each bs h)

theorem State.sets_redirectDie {s t : State} {die : Nat} (h : s.redirectDie die = some t) : s.Sets [Obj.moduleState] t := by
  unfold State.redirectDie at h
  dsimp only at h
  split at h
  · exact Option.some.inj h ▸ .refl ..
  · have cleared : s.Sets [Obj.moduleState] (if die < 24 then s.setObj Obj.channelRetired die 0
        else s.setField Obj.slowdevRetired 0 (4 * (die - 24)) 4 0) := by
      split
      · exact s.sets_above (by decide) ..
      · exact s.sets_above (by decide) ..
    generalize (if die < 24 then s.setObj Obj.channelRetired die 0
        else s.setField Obj.slowdevRetired 0 (4 * (die - 24)) 4 0) = v at *
    have moved := State.sets_foldl_bind (ids := [Obj.moduleState]) (f := fun u k => (u.redirect die k).map (·.1))
      (fun {u v k} step => by
        obtain ⟨x, found, rfl⟩ := Option.map_eq_some_iff.mp step
        exact State.sets_redirect found) _ h
    exact (cleared.trans (State.sets_withFaults ..)).trans moved

theorem State.sets_redirectAll (s : State) : s.Sets [Obj.moduleState] (s.redirectAll.getD s) := by
  cases found : s.redirectAll with
  | none => exact .refl ..
  | some t => exact State.sets_foldl_bind State.sets_redirectDie _ found

/-- The objects of an accepted load, before the loss scale is written to the spindles. -/
def State.objectsPlaced (s : State) (i : Img) : State :=
  let t := s.resetAtLoad
  let u := ((((t.takeDue apLoad).setKeys (t.due apLoad)).putLayout i).initObjects i).adopt apLoad
  (u.redirectAll.getD u).countClasses

theorem State.sets_objectsPlaced (s : State) {i : Img}
    (above : ∀ r ∈ (initRecords (i.bytes scInit 0)).1, Obj.moduleState < (initOf r).1) :
    s.Sets [Obj.moduleState] (s.objectsPlaced i) := by
  have due : ∀ e ∈ s.resetAtLoad.due apLoad, e.1 / 2 ^ 20 ∉ [Obj.moduleState] :=
    fun e m => due_out loadIds_fixed (List.mem_filter.mp m).2
  have taken (t : State) : t.Sets [Obj.moduleState] (t.takeDue apLoad) := State.sets_of_objs rfl rfl rfl rfl rfl rfl rfl
  have adopted (t : State) : t.Sets [Obj.moduleState] (t.adopt apLoad) := State.sets_of_objs rfl rfl rfl rfl rfl rfl rfl
  exact ((((((s.sets_resetAtLoad.trans (taken _)).trans (State.sets_setKeys _ due _)).trans (State.sets_putLayout _ i)).trans
    (State.sets_initObjects _ above)).trans (adopted _)).trans (State.sets_redirectAll _)).trans
    (State.sets_countClasses (by decide) _)

/-! ## Spindles placed -/

/-- `x` differs from `y` in the lines of its store alone. -/
def Spindle.StoresAs (y x : Spindle) : Prop := ∃ lines, x = { y with store := { y.store with lines := lines } }

theorem State.storesAs_putScaleLine (s : State) (r : Nat) (x : Spindle) : x.StoresAs (s.putScaleLine r x) := by
  unfold State.putScaleLine
  dsimp only
  split
  · exact ⟨x.store.lines, rfl⟩
  · exact ⟨_, rfl⟩

/-- The spindles once the loss scale is written to them. -/
def State.scaledSpindles (s : State) : SMap Spindle :=
  if s.obj Obj.lsLine 0 = 0xFFFFFFFF then s.spindles
  else (List.range 9216).map (fun r => (r, s.putScaleLine r ((tget s.spindles r).getD {})))

theorem State.writeScaleLines_eq (s : State) : s.writeScaleLines = { s with spindles := s.scaledSpindles } := by
  unfold State.writeScaleLines State.scaledSpindles
  rw [apply_ite (fun m => ({ s with spindles := m } : State))]

/-- R292: the loss scale's line is all that changes in a spindle. -/
theorem State.storesAs_writeScaleLines (s : State) {r : Nat} (hr : r < 9216) {y : Spindle} (at_ : tget s.spindles r = some y) :
    ∃ x, tget s.writeScaleLines.spindles r = some x ∧ y.StoresAs x := by
  rw [State.writeScaleLines_eq]
  show ∃ x, tget s.scaledSpindles r = some x ∧ y.StoresAs x
  unfold State.scaledSpindles
  by_cases none_ : s.obj Obj.lsLine 0 = 0xFFFFFFFF
  · rw [if_pos none_]
    exact ⟨y, at_, y.store.lines, rfl⟩
  · rw [if_neg none_, tget_map_key _ (List.mem_range.mpr hr), at_]
    exact ⟨_, rfl, s.storesAs_putScaleLine r y⟩

/-! ## A load completed -/

/-- Identifiers and measurements of a load (R401, R476). -/
def State.identified (s : State) (i : Img) (digest : List Byte) : State :=
  let s := (s.setObj Obj.imageId 0 i.id_).setObj Obj.loadedId 0 (loadedId i.id_ s.patches)
  let key := if i.signed then leBytes 96 (signKey (leNat (i.bytes scSign 0))) else []
  let s := ((s.setObj Obj.measurement 4 0).setObj Obj.measurement 5 0).extend 4 (digest ++ key)
  s.extend 5 (s.patches.flatMap (leBytes 8))

/-- LOAD_TIME (R404 step 8). -/
def State.loadTimed (s : State) : State := (s.setObj Obj.loadTime 0 (Config.freeNat s.free % 2 ^ 64)).drew 1

/-- RUN, STEP_STATUS and LOAD_STATUS after a load, and its time (R404 step 8). -/
def State.loadNoted (s : State) : State :=
  (((s.setField Obj.stepControl 0 0 1 0).setObj Obj.stepStatus 0 0).setField Obj.loadStatus 0 0 4 4).loadTimed

/-- An image kept for restarts (R404 step 8). -/
def State.retaining (s : State) (staged : Mem) (n : Nat) : State :=
  { s with host := { s.host with retained := staged.filter (fun c => decide (c.1 < n)) } }

/-- The module LOADED where it waited for a program (R438). -/
def State.nowLoaded (s : State) : State := if s.mode = stReady ∨ s.mode = stStandby then s.setMode stLoaded 0 else s

theorem State.finishLoad_eq (s : State) (staged : Mem) (i : Img) (digest : List Byte) :
    s.finishLoad staged i digest = ((s.identified i digest).retaining staged i.total).loadNoted.fullGrid.nowLoaded := rfl

section Finish

variable {ids : List Nat} (s : State)

theorem State.sets_identified (out : ∀ id ∈ [Obj.loadedId, Obj.measurement], id ∉ ids) (i : Img) (digest : List Byte) :
    (s.setObj Obj.imageId 0 i.id_).Sets ids (s.identified i digest) := by
  have measured (t : State) {k : Nat} (hk : k < 2 ^ 20) (v : Nat) : t.Sets ids (t.setObj Obj.measurement k v) :=
    t.sets_setObj hk (out _ (by decide)) v
  have first (t : State) (v : Nat) : t.Sets ids (t.setObj Obj.loadedId 0 v) := t.sets_setObj (by decide) (out _ (by decide)) v
  exact ((((first _ _).trans (measured _ (by decide) _)).trans (measured _ (by decide) _)).trans (measured _ (by decide) _)).trans
    (measured _ (by decide) _)

theorem State.sets_retaining (staged : Mem) (n : Nat) : s.Sets ids (s.retaining staged n) :=
  State.sets_of_objs rfl rfl rfl rfl rfl rfl rfl

theorem State.sets_setField {id row : Nat} (hr : row < 2 ^ 20) (out : id ∉ ids) (lo w v : Nat) :
    s.Sets ids (s.setField id row lo w v) := s.sets_setObj hr out _

theorem State.sets_loadTimed (out : Obj.loadTime ∉ ids) : s.Sets ids s.loadTimed := by
  unfold State.loadTimed
  generalize Config.freeNat s.free % 2 ^ 64 = v
  exact (s.sets_setObj (by decide) out v).trans (State.sets_of_objs rfl rfl rfl rfl rfl rfl rfl)

theorem State.sets_loadNoted (out : ∀ id ∈ [Obj.stepControl, Obj.stepStatus, Obj.loadStatus, Obj.loadTime], id ∉ ids) :
    s.Sets ids s.loadNoted :=
  (((s.sets_setField (by decide) (out _ (by decide)) 0 1 0).trans
    (State.sets_setObj _ (row := 0) (by decide) (out Obj.stepStatus (by decide)) 0)).trans
    (State.sets_setField _ (row := 0) (by decide) (out Obj.loadStatus (by decide)) 0 4 4)).trans
    (State.sets_loadTimed _ (out _ (by decide)))

theorem State.obj_setMembership {id row : Nat} (hr : row < 2 ^ 20) (other : Obj.membership ≠ id) (live epoch : Nat) :
    (s.setMembership live epoch).obj id row = s.obj id row := by
  unfold State.setMembership
  exact State.obj_setObj_ne (objKey_ne_of_id (by decide) hr other)

/-- A state with these links. -/
def State.withLink (s : State) (l : Link) : State := { s with link := l }

theorem State.obj_withLink (l : Link) (id row : Nat) : (s.withLink l).obj id row = s.obj id row := rfl

theorem State.rest_withLink (l : Link) : (s.withLink l).prog = s.prog ∧ (s.withLink l).spindles = s.spindles ∧
    (s.withLink l).host = s.host := ⟨rfl, rfl, rfl⟩

theorem State.rest_setMembership (live epoch : Nat) : (s.setMembership live epoch).prog = s.prog ∧
    (s.setMembership live epoch).spindles = s.spindles ∧ (s.setMembership live epoch).host = s.host := by
  unfold State.setMembership
  exact ⟨State.setObj_prog .., State.setObj_spindles .., State.setObj_host ..⟩

theorem State.fullGrid_eq : ∃ l, s.fullGrid = (s.setMembership (2 ^ s.gridP - 1) 0).withLink l := by
  unfold State.fullGrid
  generalize s.setMembership (2 ^ s.gridP - 1) 0 = t
  exact ⟨_, rfl⟩

theorem bits_membership_epoch (members live : Nat) :
    bits (members % 2 ^ 11 + 0 % 2 ^ 16 * 2 ^ 16 + live % 2 ^ 32 * 2 ^ 32) 16 16 = 0 := by
  unfold bits
  rw [Nat.shiftRight_eq_div_pow]
  omega

/-- R314: the grid after LOAD is the full one under epoch 0. -/
theorem State.fullGrid_spec : s.fullGrid.prog = s.prog ∧ s.fullGrid.spindles = s.spindles ∧ s.fullGrid.host = s.host ∧
    s.fullGrid.epoch = 0 ∧ ∀ id row, row < 2 ^ 20 → Obj.membership ≠ id → s.fullGrid.obj id row = s.obj id row := by
  obtain ⟨l, eq⟩ := s.fullGrid_eq
  obtain ⟨prog, spindles, host⟩ := s.rest_setMembership (2 ^ s.gridP - 1) 0
  obtain ⟨linkProg, linkSpindles, linkHost⟩ := (s.setMembership (2 ^ s.gridP - 1) 0).rest_withLink l
  rw [eq]
  refine ⟨linkProg.trans prog, linkSpindles.trans spindles, linkHost.trans host, ?_, fun id row hr other => ?_⟩
  · unfold State.epoch State.field
    rw [State.obj_withLink, State.setMembership, State.obj_setObj_self]
    exact bits_membership_epoch ..
  · rw [State.obj_withLink]
    exact s.obj_setMembership hr other ..

theorem State.sets_setMode (out : ∀ id ∈ [Obj.moduleState, Obj.stateSince, Obj.stateCause], id ∉ ids) (m c : Nat) :
    s.Sets ids (s.setMode m c) :=
  ((s.sets_setObj (by decide) (out _ (by decide)) _).trans
    (State.sets_setObj _ (row := 0) (by decide) (out Obj.stateSince (by decide)) _)).trans
    (State.sets_setObj _ (row := 0) (by decide) (out Obj.stateCause (by decide)) _)

theorem State.sets_nowLoaded (out : ∀ id ∈ [Obj.moduleState, Obj.stateSince, Obj.stateCause], id ∉ ids) :
    s.Sets ids s.nowLoaded := by
  unfold State.nowLoaded
  split
  · exact s.sets_setMode out ..
  · exact .refl ..

theorem State.mode_nowLoaded : s.nowLoaded.mode = if s.mode = stReady ∨ s.mode = stStandby then stLoaded else s.mode := by
  unfold State.nowLoaded
  split
  · exact State.mode_setMode ..
  · rfl

theorem State.host_nowLoaded : s.nowLoaded.host = s.host := by
  unfold State.nowLoaded
  split <;> rfl

/-- R406, R276: what a completed load notes of itself. -/
theorem State.loadNoted_spec : s.loadNoted.field Obj.loadStatus 0 0 4 = 4 ∧ s.loadNoted.obj Obj.stepStatus 0 = 0 ∧
    bitAt (s.loadNoted.obj Obj.stepControl 0) 0 = false := by
  have timed (t : State) := t.sets_loadTimed (ids := [Obj.loadStatus, Obj.stepStatus, Obj.stepControl]) (by decide)
  have status := (timed (((s.setField Obj.stepControl 0 0 1 0).setObj Obj.stepStatus 0 0).setField Obj.loadStatus 0 0 4 4)).obj
    (id := Obj.loadStatus) (row := 0) (by decide) (by decide)
  have phase := (timed (((s.setField Obj.stepControl 0 0 1 0).setObj Obj.stepStatus 0 0).setField Obj.loadStatus 0 0 4 4)).obj
    (id := Obj.stepStatus) (row := 0) (by decide) (by decide)
  have control := (timed (((s.setField Obj.stepControl 0 0 1 0).setObj Obj.stepStatus 0 0).setField Obj.loadStatus 0 0 4 4)).obj
    (id := Obj.stepControl) (row := 0) (by decide) (by decide)
  unfold State.loadNoted
  refine ⟨?_, ?_, ?_⟩
  · unfold State.field
    rw [status, State.obj_setField_self, bits_setBits_self]
    exact Nat.mod_eq_of_lt (by decide)
  · rw [phase, State.obj_setField_ne (by decide), State.obj_setObj_self]
  · rw [control, State.obj_setField_ne (by decide), State.obj_setObj_ne (by decide), State.obj_setField_self]
    unfold bitAt
    rw [bits_setBits_self]
    rfl

/-- R401, R404 step 8, R438: what a completed load shows. -/
theorem State.finishLoad_spec (staged : Mem) (i : Img) (digest : List Byte) {t : State} (eq : s.finishLoad staged i digest = t) :
    t.prog = s.prog ∧ t.spindles = s.spindles ∧ t.host.retained = staged.filter (fun c => decide (c.1 < i.total)) ∧
      t.obj Obj.imageId 0 = i.id_ ∧ t.field Obj.loadStatus 0 0 4 = 4 ∧ t.phase = 0 ∧ bitAt (t.obj Obj.stepControl 0) 0 = false ∧
      t.epoch = 0 ∧ t.mode = (if s.mode = stReady ∨ s.mode = stStandby then stLoaded else s.mode) := by
  rw [State.finishLoad_eq] at eq
  have named := s.sets_identified (ids := [Obj.imageId, Obj.moduleState]) (by decide) i digest
  have kept := (s.identified i digest).sets_retaining (ids := [Obj.imageId, Obj.moduleState]) staged i.total
  have identified : ((s.identified i digest).retaining staged i.total).obj Obj.imageId 0 = i.id_ :=
    (kept.obj (by decide) (by decide)).trans ((named.obj (by decide) (by decide)).trans (State.obj_setObj_self ..))
  have mode : ((s.identified i digest).retaining staged i.total).mode = s.mode :=
    (kept.obj (by decide) (by decide)).trans ((named.obj (by decide) (by decide)).trans (State.obj_setObj_ne (by decide)))
  have prog := kept.prog.trans named.prog
  have spindles := kept.spindles.trans named.spindles
  have retained : ((s.identified i digest).retaining staged i.total).host.retained =
    staged.filter (fun c => decide (c.1 < i.total)) := rfl
  generalize (s.identified i digest).retaining staged i.total = u at *
  obtain ⟨status, phase, control⟩ := u.loadNoted_spec
  have noted := u.sets_loadNoted (ids := [Obj.imageId, Obj.moduleState]) (by decide)
  have host : u.loadNoted.host = u.host := rfl
  have image : u.loadNoted.obj Obj.imageId 0 = i.id_ := (noted.obj (by decide) (by decide)).trans identified
  have module_ : u.loadNoted.mode = s.mode := (noted.obj (by decide) (by decide)).trans mode
  have progs := noted.prog.trans prog
  have wafers := noted.spindles.trans spindles
  generalize u.loadNoted = v at *
  obtain ⟨gridProg, gridSpindles, gridHost, epoch, gridObj⟩ := v.fullGrid_spec
  have grid {id : Nat} (other : Obj.membership ≠ id) := gridObj id 0 (by decide) other
  have final := v.fullGrid.sets_nowLoaded
    (ids := [Obj.imageId, Obj.loadStatus, Obj.stepStatus, Obj.stepControl, Obj.membership]) (by decide)
  have gridMode : v.fullGrid.mode = s.mode := (grid (by decide)).trans module_
  subst eq
  refine ⟨final.prog.trans (gridProg.trans progs), final.spindles.trans (gridSpindles.trans wafers), ?_, ?_, ?_, ?_, ?_, ?_, ?_⟩
  · rw [State.host_nowLoaded, gridHost, host, retained]
  · exact (final.obj (by decide) (by decide)).trans ((grid (by decide)).trans image)
  · exact (congrArg (fun w => bits w 0 4) ((final.obj (by decide) (by decide)).trans (grid (by decide)))).trans status
  · exact (State.phase_of_obj ((final.obj (by decide) (by decide)).trans (grid (by decide)))).trans
      (congrArg (fun w => bits w 0 4) phase)
  · rw [final.obj (by decide) (by decide), grid (by decide)]
    exact control
  · exact (congrArg (fun w => bits w 16 16) (final.obj (by decide) (by decide))).trans epoch
  · rw [State.mode_nowLoaded, gridMode]

end Finish

/-! ## An accepted load -/

/-- The state in which an accepted image is placed (R404 step 1, R484). -/
def State.emptied (s : State) : State := if s.freshProgram.prog.loaded then s.freshProgram.clearMemories else s.freshProgram

theorem State.acceptLoad_eq (s : State) (i : Img) : s.acceptLoad i =
    ((((s.emptied.withImage i).tiersPlaced i).objectsPlaced i).writeScaleLines).finishLoad s.host.staging i
      ((readImg s.host.staging).fill s.host.staging).digest := rfl

theorem State.clearMemories_objs (s : State) : s.clearMemories.objs = s.objs ∧ s.clearMemories.dict = s.dict := by
  unfold State.clearMemories
  dsimp only
  generalize (List.range 9216).map _ = wiped
  split <;> split <;> split <;> split <;> exact ⟨rfl, rfl⟩

theorem State.obj_clearMemories (s : State) (id row : Nat) : s.clearMemories.obj id row = s.obj id row := by
  obtain ⟨objs, dict⟩ := s.clearMemories_objs
  exact State.obj_of_objs objs (congrArg Dict.copies dict) id row

theorem State.obj_freshProgram (s : State) (id row : Nat) : s.freshProgram.obj id row = s.obj id row := rfl

theorem State.mode_emptied (s : State) : s.emptied.mode = s.mode := by
  unfold State.emptied
  split
  · exact (State.obj_clearMemories ..).trans (s.obj_freshProgram ..)
  · exact s.obj_freshProgram ..

/-- A spindle as a load places it (R404 step 2). -/
theorem Img.spindle_spec {i : Img} {r : Nat} (present : bitAt i.absent r = false) (seed : Nat) : (i.spindle r seed).halted = true ∧
    (i.spindle r seed).pc = 0 ∧
    (i.spindle r seed).codeLines = (spEntry (i.bytes scBolt (boltPlace r).1) (boltPlace r).2).lines := by
  unfold Img.spindle
  rw [present, if_neg Bool.false_ne_true]
  exact ⟨rfl, rfl, rfl⟩

theorem State.rest_withSpindles (s : State) (m : SMap Spindle) :
    State.prog { s with spindles := m } = s.prog ∧ State.mode { s with spindles := m } = s.mode := ⟨rfl, rfl⟩

/-- R404: what an accepted load leaves. -/
theorem State.acceptLoad_spec (s : State) {i : Img} (checked : s.checkContents i = none) {t : State} (eq : s.acceptLoad i = t) :
    t.prog = i.prog ∧ t.host.retained = s.host.staging.filter (fun c => decide (c.1 < i.total)) ∧
      t.obj Obj.imageId 0 = i.id_ ∧ t.field Obj.loadStatus 0 0 4 = 4 ∧ t.phase = 0 ∧ bitAt (t.obj Obj.stepControl 0) 0 = false ∧
      t.epoch = 0 ∧ t.mode = (if s.mode = stReady ∨ s.mode = stStandby then stLoaded else s.mode) ∧
      ∀ r, r < 9216 → bitAt i.absent r = false → ∃ x, tget t.spindles r = some x ∧ x.halted = true ∧ x.pc = 0 ∧
        x.codeLines = (spEntry (i.bytes scBolt (boltPlace r).1) (boltPlace r).2).lines := by
  have placed := (State.sets_tiersPlaced (s.emptied.withImage i) i).trans
    (State.sets_objectsPlaced _ (State.initRecords_above checked))
  obtain ⟨wafer, tables, module_⟩ := s.emptied.rest_withImage i
  have spindles := placed.spindles.trans wafer
  have prog := placed.prog.trans tables
  have mode := (placed.obj (id := Obj.moduleState) (row := 0) (by decide) (by decide)).trans (module_.trans s.mode_emptied)
  rw [State.acceptLoad_eq] at eq
  generalize ((s.emptied.withImage i).tiersPlaced i).objectsPlaced i = u at *
  obtain ⟨finalProg, finalSpindles, retained, image, status, phase, run, epoch, finalMode⟩ := State.finishLoad_spec _ _ _ _ eq
  have scaled : u.writeScaleLines.prog = u.prog ∧ u.writeScaleLines.mode = u.mode := by
    rw [State.writeScaleLines_eq]
    exact u.rest_withSpindles _
  obtain ⟨waferProg, waferMode⟩ := scaled
  rw [waferMode, show u.mode = s.mode from mode] at finalMode
  refine ⟨finalProg.trans (waferProg.trans prog), retained, image, status, phase, run, epoch, finalMode, fun r hr present => ?_⟩
  have at_ : tget u.spindles r = some (i.spindle r (s.emptied.free + 1)) := by
    rw [spindles]
    exact tget_map_key _ (List.mem_range.mpr hr)
  obtain ⟨x, found, lines, same⟩ := u.storesAs_writeScaleLines hr at_
  obtain ⟨halted, pc, code⟩ := Img.spindle_spec present (s.emptied.free + 1)
  rw [finalSpindles]
  exact ⟨x, found, by rw [same]; exact halted, by rw [same]; exact pc, by rw [same]; exact code⟩

theorem memGet_filter_below {m : Mem} {n a : Nat} (below : a < n) : memGet (m.filter (fun c => decide (c.1 < n))) a = memGet m a := by
  unfold memGet
  rw [tget_filter_key (fun k => decide (k < n)), if_pos (decide_eq_true below)]

/-- The objects that a command's result is looked at for. -/
def loadIds : List Nat :=
  [Obj.imageId, Obj.loadedId, Obj.loadStatus, Obj.stepStatus, Obj.stepControl, Obj.membership, Obj.moduleState]

theorem State.host_answered (s : State) (m : MasterNo) (status : Nat) : (s.answered m status).host = s.host := by
  have rest := (State.onlyRows_answered (ch := Machine.rowsOf accessRows) (fun _ _ => id) s m status).1
  rw [rest]

theorem State.load_refused {s : State} {c k : Nat} (may : s.loadable = true) (judged : s.judge s.host.staging = .inl (c, k)) :
    s.load = (s.refuseLoad c k, stOk) := by
  unfold State.load
  rw [may, judged]
  rfl

theorem State.load_accepted {s : State} {i : Img} (may : s.loadable = true) (judged : s.judge s.host.staging = .inr i) :
    s.load = (s.acceptLoad i, stOk) := by
  unfold State.load
  rw [may, judged]
  rfl

section Load

variable {s : State} {m : MasterNo} (h : s.MayWrite m)
include h

/-- R403, R404, R405: LOAD and UNLOAD where the module may not load. -/
theorem notLoadable_refused (never : s.loadable = false) {i : Sys2Proof.Instr} (asked : i = .imageLoad m ∨ i = .unload m) :
    ∃ t, exec i s = .next t ∧ t.obj Obj.loadStatus 0 = 5 + 0x18 * 2 ^ 24 ∧
      s.OnlyRows (Machine.rowsOf (Obj.loadStatus :: accessRows)) t := by
  have may : (s.counted m).loadable = false := (s.loadable_counted m).trans never
  obtain ⟨status, rows⟩ := s.refused_spec m 0x18 0 stState
  rcases asked with rfl | rfl
  · refine ⟨_, h.exec_imageLoad (t := (s.counted m).refuseLoad 0x18 0) (status := stState) ?_, status, rows⟩
    unfold State.load
    rw [may]
    rfl
  · refine ⟨_, h.exec_unload (t := (s.counted m).refuseLoad 0x18 0) (status := stState) ?_, status, rows⟩
    unfold State.unload
    rw [may]
    rfl

/-- R404: an image that the judgement accepts is loaded. -/
theorem imageLoad_accepted {i : Img} (may : s.loadable = true)
    (judged : (s.counted m).judge (s.counted m).host.staging = .inr i) : ∃ t, exec (.imageLoad m) s = .next t ∧
      t.prog = i.prog ∧ t.obj Obj.imageId 0 = i.id_ ∧ t.field Obj.loadStatus 0 0 4 = 4 ∧ t.phase = 0 ∧
      bitAt (t.obj Obj.stepControl 0) 0 = false ∧ t.epoch = 0 ∧
      (∀ a, a < i.total → memGet t.host.retained a = memGet s.host.staging a) ∧
      (∀ r, r < 9216 → bitAt i.absent r = false → ∃ x, tget t.spindles r = some x ∧ x.halted = true ∧ x.pc = 0 ∧
        x.codeLines = (spEntry (i.bytes scBolt (boltPlace r).1) (boltPlace r).2).lines) ∧
      t.mode = (if s.mode = stReady ∨ s.mode = stStandby then stLoaded else s.mode) := by
  have loaded := State.load_accepted ((s.loadable_counted m).trans may) judged
  obtain ⟨mode, _⟩ := s.mode_counted m
  generalize eq : (s.counted m).acceptLoad i = t at loaded
  obtain ⟨prog, retained, image, status, phase, run, epoch, finalMode, spindles⟩ :=
    State.acceptLoad_spec _ (State.checked_of_judge judged) eq
  have answered := State.sets_answered (ids := loadIds) (by decide) t m stOk
  refine ⟨_, h.exec_imageLoad loaded, answered.prog.trans prog, (answered.obj (by decide) (by decide)).trans image, ?_, ?_, ?_, ?_,
    fun a below => ?_, ?_, ?_⟩
  · unfold State.field
    rw [answered.obj (by decide) (by decide)]
    exact status
  · exact (State.phase_of_obj (answered.obj (by decide) (by decide))).trans phase
  · rw [answered.obj (by decide) (by decide)]
    exact run
  · exact (congrArg (fun w => bits w 16 16) (answered.obj (by decide) (by decide))).trans epoch
  · rw [State.host_answered, retained]
    exact memGet_filter_below below
  · rw [answered.spindles]
    exact spindles
  · rw [← mode]
    exact (answered.obj (by decide) (by decide)).trans finalMode

end Load

/-! ## RESTART -/

/-- `t` has of `s` the tables, the host's stores and every object. -/
structure State.Rewrites (s t : State) : Prop where
  prog : t.prog = s.prog
  host : t.host = s.host
  objs : t.objs = s.objs
  dict : t.dict = s.dict

theorem State.Rewrites.refl (s : State) : s.Rewrites s := ⟨rfl, rfl, rfl, rfl⟩

theorem State.Rewrites.trans {s t u : State} (h : s.Rewrites t) (k : t.Rewrites u) : s.Rewrites u :=
  ⟨k.prog.trans h.prog, k.host.trans h.host, k.objs.trans h.objs, k.dict.trans h.dict⟩

theorem State.Rewrites.obj {s t : State} (h : s.Rewrites t) (id row : Nat) : t.obj id row = s.obj id row :=
  State.obj_of_objs h.objs (congrArg Dict.copies h.dict) id row

theorem State.rewrites_withSpindles (s : State) (m : SMap Spindle) : s.Rewrites { s with spindles := m } := ⟨rfl, rfl, rfl, rfl⟩

theorem State.rewrites_writeScaleLines (s : State) : s.Rewrites s.writeScaleLines := by
  rw [State.writeScaleLines_eq]
  exact s.rewrites_withSpindles _

/-- One spindle rewritten from an image (R362). -/
def State.rewriteRow (i : Img) (t : State) (r : Nat) : State :=
  if t.isAbsent r then t
  else { t with spindles := tput t.spindles r (((tget t.spindles r).getD {}).rewritten i r ((tget t.spindles r).getD {}).store) }

theorem State.rewrite_eq (s : State) (rows : List Nat) :
    s.rewrite rows = (rows.foldl (State.rewriteRow s.retainedImg) s).loadBolts s.retainedImg := rfl

/-- A row's spindle has the code region an image gives it. -/
def State.Coded (i : Img) (r : Nat) (t : State) : Prop :=
  ∃ x, tget t.spindles r = some x ∧ x.codeLines = (spEntry (i.bytes scBolt (boltPlace r).1) (boltPlace r).2).lines

section RewriteRow

variable (i : Img) (t : State) (r : Nat)

theorem State.rewrites_rewriteRow : t.Rewrites (State.rewriteRow i t r) := by
  unfold State.rewriteRow
  split
  · exact .refl t
  · exact t.rewrites_withSpindles _

theorem State.coded_rewriteRow (present : t.isAbsent r = false) : State.Coded i r (State.rewriteRow i t r) := by
  unfold State.rewriteRow
  rw [present, if_neg Bool.false_ne_true]
  exact ⟨_, tget_tput_self .., rfl⟩

theorem State.Coded.rewriteRow {i : Img} {t : State} {k : Nat} (h : State.Coded i k t) : State.Coded i k (State.rewriteRow i t r) := by
  obtain ⟨x, found, code⟩ := h
  unfold State.rewriteRow
  split
  · exact ⟨x, found, code⟩
  · by_cases same : r = k
    · subst same
      exact ⟨_, tget_tput_self .., rfl⟩
    · exact ⟨x, (tget_tput_ne same ..).trans found, code⟩

end RewriteRow

theorem State.foldl_rewriteRow (i : Img) : ∀ (rows : List Nat) (s : State), s.Rewrites (rows.foldl (State.rewriteRow i) s) ∧
    (∀ k, State.Coded i k s → State.Coded i k (rows.foldl (State.rewriteRow i) s)) ∧
    ∀ k ∈ rows, s.isAbsent k = false → State.Coded i k (rows.foldl (State.rewriteRow i) s)
  | [], s => ⟨.refl s, fun _ => id, fun _ m => absurd m List.not_mem_nil⟩
  | r :: rows, s => by
    have first := State.rewrites_rewriteRow i s r
    obtain ⟨rest, kept, coded⟩ := State.foldl_rewriteRow i rows (State.rewriteRow i s r)
    refine ⟨first.trans rest, fun k h => kept k (h.rewriteRow r), fun k m present => ?_⟩
    rcases List.mem_cons.mp m with rfl | m
    · exact kept k (State.coded_rewriteRow i s k present)
    · refine coded k m ?_
      unfold State.isAbsent
      rw [first.prog]
      exact present

/-- A spindle as at the start of a replay (R362). -/
structure Spindle.Renewed (x : Spindle) : Prop where
  halted : x.halted = true
  pc : x.pc = 0
  loops : x.loops = []
  accs : x.accs = List.replicate 8 zeroAcc
  bufs : ∀ e ∈ x.bufs, e.2.gen = 0

theorem Spindle.renewed_spec (x : Spindle) (seed : Nat) : (x.renewed seed).Renewed where
  halted := rfl
  pc := rfl
  loops := rfl
  accs := by
    unfold Spindle.renewed zeroAcc
    rfl
  bufs e m := by
    obtain ⟨b, _, rfl⟩ := List.mem_map.mp m
    rfl

theorem State.rewrites_renew (s : State) : s.Rewrites s.renew := ⟨rfl, rfl, rfl, rfl⟩

theorem State.Coded.renew {i : Img} {r : Nat} {s : State} (h : State.Coded i r s) : ∃ x, tget s.renew.spindles r = some x ∧ x.Renewed ∧
    x.codeLines = (spEntry (i.bytes scBolt (boltPlace r).1) (boltPlace r).2).lines := by
  obtain ⟨x, found, code⟩ := h
  have look : tget s.renew.spindles r = (tget s.spindles r).map (fun x => x.renewed (s.free + 1)) :=
    tget_map_snd (fun x : Spindle => x.renewed (s.free + 1)) r s.spindles
  rw [found] at look
  exact ⟨_, look, x.renewed_spec _, code⟩

/-- A bolt controller with its decision table clear (R136). -/
def Bolt.cleared (x : Bolt) : Bolt := { x with decTable := [] }

theorem State.decTable_renew (s : State) (b : Nat) : (s.renew.bolt b).decTable = [] := by
  have look : tget s.renew.bolts b = (tget s.bolts b).map Bolt.cleared :=
    tget_map_snd Bolt.cleared b s.bolts
  unfold State.bolt
  rw [look]
  cases tget s.bolts b <;> rfl

/-- R362, R405: every logical spindle and bolt as at the start of a replay, its code from the retained copy. -/
def State.restarted (s : State) : State := (s.rewrite (List.range 9216)).renew.writeScaleLines

theorem State.restarted_spec (s : State) : s.Rewrites s.restarted ∧
    (∀ r, r < 9216 → s.isAbsent r = false → ∃ x, tget s.restarted.spindles r = some x ∧ x.halted = true ∧ x.pc = 0 ∧
      x.loops = [] ∧ x.accs = List.replicate 8 zeroAcc ∧ (∀ e ∈ x.bufs, e.2.gen = 0) ∧
      x.codeLines = (spEntry (s.retainedImg.bytes scBolt (boltPlace r).1) (boltPlace r).2).lines) ∧
    ∀ b, (s.restarted.bolt b).decTable = [] := by
  obtain ⟨rows, _, coded⟩ := State.foldl_rewriteRow s.retainedImg (List.range 9216) s
  have bolts (t : State) : t.Rewrites (t.loadBolts s.retainedImg) := ⟨rfl, rfl, rfl, rfl⟩
  have spindles (t : State) (r : Nat) (h : State.Coded s.retainedImg r t) :
      State.Coded s.retainedImg r (t.loadBolts s.retainedImg) := h
  unfold State.restarted
  rw [State.rewrite_eq]
  generalize (List.range 9216).foldl (State.rewriteRow s.retainedImg) s = t at *
  refine ⟨((rows.trans (bolts t)).trans (State.rewrites_renew _)).trans (State.rewrites_writeScaleLines _), fun r hr present => ?_,
    fun b => ?_⟩
  · obtain ⟨y, found, renewed, code⟩ := (spindles t r (coded r (List.mem_range.mpr hr) present)).renew
    obtain ⟨x, final, lines, same⟩ := State.storesAs_writeScaleLines _ hr found
    subst same
    exact ⟨_, final, renewed.halted, renewed.pc, renewed.loops, renewed.accs, renewed.bufs, code⟩
  · have kept : (t.loadBolts s.retainedImg).renew.writeScaleLines.bolts = (t.loadBolts s.retainedImg).renew.bolts := by
      rw [State.writeScaleLines_eq]
    unfold State.bolt
    rw [kept]
    exact State.decTable_renew ..

/-- A state whose program may run again (R173, R405). -/
def State.unhalted (s : State) : State := { s with prog := { s.prog with halted173 := false } }

theorem State.restart_eq (s : State) : s.restart =
    if s.mode = stLoaded ∨ (s.mode = stRun ∧ !s.stepping) then (s.restarted.unhalted, stOk) else (s.refuseLoad 0x18 0, stState) := by
  unfold State.restart State.restarted
  generalize (s.rewrite (List.range 9216)).renew.writeScaleLines = t
  rfl

theorem State.rest_counted (s : State) (m : MasterNo) : (s.counted m).prog = s.prog ∧ (s.counted m).host = s.host := by
  unfold State.counted State.bump
  exact ⟨State.setObj_prog .., State.setObj_host ..⟩

theorem State.rest_unhalted (s : State) : s.unhalted.prog = { s.prog with halted173 := false } ∧ s.unhalted.host = s.host ∧
    s.unhalted.spindles = s.spindles ∧ s.unhalted.mode = s.mode := ⟨rfl, rfl, rfl, rfl⟩

theorem State.bolt_unhalted (s : State) (b : Nat) : s.unhalted.bolt b = s.bolt b := rfl

theorem State.bolt_answered (s : State) (m : MasterNo) (status b : Nat) : (s.answered m status).bolt b = s.bolt b := by
  have rest := (State.onlyRows_answered (ch := Machine.rowsOf accessRows) (fun _ _ => id) s m status).1
  unfold State.bolt
  rw [rest]

theorem State.retainedImg_counted (s : State) (m : MasterNo) : (s.counted m).retainedImg = s.retainedImg := by
  have used (row : Nat) : (s.counted m).used Obj.patchValues row = s.used Obj.patchValues row := rfl
  obtain ⟨_, host⟩ := s.rest_counted m
  unfold State.retainedImg
  rw [host, funext used]

section Restart

variable {s : State} {m : MasterNo} (h : s.MayWrite m)
include h

/-- R405: RESTART refused. -/
theorem restart_refused (never : ¬(s.mode = stLoaded ∨ (s.mode = stRun ∧ s.stepping = false))) :
    ∃ t, exec (.restart m) s = .next t ∧ t.obj Obj.loadStatus 0 = 5 + 0x18 * 2 ^ 24 ∧
      s.OnlyRows (Machine.rowsOf (Obj.loadStatus :: accessRows)) t := by
  obtain ⟨mode, stepping⟩ := s.mode_counted m
  obtain ⟨status, rows⟩ := s.refused_spec m 0x18 0 stState
  refine ⟨_, h.exec_restart (t := (s.counted m).refuseLoad 0x18 0) (status := stState) ?_, status, rows⟩
  rw [State.restart_eq, mode, stepping, if_neg (by simpa using never)]

/-- R362, R405: RESTART done. -/
theorem restart_done (may : s.mode = stLoaded ∨ (s.mode = stRun ∧ s.stepping = false)) :
    ∃ t, exec (.restart m) s = .next t ∧ t.prog = { s.prog with halted173 := false } ∧ t.mode = s.mode ∧
      t.host.staging = s.host.staging ∧
      (∀ r, r < 9216 → s.isAbsent r = false → ∃ x, tget t.spindles r = some x ∧ x.halted = true ∧ x.pc = 0 ∧
        x.loops = [] ∧ x.accs = List.replicate 8 zeroAcc ∧ (∀ e ∈ x.bufs, e.2.gen = 0) ∧
        x.codeLines = (spEntry (s.retainedImg.bytes scBolt (boltPlace r).1) (boltPlace r).2).lines) ∧
      ∀ b : BoltNo, (t.bolt b.val).decTable = [] := by
  obtain ⟨mode, stepping⟩ := s.mode_counted m
  obtain ⟨rewrites, spindles, bolts⟩ := (s.counted m).restarted_spec
  have run : (s.counted m).restart = ((s.counted m).restarted.unhalted, stOk) := by
    rw [State.restart_eq, mode, stepping, if_pos (by simpa using may)]
  have absent (r : Nat) : (s.counted m).isAbsent r = s.isAbsent r := by
    unfold State.isAbsent
    rw [(s.rest_counted m).1]
  rw [State.retainedImg_counted] at spindles
  simp only [absent] at spindles
  have modes : (s.counted m).restarted.mode = (s.counted m).mode := rewrites.obj ..
  have progs := rewrites.prog
  have hosts := rewrites.host
  obtain ⟨prog, host⟩ := s.rest_counted m
  clear rewrites
  generalize (s.counted m).restarted = v at *
  obtain ⟨finalProg, finalHost, finalSpindles, finalMode⟩ := v.rest_unhalted
  have only := State.onlyRows_answered (ch := Machine.rowsOf accessRows) (fun _ _ => id)
    v.unhalted m stOk
  have answered := only.sets (ids := loadIds) fun id _ => by
    revert id
    unfold Machine.rowsOf
    decide
  refine ⟨_, h.exec_restart run, ?_, ?_, ?_, ?_, fun b => ?_⟩
  · rw [answered.prog, finalProg, progs, prog]
  · exact (answered.obj (by decide) (by decide)).trans (finalMode.trans (modes.trans mode))
  · rw [State.host_answered, finalHost, hosts, host]
  · rw [answered.spindles, finalSpindles]
    exact spindles
  · rw [State.bolt_answered, State.bolt_unhalted]
    exact bolts b.val

end Restart

/-! ## UNLOAD -/

/-- Identifiers, measurements and status after UNLOAD (R405, R476). -/
def State.unloadNoted (s : State) : State :=
  (((((s.setObj Obj.imageId 0 0).setObj Obj.loadedId 0 0).setObj Obj.stepStatus 0 0).setObj Obj.measurement 4 0).setObj
    Obj.measurement 5 0).setField Obj.loadStatus 0 0 4 0

/-- A module that waits for a program (R438). -/
def State.nowReady (s : State) : State := if s.mode = stReady then s else s.setMode stReady 0

/-- A state without tables. -/
def State.unprogrammed (s : State) : State := { s with prog := {} }

theorem State.unloaded_eq (s : State) :
    s.unloaded = (s.freshProgram.clearMemories.unprogrammed.unloadNoted.setMember false).nowReady := rfl

theorem State.step_clearMemories (s : State) : s.clearMemories.step = s.step := by
  unfold State.clearMemories
  dsimp only
  generalize (List.range 9216).map _ = wiped
  split <;> split <;> split <;> split <;> rfl

theorem State.unloadNoted_spec (s : State) : s.Sets [Obj.moduleState] s.unloadNoted ∧ s.unloadNoted.obj Obj.imageId 0 = 0 ∧
    s.unloadNoted.obj Obj.loadedId 0 = 0 ∧ s.unloadNoted.phase = 0 := by
  have fields : s.Sets [Obj.moduleState] s.unloadNoted :=
    (((((s.sets_setObj (by decide) (by decide) _).trans (State.sets_setObj _ (by decide) (by decide) _)).trans
      (State.sets_setObj _ (by decide) (by decide) _)).trans (State.sets_setObj _ (by decide) (by decide) _)).trans
      (State.sets_setObj _ (by decide) (by decide) _)).trans (State.sets_setObj _ (by decide) (by decide) _)
  refine ⟨fields, ?_, ?_, ?_⟩
  · unfold State.unloadNoted
    rw [State.obj_setField_ne (by decide), State.obj_setObj_ne (by decide), State.obj_setObj_ne (by decide),
      State.obj_setObj_ne (by decide), State.obj_setObj_ne (by decide), State.obj_setObj_self]
  · unfold State.unloadNoted
    rw [State.obj_setField_ne (by decide), State.obj_setObj_ne (by decide), State.obj_setObj_ne (by decide),
      State.obj_setObj_ne (by decide), State.obj_setObj_self]
  · unfold State.phase State.field State.unloadNoted
    rw [State.obj_setField_ne (by decide), State.obj_setObj_ne (by decide), State.obj_setObj_ne (by decide), State.obj_setObj_self]
    rfl

theorem State.nowReady_spec (s : State) : s.Sets [Obj.imageId, Obj.loadedId, Obj.stepStatus] s.nowReady ∧
    s.nowReady.mode = stReady := by
  unfold State.nowReady
  split
  next ready => exact ⟨.refl .., ready⟩
  next => exact ⟨s.sets_setMode (by decide) .., State.mode_setMode ..⟩

theorem State.step_freshProgram (s : State) : s.freshProgram.step.mbRunning = false := rfl

/-- R405: what UNLOAD leaves. -/
theorem State.unloaded_spec (s : State) : s.unloaded.mode = stReady ∧ s.unloaded.prog = {} ∧ s.unloaded.link.member = false ∧
    s.unloaded.obj Obj.imageId 0 = 0 ∧ s.unloaded.obj Obj.loadedId 0 = 0 ∧ s.unloaded.phase = 0 ∧
    s.unloaded.step.mbRunning = false := by
  have idle : s.freshProgram.clearMemories.unprogrammed.step.mbRunning = false :=
    (congrArg Step.mbRunning s.freshProgram.step_clearMemories).trans s.step_freshProgram
  have empty : s.freshProgram.clearMemories.unprogrammed.prog = {} := rfl
  rw [State.unloaded_eq]
  generalize s.freshProgram.clearMemories.unprogrammed = u at *
  obtain ⟨fields, image, loaded, phase⟩ := u.unloadNoted_spec
  have step := fields.step
  have prog := fields.prog
  generalize u.unloadNoted = v at *
  obtain ⟨final, mode⟩ := (v.setMember false).nowReady_spec
  refine ⟨mode, final.prog.trans (prog.trans empty), congrArg Link.member final.link, ?_, ?_, ?_, ?_⟩
  · exact (final.obj (by decide) (by decide)).trans image
  · exact (final.obj (by decide) (by decide)).trans loaded
  · exact (State.phase_of_obj (final.obj (by decide) (by decide))).trans phase
  · exact (congrArg Step.mbRunning (final.step.trans step)).trans idle

theorem unload_done {s : State} {m : MasterNo} (h : s.MayWrite m) (may : s.loadable = true) : ∃ t, exec (.unload m) s = .next t ∧
    t.mode = stReady ∧ t.prog = {} ∧ t.link.member = false ∧ t.obj Obj.imageId 0 = 0 ∧ t.obj Obj.loadedId 0 = 0 ∧ t.phase = 0 ∧
    t.step.mbRunning = false := by
  obtain ⟨mode, prog, member, image, loaded, phase, idle⟩ := (s.counted m).unloaded_spec
  have run : (s.counted m).unload = ((s.counted m).unloaded, stOk) := by
    unfold State.unload
    rw [(s.loadable_counted m).trans may]
    rfl
  have answered := State.sets_answered (ids := loadIds) (by decide) (s.counted m).unloaded m stOk
  generalize (s.counted m).unloaded = v at *
  exact ⟨_, h.exec_unload run, (answered.obj (by decide) (by decide)).trans mode, answered.prog.trans prog,
    (congrArg Link.member answered.link).trans member, (answered.obj (by decide) (by decide)).trans image,
    (answered.obj (by decide) (by decide)).trans loaded,
    (State.phase_of_obj (answered.obj (by decide) (by decide))).trans phase,
    (congrArg Step.mbRunning answered.step).trans idle⟩

end Sys2Proof.Machine
end

section
/-! SUPPORT. RUN and STOP_AT_BOUNDARY (R276, R314, R371, R438), the step that RUN begins, and the statement about programs (O55). -/

namespace Sys2Proof.Machine

/-! ## STEP_CONTROL -/

theorem State.applyRow_stepControl (s : State) (v : Nat) : s.applyRow Obj.stepControl 0 v = s.writeStepControl v := by
  have access : ((objInfo? Obj.stepControl).map (·.access)).getD 0 ≠ 3 := by decide +kernel
  unfold State.applyRow
  rw [if_neg access, if_pos rfl]

/-- The bits of a control word after one of its bits is written as 1 under its mask (R414). -/
theorem bitAt_ctlValue_stop (old i : Nat) (low : i < 3) :
    bitAt (ctlValue old (2 ^ 1 + 2 ^ (16 + 1)) &&& 7) i = if i = 1 then true else bitAt old i := by
  have mask : bits (2 ^ 1 + 2 ^ (16 + 1)) 16 16 = 2 := by decide
  have value : bits (2 ^ 1 + 2 ^ (16 + 1)) 0 16 = 2 := by decide
  unfold ctlValue
  dsimp only
  rw [mask, value]
  simp only [bitAt_eq_testBit, Nat.testBit_and, Nat.testBit_or]
  have cases_ : i = 0 ∨ i = 1 ∨ i = 2 := by omega
  rcases cases_ with rfl | rfl | rfl
  · simp +decide
  · simp +decide
  · have kept : Nat.testBit 65533 2 = true := by decide
    have low : Nat.testBit 7 2 = true := by decide
    have clear : Nat.testBit 2 2 = false := by decide
    simp +decide [kept, low, clear]

/-- R276: STOP_AT_BOUNDARY asks for a stop, and nothing else moves but what an access moves. -/
theorem stopAtBoundary_done {s : State} {m : MasterNo} (h : s.MayWrite m) : ∃ t, exec (.stopAtBoundary m) s = .next t ∧
    bitAt (t.obj Obj.stepControl 0) 1 = true ∧
    bitAt (t.obj Obj.stepControl 0) 0 = bitAt (s.obj Obj.stepControl 0) 0 ∧
    bitAt (t.obj Obj.stepControl 0) 2 = bitAt (s.obj Obj.stepControl 0) 2 ∧
    s.OnlyRows (Machine.rowsOf (Obj.stepControl :: accessRows)) t := by
  have acts : bitAt (ctlActs (2 ^ 1 + 2 ^ (16 + 1))) 0 = false := by decide
  have before : (s.counted m).obj Obj.stepControl 0 = s.obj Obj.stepControl 0 := s.obj_counted_ne m (by decide) (by decide)
  have bit {i : Nat} (low : i < 3) := bitAt_ctlValue_stop (s.obj Obj.stepControl 0) i low
  have run : (s.counted m).applyRow Obj.stepControl 0 (2 ^ 1 + 2 ^ (16 + 1)) =
      ((s.counted m).setObj Obj.stepControl 0 (ctlValue (s.obj Obj.stepControl 0) (2 ^ 1 + 2 ^ (16 + 1)) &&& 7), stOk) := by
    rw [State.applyRow_stepControl, State.writeStepControl, acts, if_neg Bool.false_ne_true, before]
  generalize ctlValue (s.obj Obj.stepControl 0) (2 ^ 1 + 2 ^ (16 + 1)) &&& 7 = v at *
  have answered := State.sets_answered (ids := [Obj.stepControl]) (by decide) ((s.counted m).setObj Obj.stepControl 0 v) m stOk
  have word := (answered.obj (id := Obj.stepControl) (row := 0) (by decide) (by decide)).trans (State.obj_setObj_self ..)
  refine ⟨_, congrArg Host.Outcome.next (h.control_bit control_step (by decide) run), ?_, ?_, ?_, ?_⟩
  · rw [word, bit (by decide)]
    rfl
  · rw [word, bit (by decide)]
    rfl
  · rw [word, bit (by decide)]
    rfl
  · exact ((State.OnlyRows.counted fun _ _ access => List.mem_cons_of_mem _ access).trans
      (.setObj (by decide) List.mem_cons_self)).trans (State.onlyRows_answered (fun _ _ access => List.mem_cons_of_mem _ access) ..)

/-! ## A decision leaves STEP_CONTROL -/

/-- `t` shows STEP_CONTROL as `s` does. -/
def State.ControlAs (s t : State) : Prop := t.obj Obj.stepControl 0 = s.obj Obj.stepControl 0

theorem State.ControlAs.trans {s t u : State} (h : s.ControlAs t) (k : t.ControlAs u) : s.ControlAs u := Eq.trans k h

theorem State.controlAs_setObj (s : State) {id row : Nat} (other : objKey id row ≠ objKey Obj.stepControl 0) (v : Nat) :
    s.ControlAs (s.setObj id row v) := State.obj_setObj_ne other

theorem State.controlAs_fault (s : State) (c u d : Nat) : s.ControlAs (s.fault c u d) :=
  State.obj_fault_other (by decide) (by decide) ..

theorem State.controlAs_withStep (s : State) (w : Step) : s.ControlAs { s with step := w } := State.obj_of_objs rfl rfl _ _

theorem State.controlAs_handBack (s : State) (slot : Nat) : s.ControlAs (s.handBack slot 8) := by
  have headers : s.ControlAs (((s.putHdr slot 32 8 s.time.now).putHdr slot 44 4 8).putHdr slot 0 4 1) :=
    State.obj_of_objs rfl rfl _ _
  exact headers.trans (State.controlAs_setObj _ (by decide) _)

theorem State.controlAs_judgeMask (s : State) (k : Taken) : s.ControlAs (s.judgeMask k) := by
  unfold State.judgeMask
  split
  · rfl
  · dsimp only
    split
    · rfl
    · exact (((s.controlAs_withStep _).trans (State.controlAs_handBack _ _)).trans (State.controlAs_setObj _ (by decide) _)).trans
        (State.controlAs_fault ..)

theorem State.controlAs_commitStep (s : State) (w : BitVec 512) : s.ControlAs (s.commitStep w) := by
  have updating : s.ControlAs (s.updating w) :=
    State.ControlAs.trans (t := s.setPhase 4) (State.obj_setField_ne (by decide)) (State.controlAs_withStep _ _)
  change s.ControlAs (s.updating w).judgeMasks
  refine updating.trans ?_
  generalize s.updating w = u
  exact List.foldlRecOn _ _ (motive := u.ControlAs) rfl fun t h k _ => h.trans (t.controlAs_judgeMask k)

theorem State.controlAs_abandonStep (s : State) (w : BitVec 512) : s.ControlAs (s.abandonStep w) := by
  have stopped : s.ControlAs s.stopped := by
    unfold State.stopped
    split
    · exact State.obj_of_objs rfl rfl _ _
    · rfl
  have waited (t : State) : t.ControlAs t.endWait := by
    unfold State.endWait
    dsimp only
    split
    · exact t.controlAs_setObj (by decide) _
    · exact ((t.controlAs_setObj (by decide) _).trans (State.controlAs_setObj _ (by decide) _)).trans (State.controlAs_withStep _ _)
  have counted (t : State) (c : Nat) : t.ControlAs (t.abandoning c) :=
    ((waited t).trans (State.controlAs_setObj _ (by decide) _)).trans (State.controlAs_fault ..)
  rw [State.abandonStep_eq]
  have closed (t : State) (v : Step) : t.ControlAs (({ t with step := v } : State).setPhase 7) :=
    (t.controlAs_withStep v).trans (State.obj_setField_ne (by decide))
  exact (stopped.trans (counted _ (causeByte w))).trans (closed ..)

theorem State.controlAs_takeDecision (s : State) (w : BitVec 512) : s.ControlAs (s.takeDecision w) := by
  have deciding : s.ControlAs (s.deciding w) := State.obj_of_objs rfl rfl _ _
  by_cases late : s.step.decision.isSome ∨ stepOf w ≠ s.stepCount
  · unfold State.takeDecision
    rw [if_pos late]
    rfl
  · obtain ⟨undecided, open_⟩ := not_or.mp late
    rw [State.takeDecision_of_open (by simpa using undecided) (not_not.mp open_)]
    split
    · exact deciding.trans (State.controlAs_commitStep ..)
    · split
      · exact deciding.trans (State.controlAs_abandonStep ..)
      · exact deciding

/-! ## A step begins -/

/-- The step that begins, open at its first microbatch. -/
def State.opened (s : State) (w : Step) : State := (({ s with step := w } : State).setPhase 1).setMb 0

/-- The step as it is when it begins. -/
def State.freshStep (s : State) : Step :=
  { total := s.obj Obj.stepMicrobatches 0, partials := s.step.partials.filter (fun e => decide (s.stepTag ≤ e.1 / 2 ^ 51)) }

/-- A state whose core time counts from now. -/
def State.based (s : State) : State := { s with faults := { s.faults with coreBase := s.time.core } }

/-- The state in which a step has begun, before a decision that came early is looked at (R250, R259). -/
def State.begun (s : State) : State :=
  let t := (s.survivorsGo.opened s.survivorsGo.freshStep).based
  t.setObj Obj.configDigest 0 t.configDigest.toNat

theorem State.beginStep_eq (s : State) : s.beginStep = s.begun.takeEarly := rfl

theorem State.sets_survivorsGo {ids : List Nat} (out : Obj.recoveryLast ∉ ids) (s : State) : s.Sets ids s.survivorsGo := by
  unfold State.survivorsGo
  split
  · exact .refl ..
  · dsimp only
    exact (s.sets_setObj (by decide) out _).trans (State.sets_withFaults ..)

/-- What of a step's state the beginning of the step shows. -/
structure State.Opens (s t : State) : Prop where
  link : t.link = s.link
  phase : t.phase = 1
  mb : t.mbIndex = 0
  rows : ∀ id ∈ Obj.stepMicrobatches :: runIds, t.obj id 0 = s.obj id 0

theorem State.opens_opened (s : State) (w : Step) : s.Opens (s.opened w) where
  link := rfl
  phase := by
    unfold State.opened State.phase State.setMb State.setPhase State.field
    rw [State.obj_setField_self, bits_setBits_below (by decide), State.obj_setField_self, bits_setBits_self]
    rfl
  mb := by
    unfold State.opened State.mbIndex State.setMb State.field
    rw [State.obj_setField_self, bits_setBits_self]
    rfl
  rows id m := by
    have other : objKey Obj.stepStatus 0 ≠ objKey id 0 := by
      revert id
      decide
    unfold State.opened State.setMb State.setPhase
    rw [State.obj_setField_ne other, State.obj_setField_ne other]
    exact State.obj_of_objs rfl rfl _ _

theorem State.step_opened (s : State) (w : Step) : (s.opened w).step = w := rfl

theorem State.begun_spec (s : State) : s.Opens s.begun ∧ s.begun.step.decision = none ∧
    s.begun.step.total = s.begun.obj Obj.stepMicrobatches 0 := by
  have survivors := s.sets_survivorsGo (ids := Obj.stepMicrobatches :: runIds) (by decide)
  have opened := s.survivorsGo.opens_opened s.survivorsGo.freshStep
  have step := s.survivorsGo.step_opened s.survivorsGo.freshStep
  have total : s.survivorsGo.freshStep.total = s.survivorsGo.obj Obj.stepMicrobatches 0 := rfl
  have open_ : s.survivorsGo.freshStep.decision = none := rfl
  unfold State.begun
  generalize s.survivorsGo.freshStep = w at *
  generalize s.survivorsGo.opened w = u at *
  have final (d : Nat) : u.Sets (Obj.stepStatus :: Obj.stepMicrobatches :: runIds) (u.based.setObj Obj.configDigest 0 d) :=
    (u.sets_withFaults _).trans (State.sets_setObj _ (by decide) (by decide) d)
  dsimp only
  generalize u.based.configDigest.toNat = d
  have kept := final d
  generalize u.based.setObj Obj.configDigest 0 d = v at *
  have rows (id : Nat) (m : id ∈ Obj.stepMicrobatches :: runIds) : v.obj id 0 = s.survivorsGo.obj id 0 :=
    (kept.obj (by decide) (List.mem_cons_of_mem _ m)).trans (opened.rows id m)
  have status : v.obj Obj.stepStatus 0 = u.obj Obj.stepStatus 0 := kept.obj (by decide) List.mem_cons_self
  refine ⟨⟨?_, ?_, ?_, fun id m => (rows id m).trans (survivors.obj (by decide) m)⟩, ?_, ?_⟩
  · rw [kept.link, opened.link, survivors.link]
  · exact (State.phase_of_obj status).trans opened.phase
  · exact (congrArg (bits · 8 16) status).trans opened.mb
  · rw [kept.step, step, open_]
  · rw [kept.step, step, total, rows _ List.mem_cons_self]

/-- A decision that came early and is not of this step is let go (R326). -/
theorem State.takeEarly_of_other {s : State} (other : ∀ w, s.link.early = some w → stepOf w ≠ s.stepCount) :
    s.takeEarly = s.withLink { s.link with early := none } := by
  unfold State.takeEarly
  split
  next none_ =>
    have same : s.withLink { s.link with early := none } = s := by
      rw [← none_]
      rfl
    exact same.symm
  next w some_ => exact if_neg (other w some_)

theorem State.controlAs_takeEarly (s : State) : s.ControlAs s.takeEarly := by
  unfold State.takeEarly
  split
  · rfl
  · dsimp only
    split
    · exact State.ControlAs.trans (t := s.withLink _) rfl (State.controlAs_takeDecision ..)
    · rfl

/-- What RUN shows of a step that has begun. -/
structure State.Begun (s t : State) : Prop where
  mode : t.mode = s.mode
  phase : t.phase = 1
  mb : t.mbIndex = 0
  undecided : t.step.decision = none
  total : t.step.total = t.obj Obj.stepMicrobatches 0
  member : t.link.member = s.link.member
  joinSent : t.link.joinSent = s.link.joinSent

theorem State.controlAs_beginStep (s : State) : s.ControlAs s.beginStep := by
  obtain ⟨opens, _, _⟩ := s.begun_spec
  rw [State.beginStep_eq]
  exact State.ControlAs.trans (opens.rows _ (by decide)) s.begun.controlAs_takeEarly

theorem State.begun_beginStep {s : State} (other : ∀ w, s.link.early = some w → stepOf w ≠ s.stepCount) : s.Begun s.beginStep := by
  obtain ⟨opens, undecided, total⟩ := s.begun_spec
  have count : s.begun.stepCount = s.stepCount := opens.rows _ (by decide)
  have mode : s.begun.mode = s.mode := opens.rows _ (by decide)
  rw [State.beginStep_eq, State.takeEarly_of_other (by rw [opens.link, count]; exact other), opens.link]
  have phase := opens.phase
  have mb := opens.mb
  generalize s.begun = u at *
  exact ⟨mode, phase, mb, undecided, total, rfl, rfl⟩

/-! ## Stepping starts -/

/-- A state whose stepping is held, or no longer is (R416). -/
def State.holdsStart (s : State) (b : Bool) : State := { s with step := { s.step with startHeld := b } }

section Starting

variable {s : State} (found : s.dict.voteLost = []) (stays : s.step.leaveAsked = false)
include found stays

theorem State.startStepping_eq : s.startStepping = (s.holdsStart false).applyStep.beginStep := by
  have step : (s.holdsStart false).applyStep.step.leaveAsked = false :=
    (congrArg Step.leaveAsked (s.holdsStart false).sets_applyStep.step).trans stays
  have run : s.startStepping = if (s.holdsStart false).applyStep.step.leaveAsked then (s.holdsStart false).applyStep.leaveNow
      else (s.holdsStart false).applyStep.beginStep := by
    unfold State.startStepping
    rw [found]
    rfl
  rw [run, step, if_neg Bool.false_ne_true]

theorem State.controlAs_startStepping : s.ControlAs s.startStepping := by
  rw [State.startStepping_eq found stays]
  have applied : (s.holdsStart false).ControlAs (s.holdsStart false).applyStep :=
    (s.holdsStart false).sets_applyStep.obj (by decide) (by decide)
  exact State.ControlAs.trans (t := s.holdsStart false) rfl (applied.trans (State.controlAs_beginStep _))

theorem State.begun_startStepping (other : ∀ w, s.link.early = some w → stepOf w ≠ s.stepCount) : s.Begun s.startStepping := by
  have applied := (s.holdsStart false).sets_applyStep
  have mode : (s.holdsStart false).applyStep.mode = (s.holdsStart false).mode := applied.obj (by decide) (by decide)
  have count : (s.holdsStart false).applyStep.stepCount = (s.holdsStart false).stepCount := applied.obj (by decide) (by decide)
  have link : (s.holdsStart false).applyStep.link = s.link := applied.link
  rw [State.startStepping_eq found stays]
  generalize (s.holdsStart false).applyStep = u at *
  have begun := State.begun_beginStep (s := u) (by rw [link, count]; exact other)
  exact { begun with
    mode := begun.mode.trans mode
    member := begun.member.trans (congrArg Link.member link)
    joinSent := begun.joinSent.trans (congrArg Link.joinSent link) }

end Starting

/-! ## RUN -/

/-- What of a state stepping goes on from. -/
structure State.Runs (s t : State) : Prop where
  control : t.obj Obj.stepControl 0 = s.obj Obj.stepControl 0
  count : t.stepCount = s.stepCount
  found : t.dict.voteLost = s.dict.voteLost
  step : t.step = s.step
  early : t.link.early = s.link.early

theorem State.Runs.trans {s t u : State} (h : s.Runs t) (k : t.Runs u) : s.Runs u :=
  ⟨k.control.trans h.control, k.count.trans h.count, k.found.trans h.found, k.step.trans h.step, k.early.trans h.early⟩

theorem State.runs_setMode (s : State) (m c : Nat) : s.Runs (s.setMode m c) := by
  have kept := s.sets_setMode (ids := [Obj.stepControl, Obj.stepCount]) (by decide) m c
  exact ⟨kept.obj (by decide) (by decide), kept.obj (by decide) (by decide), rfl, rfl, rfl⟩

/-- A module that takes its membership and tells the grid head (R314). -/
def State.joining (s : State) : State := (s.setMember true).sendJoin

theorem State.joining_spec (s : State) : s.Runs s.joining ∧ s.joining.mode = s.mode ∧ s.joining.link.member = true ∧
    s.joining.link.joinSent = true := by
  have sent : (s.withLink { s.link with member := true, joinSent := true }).Sends linkRows s.joining := by
    show (s.withLink { s.link with member := true, joinSent := true }).Sends linkRows (s.setMember true).sendJoin
    unfold State.sendJoin
    dsimp only
    split
    · exact .refl ..
    · exact State.sends_sendVotePath rfl _
  have row {id : Nat} (other : id ∈ runIds) : s.joining.obj id 0 = s.obj id 0 := by
    refine (sent.frames.obj (by decide) ?_).trans (s.obj_withLink ..)
    unfold linkRows oneRow
    revert id
    decide
  have found := congrArg (fun t : State => t.dict.voteLost) sent.frames.1.1
  have early := congrArg Link.early sent.link
  have member := congrArg Link.member sent.link
  have joinSent := congrArg Link.joinSent sent.link
  exact ⟨⟨row (by decide), row (by decide), found, sent.frames.step, early⟩, row (by decide), member, joinSent⟩

/-- The state from which RUN starts stepping (R276, R314, R438). -/
def State.readied (s : State) : State :=
  if s.mode = stLoaded then (s.setMode stRun 0).joining else if s.link.joinSent then s else s.joining

theorem State.readied_spec {s : State} (may : s.mode = stLoaded ∨ s.mode = stRun) : s.Runs s.readied ∧ s.readied.mode = stRun ∧
    (s.mode = stLoaded → s.readied.link.member = true ∧ s.readied.link.joinSent = true) := by
  unfold State.readied
  split
  next loaded =>
    obtain ⟨runs, mode, joined⟩ := (s.setMode stRun 0).joining_spec
    exact ⟨(s.runs_setMode ..).trans runs, mode.trans (State.mode_setMode ..), fun _ => joined⟩
  next other =>
    have running := may.resolve_left other
    split
    · exact ⟨⟨rfl, rfl, rfl, rfl, rfl⟩, running, fun h => absurd h other⟩
    · obtain ⟨runs, mode, _⟩ := s.joining_spec
      exact ⟨runs, mode.trans running, fun h => absurd h other⟩

theorem State.writeRun_eq {s : State} (halted : s.prog.halted173 = false) (runnable : s.prog.unrunnable = false) {t : State}
    (asked : s.setField Obj.stepControl 0 0 1 1 = t) (may : t.mode = stLoaded ∨ (t.mode = stRun ∧ (t.phase = 0 ∨ t.phase = 8))) :
    s.writeRun = (t.readied.startStepping, stOk) := by
  unfold State.writeRun
  rw [halted, runnable, if_neg (by decide), asked]
  unfold State.readied
  dsimp only
  by_cases loaded : t.mode = stLoaded
  · rw [if_pos loaded, if_pos loaded]
    rfl
  · have running := may.resolve_left loaded
    have drained : (t.mode == stDrain) = false := by
      rw [running.1]
      rfl
    rw [if_neg loaded, if_neg loaded, if_pos ⟨.inl running.1, running.2⟩, drained, Bool.or_false]
    rfl

/-- The word of STEP_CONTROL with RUN written. -/
def runWord (old : Nat) : Nat := ctlValue old (2 ^ 0 + 2 ^ (16 + 0)) &&& 7

/-- STEP_CONTROL with RUN set (R276). -/
def State.runAsked (s : State) : State :=
  (s.setObj Obj.stepControl 0 (runWord (s.obj Obj.stepControl 0))).setField Obj.stepControl 0 0 1 1

theorem State.runAsked_spec (s : State) : bitAt (s.runAsked.obj Obj.stepControl 0) 0 = true ∧
    s.Sets [Obj.moduleState, Obj.stepCount, Obj.stepStatus] s.runAsked ∧ s.runAsked.dict.voteLost = s.dict.voteLost := by
  unfold State.runAsked
  generalize runWord (s.obj Obj.stepControl 0) = v
  refine ⟨?_, (s.sets_setObj (by decide) (by decide) v).trans (State.sets_setField _ (by decide) (by decide) 0 1 1), rfl⟩
  rw [State.obj_setField_self]
  unfold bitAt
  rw [bits_setBits_self]
  rfl

theorem State.applyRow_run (s : State) : s.applyRow Obj.stepControl 0 (2 ^ 0 + 2 ^ (16 + 0)) =
    if s.prog.halted173 || s.prog.unrunnable then (s, stState)
    else (s.setObj Obj.stepControl 0 (runWord (s.obj Obj.stepControl 0))).writeRun := by
  have acts : bitAt (ctlActs (2 ^ 0 + 2 ^ (16 + 0))) 0 = true := by decide
  rw [State.applyRow_stepControl, State.writeStepControl, acts, if_pos rfl]
  rfl

/-- R173, R276: RUN refused. -/
theorem run_refused {s : State} {m : MasterNo} (h : s.MayWrite m) (never : s.prog.halted173 = true ∨ s.prog.unrunnable = true) :
    ∃ t, exec (.run m) s = .next t ∧ s.OnlyRows (Machine.rowsOf accessRows) t := by
  have prog := (s.rest_counted m).1
  have run : (s.counted m).applyRow Obj.stepControl 0 (2 ^ 0 + 2 ^ (16 + 0)) = (s.counted m, stState) := by
    rw [State.applyRow_run, prog, if_pos (by simpa using never)]
  exact ⟨_, congrArg Host.Outcome.next (h.control_bit control_step (by decide) run),
    (State.OnlyRows.counted fun _ _ => id).trans (State.onlyRows_answered (fun _ _ => id) ..)⟩

/-- The objects that the report of an access leaves and RUN shows. -/
def shownIds : List Nat := [Obj.moduleState, Obj.stepControl, Obj.stepCount, Obj.stepStatus, Obj.stepMicrobatches]

/-- R276, R314, R438: RUN starts microbatch 0. -/
theorem run_done {s : State} {m : MasterNo} (h : s.MayWrite m) (halted : s.prog.halted173 = false)
    (runnable : s.prog.unrunnable = false) (stays : s.step.leaveAsked = false)
    (may : s.mode = stLoaded ∨ (s.mode = stRun ∧ (s.phase = 0 ∨ s.phase = 8))) : ∃ t, exec (.run m) s = .next t ∧
    bitAt (t.obj Obj.stepControl 0) 0 = true ∧
    ((∀ w, s.link.early = some w → stepOf w ≠ s.stepCount) → t.mode = stRun ∧ t.phase = 1 ∧ t.mbIndex = 0 ∧
      t.step.decision = none ∧ t.step.total = t.obj Obj.stepMicrobatches 0 ∧
      (s.mode = stLoaded → t.link.member = true ∧ t.link.joinSent = true)) := by
  have prog := (s.rest_counted m).1
  have counted := s.sets_counted (ids := shownIds) (by decide) m
  obtain ⟨on, asked, voted⟩ := (s.counted m).runAsked_spec
  have found : (s.counted m).runAsked.dict.voteLost = [] := voted.trans h.found
  have mode : (s.counted m).runAsked.mode = s.mode := (asked.obj (by decide) (by decide)).trans (counted.obj (by decide) (by decide))
  have phase : (s.counted m).runAsked.phase = s.phase :=
    State.phase_of_obj ((asked.obj (by decide) (by decide)).trans (counted.obj (by decide) (by decide)))
  have count : (s.counted m).runAsked.stepCount = s.stepCount :=
    (asked.obj (by decide) (by decide)).trans (counted.obj (by decide) (by decide))
  have early : (s.counted m).runAsked.link.early = s.link.early := congrArg Link.early (asked.link.trans counted.link)
  have step : (s.counted m).runAsked.step.leaveAsked = false :=
    (congrArg Step.leaveAsked (asked.step.trans counted.step)).trans stays
  have run : (s.counted m).applyRow Obj.stepControl 0 (2 ^ 0 + 2 ^ (16 + 0)) =
      ((s.counted m).runAsked.readied.startStepping, stOk) := by
    rw [State.applyRow_run, prog, halted, runnable, if_neg (by decide)]
    exact State.writeRun_eq (by rw [State.setObj_prog, prog, halted]) (by rw [State.setObj_prog, prog, runnable]) rfl
      (by show (s.counted m).runAsked.mode = stLoaded ∨ ((s.counted m).runAsked.mode = stRun ∧ _); rw [mode, phase]; exact may)
  generalize (s.counted m).runAsked = u at *
  obtain ⟨runs, running, joined⟩ := State.readied_spec (s := u) (by rw [mode]; exact may.imp_right And.left)
  have ready : u.readied.dict.voteLost = [] := runs.found.trans found
  have stay : u.readied.step.leaveAsked = false := (congrArg Step.leaveAsked runs.step).trans step
  have control := State.controlAs_startStepping ready stay
  have begun := State.begun_startStepping ready stay
  have reported := State.sets_answered (ids := shownIds) (by decide) u.readied.startStepping m stOk
  rw [runs.early, runs.count, early, count] at begun
  generalize u.readied.startStepping = v at *
  refine ⟨_, congrArg Host.Outcome.next (h.control_bit control_step (by decide) run), ?_, fun other => ?_⟩
  · rw [reported.obj (by decide) (by decide), show v.obj Obj.stepControl 0 = _ from control, runs.control, on]
  · have begun := begun other
    refine ⟨?_, ?_, ?_, ?_, ?_, fun loaded => ?_⟩
    · exact (reported.obj (by decide) (by decide)).trans (begun.mode.trans running)
    · exact (State.phase_of_obj (reported.obj (by decide) (by decide))).trans begun.phase
    · exact (congrArg (bits · 8 16) (reported.obj (id := Obj.stepStatus) (row := 0) (by decide) (by decide))).trans begun.mb
    · exact (congrArg Step.decision reported.step).trans begun.undecided
    · rw [reported.step, begun.total]
      exact (reported.obj (by decide) (by decide)).symm
    · obtain ⟨member, sent⟩ := joined (mode.trans loaded)
      rw [reported.link, begun.member, begun.joinSent]
      exact ⟨member, sent⟩

/-! ## The statement -/

/-- Settles O55: every command is one bit of LOAD_CONTROL or STEP_CONTROL, written, acted on and reported. -/
theorem programsLoadRestartUnloadAndRun : Obligations.ProgramsLoadRestartUnloadAndRun := by
  unfold Obligations.ProgramsLoadRestartUnloadAndRun
  intro m s h
  refine ⟨?load, restart_done h, restart_refused h, unload_done h, run_done h, run_refused h, stopAtBoundary_done h⟩
  rintro u rfl
  refine ⟨fun c k may judged => ?_, fun never i asked => notLoadable_refused h never asked, fun i may judged =>
    imageLoad_accepted h may judged⟩
  obtain ⟨status, rows⟩ := s.refused_spec m c k stOk
  have may : (s.counted m).loadable = true := (s.loadable_counted m).trans may
  exact ⟨_, h.exec_imageLoad (State.load_refused may judged), status, rows⟩

end Sys2Proof.Machine
end

section
/-! SUPPORT. What the traffic of the wafer leaves as it was: how far every spindle is, the bolt controllers, the program and the
step (R154 to R184, R390). -/

namespace Sys2Proof.Machine

/-! ## States that differ in traffic -/

/-- How far a spindle is: what its issue and its accumulators show. -/
def Spindle.progress (x : Spindle) : Bool × Nat × List LoopFrame × Option W16 × List Hank × List Acc :=
  (x.halted, x.pc, x.loops, x.atDoff, x.hanks, x.accs)

/-- The words of a step that the traffic leaves. -/
def flowIds : List Nat := [Obj.bobbinWait, Obj.stepStatus]

/-- `t` has of `s` how far every spindle is, the bolt controllers, the program, the step and its words. -/
structure State.Flows (s t : State) : Prop where
  progress : ∀ row, (t.at row).progress = (s.at row).progress
  rows : ∀ id ∈ flowIds, t.obj id 0 = s.obj id 0
  bolts : t.bolts = s.bolts
  prog : t.prog = s.prog
  step : t.step = s.step

section Flows

variable {s t u : State}

theorem State.Flows.refl (s : State) : s.Flows s := ⟨fun _ => rfl, fun _ _ => rfl, rfl, rfl, rfl⟩

theorem State.Flows.trans (h : s.Flows t) (k : t.Flows u) : s.Flows u :=
  ⟨fun row => (k.progress row).trans (h.progress row), fun id m => (k.rows id m).trans (h.rows id m), k.bolts.trans h.bolts,
    k.prog.trans h.prog, k.step.trans h.step⟩

theorem State.Flows.stepping (h : s.Flows t) : t.stepping = s.stepping := by
  unfold State.stepping
  rw [State.phase_of_obj (h.rows _ (by decide))]

theorem State.flows_setAt {row : Nat} {x : Spindle} (same : x.progress = (s.at row).progress) : s.Flows (s.setAt row x) := by
  refine ⟨fun r => ?_, fun _ _ => rfl, rfl, rfl, rfl⟩
  unfold State.setAt State.at
  rw [tget_tput]
  split
  next here => exact here ▸ same
  next => rfl

theorem State.flows_setObj {id row : Nat} (hr : row < 2 ^ 20) (out : id ∉ flowIds) (v : Nat) : s.Flows (s.setObj id row v) :=
  ⟨fun _ => rfl, fun i m => State.obj_setObj_ne (objKey_ne_of_id hr (by decide) fun same => out (same ▸ m)), rfl, rfl, rfl⟩

/-- A row of an object above the step's words, whatever its number. -/
theorem State.flows_setObj_above {id : Nat} (above : Obj.bobbinWait < id) (row v : Nat) : s.Flows (s.setObj id row v) := by
  refine ⟨fun _ => rfl, fun i m => State.obj_setObj_ne ?_, rfl, rfl, rfl⟩
  have less : i ≤ Obj.bobbinWait := by
    revert i
    decide
  unfold objKey
  omega

theorem State.Reports.flows (h : s.Reports t) : s.Flows t := by
  obtain ⟨rest, rows, _⟩ := h
  have spindles := congrArg State.spindles rest
  have bolts := congrArg State.bolts rest
  have prog := congrArg State.prog rest
  have step := congrArg State.step rest
  refine ⟨fun row => ?_, fun id m => rows id 0 (by decide) ?_, bolts, prog, step⟩
  · exact congrArg (fun m : SMap Spindle => ((tget m row).getD {}).progress) spindles
  · unfold recordRows Machine.rowsOf
    revert id
    decide

theorem State.flows_occurrence (steps : s.stepping = true) (c u d : Nat) (v : UnitId) : s.Flows ((s.fault c u d).occurrence v) :=
  (State.reports_faultOf steps c u d v).flows

end Flows

/-! ## A transfer engine's work -/

section Engine

variable {s : State}

theorem State.flows_spFlag (s : State) (p : Site) (i : Nat) : s.Flows (s.spFlag p i) :=
  State.flows_setObj (site_row_lt p) (by decide) _

theorem State.flows_sawPoison (s : State) (p : Site) (b : Bool) : s.Flows (s.sawPoison p b) := by
  unfold State.sawPoison
  split
  · exact (s.flows_spFlag p 7).trans (State.flows_setObj (site_row_lt p) (by decide) _)
  · exact .refl s

theorem State.flows_drew (s : State) (n : Nat) : s.Flows (s.drew n) := ⟨fun _ => rfl, fun _ _ => rfl, rfl, rfl, rfl⟩

theorem State.flows_corrected (steps : s.stepping = true) (p : Site) (n : Nat) : s.Flows (s.corrected p n) := by
  have counted (v : Nat) : s.Flows (s.setObj Obj.spindleEccCorrected p.row v) := State.flows_setObj (site_row_lt p) (by decide) v
  unfold State.corrected
  split
  · exact .refl s
  · exact (counted _).trans (State.reports_rated ((counted _).stepping.trans steps) ..).flows

theorem State.flows_writeLines (s : State) (p : Site) (l : Nat) (xs : List Line) : s.Flows (s.writeLines p l xs) :=
  State.flows_setAt (row := p.row) rfl

theorem State.flows_foldl {β : Type} {f : State → β → State} (each : ∀ (t : State) (b : β), t.stepping = true → t.Flows (f t b)) :
    ∀ (bs : List β) {s : State}, s.stepping = true → s.Flows (bs.foldl f s)
  | [], s, _ => .refl s
  | b :: bs, s, steps =>
    have first := each s b steps
    first.trans (State.flows_foldl each bs (first.stepping.trans steps))

theorem State.flows_uncorrectable (steps : s.stepping = true) (p : Site) (ls : List Nat) : s.Flows (s.uncorrectable p ls) := by
  refine State.flows_foldl (fun t l steps => ?_) ls steps
  have noted := ((t.flows_writeLines p l (poisonedLines (t.free + 1) (p.row * 2 ^ 20 + l) 1)).trans (State.flows_drew _ 1)).trans
    (State.flows_spFlag _ p 6)
  exact noted.trans (State.flows_occurrence (noted.stepping.trans steps) ..)

theorem State.flows_eccRead (steps : s.stepping = true) (p : Site) (e : EccResult) (line n : Nat) :
    s.Flows (s.eccRead p e line n) := by
  have corrected (k : Nat) := State.flows_corrected steps p k
  unfold State.eccRead
  exact (corrected _).trans (State.flows_uncorrectable ((corrected _).stepping.trans steps) ..)

theorem State.flows_setRouterAt (s : State) (row : Nat) (r : Router) : s.Flows (s.setRouterAt row r) := State.flows_setAt rfl

theorem State.flows_setHead (s : State) (row : Nat) (o : Xfer) : s.Flows (s.setHead row o) := State.flows_setAt rfl

theorem State.flows_popXfer (s : State) (row : Nat) : s.Flows (s.popXfer row) := State.flows_setAt rfl

theorem State.flows_begins (s : State) (t : Sending) : s.Flows (s.begins t) := ⟨fun _ => rfl, fun _ _ => rfl, rfl, rfl, rfl⟩

theorem State.flows_bump_fabricFlits (s : State) (vc n : Nat) : s.Flows (s.bump Obj.fabricFlits vc n) :=
  State.flows_setObj_above (by decide) ..

theorem State.flows_startSend (steps : s.stepping = true) (p : Site) (o : SendOp) : s.Flows (s.startSend p o) := by
  have checked : s.Flows (if o.hank.isNone then s.eccRead p o.ecc o.line o.length else s) := by
    split
    · exact State.flows_eccRead steps ..
    · exact .refl s
  unfold State.startSend
  exact (((checked.trans (State.flows_drew _ 1)).trans (State.flows_sawPoison ..)).trans (State.flows_begins ..)).trans
    (State.flows_setHead ..)

theorem State.flows_startRsend (steps : s.stepping = true) (p : Site) (o : RsendOp) : s.Flows (s.startRsend p o) := by
  unfold State.startRsend
  exact (((State.flows_eccRead steps ..).trans (State.flows_drew _ 1)).trans (State.flows_sawPoison ..)).trans
    (State.flows_setHead ..)

theorem State.flows_openStream (s : State) (p : Site) (id queue first count : Nat) : s.Flows (s.openStream p id queue first count) := by
  have opened (t : State) (g : Nat) (e : StreamEng) : t.Flows (t.setEngine g e) := ⟨fun _ => rfl, fun _ _ => rfl, rfl, rfl, rfl⟩
  have entered : s.Flows (s.setStream p { stream := id, queue, first, count }) := State.flows_setAt (row := p.row) rfl
  unfold State.openStream State.reportOpening
  exact (entered.trans (opened ..)).trans (State.flows_bump_fabricFlits ..)

theorem Spindle.progress_staleFrom : ∀ (n : Nat) (x : Spindle) (first : Nat), (x.staleFrom first n).progress = x.progress
  | 0, _, _ => rfl
  | n + 1, _, first => Spindle.progress_staleFrom n _ (first + 1)

theorem State.flows_closeStream (s : State) (p : Site) (e : SpStream) : s.Flows (s.closeStream p e) :=
  State.flows_setAt (row := p.row) (Spindle.progress_staleFrom e.count (s.spindle p) e.first)

theorem State.flows_engineStep (steps : s.stepping = true) {row : Nat} {t : State} (h : s.engineStep row = some t) : s.Flows t := by
  have fed (r : Router) (o : Xfer) (vc n : Nat) : s.Flows (((s.setRouterAt row r).setHead row o).bump Obj.fabricFlits vc n) :=
    ((s.flows_setRouterAt row r).trans (State.flows_setHead ..)).trans (State.flows_bump_fabricFlits ..)
  unfold State.engineStep at h
  dsimp only at h
  split at h
  · exact absurd h nofun
  split at h
  case h_1 => exact absurd h nofun
  case h_2 =>
    split at h
    · exact Option.some.inj h ▸ State.flows_startSend steps ..
    · split at h
      · exact Option.some.inj h ▸ s.flows_popXfer row
      · split at h
        · exact Option.some.inj h ▸ fed ..
        · exact absurd h nofun
  case h_3 => exact absurd h nofun
  case h_4 =>
    split at h
    · exact Option.some.inj h ▸ State.flows_startRsend steps ..
    · split at h
      · exact Option.some.inj h ▸ s.flows_popXfer row
      · split at h
        · exact Option.some.inj h ▸ fed ..
        · exact absurd h nofun
  case h_5 => exact absurd h nofun
  case h_6 =>
    split at h
    · exact absurd h nofun
    · exact Option.some.inj h ▸ (s.flows_setRouterAt row _).trans (State.flows_popXfer ..)
  case h_7 => exact Option.some.inj h ▸ (s.flows_popXfer row).trans (State.flows_openStream ..)
  case h_8 =>
    split at h
    · exact Option.some.inj h ▸ s.flows_popXfer row
    · exact Option.some.inj h ▸ (s.flows_popXfer row).trans (State.flows_closeStream ..)

end Engine

/-! ## Flits that move -/

section Move

variable {s t : State} {row out vc : Nat} {f : NetFlit}

theorem State.flows_decideArb (s : State) (inst : Nat) (rs : List (Nat × Nat)) : s.Flows (s.decideArb 1 inst rs) := by
  have set (t : State) (a : Arbiter) : t.Flows (t.setArbiter 1 inst a) := ⟨fun _ => rfl, fun _ _ => rfl, rfl, rfl, rfl⟩
  have round : s.Flows (s.applyRound 1) := by
    unfold State.applyRound
    split
    · exact .refl s
    · exact (State.flows_setObj_above (by decide) 1 _).trans ⟨fun _ => rfl, fun _ _ => rfl, rfl, rfl, rfl⟩
  unfold State.decideArb
  dsimp only
  split
  · exact round.trans (set ..)
  · exact round.trans (set ..)

theorem busyRow_above (port : Nat) : Obj.bobbinWait < (busyRow port).1 := by
  have edge : Obj.bobbinWait < Obj.edgePortBusy := by decide
  have back : Obj.bobbinWait < Obj.backPortBusy := by decide
  unfold busyRow
  split
  · exact edge
  · exact back

theorem State.flows_passPort {port dir : Nat} {last : Bool} {asking : List Nat}
    (h : s.passPort port dir vc last asking = some t) : s.Flows t := by
  have decided : s.Flows (if (s.arbiter 1 (portInst port dir)).idle asking then
      s.decideArb 1 (portInst port dir) (asking.map (fun v => (v, 0))) else s) := by
    split
    · exact s.flows_decideArb ..
    · exact .refl s
  unfold State.passPort at h
  dsimp only at h
  generalize (if (s.arbiter 1 (portInst port dir)).idle asking then
      s.decideArb 1 (portInst port dir) (asking.map (fun v => (v, 0))) else s) = u at *
  split at h
  · exact absurd h nofun
  · have set (a : Arbiter) : u.Flows (u.setArbiter 1 (portInst port dir) a) := ⟨fun _ => rfl, fun _ _ => rfl, rfl, rfl, rfl⟩
    exact Option.some.inj h ▸ ((decided.trans (set _)).trans (State.flows_setObj_above (busyRow_above port) ..)).trans
      (State.flows_drew _ 1)

theorem State.flows_ejectMsg (h : s.ejectMsg row f = some t) : s.Flows t := by
  unfold State.ejectMsg at h
  split at h
  next =>
    dsimp only at h
    rw [Option.ite_none_right_eq_some] at h
    exact Option.some.inj h.2 ▸ s.flows_setHead ..
  next => exact absurd h nofun

theorem State.flows_ejectLea (h : s.ejectLea row f = some t) : s.Flows t := by
  unfold State.ejectLea at h
  dsimp only at h
  split at h
  · exact absurd h nofun
  · split at h
    · exact absurd h nofun
    · exact Option.some.inj h ▸ State.flows_setAt rfl

theorem State.flows_leave (h : s.leave row f = some t) : s.Flows t := by
  unfold State.leave at h
  split at h
  · exact absurd h nofun
  · obtain ⟨u, passed, rfl⟩ := Option.map_eq_some_iff.mp h
    exact (State.flows_passPort passed).trans ⟨fun _ => rfl, fun _ _ => rfl, rfl, rfl, rfl⟩

theorem State.flows_give (h : s.give row out f = some t) : s.Flows t := by
  unfold State.give at h
  split at h
  · split at h
    · exact absurd h nofun
    · split at h
      · exact State.flows_ejectLea h
      · exact State.flows_ejectMsg h
  split at h
  · exact State.flows_leave h
  split at h
  · exact absurd h nofun
  dsimp only at h
  split at h
  · have entered (n : Nat) (r : Router) := s.flows_setRouterAt n r
    rw [← Option.some.inj h]
    split
    · exact (entered ..).trans (State.flows_setObj_above (by decide) ..)
    · exact entered ..
  · exact absurd h nofun

theorem State.flows_moveFrom {input : Nat} (h : s.moveFrom row out vc input = some t) : s.Flows t := by
  unfold State.moveFrom at h
  split at h
  · exact absurd h nofun
  · split at h
    · exact absurd h nofun
    · obtain ⟨u, given, rfl⟩ := Option.map_eq_some_iff.mp h
      exact (State.flows_give given).trans (State.flows_setRouterAt ..)

theorem State.flows_moveOut (h : s.moveOut row out = some t) : s.Flows t := by
  unfold State.moveOut at h
  obtain ⟨vc, _, h⟩ := List.exists_of_findSome?_eq_some h
  obtain ⟨i, _, h⟩ := List.exists_of_findSome?_eq_some h
  exact State.flows_moveFrom h

theorem State.flows_movePort {key : Nat} (h : s.movePort key = some t) : s.Flows t := by
  unfold State.movePort at h
  dsimp only at h
  split at h
  · exact absurd h nofun
  · split at h
    · exact absurd h nofun
    · obtain ⟨u, passed, rfl⟩ := Option.map_eq_some_iff.mp h
      have queued (v : State) (g : Fabric) : v.Flows { v with fabric := g } := ⟨fun _ => rfl, fun _ _ => rfl, rfl, rfl, rfl⟩
      exact (((State.flows_passPort passed).trans (State.flows_setRouterAt ..)).trans (queued ..)).trans
        (State.flows_bump_fabricFlits ..)

end Move

/-! ## Rounds -/

theorem State.Flows.orKeep {s : State} {a : State × Bool} {f : State → Option State} (steps : s.stepping = true) (h : s.Flows a.1)
    (moves : ∀ {u t : State}, u.stepping = true → f u = some t → u.Flows t) : s.Flows (Machine.orKeep a f).1 := by
  unfold Machine.orKeep
  split
  next t moved => exact h.trans (moves (h.stepping.trans steps) moved)
  next => exact h

section Rounds

variable {s : State} (steps : s.stepping = true)
include steps

theorem State.flows_round : s.Flows s.round.1 := by
  unfold State.round
  refine List.foldlRecOn _ _ (motive := fun b : State × Bool => s.Flows b.1) ?_ fun b h k _ =>
    h.orKeep steps fun _ moved => State.flows_movePort moved
  refine List.foldlRecOn _ _ (motive := fun a : State × Bool => s.Flows a.1) (.refl s) fun a h row _ => ?_
  have worked := h.orKeep (f := fun t => t.engineStep row) steps fun steps moved => State.flows_engineStep steps moved
  dsimp only
  split
  · exact worked
  · exact List.foldlRecOn _ _ (motive := fun b : State × Bool => s.Flows b.1) worked fun b h o _ =>
      h.orKeep steps fun _ moved => State.flows_moveOut moved

end Rounds

theorem State.flows_flowFor : ∀ (n : Nat) {s : State}, s.stepping = true → s.Flows (s.flowFor n)
  | 0, s, _ => .refl s
  | n + 1, s, steps => by
    have round := State.flows_round steps
    rw [State.flowFor]
    split
    · exact round.trans (State.flows_flowFor n (round.stepping.trans steps))
    · exact .refl s

/-- The wafer's traffic leaves how far every spindle is, the bolt controllers, the program and the step. -/
theorem State.flows_flow {s : State} (steps : s.stepping = true) : s.Flows s.flow := State.flows_flowFor _ steps

/-! ## Inputs delivered -/

theorem State.flows_sendFrom (s : State) (port vc shape src : Nat) (lines : List Line) :
    s.Flows (s.sendFrom port vc shape src lines) := ⟨fun _ => rfl, fun _ _ => rfl, rfl, rfl, rfl⟩

theorem State.flows_deliverInput {s : State} (steps : s.stepping = true) (k : Taken) : s.Flows (s.deliverInput k) := by
  unfold State.deliverInput
  dsimp only
  split
  · exact .refl s
  · exact (State.reports_checkRead steps ..).flows.trans (State.flows_sendFrom ..)

/-- R390: the inputs of a microbatch cross the wafer as any traffic does. -/
theorem State.flows_deliverInputs {s : State} (steps : s.stepping = true) : s.Flows s.deliverInputs := by
  have delivered := State.flows_foldl (f := State.deliverInput) (fun _ k steps => State.flows_deliverInput steps k)
    (s.step.slots.filter (fun t => t.kind == bkInput || t.kind == bkEvalInput)) steps
  exact delivered.trans (State.flows_flow (delivered.stepping.trans steps))

end Sys2Proof.Machine
end

section
/-! SUPPORT. The start of a microbatch (R250, R390, R411, R503). -/

namespace Sys2Proof.Machine

/-! ## What is made ready -/

/-- The objects that the start of a microbatch looks at once its boundary has been applied. -/
def readyIds : List Nat := [Obj.bobbinWait, Obj.stepStatus, Obj.boltState]

/-- `t` has of `s` how far every spindle is, the bolt controllers, the program and these objects, and ends no wait. -/
structure State.Readies (s t : State) : Prop where
  progress : ∀ row, row < 9216 → (t.at row).progress = (s.at row).progress
  rows : ∀ id ∈ readyIds, ∀ row, row < 2 ^ 20 → t.obj id row = s.obj id row
  bolts : t.bolts = s.bolts
  prog : t.prog = s.prog
  waitStart : t.step.waitStart = s.step.waitStart

section Readies

variable {s t u : State}

theorem State.Readies.refl (s : State) : s.Readies s := ⟨fun _ _ => rfl, fun _ _ _ _ => rfl, rfl, rfl, rfl⟩

theorem State.Readies.trans (h : s.Readies t) (k : t.Readies u) : s.Readies u :=
  ⟨fun row hr => (k.progress row hr).trans (h.progress row hr), fun id m row hr => (k.rows id m row hr).trans (h.rows id m row hr),
    k.bolts.trans h.bolts, k.prog.trans h.prog, k.waitStart.trans h.waitStart⟩

theorem State.Readies.stepping (h : s.Readies t) : t.stepping = s.stepping := by
  unfold State.stepping
  rw [State.phase_of_obj (h.rows _ (by decide) _ (by decide))]

theorem State.readies_setObj {id row : Nat} (hr : row < 2 ^ 20) (out : id ∉ readyIds) (v : Nat) : s.Readies (s.setObj id row v) :=
  ⟨fun _ _ => rfl, fun _ m _ low => State.obj_setObj_ne (objKey_ne_of_id hr low fun same => out (same ▸ m)), rfl, rfl, rfl⟩

end Readies

theorem readyIds_fixed : ∀ o ∈ objTable, o.access = 3 → o.apply = apMicrobatch → o.id ∉ readyIds := by decide +kernel

/-- R411: the MICROBATCH boundary. -/
theorem State.readies_applyPlain (s : State) : s.Readies (s.applyPlain apMicrobatch) := by
  have taken : s.Readies (s.takeDue apMicrobatch) := ⟨fun _ _ => rfl, fun _ _ _ _ => rfl, rfl, rfl, rfl⟩
  have set (t : State) : t.Readies (t.setKeys (s.due apMicrobatch)) :=
    List.foldlRecOn _ _ (motive := t.Readies) (.refl t) fun u h e m =>
      h.trans (State.readies_setObj (Nat.mod_lt _ (by decide)) (due_out readyIds_fixed (List.mem_filter.mp m).2) _)
  have adopted (t : State) : t.Readies (t.adopt apMicrobatch) := ⟨fun _ _ => rfl, fun _ _ _ _ => rfl, rfl, rfl, rfl⟩
  exact (taken.trans (set _)).trans (adopted _)

theorem Spindle.StoresAs.progress {x y : Spindle} (h : x.StoresAs y) : y.progress = x.progress := by
  obtain ⟨lines, rfl⟩ := h
  rfl

theorem State.readies_writeScaleLines (s : State) : s.Readies s.writeScaleLines := by
  refine ⟨fun row hr => ?_, fun id _ r _ => s.rewrites_writeScaleLines.obj id r, ?_, ?_, ?_⟩
  · unfold State.writeScaleLines
    split
    · rfl
    · unfold State.at
      dsimp only
      rw [tget_map_key _ (List.mem_range.mpr hr), Option.getD_some]
      exact (s.storesAs_putScaleLine row _).progress
  · rw [State.writeScaleLines_eq]
  · rw [State.writeScaleLines_eq]
  · rw [State.writeScaleLines_eq]

theorem State.readies_firstMb (s : State) : s.Readies s.firstMb := by
  have stamped (t : State) (w : Step) (same : w.waitStart = t.step.waitStart) : t.Readies { t with step := w } :=
    ⟨fun _ _ => rfl, fun _ _ _ _ => rfl, rfl, rfl, same⟩
  unfold State.firstMb
  split
  · exact ((State.readies_setObj (by decide) (by decide) 0).trans (State.readies_setObj (by decide) (by decide) 0)).trans
      ((State.readies_writeScaleLines _).trans (stamped _ _ rfl))
  · exact .refl s

/-- R250: the end of a wait for input. -/
theorem State.endWait_rows (s : State) : s.endWait.step.waitStart = none ∧ s.endWait.obj Obj.bobbinWait 0 = 0xFFFFFFFF ∧
    s.endWait.bolts = s.bolts ∧ s.endWait.prog = s.prog ∧
    ∀ id ∈ [Obj.stepStatus, Obj.boltState], ∀ row, row < 2 ^ 20 → s.endWait.obj id row = s.obj id row := by
  have set (id : Nat) (m : id ∈ [Obj.stepStatus, Obj.boltState]) (row : Nat) (hr : row < 2 ^ 20) :
      (s.setObj Obj.bobbinWait 0 0xFFFFFFFF).obj id row = s.obj id row := by
    refine State.obj_setObj_ne (objKey_ne_of_id (by decide) hr ?_)
    revert id
    decide
  have counted (id : Nat) (m : id ∈ [Obj.bobbinWait, Obj.stepStatus, Obj.boltState]) (row : Nat) (hr : row < 2 ^ 20) (t : State) (v : Nat)
      (w : Step) : ({ t.setObj Obj.inputWaitTime 0 v with step := w } : State).obj id row = t.obj id row := by
    refine (State.obj_of_objs (s := t.setObj Obj.inputWaitTime 0 v) rfl rfl id row).trans
      (State.obj_setObj_ne (objKey_ne_of_id (by decide) hr ?_))
    revert id
    decide
  unfold State.endWait
  dsimp only
  split
  next none_ => exact ⟨none_, State.obj_setObj_self .., rfl, rfl, set⟩
  next =>
    exact ⟨rfl, (counted _ (by decide) 0 (by decide) ..).trans (State.obj_setObj_self ..), rfl, rfl, fun id m row hr =>
      (counted id (List.mem_cons_of_mem _ m) row hr ..).trans (set id m row hr)⟩

/-- The state in which a microbatch is launched. -/
def State.prepared (s : State) : State :=
  let t := (s.endWait.applyPlain apMicrobatch).firstMb
  { t with step := { t.step with gradCount := [], gradSkip := [], evalAvg := false, evalLive := false } }

theorem exec_microbatchStart (s : State) : exec .microbatchStart s = .next (if s.mayStart then s.prepared.launch else s) := rfl

/-- What a microbatch is launched from. -/
structure State.Prepares (s t : State) : Prop where
  progress : ∀ row, row < 9216 → (t.at row).progress = (s.at row).progress
  wait : t.obj Obj.bobbinWait 0 = 0xFFFFFFFF
  rows : ∀ id ∈ [Obj.stepStatus, Obj.boltState], ∀ row, row < 2 ^ 20 → t.obj id row = s.obj id row
  bolts : t.bolts = s.bolts
  prog : t.prog = s.prog
  waitStart : t.step.waitStart = none
  gradCount : t.step.gradCount = []

theorem State.prepares_prepared (s : State) : s.Prepares s.prepared := by
  obtain ⟨waitStart, wait, bolts, prog, rows⟩ := s.endWait_rows
  have ready := (s.endWait.readies_applyPlain).trans (State.readies_firstMb _)
  have spindles := s.endWait_spec.1
  unfold State.prepared
  generalize (s.endWait.applyPlain apMicrobatch).firstMb = t at *
  refine ⟨fun row hr => (ready.progress row hr).trans ?_, ?_, fun id m row hr => ?_, ready.bolts.trans bolts, ready.prog.trans prog,
    ready.waitStart.trans waitStart, rfl⟩
  · unfold State.at
    rw [spindles]
  · exact (State.obj_of_objs (s := t) rfl rfl _ _).trans ((ready.rows _ (by decide) _ (by decide)).trans wait)
  · exact (State.obj_of_objs (s := t) rfl rfl _ _).trans
      ((ready.rows id (List.mem_cons_of_mem _ m) row hr).trans (rows id m row hr))

end Sys2Proof.Machine
end

section
/-! SUPPORT. The wafer set going (R131, R173, R390, R503). -/

namespace Sys2Proof.Machine

/-- Results still on their way arrive before the wafer starts (R131). -/
def State.summed (s : State) : State := s.fabric.results.foldl State.deliverSummary s

/-- A state that differs in what the bolt controllers know of doffs. -/
structure State.Sums (s t : State) : Prop where
  rest : t = { s with bolts := t.bolts, fabric := t.fabric }
  codeLen : ∀ b : BoltNo, (t.bolt b.val).codeLen = (s.bolt b.val).codeLen

theorem State.Sums.trans {s t u : State} (h : s.Sums t) (k : t.Sums u) : s.Sums u where
  rest := by
    rw [k.rest, h.rest]
  codeLen b := (k.codeLen b).trans (h.codeLen b)

theorem State.sums_summed (s : State) : s.Sums s.summed :=
  List.foldlRecOn _ _ (motive := s.Sums) ⟨rfl, fun _ => rfl⟩ fun t h r _ =>
    h.trans ⟨rfl, fun b => by rw [State.bolt_deliverSummary]; rfl⟩

/-- A spindle of a row as a microbatch starts it (R503). -/
def State.begunSpindle (s : State) (row : Nat) : Spindle := if s.isAbsent row then s.at row else (s.at row).begin_

/-- A state with these spindles. -/
def State.withSpindles (s : State) (m : SMap Spindle) : State := { s with spindles := m }

theorem State.beginSpindles_eq (s : State) : s.beginSpindles =
    s.withSpindles ((List.range 9216).map (fun r => (r, s.begunSpindle r))) := rfl

theorem State.beginBolts_spec (s : State) : (s.beginBolts.objs = s.objs ∧ s.beginBolts.dict = s.dict ∧
    s.beginBolts.prog = s.prog ∧ s.beginBolts.step = s.step ∧ s.beginBolts.spindles = s.spindles) ∧
    ∀ b : BoltNo, s.beginBolts.bolt b.val = (s.bolt b.val).begin_ (s.field Obj.boltState b.val 0 4 == 0) s.stepInfo := by
  refine ⟨⟨rfl, rfl, rfl, rfl, rfl⟩, fun b => ?_⟩
  show (tget s.beginBolts.bolts b.val).getD {} = _
  unfold State.beginBolts
  dsimp only
  rw [tget_map_key (fun k => (s.bolt k).begin_ (s.field Obj.boltState k 0 4 == 0) s.stepInfo) (List.mem_range.mpr b.isLt),
    Option.getD_some]

/-- What of a wafer set to its first instructions the microbatch shows (R503). -/
structure State.Starts (s t : State) : Prop where
  spindles : ∀ row, row < 9216 → t.at row = s.begunSpindle row
  bolts : ∀ b : BoltNo, (t.bolt b.val).progRunning =
      (s.field Obj.boltState b.val 0 4 == 0 && decide (0 < (s.bolt b.val).codeLen)) ∧
    (t.bolt b.val).pc = 0 ∧ (t.bolt b.val).resv = none
  obj : ∀ id row, t.obj id row = s.obj id row
  prog : t.prog = s.prog
  step : t.step = s.step

theorem State.starts_beginBolts (s : State) (m : SMap Spindle) (at_ : ∀ row, row < 9216 → (tget m row).getD {} = s.begunSpindle row) :
    s.Starts (s.withSpindles m).beginBolts := by
  obtain ⟨⟨objs, dict, prog, step, spindles⟩, bolts⟩ := (s.withSpindles m).beginBolts_spec
  generalize (s.withSpindles m).beginBolts = t at *
  refine ⟨fun row hr => ?_, fun b => ?_, fun id row => ?_, prog, step⟩
  · unfold State.at
    rw [spindles]
    exact at_ row hr
  · rw [bolts]
    exact ⟨rfl, rfl, rfl⟩
  · exact State.obj_of_objs objs (by rw [dict]) id row

theorem State.starts_begin (s : State) : s.Starts s.beginSpindles.beginBolts := by
  rw [State.beginSpindles_eq]
  refine s.starts_beginBolts _ fun row hr => ?_
  rw [tget_map_key s.begunSpindle (List.mem_range.mpr hr), Option.getD_some]

/-- A microbatch running on a wafer with its inputs (R173). -/
def State.launched (s : State) : State :=
  { s with
    fabric := { s.fabric with watchdog := 0, watchdogOn := true, results := [], doneSeqs := [] }
    streams := { s.streams with engines := [] }
    step := { s.step with mbRunning := true } }

theorem State.launch_eq (s : State) : s.launch = s.summed.beginSpindles.beginBolts.deliverInputs.launched := rfl

/-- What a microbatch that has started shows. -/
structure State.Launched (s t : State) : Prop where
  present : ∀ p : Site, s.isAbsent p.row = false → (t.spindle p).progress = (s.spindle p).begin_.progress
  absent : ∀ p : Site, s.isAbsent p.row = true → (t.spindle p).progress = (s.spindle p).progress
  bolts : ∀ b : BoltNo, (t.bolt b.val).progRunning =
      (s.field Obj.boltState b.val 0 4 == 0 && decide (0 < (s.bolt b.val).codeLen)) ∧
    (t.bolt b.val).pc = 0 ∧ (t.bolt b.val).resv = none
  wait : t.obj Obj.bobbinWait 0 = s.obj Obj.bobbinWait 0
  step : t.step = { s.step with mbRunning := true }
  watchdog : t.fabric.watchdogOn = true ∧ t.fabric.watchdog = 0
  engines : t.streams.engines = []

theorem State.launched_launch {s : State} (steps : s.stepping = true) : s.Launched s.launch := by
  obtain ⟨rest, codeLen⟩ := s.sums_summed
  have spindles := congrArg State.spindles rest
  have prog := congrArg State.prog rest
  have step := congrArg State.step rest
  have objs := congrArg State.objs rest
  have dict := congrArg State.dict rest
  rw [State.launch_eq]
  generalize s.summed = u at *
  dsimp only at spindles prog step objs dict
  have object (id row : Nat) : u.obj id row = s.obj id row := State.obj_of_objs objs (by rw [dict]) id row
  have begun := u.starts_begin
  generalize u.beginSpindles.beginBolts = v at *
  have stepping : v.stepping = true := by
    unfold State.stepping
    rw [State.phase_of_obj ((begun.obj ..).trans (object ..))]
    exact steps
  have flows := State.flows_deliverInputs stepping
  generalize v.deliverInputs = w at *
  have site (p : Site) : (w.launched.spindle p).progress = (u.begunSpindle p.row).progress :=
    (flows.progress p.row).trans (congrArg Spindle.progress (begun.spindles p.row (Laws.row_lt p)))
  have placed (row : Nat) : u.begunSpindle row = s.begunSpindle row := by
    unfold State.begunSpindle State.isAbsent State.at
    rw [spindles, prog]
  refine ⟨fun p here => ?_, fun p gone => ?_, fun b => ?_, ?_, ?_, ⟨rfl, rfl⟩, rfl⟩
  · rw [site, placed, State.begunSpindle, here, if_neg Bool.false_ne_true]
    rfl
  · rw [site, placed, State.begunSpindle, gone, if_pos rfl]
    rfl
  · have bolt : w.launched.bolt b.val = v.bolt b.val := congrArg (fun m : SMap Bolt => (tget m b.val).getD {}) flows.bolts
    have field : u.field Obj.boltState b.val 0 4 = s.field Obj.boltState b.val 0 4 := by
      unfold State.field
      rw [object]
    rw [bolt, ← codeLen, ← field]
    exact begun.bolts b
  · exact (State.obj_of_objs (s := w) rfl rfl _ _).trans ((flows.rows _ (by decide)).trans ((begun.obj ..).trans (object ..)))
  · show { w.step with mbRunning := true } = _
    rw [flows.step, begun.step, step]

end Sys2Proof.Machine
end

section
/-! SUPPORT. The end of a microbatch (R253, R279, R331, R391, R503), and the statement about its start and its end (O35). -/

namespace Sys2Proof.Machine

/-! ## The wafer settled -/

/-- The step of a microbatch that has ended. -/
def Step.ended (w : Step) : Step := { w with mbRunning := false }

/-- The wafer of a microbatch that has ended (R503). -/
structure State.Settles (s t : State) : Prop where
  obj : ∀ id row, t.obj id row = s.obj id row
  prog : t.prog = s.prog
  time : t.time = s.time
  step : t.step = s.step.ended
  bytes : s.SameBytes t
  watchdog : t.fabric.watchdogOn = false
  engines : t.streams.engines = []

theorem State.settles_settleWafer (s : State) : s.Settles s.settleWafer where
  obj id row := State.obj_of_objs rfl rfl id row
  prog := rfl
  time := rfl
  step := rfl
  bytes := .of_eq rfl rfl rfl
  watchdog := rfl
  engines := rfl

theorem exec_microbatchEnd_idle {s : State} (idle : s.step.mbRunning = false ∨ s.allHalted = false) :
    exec .microbatchEnd s = .next s := by
  have not_ : (s.step.mbRunning && s.allHalted) = false := Bool.and_eq_false_iff.mpr idle
  show execMicrobatchEnd s = _
  unfold execMicrobatchEnd State.ifUp
  dsimp only
  rw [not_, if_neg Bool.false_ne_true, ite_self]
  rfl

section Ends

variable {s : State} (up : s.up = true) (running : s.step.mbRunning = true) (halted : s.allHalted = true)
include up running halted

theorem exec_microbatchEnd : exec .microbatchEnd s = .next (if s.step.evaluating then s.settleWafer.endEval
    else s.settleWafer.endTraining) := by
  show execMicrobatchEnd s = _
  unfold execMicrobatchEnd
  rw [State.ifUp_of_up up, running, halted]
  rfl

end Ends

/-! ## A training microbatch -/

/-- The next microbatch's index, or the pace and the exchange (R249, R331). -/
def State.goesOn (s : State) : State :=
  if s.mbIndex + 1 < s.step.total then s.setMb (s.mbIndex + 1)
  else (s.setObj Obj.paceLast 0 (s.time.now - s.step.mbStart - s.step.waited)).setPhase (if s.step.exchangeEnded then 3 else 2)

theorem State.endTraining_eq (s : State) : s.endTraining = (s.checkGrads.returnSlots false).goesOn := rfl

/-- Target rows that hold their elements taint nothing (R253). -/
theorem State.checkGrads_of_full {s : State} (full : ∀ e ∈ s.gradRows, (tget s.step.gradCount e.1).getD 0 = e.2.ecount) :
    s.checkGrads = s :=
  List.foldlRecOn s.gradRows _ (motive := fun t => t = s) rfl fun t same e m => by
    rw [same, if_pos (full e m)]

theorem State.checkGrads_of_short {s : State} {i : Nat} {r : GradRow} (one : s.gradRows = [(i, r)])
    (short : (tget s.step.gradCount i).getD 0 ≠ r.ecount) : s.checkGrads = (s.fault 0x4503 (stackOfPort r.port) 0).taint := by
  unfold State.checkGrads
  rw [one, List.foldl_cons, List.foldl_nil, if_neg short]

theorem State.goesOn_next {s : State} (more : s.mbIndex + 1 < s.step.total) (few : s.step.total ≤ 2 ^ 16) :
    s.goesOn.mbIndex = s.mbIndex + 1 ∧ s.goesOn.phase = s.phase ∧ s.goesOn = s.setMb (s.mbIndex + 1) := by
  have same : s.goesOn = s.setMb (s.mbIndex + 1) := if_pos more
  have fits : (s.mbIndex + 1) % 2 ^ 16 = s.mbIndex + 1 := Nat.mod_eq_of_lt (Nat.lt_of_lt_of_le more few)
  rw [same]
  generalize s.mbIndex + 1 = k at *
  refine ⟨?_, ?_, rfl⟩
  · unfold State.setMb State.mbIndex State.field
    rw [State.obj_setField_self, bits_setBits_self, fits]
  · unfold State.setMb State.phase State.field
    rw [State.obj_setField_self, bits_setBits_below (by decide)]

theorem State.rest_setMb (s : State) (k : Nat) : (s.setMb k).step = s.step ∧ (s.setMb k).fabric = s.fabric ∧
    (s.setMb k).streams = s.streams ∧ s.SameBytes (s.setMb k) := ⟨rfl, rfl, rfl, .of_eq rfl rfl rfl⟩

theorem State.closes_spec (s : State) (n : Nat) {k : Nat} (small : k < 16) : ((s.setObj Obj.paceLast 0 n).setPhase k).phase = k ∧
    ((s.setObj Obj.paceLast 0 n).setPhase k).obj Obj.paceLast 0 = n ∧ ((s.setObj Obj.paceLast 0 n).setPhase k).step = s.step ∧
    s.SameBytes ((s.setObj Obj.paceLast 0 n).setPhase k) :=
  ⟨State.phase_setPhase _ small, (State.obj_setField_ne (by decide)).trans (State.obj_setObj_self ..), rfl, .of_eq rfl rfl rfl⟩

theorem State.goesOn_last {s : State} (last : s.step.total ≤ s.mbIndex + 1) :
    s.goesOn.phase = (if s.step.exchangeEnded then 3 else 2) ∧
      s.goesOn.obj Obj.paceLast 0 = s.time.now - s.step.mbStart - s.step.waited ∧ s.goesOn.step = s.step ∧ s.SameBytes s.goesOn := by
  have small : (if s.step.exchangeEnded then 3 else 2) < 16 := by
    split <;> decide
  have closed := s.closes_spec (s.time.now - s.step.mbStart - s.step.waited) small
  unfold State.goesOn
  rw [if_neg (Nat.not_lt.mpr last)]
  exact closed

/-- The records of a training microbatch's end stay as it goes on. -/
theorem State.sets_goesOn (s : State) : s.Sets [Obj.faultLog, Obj.faultSeqLast] s.goesOn := by
  unfold State.goesOn
  split
  · exact s.sets_setField (by decide) (by decide) ..
  · exact (s.sets_setObj (by decide) (by decide) _).trans (State.sets_setField _ (by decide) (by decide) ..)

theorem State.sets_handBack {ids : List Nat} (out : Obj.bobbinReturned ∉ ids) (s : State) (slot : Nat) {status : Nat}
    (small : status < 2 ^ 20) : s.Sets ids (s.handBack slot status) :=
  (((s.sets_withSlow _).trans (State.sets_withSlow _ _)).trans (State.sets_withSlow _ _)).trans
    (State.sets_setObj _ small out _)

theorem State.sets_handResult {ids : List Nat} (out : Obj.bobbinReturned ∉ ids) (s : State) (k : Taken) :
    s.Sets ids (s.handResult k false) := by
  have status : (if k.overflow then 6 else 2) < 2 ^ 20 := by
    split <;> decide
  unfold State.handResult
  exact (((((s.sets_withSlow _).trans (State.sets_withSlow _ _)).trans (State.sets_withSlow _ _)).trans
    (State.sets_withSlow _ _)).trans (State.sets_withSlow _ _)).trans (State.sets_handBack out _ _ status)

/-- The slots of a microbatch handed back, still noted as taken. -/
def State.handsBack (s : State) : State :=
  s.step.slots.foldl (fun u t => if t.kind = bkEvalResult then u.handResult t false else u.handBack t.slot 1) s

theorem State.returnSlots_eq (s : State) : s.returnSlots false =
    { s.handsBack with step := { s.handsBack.step with slots := [] } } := rfl

theorem State.sets_handsBack {ids : List Nat} (out : Obj.bobbinReturned ∉ ids) (s : State) : s.Sets ids s.handsBack :=
  .foldl _ (fun k _ t => by
    split
    · exact t.sets_handResult out k
    · exact t.sets_handBack out k.slot (by decide)) s

theorem State.taint_spec (s : State) : s.taint.step.tainted = true ∧ ∀ id row, s.taint.obj id row = s.obj id row :=
  ⟨rfl, fun id row => State.obj_of_objs rfl rfl id row⟩

/-- R253: what is recorded of a row short of elements stays to the end of its microbatch. -/
theorem State.short_recorded (s : State) (u : Nat) : ((((s.fault 0x4503 u 0).taint).returnSlots false).goesOn).step.tainted = true ∧
    ((((s.fault 0x4503 u 0).taint).returnSlots false).goesOn).obj Obj.faultSeqLast 0 = (s.lastSeq + 1) % 2 ^ 32 ∧
    bits (((((s.fault 0x4503 u 0).taint).returnSlots false).goesOn).obj Obj.faultLog ((s.lastSeq + 1) % 2 ^ 32 % 4096)) 144 16 =
      0x4503 := by
  have seq : (s.fault 0x4503 u 0).taint.obj Obj.faultSeqLast 0 = (s.lastSeq + 1) % 2 ^ 32 :=
    (State.taint_spec _).2 .. |>.trans (s.obj_fault_seqLast 0x4503 u 0)
  have code : bits ((s.fault 0x4503 u 0).taint.obj Obj.faultLog ((s.lastSeq + 1) % 2 ^ 32 % 4096)) 144 16 = 0x4503 := by
    have newest := s.code_fault (c := 0x4503) (by decide) u 0
    rw [s.obj_fault_seqLast] at newest
    rw [(State.taint_spec _).2]
    exact newest
  have tainted : (s.fault 0x4503 u 0).taint.step.tainted = true := (State.taint_spec _).1
  have low : (s.lastSeq + 1) % 2 ^ 32 % 4096 < 2 ^ 20 := by omega
  generalize (s.fault 0x4503 u 0).taint = v at *
  have back := v.sets_handsBack (ids := [Obj.faultLog, Obj.faultSeqLast]) (by decide)
  have free (w : State) (x : Step) (id row : Nat) : ({ w with step := x } : State).obj id row = w.obj id row :=
    State.obj_of_objs rfl rfl id row
  have on := State.sets_goesOn { v.handsBack with step := { v.handsBack.step with slots := [] } }
  rw [State.returnSlots_eq]
  have rows {id row : Nat} (hr : row < 2 ^ 20) (m : id ∈ [Obj.faultLog, Obj.faultSeqLast]) :=
    ((on.obj hr m).trans (free ..)).trans (back.obj hr m)
  refine ⟨?_, ?_, ?_⟩
  · rw [on.step]
    exact (congrArg Step.tainted back.step).trans tainted
  · rw [rows (by decide) (by decide), seq]
  · rw [rows low (by decide), code]

/-! ## An evaluation microbatch -/

/-- An evaluation's next microbatch, or its end (R279). -/
def State.evaluatesOn (s : State) : State :=
  if s.step.evalIndex < s.step.evalTotal then s else s.endEvaluation

/-- The mix of averages and live weights counted (R281). -/
def State.mixed (s : State) : State := if s.step.evalAvg && s.step.evalLive then s.bump Obj.evalMixed 0 1 else s

/-- An evaluation at its next index. -/
def State.advanced (s : State) : State := { s with step := { s.step with evalIndex := s.step.evalIndex + 1 } }

theorem State.advanced_spec (s : State) : s.advanced.step.evalIndex = s.step.evalIndex + 1 ∧
    s.advanced.step.evalTotal = s.step.evalTotal ∧ s.advanced.step.evaluating = s.step.evaluating ∧
    s.advanced.phase = s.phase ∧ s.advanced.obj Obj.evalMixed 0 = s.obj Obj.evalMixed 0 :=
  ⟨rfl, rfl, rfl, rfl, State.obj_of_objs rfl rfl _ _⟩

theorem State.endEval_of_none {s : State} (none_ : s.step.slots = []) : s.endEval = s.mixed.advanced.evaluatesOn := by
  have slots : s.mixed.step.slots = [] := by
    unfold State.mixed
    split <;> exact none_
  have back := State.returnSlots_of_none slots false
  show (s.mixed.returnSlots false).advanced.evaluatesOn = _
  rw [back]

theorem State.mixed_spec (s : State) : s.mixed.step = s.step ∧ s.mixed.phase = s.phase ∧
    s.mixed.obj Obj.evalMixed 0 = (if s.step.evalAvg && s.step.evalLive then satAdd 64 (s.obj Obj.evalMixed 0) 1
      else s.obj Obj.evalMixed 0) := by
  unfold State.mixed
  split
  · exact ⟨rfl, State.phase_of_obj (State.obj_setObj_ne (by decide)), State.obj_bump_of_bits (by decide) ..⟩
  · exact ⟨rfl, rfl, rfl⟩

theorem State.evaluatesOn_spec (s : State) : s.evaluatesOn.step.evalIndex = s.step.evalIndex ∧
    s.evaluatesOn.step.evaluating = (s.step.evaluating && decide (s.step.evalIndex < s.step.evalTotal)) ∧
    s.evaluatesOn.phase = (if s.step.evalIndex < s.step.evalTotal then s.phase else 7) ∧
    s.evaluatesOn.obj Obj.evalMixed 0 = s.obj Obj.evalMixed 0 := by
  unfold State.evaluatesOn
  by_cases more : s.step.evalIndex < s.step.evalTotal
  · rw [if_pos more, if_pos more, decide_eq_true more, Bool.and_true]
    exact ⟨rfl, rfl, rfl, rfl⟩
  · rw [if_neg more, if_neg more, decide_eq_false more, Bool.and_false]
    exact ⟨rfl, rfl, State.phase_setPhase _ (k := 7) (by decide),
      (State.obj_setField_ne (by decide)).trans (State.obj_of_objs rfl rfl _ _)⟩

/-! ## The statement -/

/-- A microbatch starts where a step or an evaluation runs. -/
theorem State.stepping_of_mayStart {s : State} (may : s.mayStart = true) : s.stepping = true := by
  have phase : s.phase = 1 ∨ s.phase = 6 := by
    unfold State.mayStart State.atBoundary at may
    simp only [Bool.and_eq_true, Bool.or_eq_true, beq_iff_eq] at may
    obtain ⟨⟨⟨⟨⟨_, one | six⟩, _⟩, _⟩, _⟩, _⟩ := may
    · exact .inl one.1
    · exact .inr six.1
  unfold State.stepping
  rcases phase with h | h <;> rw [h] <;> rfl

section Begun

variable {s u t : State} (ready : s.Prepares u) (launched : u.Launched t)
include ready launched

theorem State.Prepares.begun {p : Site} (here : s.isAbsent p.row = false) :
    (t.spindle p).halted = false ∧ (t.spindle p).pc = 0 ∧ (t.spindle p).loops = [] ∧ (t.spindle p).atDoff = none ∧
      (t.spindle p).hanks = (s.spindle p).hanks ∧ (t.spindle p).accs = (s.spindle p).accs := by
  have progress := launched.present p (by unfold State.isAbsent; rw [ready.prog]; exact here)
  have before : (u.spindle p).progress = (s.spindle p).progress := ready.progress p.row (Laws.row_lt p)
  unfold Spindle.progress at progress before
  simp only [Prod.mk.injEq] at progress before
  obtain ⟨_, _, _, _, hanks, accs⟩ := before
  obtain ⟨halted, pc, loops, doff, hanks', accs'⟩ := progress
  exact ⟨halted, pc, loops, doff, hanks'.trans hanks, accs'.trans accs⟩

theorem State.Prepares.idle {p : Site} (gone : s.isAbsent p.row = true) : (t.spindle p).halted = (s.spindle p).halted := by
  have progress := launched.absent p (by unfold State.isAbsent; rw [ready.prog]; exact gone)
  have before : (u.spindle p).progress = (s.spindle p).progress := ready.progress p.row (Laws.row_lt p)
  exact congrArg Prod.fst (progress.trans before)

theorem State.Prepares.bolt (b : BoltNo) : (t.bolt b.val).progRunning =
      (s.field Obj.boltState b.val 0 4 == 0 && decide (0 < (s.bolt b.val).codeLen)) ∧
    (t.bolt b.val).pc = 0 ∧ (t.bolt b.val).resv = none := by
  have bolt : u.bolt b.val = s.bolt b.val := by
    unfold State.bolt
    rw [ready.bolts]
  have field : u.field Obj.boltState b.val 0 4 = s.field Obj.boltState b.val 0 4 := by
    unfold State.field
    rw [ready.rows _ (by decide) _ (Nat.lt_of_lt_of_le b.isLt (by decide))]
  have begun := launched.bolts b
  rw [bolt, field] at begun
  exact begun

end Begun

theorem microbatchStart_spec {s : State} (may : s.mayStart = true) : ∃ t, exec .microbatchStart s = .next t ∧
    t.step.mbRunning = true ∧ t.step.waitStart = none ∧ t.step.gradCount = [] ∧ t.fabric.watchdogOn = true ∧
    t.fabric.watchdog = 0 ∧ t.streams.engines = [] ∧ t.obj Obj.bobbinWait 0 = 0xFFFFFFFF ∧
    (∀ p : Site, s.isAbsent p.row = false →
      (t.spindle p).halted = false ∧ (t.spindle p).pc = 0 ∧ (t.spindle p).loops = [] ∧ (t.spindle p).atDoff = none ∧
      (t.spindle p).hanks = (s.spindle p).hanks ∧ (t.spindle p).accs = (s.spindle p).accs) ∧
    (∀ p : Site, s.isAbsent p.row = true → (t.spindle p).halted = (s.spindle p).halted) ∧
    (∀ b : BoltNo, (t.bolt b.val).progRunning = (s.field Obj.boltState b.val 0 4 == 0 && decide (0 < (s.bolt b.val).codeLen)) ∧
      (t.bolt b.val).pc = 0 ∧ (t.bolt b.val).resv = none) := by
  have run : exec .microbatchStart s = .next s.prepared.launch := by
    rw [exec_microbatchStart, may, if_pos rfl]
  have ready := s.prepares_prepared
  have launched : s.prepared.Launched s.prepared.launch := by
    refine State.launched_launch ?_
    have same : s.prepared.phase = s.phase := State.phase_of_obj (ready.rows Obj.stepStatus (by decide) 0 (by decide))
    unfold State.stepping
    rw [same]
    exact State.stepping_of_mayStart may
  generalize s.prepared.launch = t at *
  generalize s.prepared = u at *
  have step := launched.step
  refine ⟨t, run, ?_, ?_, ?_, launched.watchdog.1, launched.watchdog.2, launched.engines, launched.wait.trans ready.wait,
    fun p here => ready.begun launched here, fun p gone => ready.idle launched gone, ready.bolt launched⟩
  · rw [step]
  · rw [step]
    exact ready.waitStart
  · rw [step]
    exact ready.gradCount

/-! ## The end of a microbatch shown -/

section Settled

variable {s u : State} (settled : s.Settles u)
include settled

theorem State.Settles.counts : u.step.total = s.step.total ∧ u.step.slots = s.step.slots ∧ u.step.gradCount = s.step.gradCount ∧
    u.step.exchangeEnded = s.step.exchangeEnded ∧ u.step.mbStart = s.step.mbStart ∧ u.step.waited = s.step.waited := by
  rw [settled.step]
  exact ⟨rfl, rfl, rfl, rfl, rfl, rfl⟩

theorem State.Settles.evaluation : u.step.evalIndex = s.step.evalIndex ∧ u.step.evalTotal = s.step.evalTotal ∧
    u.step.evaluating = s.step.evaluating ∧ u.step.evalAvg = s.step.evalAvg ∧ u.step.evalLive = s.step.evalLive := by
  rw [settled.step]
  exact ⟨rfl, rfl, rfl, rfl, rfl⟩

theorem State.Settles.gradRows : u.gradRows = s.gradRows := by
  unfold State.gradRows
  rw [settled.prog]

theorem State.Settles.mbIndex : u.mbIndex = s.mbIndex := by
  unfold State.mbIndex State.field
  rw [settled.obj]

/-- R249, R331: a training microbatch's end with every row of G full. -/
theorem State.Settles.trained (none_ : s.step.slots = []) (few : s.step.total ≤ 2 ^ 16)
    (full : ∀ e ∈ s.gradRows, (tget s.step.gradCount e.1).getD 0 = e.2.ecount) : ∃ t, u.endTraining = t ∧
    (s.mbIndex + 1 < s.step.total → t.mbIndex = s.mbIndex + 1 ∧ t.step = s.step.ended ∧ t.phase = s.phase ∧
      t.fabric.watchdogOn = false ∧ t.streams.engines = [] ∧ s.SameBytes t) ∧
    (s.step.total ≤ s.mbIndex + 1 → t.phase = (if s.step.exchangeEnded then 3 else 2) ∧
      t.obj Obj.paceLast 0 = s.time.now - s.step.mbStart - s.step.waited ∧ t.step = s.step.ended ∧ s.SameBytes t) := by
  obtain ⟨total, slots, count, ended, start, waited⟩ := settled.counts
  have index := settled.mbIndex
  have time := settled.time
  have step := settled.step
  refine ⟨u.goesOn, ?_, fun more => ?_, fun last => ?_⟩
  · rw [State.endTraining_eq, State.checkGrads_of_full (by rw [settled.gradRows, count]; exact full),
      State.returnSlots_of_none (slots.trans none_)]
  · obtain ⟨mb, same, set⟩ := State.goesOn_next (s := u) (by rw [index, total]; exact more) (by rw [total]; exact few)
    obtain ⟨kept, fabric, streams, bytes⟩ := u.rest_setMb (u.mbIndex + 1)
    rw [← set] at kept fabric streams bytes
    generalize u.goesOn = t at *
    exact ⟨mb.trans (by rw [index]), kept.trans step, same.trans (State.phase_of_obj (settled.obj ..)), by rw [fabric, settled.watchdog],
      by rw [streams, settled.engines], settled.bytes.trans bytes⟩
  · obtain ⟨phase, pace, same, bytes⟩ := State.goesOn_last (s := u) (by rw [index, total]; exact last)
    rw [ended] at phase
    rw [time, start, waited] at pace
    exact ⟨phase, pace, same.trans step, settled.bytes.trans bytes⟩

/-- R279, R281: an evaluation microbatch's end. -/
theorem State.Settles.evaluated (none_ : s.step.slots = []) (evaluating : s.step.evaluating = true) : ∃ t, u.endEval = t ∧
    t.step.evalIndex = s.step.evalIndex + 1 ∧ t.step.evaluating = decide (s.step.evalIndex + 1 < s.step.evalTotal) ∧
    t.phase = (if s.step.evalIndex + 1 < s.step.evalTotal then s.phase else 7) ∧
    t.obj Obj.evalMixed 0 = (if s.step.evalAvg && s.step.evalLive then satAdd 64 (s.obj Obj.evalMixed 0) 1
      else s.obj Obj.evalMixed 0) := by
  obtain ⟨_, slots, _⟩ := settled.counts
  obtain ⟨index, total, on, avg, live⟩ := settled.evaluation
  obtain ⟨step, phase, mixed⟩ := u.mixed_spec
  have status : u.phase = s.phase := State.phase_of_obj (settled.obj ..)
  rw [avg, live, settled.obj] at mixed
  refine ⟨_, State.endEval_of_none (slots.trans none_), ?_⟩
  generalize u.mixed = v at *
  obtain ⟨next, runs, closed, shown⟩ := v.advanced.evaluatesOn_spec
  obtain ⟨advancedIndex, advancedTotal, advancedOn, advancedPhase, advancedMixed⟩ := v.advanced_spec
  rw [advancedIndex, step, index] at next runs closed
  rw [advancedTotal, step, total] at runs closed
  rw [advancedOn, step, on, evaluating, Bool.true_and] at runs
  rw [advancedPhase, phase, status] at closed
  exact ⟨next, runs, closed, shown.trans (advancedMixed.trans mixed)⟩

end Settled

/-- Settles O35: the wafer's traffic leaves how far every spindle is, so that a microbatch begins where it is set; its end looks
at the rows of G and goes on to the next index, the exchange or the next evaluation. -/
theorem microbatchesStartAndEnd : Obligations.MicrobatchesStartAndEnd := by
  unfold Obligations.MicrobatchesStartAndEnd
  intro s
  have settled := s.settles_settleWafer
  refine ⟨microbatchStart_spec, fun never => ?_, exec_microbatchEnd_idle, fun up running halted training none_ few full => ?_,
    fun i r up running halted training one short => ?_, fun up running halted evaluating none_ => ?_⟩
  · rw [exec_microbatchStart, never, if_neg Bool.false_ne_true]
  · have run := exec_microbatchEnd up running halted
    rw [training, if_neg Bool.false_ne_true] at run
    obtain ⟨t, ends, next, last⟩ := settled.trained none_ few full
    rw [ends] at run
    exact ⟨fun more => ⟨t, run, next more⟩, fun done_ => ⟨t, run, last done_⟩⟩
  · have run := exec_microbatchEnd up running halted
    rw [training, if_neg Bool.false_ne_true, State.endTraining_eq] at run
    generalize s.settleWafer = u at *
    obtain ⟨_, _, count, _⟩ := settled.counts
    have seq : u.lastSeq = s.lastSeq := settled.obj Obj.faultSeqLast 0
    rw [State.checkGrads_of_short (settled.gradRows.trans one) (by rw [count]; exact short)] at run
    have recorded := u.short_recorded (stackOfPort r.port)
    rw [seq] at recorded
    exact ⟨_, run, recorded⟩
  · have run := exec_microbatchEnd up running halted
    rw [evaluating, if_pos rfl] at run
    obtain ⟨t, ends, shown⟩ := settled.evaluated none_ evaluating
    rw [ends] at run
    exact ⟨t, run, shown⟩

end Sys2Proof.Machine
end
